-- ==== Sys2Proof/Word.lean ====
section
/-!
DEFINITION. The word types of the device: the 32-bit register and queue word (R409) and the byte (R22).
-/

namespace Sys2Proof

/-- One byte of a message, a frame or an image (R22). -/
abbrev Byte := BitVec 8

/-- One 32-bit word of the direct registers and the queue windows (R409). -/
abbrev Word := BitVec 32

end Sys2Proof
end

