-- ==== Sys2Proof/Syntax.lean ====
section
/-!
DEFINITION. The commands of the block (opcode_table.json): one constructor of `Instr` per row, and the types of
their operands. An operand is what reaches the block from outside at that step: a frame, a transaction, a pin level, a
converter reading. Times are never operands: the state holds the elapsed time.
-/

namespace Sys2Proof

/-- The two host ports (R408). -/
inductive HostId where
  | A
  | B
  deriving DecidableEq, Repr

/-- The two ring ports (R236). -/
inductive RPort where
  | E
  | W
  deriving DecidableEq, Repr

/-- The three data lanes of the barrier (R32). -/
inductive Lane where
  | U1
  | U2
  | D1
  deriving DecidableEq, Repr

/-- The two static level pairs of the barrier (R32): SL1/SL2 carry S_ERR, SL3/SL4 carry C_ERR. -/
inductive SlPair where
  | sErr
  | cErr
  deriving DecidableEq, Repr

/-- What the receiver of a seam pair finds: the pair, and whether its levels are equal or differ again (R35). -/
structure SlLevels where
  pair : SlPair
  equal : Bool
  deriving DecidableEq, Repr

/-- The two dies of a device (R29, R30). -/
inductive Die where
  | S
  | C
  deriving DecidableEq, Repr

/-- Charge or discharge: the two directions of R304 and of R197. -/
inductive Direction where
  | charge
  | discharge
  deriving DecidableEq, Repr

/-- The two channels of a safety input (R356). -/
inductive SiChan where
  | A
  | B
  deriving DecidableEq, Repr

/-- The two ECC findings of R388. -/
inductive EccKind where
  | corrected
  | uncorrectable
  deriving DecidableEq, Repr

/-- What wakes a DORMANT C-die (R501). -/
inductive WakeCause where
  | csnA
  | csnB
  | coupledA
  deriving DecidableEq, Repr

/-- The trip sources of R353. -/
inductive TripSource where
  | collector
  | input (i : Nat)
  | sErr
  | overTemp
  | watchdog
  | locked
  deriving DecidableEq, Repr

/-- A block reset that opens a masking interval (R399). -/
inductive MaskKind where
  | sentSupply (n : Nat)
  | sDieCore (pos : Nat)
  | supervisor
  | lane (l : Lane)
  deriving DecidableEq, Repr

/-- The flag word of an entry (R109). -/
structure Flags where
  ovr : Bool := false
  rcv : Bool := false
  blk : Bool := false
  cal : Bool := false
  sub : Bool := false
  inv : Bool := false
  prm : Bool := false
  gap : Bool := false
  age : Nat := 0
  stk : Bool := false
  frz : Bool := false
  deriving DecidableEq, Repr

/-- An Atlas or Chassis page entry (R108). -/
structure Entry where
  sum : Int
  min : Int
  max : Int
  count : Nat
  flags : Flags
  deriving DecidableEq, Repr

/-- The bodies of upstream items (R268, R269). -/
inductive ItemBody where
  | entry (e : Entry)
  | spot (sum min max : Int) (count : Nat) (flags : Flags) (instant slot : Nat)
  | sounding (a b vOn : Int) (status : Nat)
  | event (cls sub detail sweep : Nat) (value value2 : Word)
  | ack (seq type status : Nat) (crc : Word)
  | notice (linkE linkW : Word)
  | alive
  deriving DecidableEq, Repr

/-- An upstream item: KIND, TAG and BODY (R268). -/
structure Item where
  kind : Nat
  tag : Nat
  body : ItemBody
  deriving DecidableEq, Repr

/-- A device record of a token (R279). -/
structure TokenRec where
  id : Word
  dh : Nat
  cPowered : Bool
  coreHalted : Bool
  lambda : Nat
  linkE : Word
  linkW : Word
  deriving DecidableEq, Repr

/-- A TOKEN payload (R279). `dirW` is DIR: false left the head by port E. Latencies in 10 ps. -/
structure Token where
  trav : Nat
  pass : Nat
  dirW : Bool
  ended : Bool
  ovl : Bool
  h : Nat
  headId : Word
  lsum : Nat
  fwd : Nat
  recs : List TokenRec
  deriving DecidableEq, Repr

/-- An ADOPT payload (R283). -/
structure AdoptMsg where
  trav : Nat
  n : Nat
  closed : Bool
  sa : Nat
  ids : List Word
  deriving DecidableEq, Repr

/-- A SWEEP_HEADER payload (R264). -/
structure HeaderMsg where
  sweep : Nat
  epoch : Nat
  period : Nat
  tickdiv : Nat
  wrapped : Bool
  traverse : Bool
  unsettled : Bool
  n : Nat
  quota : Nat
  brkE : Nat
  brkW : Nat
  trav : Nat
  deriving DecidableEq, Repr

/-- What one setting record of a COMMIT or REACTION carries (R264). `field` is a Legend field (R470); the other
settings are the orders that the chapters send in commit or reaction records. -/
inductive SettingVal where
  | field (fid index value : Nat)
  | window (group w s0 : Nat)
  | balance (mask minutes : Nat)
  | calHalt
  | calResume
  | substitute (cell : Nat)
  | revert (cell : Nat)
  | arbitrate (cell : Nat) (ordered : Bool)
  | selfTest (full : Bool)
  | sounding (cells bins : Nat) (cycles : List Nat)
  | soundHalt
  | activate (object : Nat)
  | firmware
  | quota (q : Nat)
  | bleedOff
  | clearTimers
  | cancelTest
  | dormant
  deriving DecidableEq, Repr

/-- One setting record: TARGET and the setting (R264); TARGET 255 is every device. -/
structure Setting where
  target : Nat
  val : SettingVal
  deriving DecidableEq, Repr

/-- A commit or reaction record (R66, R69). -/
structure CommitMsg where
  epoch : Nat
  sweep : Nat
  settings : List Setting
  deriving DecidableEq, Repr

/-- A COMMAND payload (R264). -/
inductive CommandMsg where
  | spot (slot : Nat) (entry : Word)
  | other (code : Nat) (param : List Byte)
  deriving DecidableEq, Repr

/-- A STAGE payload (R264). -/
structure StageMsg where
  object : Nat
  offset : Nat
  total : Nat
  crc : Word
  data : List Byte
  deriving DecidableEq, Repr

/-- The payload of a ring frame, by TYPE (R263); `bad` is a TYPE that R263 does not list, or an undecodable payload. -/
inductive Payload where
  | token (t : Token)
  | probe (n : Nat)
  | probeReply (n turnaround : Nat)
  | adopt (a : AdoptMsg)
  | header (h : HeaderMsg)
  | keepalive (sweep elapsed : Nat)
  | commit (c : CommitMsg)
  | reaction (c : CommitMsg)
  | command (c : CommandMsg)
  | stage (s : StageMsg)
  | items (l : List Item)
  | bad (type : Nat) (data : List Byte)
  deriving DecidableEq, Repr

/-- A symbol of a lane: a data character, a control symbol that the device uses, or another control symbol (R241). -/
inductive Symbol where
  | data (b : Byte)
  | idle
  | meridian
  | sof
  | eof
  | error
  | other
  deriving DecidableEq, Repr

/-- A code group as a receiver finds it: its symbol, whether its disparity is right, and whether it stands on the established
character alignment (R241). -/
structure CodeGroup where
  symbol : Symbol
  disparity : Bool
  aligned : Bool
  deriving DecidableEq, Repr

/-- A ring frame as received: header (R260), payload, CRC (R261), whether it was framed by SOF and EOF, whether it holds
a K30.7 (R262), and the code groups that this receiver met inside it beside its good characters (R241, R244). `lenField` is
the LEN half-word as received. -/
structure Frame where
  dest : Nat
  src : Nat
  hops : Nat
  wrap : Bool
  parity : Bool
  lenField : Nat
  seq : Nat
  payload : Payload
  crc : Word
  framed : Bool
  hasError : Bool
  groups : List CodeGroup
  deriving DecidableEq, Repr

/-- What a modulator's overload detector reports within a sample's span (R84). -/
inductive Overload where
  | none
  | high
  | low
  deriving DecidableEq, Repr

/-- One decimated sample before the span is applied (R82, R84). -/
structure RawSample where
  code : Int
  overload : Overload
  deriving DecidableEq, Repr

/-- The S-die's once-per-sweep readings: records 184 (0.01 °C) and 187 (100 µV) (R118). -/
structure DevReadings where
  temp : Int
  buck : Int
  deriving DecidableEq, Repr

/-- The head's once-per-sweep readings (R118, R124, R539): C-die temperature (0.01 °C), VSUP and SENTVS (mV), divider
ratios of XT1 to XT4 (1/65,536) and currents of SP1 to SP8 (0.1 mA). -/
structure ChassisReadings where
  cTemp : Int
  vsup : Int
  sentvs : Int
  xt : List Nat
  sp : List Int
  deriving DecidableEq, Repr

/-- What a BG pin does: it begins to differ from its command, has differed for more than 20 µs, or agrees again (R230). -/
inductive GatePin where
  | differs
  | fault
  | agrees
  deriving DecidableEq, Repr

/-- The measured calibration of one modulator: offset (0.1 µV), gain (Q2.30) and its reading of the second reference
minus the Benchmark's (µV) (R154, R155, R157). -/
structure ModCal where
  ofs : Int
  gain : Nat
  cross : Int
  deriving DecidableEq, Repr

/-- What a self-calibration measures (R154): modulators 1 to 24, RM1, RM2 and the shunt, the S-die temperature in °C, and
the two readings of the reference checks of phase 6, second and main reference in µV (R167). -/
structure SelfCal where
  mods : List ModCal
  temp : Int
  refS : Int
  refM : Int
  deriving DecidableEq, Repr

/-- The outcome of one self-test step (R186, R188) and the taps whose open-wire source failed in it. -/
structure StepResult where
  pass : Bool
  badTaps : List Nat
  deriving DecidableEq, Repr

/-- The outcome of a full self-test (R189): 11 steps, the self-calibration, and the failed gate drivers. -/
structure FullTest where
  steps : List StepResult
  cal : SelfCal
  badGates : List Nat
  deriving DecidableEq, Repr

/-- A SENT message as received (R538): calibration pulse, nibble pulses and pause pulse in ns. -/
structure SentMsg where
  cal : Nat
  nibbles : List Nat
  pause : Option Nat
  deriving DecidableEq, Repr

/-- One cell's correlator sums at the end of a Sounding integration (R205), with the factory phase correction made by
the S-die; the cell by its number, 1 to 24 (log 79). -/
structure CorrSum where
  cell : Nat
  a : Int
  b : Int
  vOn : Int
  deriving DecidableEq, Repr

/-- The commands of the block, one constructor per row of opcode_table.json and in its order. `d` is the ring slot of a
device: slot 0 is the device whose C-die is powered (R2), slot d is d hops from it through port E. -/
inductive Instr where
  | vsupRise
  | vsupFall
  | lockedLatchClear
  | resetNAssert
  | resetNRelease
  | cDieStart
  | cDieWake (w : WakeCause)
  | sDieStart (d : Nat)
  | sDieStop (d : Nat)
  | roleAtPowerUp (d : Nat)
  | d1TrainsLate (d : Nat)
  | selfCalibrationComplete (d : Nat) (cal : SelfCal)
  | sweepBoundary (r : ChassisReadings)
  | localBoundary (d : Nat) (r : DevReadings)
  | balanceTimerExpiry (d cell : Nat)
  | declareUnsynchronised (d : Nat)
  | returnToPreferredDirection (d : Nat)
  | meridianArrival (d : Nat) (p : RPort)
  | meridianSend
  | sweepMarkLoss
  | commitCutOff
  | commitRecordSend
  | reactionCutOff
  | controlTick (ks : List Nat)
  | tuningTimeout
  | sweepOverrun (d sub index : Nat)
  | sampleComplete (d : Nat) (raw : List RawSample)
  | itemsSend (d : Nat)
  | itemsFrame (p : RPort) (f : Frame)
  | seqLossTimeout (pos : Nat)
  | atlasDeadline
  | contourStepDown (dir : Direction)
  | contourStepUp (dir : Direction)
  | contourFailsafeDwell
  | positionSilent (pos : Nat)
  | spotReadingStart (d : Nat)
  | spotReadingComplete (d : Nat) (results : List Int)
  | spotResultLost (slot : Nat)
  | surveyEntryEnd (d : Nat) (results : List Int)
  | benchmarkRecalDue (d : Nat)
  | benchmarkOccupationEnd (d : Nat)
  | maintenanceSweep (d : Nat) (r : StepResult)
  | fullSelfTestEnd (d : Nat) (r : FullTest)
  | rollingCalPhaseEnd (d : Nat) (cal : ModCal) (temp : Int)
  | rollingCalHaltExpiry (d : Nat)
  | shuntOvercurrent (dir : Direction)
  | sentMessage (n : Nat) (m : SentMsg)
  | sentTimeout (n : Nat)
  | sentSupplyLimit (n : Nat)
  | sentSupplyOn (n : Nat)
  | sysCalMeasurementEnd (chan : Nat)
  | soundingKeyingEdge (d : Nat)
  | soundingIntegrationEnd (d : Nat) (sums : List CorrSum)
  | bleedOnEdge (d : Nat)
  | bleedOffEdge (d : Nat)
  | gateFault (d cell : Nat) (p : GatePin)
  | bleedSilenceExpiry (d : Nat)
  | cErrAssert
  | barrierLaneLoss (l : Lane)
  | barrierLaneRetrain (l : Lane) (ok : Bool)
  | referenceClockLoss
  | referenceClockReturn
  | slPairEqual (p : SlLevels)
  | sErrUnexplained
  | crystalFailure
  | dieOvertempTrip (d : Nat) (die : Die)
  | dieOvertempRelease (d : Nat) (die : Die)
  | memoryEccError (k : EccKind)
  | supervisorWatchdogExpiry
  | supervisorCoreRestart
  | sDieWatchdogExpiry (d : Nat)
  | heartbeatTimeout
  | errOutRelease
  | maskingIntervalEnd (k : MaskKind)
  | kfRecognised (n : Nat) (level : Bool)
  | pullInTimeout (n : Nat)
  | holdDelayEnd (n : Nat)
  | dropOutTimeout (n : Nat)
  | coilCurrentTimeout (n : Nat)
  | coilPinMismatch (n : Nat) (differs : Bool)
  | tripSourceAssert (src : TripSource)
  | safetyChannelRecognised (i : Nat) (c : SiChan) (level : Bool)
  | safeinDiscrepancyTimeout (i : Nat)
  | restartIdleTimer
  | restartStuck
  | couplingTimer
  | safeFrameSendTimer
  | safeFrameTimeExpectation
  | safeFrameConnectLimit
  | sessionReconnectDelay
  | linkUp (d : Nat) (p : RPort)
  | rxLoss (d : Nat) (p : RPort)
  | idleSet (d : Nat) (p : RPort) (peer : RPort) (good : Bool)
  | miswireTimeout (d : Nat) (p : RPort)
  | linkDegraded (d : Nat) (p : RPort) (missed : Nat)
  | frameForward (d : Nat) (p : RPort) (f : Frame)
  | wakePatternDetected (d : Nat) (p : RPort)
  | wakePatternEnd (d : Nat)
  | portDownWake (d : Nat) (p : RPort)
  | sDieSilenceDormant (d : Nat)
  | token (d : Nat) (p : RPort) (f : Frame)
  | probe (d : Nat) (p : RPort) (f : Frame) (turnaround : Nat)
  | probeReply (d : Nat) (p : RPort) (f : Frame) (roundTrip : Nat)
  | adopt (d : Nat) (p : RPort) (f : Frame)
  | sweepHeader (d : Nat) (p : RPort) (f : Frame)
  | keepalive (d : Nat) (p : RPort) (f : Frame)
  | keepaliveSend
  | commit (d : Nat) (p : RPort) (f : Frame)
  | reaction (d : Nat) (p : RPort) (f : Frame)
  | command (d : Nat) (p : RPort) (f : Frame)
  | stage (d : Nat) (p : RPort) (f : Frame)
  | traverseStart
  | traversePassEnd
  | traverseRetryTimer
  | wakeTimeout
  | loginTimeout (h : HostId)
  | gazetteerWrite
  | portReset (h : HostId)
  | commandWindowPush (h : HostId) (addr : Nat) (ws : List Word)
  | responseWindowRelease (h : HostId) (addr : Nat) (ws : List Word)
  | responseWindowPeek (h : HostId) (addr n : Nat)
  | responsePlacement (h : HostId) (pair : Nat)
  | semTake (h : HostId) (v : Word)
  | semGive (h : HostId) (v : Word)
  | swpCtrlWrite (h : HostId) (v : Word)
  | errCtrlWrite (h : HostId) (v : Word)
  | requestConfig (h : HostId)
  | withdrawConfig (h : HostId)
  | registerWrite (h : HostId) (mosi : List Byte)
  | traverse (h : HostId) (pair : Nat)
  | windowSet (h : HostId) (pair : Nat)
  | atlasRead (h : HostId) (pair : Nat)
  | chassisRead (h : HostId) (pair : Nat)
  | surveyLoad (h : HostId) (pair : Nat)
  | spotRead (h : HostId) (pair : Nat)
  | calibrate (h : HostId) (pair : Nat)
  | sysCal (h : HostId) (pair : Nat)
  | balanceSet (h : HostId) (pair : Nat)
  | soundStart (h : HostId) (pair : Nat)
  | loopConfig (h : HostId) (pair : Nat)
  | loopMode (h : HostId) (pair : Nat)
  | loopTune (h : HostId) (pair : Nat)
  | contactorCmd (h : HostId) (pair : Nat)
  | safeSession (h : HostId) (pair : Nat)
  | faultRead (h : HostId) (pair : Nat)
  | faultAck (h : HostId) (pair : Nat)
  | identify (h : HostId) (pair : Nat)
  | login (h : HostId) (pair : Nat)
  | legendWrite (h : HostId) (pair : Nat)
  | legendCommit (h : HostId) (pair : Nat)
  | logRead (h : HostId) (pair : Nat)
  | fwUpdate (h : HostId) (pair : Nat)
  | unfreeze (h : HostId) (pair : Nat)
  | dormant (h : HostId) (pair : Nat)
  | characterAlignment (d : Nat) (p : RPort) (inverted : Bool)
  | rxGood (d : Nat) (p : RPort)
  | sDieCoreRestart (d : Nat)
  | sentSupplyRunTimer (n : Nat)
  | referenceClockStable
  | d1Trained
  | sentvsUndervoltage (low : Bool)
  | readTransaction (h : HostId) (mosi : List Byte)
  deriving DecidableEq, Repr

end Sys2Proof
end

