-- ==== Sys2Proof/Decode.lean ====
section
/-!
DEFINITION. Words that spell commands: none. spec/opcode_table.json gives no row any bits: a command reaches the block
as a frame, a transaction, a pin event or the end of a timer, each of which is an operand of its constructor.
-/

namespace Sys2Proof

/-- The command that a word of the opcode table's bits spells: the table gives no row bits, so no word spells one
(log 11). -/
def decodeTableWord (_nbits _w : Nat) : Option Instr := none

end Sys2Proof
end

