-- ==== Sys2Proof/Config.lean ====
section
/-!
DEFINITION. What the manual leaves to each part or fixes nowhere: uninterpreted constants without a body, so that a
statement about them holds for every value. Each is named in the assumption log.
-/

namespace Sys2Proof.Config

/-- FREE VALUE (log 3): the draw of the C-die's hardware random source for the k-th session (R375). -/
opaque sessionDraw : Nat → BitVec 16

/-- FREE VALUE (log 4): the 32-bit factory identity of the S-die in ring slot d (R279, R460). -/
opaque factoryId : Nat → BitVec 32

/-- FREE VALUE (log 4): the factory identity of the C-die (R460 CID). -/
opaque chassisId : BitVec 32

/-- FREE VALUE (log 5): spare flash sectors of the C-die at delivery (R476 SPARES, "per device"). -/
opaque spareSectors : Nat

/-- FREE VALUE (log 6): the chain gain h_b of bin b, "factory value" (R205), as a positive multiple of 2^-30. -/
opaque chainGain : Nat → Nat

/-- FREE VALUE (log 7): the launch delay or K28.1 forwarding latency of ring slot d fixed at the n-th link-up of its
ports, in 10 ps; R248 bounds it to 135 ns to 150 ns, which the one accessor that reads it enforces. -/
opaque forwardLatency : Nat → Nat → Nat

/-- FREE VALUE (log 8): the salted digest of a password (R477), of which only the CRC-32C in the Gazetteer is seen. -/
opaque passwordDigest : Nat → List Byte → List Byte

/-- FREE VALUE (log 9): the "value" of a source (R393) whose rule states none; the argument numbers the occurrence. -/
opaque openFaultValue : Nat → BitVec 32

/-- FREE VALUE (log 9): the "detail" of a source (R392) whose rule states none, by class, sub-code and position. -/
opaque openDetail : Nat → Nat → Nat → BitVec 16

/-- FREE VALUE (log 10): the release number, coded as in R460, that a firmware image of this CRC-32C reports: no rule
says where in the image it stands. -/
opaque firmwareRelease : BitVec 32 → Nat

/-- FREE VALUE (log 10): the flash image bytes of the firmware that the part is delivered with, as their CRC-32C
(R479, OLDCRC of a firmware activation). -/
opaque firmwareCrc : Nat → BitVec 32

/-- FREE VALUE (log 27): a computed sample whose rule states no result for the operands at hand, such as a Sounding
result at zero keyed current (R205); the argument numbers the occurrence. -/
opaque openSample : Nat → Int

/-- FREE VALUE (log 72): at the loss of an up lane, whether the entry of an Atlas index is in flight on it (R33). The first
argument numbers the occurrence. -/
opaque inFlight : Nat → Nat → Bool

/-- FREE VALUE (log 163): whether a stored Survey table passes its CRC at a start of its S-die (R133); the argument numbers the
start. -/
opaque tableIntact : Nat → Bool

end Sys2Proof.Config
end

