-- ==== Sys2Proof/Machine/State.lean ====
section
/-!
DEFINITION. The state of the block as plain data: the head C-die, and the S-die of every ring slot. Times are
nanoseconds of the model's clock `now`; sweeps are counted without wrap, and a register shows them modulo 2^32 (R55).
A field's comment names its rule and its reset value.
-/

namespace Sys2Proof.Machine

/-- Sparse memory in one canonical form: keys strictly rising, no entry equal to what an unlisted key reads as. -/
abbrev SMap (α : Type) := List (Nat × α)

/-! ### Faults and refusals -/

/-- Reasons for which the block would stop with a fault. -/
inductive Fault where
  /-- Raised by no meaning: every command of the table has an effect. Kept because the interface asks for a type; safe. -/
  | none
  deriving DecidableEq, Repr

/-- Reasons for which a command has no meaning. -/
inductive Refusal where
  /-- Raised by an arm of `exec` whose command is not modelled; safe: nothing can be proved about its result. -/
  | notModelled (mnemonic : String)
  deriving DecidableEq, Repr

/-! ### The S-die of one ring slot -/

/-- Supply state of an S-die (R485, R488). -/
inductive SPower where
  | por
  | awake
  | dormant
  deriving DecidableEq, Repr

/-- Role of an S-die (R37). -/
inductive Role where
  | undetermined
  | head
  | member
  deriving DecidableEq, Repr

/-- State of a ring port (R253 STATE). -/
inductive PortState where
  | down
  | acquire
  | up
  | wake
  deriving DecidableEq, Repr

/-- A frame at a transmitter: the instant at which it begins, and whether it is the device's own, which a forwarded frame
precedes while it has not begun (R255). -/
structure TxFrame where
  frame : Frame
  at' : Nat
  own : Bool
  deriving DecidableEq, Repr

/-- One ring port of an S-die (R249 to R253, R285, R288). -/
structure PortSt where
  /-- R253 STATE; reset DOWN. -/
  st : PortState := .down
  /-- R253 RXGOOD; reset 0. -/
  rxGood : Bool := false
  /-- R253 PEEROK; reset 0. -/
  peerOk : Bool := false
  /-- R253 CLKSRC; reset 0. -/
  clkSrc : Bool := false
  /-- R253 INVPOL; reset 0. -/
  invPol : Bool := false
  /-- R253 EVERUP; reset 0. -/
  everUp : Bool := false
  /-- R253 MISSED, periods of the last completed second; reset 0. -/
  missed : Nat := 0
  /-- R253 LOSSES; reset 0. -/
  losses : Nat := 0
  /-- R253 KERR; reset 0. -/
  kerr : Nat := 0
  /-- R249 consecutive idle sets naming the opposite port with RX good; reset 0. -/
  okSets : Nat := 0
  /-- R251 consecutive idle sets reporting the peer's RX not good; reset 0. -/
  badSets : Nat := 0
  /-- R249 the peer names the same port since this instant; reset none. -/
  miswiredAt : Option Nat := none
  /-- R252 0x03 reported; reset 0. -/
  miswired : Bool := false
  /-- R252 0x02 present; reset 0. -/
  degraded : Bool := false
  /-- R252 0x01 present; reset 0. -/
  lost : Bool := false
  /-- R288 the port is held; reset 0. -/
  held : Bool := false
  /-- R285 the device is wrapped at this port; reset 0. -/
  wrapped : Bool := false
  /-- R288 the port has left UP since the last adoption; reset 0. -/
  leftUp : Bool := false
  /-- R248, R278 forwarding latency of what this port receives, at the head the launch delay of this port, 10 ps; reset 0. -/
  fwd : Nat := 0
  /-- R500 the port is DOWN since this instant; reset 0. -/
  downAt : Nat := 0
  /-- R258 sends the wake pattern since this instant; reset none. -/
  wakeAt : Option Nat := none
  /-- R280 round trips and turnarounds of the measurement in progress, 10 ps; reset empty. -/
  probes : List (Nat × Nat) := []
  /-- R278 the token waiting for its measurement on this port; reset none. -/
  waiting : Option Token := none
  /-- R254, R255, R265 frames that this port's transmitter has sent since the last local boundary or is still to send, newest
  first; reset empty. -/
  tx : List TxFrame := []
  /-- R255 the transmitter is occupied up to this instant; reset 0. -/
  busyUntil : Nat := 0
  /-- R58, R254 instant at which this port last sent K28.1; reset none. -/
  markAt : Option Nat := none
  /-- R252 the port has stayed UP since the last rolling second ended; reset 0. -/
  upAll : Bool := false
  /-- R253 K30.7 substitutions of the running second; reset 0. -/
  kerrRun : Nat := 0
  deriving DecidableEq, Repr

/-- One modulator: assigned 1 to 24, RM1, RM2, shunt in the order of R446 (R157). -/
structure Modulator where
  /-- R157 OFS, 0.1 µV; reset 0. -/
  ofs : Int := 0
  /-- R157 GAIN, Q2.30; reset 0x40000000. -/
  gain : Nat := 0x40000000
  /-- R157 AGE is counted from this instant; reset none (AGE 0xFFFF). -/
  writtenAt : Option Nat := none
  /-- R157 TEMP, °C; reset 0. -/
  temp : Int := 0
  /-- R157 SRC; reset 0b00. -/
  src : Nat := 0
  /-- R157 FAILED; reset 0. -/
  failed : Bool := false
  /-- R91 the cell (0 to 23) whose tap pair the modulator is connected to; 24 for the shunt; reset none. -/
  conn : Option Nat := none
  /-- R92, R76 samples delivered since the connection; reset 0. -/
  got : Nat := 0
  deriving DecidableEq, Repr

/-- State of a relief modulator (R446). -/
inductive Relief where
  | free
  | covering (cell : Nat)
  | substituting (cell : Nat)
  | arbitrating (cell : Nat)
  | retired
  deriving DecidableEq, Repr

/-- The accumulator of one record (R104 to R106, R126). -/
structure Acc where
  /-- R106 sum; reset 0. -/
  sum : Int := 0
  /-- R106 min; reset +8,388,607. -/
  min : Int := 8388607
  /-- R106 max; reset -8,388,608. -/
  max : Int := -8388608
  /-- R106 count; reset 0. -/
  count : Nat := 0
  /-- R106 flags; reset PRM (R109). -/
  flags : Flags := { prm := true }
  /-- R105 sum of the running sweep in sweep-mean mode; reset 0. -/
  swSum : Int := 0
  /-- R105 admitted samples of the running sweep; reset 0. -/
  swCnt : Nat := 0
  /-- R104 sweep-mean mode; reset 0. -/
  meanMode : Bool := false
  /-- R126 the window was opened by a close of R113; reset 0. -/
  opened : Bool := false
  /-- R126 the window holds a sample excluded under row 1 of R101; reset 0. -/
  row1 : Bool := false
  /-- R126 not yet primed since the last start; reset 1. -/
  prm : Bool := true
  /-- R106, R111 the sweep with which the window opened; reset 0. -/
  born : Nat := 0
  deriving DecidableEq, Repr

/-- The window of one record group (R112, R113). -/
structure Window where
  /-- R112 length in sweeps. -/
  w : Nat
  /-- R113 s0, sweep of effect. -/
  s0 : Nat
  deriving DecidableEq, Repr

/-- Reason codes of a balance pause (R220 PAUSE). -/
inductive Pause where
  | none
  | sounding
  | power
  | thermal
  | infeasible
  deriving DecidableEq, Repr

/-- One cell of a device: its source, its excursions and its bleed (R91, R87, R220). -/
structure Cell where
  /-- R91 the modulator that feeds the CV record; reset none. -/
  source : Option Nat := none
  /-- R171, R199 the sources that the cell has had: the sweep with which each began and its modulator, newest first; reset none. -/
  sources : List (Nat × Nat) := []
  /-- R97 the relief modulator (24 or 25) that substitutes permanently, S-die flash; delivered none. -/
  subst : Option Nat := none
  /-- R94, R79 samples still excluded under row 1 of R101; reset 0. -/
  fill : Nat := 0
  /-- R95 those samples follow an abandoned cover, so that their windows carry CAL; reset 0. -/
  fillCal : Bool := false
  /-- R94, R160 INV until a substitution takes place; reset 0. -/
  failInv : Bool := false
  /-- R87 overrange since the last in-range sample; reset 0. -/
  ovl : Bool := false
  /-- R87 recovery samples still to come; reset 0. -/
  recLeft : Nat := 0
  /-- R88 sweeps in recovery still to come, the running one included; reset 0. -/
  rcv : Nat := 0
  /-- R139 last instant at which an open-wire current flowed in a tap of the cell; reset none. -/
  owAt : Option Nat := none
  /-- R211 last instant of a keying of the cell's switch that has ended; reset none. -/
  keyedAt : Option Nat := none
  /-- R214 the bleed gate is driven on; reset 0. -/
  gate : Bool := false
  /-- R98 instant of the gate's last change of state; reset none. -/
  edgeAt : Option Nat := none
  /-- R230 the BG pin differs from its command; reset 0. -/
  gateBad : Bool := false
  /-- R230 GATEFLT; reset 0. -/
  gateFlt : Bool := false
  /-- R218 remaining conduction time, ns; reset 0. -/
  remain : Nat := 0
  /-- R220 ACTIVE; reset 0. -/
  active : Bool := false
  /-- R220 COND; reset 0. -/
  cond : Bool := false
  /-- R220 PAUSE; reset none. -/
  pause : Pause := .none
  /-- R220 ENDED; reset 0b00. -/
  ended : Nat := 0
  /-- R211 minutes of a balance command held until the bin of a sounding neighbour ends; reset none. -/
  held : Option Nat := none
  /-- R226 admitted for this sweep; reset 0. -/
  admitted : Bool := false
  /-- R218 conduction of the running sweep, ns; reset 0. -/
  condNs : Nat := 0
  /-- R225 conduction of the running sample period, ns; reset 0. -/
  periodNs : Nat := 0
  /-- R225 instant up to which conduction has been counted; reset 0. -/
  countedAt : Nat := 0
  /-- R225 charge of the running sweep, code × ns; reset 0. -/
  charge : Int := 0
  /-- R225 rounding remainder carried, µC; reset 0. -/
  bqRem : Rat := 0
  /-- R225 latest Benchmark result of the cell, µV; reset none. -/
  bvLast : Option Int := none
  /-- R226, R207 mean of the latest CV entry with samples, µV; reset none. -/
  cvMean : Option Int := none
  /-- R228 the latest CV entry was empty; reset 0. -/
  cvEmpty : Bool := false
  /-- R228 mean of the latest BV entry, µV; reset none. -/
  bvMean : Option Int := none
  /-- R170, R174 BENCH 0x08 or 0x09 present for the cell: its sub-code; reset 0. -/
  bench : Nat := 0
  deriving DecidableEq, Repr

/-- A cover of rolling calibration (R159). `phase` 0: running in parallel before the switch; 1: calibrating; 3: running in
parallel before the switch back. `old` is the cell's own modulator as it stood before the cover (R95). -/
structure Cover where
  cell : Nat
  rm : Nat
  phase : Nat
  calEnd : Nat
  old : Modulator
  deriving DecidableEq, Repr

/-- An arbitration in progress (R173, R174). `stage` 0: connected; 1: means being taken; 2: failed, waiting for B_f.
`ordered`: by CALIBRATE, not by the head itself. -/
structure Arbitration where
  cell : Nat
  suspect : Nat
  second : Nat
  stage : Nat
  sumA : Int
  sumB : Int
  n : Nat
  clean : Bool
  ordered : Bool
  deriving DecidableEq, Repr

/-- What the Benchmark is running (R137, R148). -/
structure Running where
  entry : Word
  spotSlot : Option Nat
  since : Nat
  deriving DecidableEq, Repr

/-- A spot reading received by a device and not completed (R148, R165). -/
structure SpotWait where
  slot : Nat
  entry : Word
  deriving DecidableEq, Repr

/-- A Benchmark occupation (R165). -/
inductive Occupation where
  | recal
  | maintenance (step : Nat)
  | full
  deriving DecidableEq, Repr

/-- A self-test of a device (R184 to R189): the next step and the results so far. -/
structure SelfTest where
  full : Bool
  step : Nat
  results : List Bool
  running : Bool
  /-- taps whose open-wire source failed in this test. -/
  bad : List Nat
  /-- instant at which the occupation in progress began. -/
  since : Nat
  deriving DecidableEq, Repr

/-- One thermistor input at its S-die (R293, R294). -/
structure Therm where
  /-- R298 latest result that counts, 0.01 °C; reset none. -/
  value : Option Int := none
  /-- R294 consecutive open or shorted results; reset 0. -/
  badCnt : Nat := 0
  /-- R294 consecutive results that are neither; reset 0. -/
  okCnt : Nat := 0
  /-- R294 declared broken: sub-code 1 open, 2 shorted, 4 path; reset 0. -/
  broken : Nat := 0
  deriving DecidableEq, Repr

/-- The Benchmark converter, the Survey table and the checks of an S-die (R130 to R180). -/
structure Survey where
  /-- R133 active table, S-die flash; delivered none, which runs the default table. -/
  stored : Option (List Word) := none
  /-- R133 the stored table passes its CRC; delivered 1. -/
  storedOk : Bool := true
  /-- R135 table position; reset 0. -/
  idx : Nat := 0
  /-- R135 pass count; reset 0. -/
  pass : Nat := 0
  /-- R144 the scheduler runs; reset 0. -/
  started : Bool := false
  /-- R295 sweep at which the scheduler started; reset 0. -/
  startedAt : Nat := 0
  /-- R137 what the converter runs; reset none. -/
  running : Option Running := none
  /-- R137, R148 instant of the entry boundary at which a spot reading may start; none while the scheduler idles or an
  entry runs; reset none. -/
  slotAt : Option Nat := none
  /-- R148 spot readings waiting, oldest first; reset empty. -/
  spots : List SpotWait := []
  /-- R165 occupation in progress; reset none. -/
  occ : Option Occupation := none
  /-- R164 recalibration due; reset 0. -/
  recalDue : Bool := false
  /-- R164 instant from which BCAL_INT counts; reset 0. -/
  recalFrom : Nat := 0
  /-- R164 the first boundary at which the recalibration could have begun; reset none. -/
  recalAt : Option Nat := none
  /-- R165 boundaries that a recalibration and a self-test occupation have waited; reset 0. -/
  recalWaited : Nat := 0
  testWaited : Nat := 0
  /-- R185 sweep of the latest maintenance sweep; reset none. -/
  lastMaint : Option Nat := none
  /-- R188 self-test steps that failed and have not passed since; reset none. -/
  stepBad : List Nat := []
  /-- R184 self-test pending or running; reset none. -/
  test : Option SelfTest := none
  /-- R188 taps whose open-wire source failed; reset none. -/
  badSources : List Nat := []
  /-- R169 consecutive 0x06 overruns; reset 0. -/
  lateCnt : Nat := 0
  /-- R169 consecutive entries that ended in time; reset 0. -/
  timelyCnt : Nat := 0
  /-- R167 latest second-reference result and its instant; reset none. -/
  refS : Option (Int × Nat) := none
  /-- R167 latest main-reference result and its instant; reset none. -/
  refM : Option (Int × Nat) := none
  /-- R167 outcome of the last judgement (R168 row) and how often in a row; reset (0, 0). -/
  judged : Nat × Nat := (0, 0)
  /-- R169 consecutive zero results out and in; reset (0, 0). -/
  zeroCnt : Nat × Nat := (0, 0)
  /-- R169 consecutive bias results out and in; reset (0, 0). -/
  biasCnt : Nat × Nat := (0, 0)
  /-- R170 BENCH causes 0x01 to 0x06 present at the device; reset none. -/
  bench : List Nat := []
  /-- R178 latest reference result of each cell and its instant; reset empty. -/
  owRef : SMap (Int × Nat) := []
  /-- R179 taps judged in the running pass: open or intact; reset empty. -/
  owPass : SMap Bool := []
  /-- R398 taps judged in the latest complete pass; reset none. -/
  owLast : List Nat := []
  /-- R180 consecutive passes judged open, by tap; reset empty. -/
  owOpen : SMap Nat := []
  /-- R180 consecutive passes judged intact, by tap; reset empty. -/
  owIntact : SMap Nat := []
  /-- R180 taps declared open; reset none. -/
  openTaps : List Nat := []
  /-- R293 latest bias result, µV; reset none. -/
  bias : Option Int := none
  /-- R293 the 32 thermistor inputs; reset each at its reset value. -/
  therm : List Therm := List.replicate 32 {}
  /-- R298 module temperatures, lower and upper, 0.01 °C; reset none. -/
  modTemp : Option Int × Option Int := (none, none)
  /-- R227 thermal stop of the lower and the upper module; reset 0. -/
  stopped : Bool × Bool := (false, false)
  /-- R526 consecutive stack results outside and inside, and cause; reset 0. -/
  stackBad : Nat × Nat × Bool := (0, 0, false)
  deriving DecidableEq, Repr

/-- A Sounding running at a device (R207 to R212). -/
structure Sounding where
  cells : Nat
  bins : Nat
  cycles : List Nat
  /-- 0: odd cells, 1: even cells (R208). -/
  group : Nat
  /-- bin in progress, none between bins. -/
  bin : Option Nat
  /-- boundary instant B_s of the bin in progress (R204). -/
  since : Nat
  /-- keying edges already made (R204). -/
  edges : Nat
  /-- integrations run of the bin in progress (R210). -/
  tries : Nat
  /-- cells whose bin is aborted in the integration in progress (R209). -/
  aborted : List Nat
  /-- (cell, bin) whose result is delivered. -/
  done : List (Nat × Nat)
  /-- (cell, bin) integrated once and to be repeated (R210). -/
  redo : List (Nat × Nat)
  deriving DecidableEq, Repr

/-- An object being staged at a device (R67, R264). -/
structure StageBuf where
  object : Nat
  total : Nat
  crc : Word
  mem : List Host.Cell
  got : List (Nat × Nat)
  verified : Bool
  deriving DecidableEq, Repr

/-- An entry item of the backlog with its close (R270, R271). -/
structure Backlog where
  close : Nat
  record : Nat
  entry : Entry
  deriving DecidableEq, Repr

/-- One device of the ring: the S-die in a ring slot. -/
structure Dev where
  /-- R485 power-on reset, awake or DORMANT; reset power-on reset. -/
  power : SPower := .por
  /-- R37, R153 instant of the last S-die start; reset 0. -/
  startAt : Nat := 0
  /-- R153 self-calibration complete; reset 0. -/
  calibrated : Bool := false
  /-- R126 the device has set a boundary since self-calibration; reset 0. -/
  measuring : Bool := false
  /-- R37 role; reset undetermined. -/
  role : Role := .undetermined
  /-- R37 D1 trained at this S-die; reset 0. -/
  d1 : Bool := false
  /-- R390 the S-die core is in reset since this instant; reset none. -/
  coreReset : Option Nat := none
  /-- R390 the reset is a watchdog reset, to be reported; reset 0. -/
  wdReport : Bool := false
  /-- R259 a committed DORMANT order was applied; up to this instant, the end of the sweep after the one that its boundary
  begins, the losses that its neighbours see raise nothing; reset none. -/
  dormantAt : Option Nat := none
  /-- R283 ring position; reset none. -/
  pos : Option Nat := none
  /-- R288 an adoption has been applied since the S-die start; reset 0. -/
  adopted : Bool := false
  /-- R283 the position last held since the power-on reset; reset none. -/
  lastPos : Option Nat := none
  /-- R283 ADOPT waiting for its adoption sweep; reset none. -/
  adoptMsg : Option AdoptMsg := none
  /-- R278 TRAV and PASS of the last token; reset none. -/
  tokPass : Option (Nat × Nat) := none
  /-- R278 hop counts from the port E and port W tokens of the last pass; reset none. -/
  hops : Option Nat × Option Nat := (none, none)
  /-- R278 path latencies from the last pass, 10 ps; reset none. -/
  lat : Option Nat × Option Nat := (none, none)
  /-- R59 L_E and L_W in force, 10 ps; reset none. -/
  latE : Option Nat := none
  latW : Option Nat := none
  /-- R59 preferred direction, true = head's port W; reset false. -/
  prefW : Bool := false
  /-- R61 direction in use, true = head's port W; reset false. -/
  useW : Bool := false
  /-- R61 consecutive sweeps with the Meridian from the preferred direction; reset 0. -/
  prefRun : Nat := 0
  /-- R61 the Meridian arrived in its window this sweep from the head's port E, W; reset no. -/
  sawE : Option Nat := none
  sawW : Option Nat := none
  /-- R59 instant of the next local boundary; reset none. -/
  nextB : Option Nat := none
  /-- R59 instant of the last local boundary; reset 0. -/
  lastB : Nat := 0
  /-- R62 consecutive flywheeled boundaries; reset 0. -/
  flywheel : Nat := 0
  /-- R62 unsynchronised; reset 0. -/
  unsync : Bool := false
  /-- R63 sweep-health code of the last boundary; reset 0. -/
  health : Nat := 0
  /-- R55 number of the running sweep at the device; reset 0. -/
  sweep : Nat := 0
  /-- R54 samples completed in the running sweep; reset 0. -/
  sampleNo : Nat := 0
  /-- R264 latest SWEEP_HEADER; reset none. -/
  header : Option HeaderMsg := none
  /-- R66 epoch of the last commit record applied; reset 0. -/
  epoch : Nat := 0
  /-- R68 epochs of the commit records that were missed and not yet applied; reset none. -/
  late : List Nat := []
  /-- R55, R113 the head has begun its sweep count anew since the last adoption; reset 0. -/
  recount : Bool := false
  /-- R265 SEQ of the downstream frames acted on in this sweep; reset none. -/
  seen : List Nat := []
  /-- R265 those of the sweep before, whose later copies may still arrive; reset none. -/
  seenLast : List Nat := []
  /-- R66, R68 commit records held for their boundary; reset none. -/
  commitPend : List CommitMsg := []
  /-- R69 reaction records held for the next boundary; reset none. -/
  reactPend : List CommitMsg := []
  /-- R41, R474 settings active at the device, by field identity and index; reset none (reset values). -/
  fields : SMap Nat := []
  /-- R52 PERIOD in force at the device; reset 0b001. -/
  period : Nat := 1
  /-- R272 quota in force; reset 48. -/
  quota : Nat := 48
  /-- R67 objects being staged, one of each kind; reset none. -/
  staging : List StageBuf := []
  /-- R436, R29 the two ring ports; reset at the values of R253. -/
  portE : PortSt := {}
  portW : PortSt := {}
  /-- R91, R157 the 27 modulators. -/
  mods : List Modulator := List.replicate 27 {}
  /-- R446 states of RM1 and RM2; reset free. -/
  rm1 : Relief := .free
  rm2 : Relief := .free
  /-- R159 cover in progress; reset none. -/
  cover : Option Cover := none
  /-- R158 position of the rotation: cell 0 to 23, then 24 and 25 for substituting relief modulators; reset 0. -/
  rollNext : Nat := 0
  /-- R158 the relief modulator that served the last cover; reset RM2. -/
  rollLast : Nat := 25
  /-- R161 no cover before this sweep; reset 0. -/
  rollWait : Nat := 0
  /-- R162 halted by a host since this instant; reset none. -/
  rollHalt : Option Nat := none
  /-- R173 arbitrations in progress, one of a cell; reset none. -/
  arbs : List Arbitration := []
  /-- R97, R446 handbacks of reverted substitutions: the cell and its relief modulator; reset none. -/
  returns : List (Nat × Nat) := []
  /-- R91, R161 sweep at which the own calibration of RM1 and RM2 ends; reset none. -/
  ownCal : Option Nat × Option Nat := (none, none)
  /-- R79 post-filter fill samples still to come on the shunt record; reset 0. -/
  shuntFill : Nat := 0
  /-- R197 consecutive shunt samples beyond +OC_DIS, beyond -OC_CHG, within both; reset 0. -/
  ocDis : Nat := 0
  ocChg : Nat := 0
  ocIn : Nat := 0
  /-- R197 first sample beyond the limit, code; reset 0. -/
  ocFirst : Int := 0
  /-- R197 shunt overcurrent cause present: discharge, charge; reset no. -/
  ocCause : Bool × Bool := (false, false)
  /-- R401 this S-die asserts S_ERR; reset 0. -/
  sErr : Bool := false
  /-- R308 the S-die over-temperature comparator has tripped; reset 0. -/
  overTemp : Bool := false
  /-- R235, R308 bleeding stays off until a BALANCE_SET is committed; reset 0. -/
  bleedOff : Bool := false
  /-- R233 instant of the last reload of the bleed-silence timer, none when idle; reset none. -/
  silence : Option Nat := none
  /-- R499 instant of the last valid downstream frame, or of the start; reset 0. -/
  lastFrame : Nat := 0
  /-- R36 C_ERR is seen asserted; reset 0. -/
  cErr : Bool := false
  /-- R222 the schedule is infeasible; reset 0. -/
  infeasible : Bool := false
  /-- R91 the 24 cells. -/
  cells : List Cell := List.replicate 24 {}
  /-- R116 the 192 accumulators. -/
  accs : List Acc := List.replicate 192 {}
  /-- R112 windows of the nine groups. -/
  wins : List Window := [⟨1, 0⟩, ⟨10, 0⟩, ⟨100, 0⟩, ⟨100, 0⟩, ⟨100, 0⟩, ⟨1000, 0⟩, ⟨10, 0⟩, ⟨10, 0⟩, ⟨10, 0⟩]
  /-- R130 the Benchmark and its checks. -/
  sv : Survey := {}
  /-- R207 Sounding in progress; reset none. -/
  snd : Option Sounding := none
  /-- R207 Sounding committed and waiting for its boundary; reset none. -/
  sndNext : Option Sounding := none
  /-- R271 backlog of entry items, oldest key first; reset empty. -/
  backlog : List Backlog := []
  /-- R270 other items waiting: acknowledgements, events, notices, spot and Sounding results; reset empty. -/
  acks : List Item := []
  events : List Item := []
  notices : List Item := []
  spotItems : List Item := []
  sndItems : List Item := []
  /-- R235 sweep of a bleed-silence expiry whose report has not reached a head yet; reset none. -/
  silenceRep : Option Nat := none
  /-- R274 next ITEMS sequence number; reset 0. -/
  itemSeq : Nat := 0
  /-- R526 consecutive buck readings outside and inside, and cause; reset 0. -/
  buckBad : Nat × Nat × Bool := (0, 0, false)
  /-- R460, R482 running firmware release; delivered 0x0401. -/
  release : Nat := 0x0401
  /-- R480 the slot that is not running holds a verified new image, by its CRC-32C, S-die flash; delivered none. -/
  newSlot : Option Word := none
  /-- R482 release of the previous slot, S-die flash; delivered 0x0401. -/
  prevRelease : Nat := 0x0401
  /-- R482 instant of the first start of the new slot; reset none. -/
  firstStart : Option Nat := none
  deriving DecidableEq, Repr

/-! ### The head C-die -/

/-- Operating states (R488). -/
inductive OpState where
  | off
  | dormant
  | wake
  | config
  | run
  | safe
  | locked
  deriving DecidableEq, Repr

/-- A message staged for a response queue (R424, R425). -/
structure Staged where
  pair : Nat
  code : Nat
  event : Bool
  body : List Byte
  placed : Nat
  deriving DecidableEq, Repr

/-- A fragmented request being reassembled (R421). -/
structure OpenReq where
  pair : Nat
  code : Nat
  body : List Byte
  complete : Bool
  deriving DecidableEq, Repr

/-- One host port (R415, R433). -/
structure HostPort where
  /-- R415 HST_STAT.FROZEN; reset 0. -/
  frozen : Bool := false
  /-- R415 HST_STAT.FRZRSN; reset 0b000. -/
  frzRsn : Nat := 0
  /-- R431 FRZ_STAT reason; reset 0b000. -/
  lastRsn : Nat := 0
  /-- R415 LEVEL: 0 none, 1 OPERATOR, 2 SERVICE; reset 0. -/
  level : Nat := 0
  /-- R413 HST_STAT.LASTERR; reset 0x00. -/
  lastErr : Nat := 0
  /-- R415 HST_STAT.ERRCNT; reset 0x00. -/
  errCnt : Nat := 0
  /-- R413 instants of errors 0x01 to 0x03 within the last second; reset none. -/
  errTimes : List Nat := []
  /-- R415 HST_STAT.PWFAIL; reset 0. -/
  pwFail : Nat := 0
  /-- R415 HST_SCRATCH; reset 0. -/
  scratch : Word := 0
  /-- R433 IRQ_FLAG0; reset 0. -/
  flag0 : Word := 0
  /-- R433 IRQ_FLAG1; reset 0. -/
  flag1 : Word := 0
  /-- R433 IRQ_MASK0; reset 0. -/
  mask0 : Word := 0
  /-- R433 IRQ_MASK1; reset 0. -/
  mask1 : Word := 0
  /-- R431 FRZ_STAT count of freezes; reset 0. -/
  frzCount : Nat := 0
  /-- R478 instant of the last command executed; reset 0. -/
  lastCmd : Nat := 0
  /-- R423 pair last served; reset 15. -/
  lastPair : Nat := 15
  /-- R421 request area; reset none. -/
  request : Option OpenReq := none
  /-- R424 staging areas, oldest first; reset empty. -/
  staged : List Staged := []
  /-- R371 the undrained outgoing safe frame; reset none. -/
  safeOut : Option (List Byte) := none
  /-- R409 what the port shifted out in the last transaction; reset empty. -/
  miso : List Byte := []
  deriving DecidableEq, Repr

/-- One mailbox queue (R416, R432). -/
structure Queue where
  /-- R419 words held, head first; reset empty. -/
  words : List Word := []
  /-- R417 SIZE in force, 64 B units; reset 0x10. -/
  size : Nat := 16
  /-- R432 OPEN of a response queue; reset 0. -/
  opened : Bool := false
  /-- R432 MSGS of a response queue: words of each message or fragment held; reset empty. -/
  msgs : List Nat := []
  deriving DecidableEq, Repr

/-- A direct write held since the commit cut-off (R64, R509). -/
structure HeldWrite where
  host : HostId
  addr : Nat
  value : Word
  deriving DecidableEq, Repr

/-- What a loop slot's LOOP_MODE changes (R322). -/
structure LoopOrder where
  slot : Nat
  mode : Option Nat
  target : Option Int
  manOut : Option Int
  clear : Nat
  deriving DecidableEq, Repr

/-- What LOOP_TUNE starts (R334, R454). -/
structure TuneOrder where
  slot : Nat
  method : Nat
  amp : Int
  eps : Int
  xlim : Int
  freq : Nat
  timeout : Nat
  m : Nat
  d : Nat
  l : Nat
  host : HostId
  pair : Nat
  tag : Nat
  deriving DecidableEq, Repr

/-- A Legend change set (R473): fields changed, and who changed them; `bulk` where the position fields were staged; `drop`
the changed keys for which a loaded image holds no record (R469, R472), whose value in `fields` is the reset value. -/
structure ChangeSet where
  fields : SMap Nat
  version : Nat
  host : Nat
  level : Nat
  bulk : Bool
  drop : List Nat
  deriving DecidableEq, Repr

/-- A setting that has landed and takes effect at the next boundary (R19, R64). -/
inductive Landed where
  | device (s : Setting)
  | swpCtrl (v : Word)
  | errCtrl (v : Word)
  | requestConfig
  | withdrawConfig
  | legend (c : ChangeSet)
  | traverse
  | loopMode (o : LoopOrder)
  | loopTune (o : TuneOrder)
  | channel (n : Nat) (close : Bool)
  | password (level : Nat) (pw : List Byte) (host : HostId) (hostLevel : Nat)
  | firmware (sDies : Bool) (positions : List Nat) (host : HostId) (hostLevel : Nat)
  | survey (positions : List Nat)
  | position (p : Nat) (groups : List Nat)
  | supplyRestart (n : Nat)
  | dormant
  deriving DecidableEq, Repr

/-- The sweep and commit block of the head (R52 to R74). -/
structure SweepSt where
  /-- R55 number of the running sweep, counted without wrap; the first boundary gives 0; reset none. -/
  count : Option Nat := none
  /-- R52 PERIOD in force (SWP_ACT.PERIOD, R510); reset 0b001. -/
  period : Nat := 1
  /-- R71 TICKDIV in force (SWP_ACT.TICKDIV); reset 0b000. -/
  tickdiv : Nat := 0
  /-- R57 SWP_CTRL shadow; reset 0x00000001. -/
  shadow : Word := 1
  /-- R405 ERR_CTRL shadow; reset 0x00010A00. -/
  errShadow : Word := 0x00010A00
  /-- R53 instant of the running sweep's boundary; reset 0. -/
  boundary : Nat := 0
  /-- R53, R496 instant of the next boundary; reset 50 ms after the start. -/
  nextB : Nat := 50000000
  /-- R64 SWP_STAT.HOLD; reset 0. -/
  hold : Bool := false
  /-- R57 SWP_STAT.REJ; reset 0. -/
  rej : Bool := false
  /-- R57 SWP_STAT.OVR; reset 0. -/
  ovr : Bool := false
  /-- R57 SWP_STAT.LASTSUB; reset 0x00. -/
  lastSub : Nat := 0
  /-- R57 SWP_STAT.EPOCH; reset 0x0000. -/
  epoch : Nat := 0
  /-- R57 SWP_ALIGN FLYWHEEL, OTHERDIR, UNSYNC; reset 0. -/
  flywheel : Nat := 0
  otherDir : Nat := 0
  unsync : Nat := 0
  /-- R64 writes held, in order of arrival; reset none. -/
  held : List HeldWrite := []
  /-- R65 settings landed, in order; reset none. -/
  landed : List Landed := []
  /-- R64 settings of the device's own that arrived after the cut-off; reset none. -/
  landNext : List Landed := []
  /-- R66 record frozen at the cut-off and not yet superseded; reset none. -/
  record : Option CommitMsg := none
  /-- R68, R266 records to be sent again after the upstream window, and the position that asked; reset none. -/
  resends : List (Nat × CommitMsg) := []
  /-- R68 last records sent, kept to send again; reset none. -/
  sentRecords : List CommitMsg := []
  /-- R69 reaction records waiting for the reaction cut-off; reset none. -/
  reactions : List Setting := []
  /-- R69 reaction records waiting because the cut-off has passed; reset none. -/
  reactNext : List Setting := []
  /-- R69 past the reaction cut-off of this sweep; reset 0. -/
  reactCut : Bool := false
  /-- R260 SEQ counter of downstream frames; reset 0. -/
  seq : Nat := 0
  /-- R266 downstream frames that wait for a later sweep; reset none. -/
  downWait : List Frame := []
  /-- R266 character periods that the head's downstream frames have taken in this sweep; reset 0. -/
  downUsed : Nat := 0
  /-- R71 ticks run in this sweep; reset 0. -/
  tick : Nat := 0
  /-- R123 the ATLAS deadline of this sweep has passed; reset 0. -/
  deadline : Bool := false
  /-- R74 the derived records of this sweep, its fault evaluation, are late (sub-codes 0x03, 0x04); reset 0. -/
  derivedLate : Bool := false
  evalLate : Bool := false
  /-- R74 Atlas indices whose write is late in this sweep (sub-code 0x02); reset none. -/
  lateIdx : List Nat := []
  /-- R272 reduced quota committed; reset 0. -/
  reduced : Bool := false
  /-- R264 RING byte of the last header; reset 0. -/
  ringByte : Nat := 0
  deriving DecidableEq, Repr

/-- One Legend image copy (R468, R475). -/
structure Image where
  /-- R468 VERSION. -/
  version : Nat
  /-- R468 SWEEP. -/
  sweep : Nat
  /-- R468 HOST. -/
  host : Nat
  /-- R468 LEVEL. -/
  level : Nat
  /-- R468 DONE is written. -/
  done : Bool
  /-- R475 the CRC is correct. -/
  valid : Bool
  /-- R475 the copy is erased. -/
  erased : Bool
  /-- R469 field records, by identity × 65536 + index. -/
  fields : SMap Nat
  deriving DecidableEq, Repr

/-- A Gazetteer entry (R464, R479). -/
structure GazRec where
  seq : Nat
  sweep : Nat
  host : Nat
  level : Nat
  field : Nat
  oldCrc : Word
  newCrc : Word
  deriving DecidableEq, Repr

/-- A bulk operation being staged by the head (R67, R444, R474, R480). -/
structure Bulk where
  /-- R264 object: 1 Survey table, 2 Legend fields, 3 firmware. -/
  object : Nat
  host : HostId
  pair : Nat
  tag : Nat
  /-- positions still to verify and positions verified. -/
  need : List Nat
  ok : List Nat
  /-- failed stagings so far, by position. -/
  fails : List Nat
  /-- positions to which the whole object has been sent, with the SEQ of its last frame. -/
  sent : List (Nat × Nat)
  /-- the head itself stages it after an adoption (R283 item 6): no host waits for a response. -/
  own : Bool
  bytes : List Byte
  table : List Word
  change : SMap Nat
  /-- R472 as ChangeSet.drop. -/
  drop : List Nat
  /-- R462, R474 what was staged when the commit was taken, for a commit that fails. -/
  staged : SMap Nat
  loaded : Option (SMap Nat)
  deriving DecidableEq, Repr

/-- The firmware update of one target (R465, R480). -/
structure FwUpdate where
  target : Nat
  step : Nat
  size : Nat
  crc : Word
  positions : Nat
  data : List Byte
  done : Nat
  posOk : Nat
  deriving DecidableEq, Repr

/-- Legend, passwords, Gazetteer and firmware of the C-die (R468 to R483). -/
structure LegendSt where
  /-- R475, R544 the two flash copies; delivered one valid image of version 1, the other erased. -/
  copyA : Image := ⟨1, 0, 2, 0, true, true, false, []⟩
  copyB : Image := ⟨0, 0, 0, 0, false, false, true, []⟩
  /-- R475 which copy is active: true = B; delivered A. -/
  useB : Bool := false
  /-- R475 active image in working memory; at C-die start the chosen copy. -/
  active : Image := ⟨1, 0, 2, 0, true, true, false, []⟩
  /-- R475 LEG_STAT.FALLBK; reset 0 (R544). -/
  fallback : Bool := false
  /-- R471 staged fields; reset none. -/
  staged : SMap Nat := []
  /-- R472 loaded image; reset none. -/
  loaded : Option (SMap Nat) := none
  /-- R472 build area and words written; reset none. -/
  build : Option (List Host.Cell × List Nat) := none
  /-- R477 OPERATOR and SERVICE passwords, C-die flash; delivered "Op-2448a" and "Sv-2448a". -/
  pwOperator : List Byte := [0x4F, 0x70, 0x2D, 0x32, 0x34, 0x34, 0x38, 0x61]
  pwService : List Byte := [0x53, 0x76, 0x2D, 0x32, 0x34, 0x34, 0x38, 0x61]
  /-- R477 a password holds its delivery value (OPERATOR, SERVICE); delivered 1. -/
  pwDefault : Bool × Bool := (true, true)
  /-- R479 Gazetteer, newest first, C-die flash; delivered empty. -/
  gaz : List GazRec := []
  /-- R479 next SEQ; delivered 0. -/
  gazSeq : Nat := 0
  /-- R475 entries of the change sets in effect that are not yet written, and the version whose DONE awaits them; reset none. -/
  gazPend : List GazRec := []
  donePend : Bool := false
  /-- R479 host and level of an ordered substitution or revert, by 24 × position + cell - 1; reset none. -/
  substBy : SMap (Nat × Nat) := []
  /-- R283 Survey tables that the head holds, by position: those that SURVEY_LOAD has activated; delivered none. -/
  tables : SMap (List Word) := []
  /-- R67 bulk operations being staged; reset none. -/
  bulk : List Bulk := []
  /-- R480 firmware update in progress; reset none. -/
  fw : Option FwUpdate := none
  /-- R482 C-die firmware release running; delivered 0x0401. -/
  release : Nat := 0x0401
  /-- R480 the C-die slot that is not running holds a verified new image, by its CRC-32C; reset none. -/
  newSlot : Option Word := none
  /-- R482 release of the previous slot; delivered 0x0401. -/
  prevRelease : Nat := 0x0401
  /-- R479 CRC-32C of the images that run and that ran before: C-die, S-dies; none for the image of delivery. -/
  runCrc : Option Word × Option Word := (none, none)
  prevCrc : Option Word × Option Word := (none, none)
  /-- R482 instant of the first start of the new slot; reset none. -/
  firstStart : Option Nat := none
  /-- R476 LEG_STAT.SPARES is this count less the sectors retired; reset 0 retired. -/
  retired : Nat := 0
  deriving DecidableEq, Repr

/-- A source of a fault class (R392). -/
structure Source where
  cls : Nat
  sub : Nat
  pos : Nat
  detail : Nat
  deriving DecidableEq, Repr

/-- A latch of the collector (R393). -/
structure Latch where
  latched : Bool := false
  acked : Bool := false
  ovf : Bool := false
  sev : Nat := 0
  occ : Nat := 0
  sub : Nat := 0
  pos : Nat := 0
  detail : Nat := 0
  sweep : Nat := 0
  value : Word := 0
  escSweep : Nat := 0
  deriving DecidableEq, Repr

/-- A cause that is present (R392); `event` marks an event source (R391), which lapses at the next boundary. -/
structure Cause where
  src : Source
  event : Bool
  value : Word
  masked : Bool
  deriving DecidableEq, Repr

/-- A record of the fault log (R406, R464). -/
structure LogRec where
  seq : Nat
  kind : Nat
  cls : Nat
  sub : Nat
  pos : Nat
  detail : Nat
  sweep : Nat
  value : Word
  deriving DecidableEq, Repr

/-- An open masking interval (R399). -/
structure MaskRec where
  kind : MaskKind
  untilNs : Nat
  deriving DecidableEq, Repr

/-- The fault collector and ERR_OUT (R381 to R406). -/
structure Collector where
  /-- R393 one latch per class, index 0 unused; reset clear. -/
  latches : List Latch := List.replicate 32 {}
  /-- R392 causes present; reset none. -/
  causes : List Cause := []
  /-- R406 fault log, newest first; reset empty. -/
  log : List LogRec := []
  /-- R406 next sequence number; reset 0. -/
  logSeq : Nat := 0
  /-- R405 ERR_STAT.FIRST; reset 0x00. -/
  first : Nat := 0
  /-- R405 ERR_STAT.OCC; reset 0x0000. -/
  occ : Nat := 0
  /-- R405 ERR_STAT.FWDOG; reset 0. -/
  fwdog : Bool := false
  /-- R399 masking intervals open; reset none. -/
  masks : List MaskRec := []
  /-- R405 ERR_CTRL in force; reset 0x00010A00. -/
  ctrl : Word := 0x00010A00
  /-- R402 ERR_OUT driven low; reset 1. -/
  errLow : Bool := true
  /-- R402 low since this instant; reset the start. -/
  lowSince : Nat := 0
  /-- R402 no sweep boundary yet since the start; reset 1. -/
  beforeFirst : Bool := true
  /-- R404 instant of the last heartbeat service; reset the start. -/
  heartbeat : Nat := 0
  /-- R404 the heartbeat has not been serviced for 10 ms; reset 0. -/
  stalled : Bool := false
  /-- R403 the compatibility square wave runs; reset 0. -/
  wave : Bool := false
  deriving DecidableEq, Repr

/-- Phases of a contactor channel (R343). -/
inductive Phase where
  | opened
  | pull
  | hold
  | drop
  | blocked
  deriving DecidableEq, Repr

/-- One contactor channel (R343 to R352). -/
structure Channel where
  /-- R352 PHASE; reset OPEN. -/
  phase : Phase := .opened
  /-- R352 CMD; reset 0. -/
  cmd : Bool := false
  /-- R352 KF; reset 0. -/
  kf : Bool := false
  /-- R345, R348 t_0 of the last pull-in or drop-out; reset 0. -/
  t0 : Nat := 0
  /-- R345 instant of entering HOLD; reset none. -/
  holdAt : Option Nat := none
  /-- R348 the drop was caused by the channel's own fault; reset 0. -/
  ownFault : Bool := false
  /-- R348 WELD 0x01 already raised for this drop; reset 0. -/
  welded : Bool := false
  /-- R352 LASTREF; reset 0b000. -/
  lastRef : Nat := 0
  /-- R352 TPI, ms; reset 0. -/
  tpi : Nat := 0
  /-- R352 TDO, 2 ms units; reset 0. -/
  tdo : Nat := 0
  /-- R349 every KSn reading since this instant lies below COIL_MIN; reset none. -/
  lowAt : Option Nat := none
  /-- R349 every KSn reading since this instant lies above COIL_MIN; reset none. -/
  highAt : Option Nat := none
  /-- R349 consecutive KSn readings above COIL_MAX; reset 0. -/
  overCnt : Nat := 0
  /-- R338 latest KSn reading, mA; reset 0. -/
  ks : Nat := 0
  /-- R352 KLRB: the KLn pin read on in the last tick; reset 0. -/
  klOn : Bool := false
  /-- R315, R540 duty of KLn applied by a coil loop, Q16.16 percent; reset 0. -/
  duty : Int := 0
  /-- R349 a KHn or KLn pin differs from its command; reset 0. -/
  pinBad : Bool := false
  deriving DecidableEq, Repr

/-- One two-channel input (R356 to R366). -/
structure SafeIn where
  /-- R366 A; reset 0. -/
  a : Bool := false
  /-- R366 B; reset 0. -/
  b : Bool := false
  /-- R366 ACT; reset 0. -/
  act : Bool := false
  /-- R366 DISC; reset 0. -/
  disc : Bool := false
  /-- R366 RWAIT; reset 0. -/
  rwait : Bool := false
  /-- R359 discrepancy time runs since this instant; reset none. -/
  discAt : Option Nat := none
  /-- R359 the position agreed on before the discrepancy was the active one; reset 0. -/
  wasActive : Bool := false
  /-- R366 SKEW, 50 µs units; reset 0. -/
  skew : Nat := 0
  /-- R358 the change to the active position has been accepted; reset 0. -/
  accepted : Bool := false
  /-- R361 the cause of SAFEIN 0x02 is armed: the input has been ACTIVE since the start; reset 0. -/
  wasAct : Bool := false
  /-- R363 both channels stand safe since this instant; reset none. -/
  safeAt : Option Nat := none
  /-- R366 IDLE; reset 0. -/
  idle : Bool := false
  /-- R363 IDLE stood at the first channel's change; reset 0. -/
  idleBefore : Bool := false
  /-- R364 active since the recognition at this instant; reset none. -/
  pressedAt : Option Nat := none
  /-- R366 STK; reset 0. -/
  stuck : Bool := false
  deriving DecidableEq, Repr

/-- The contactors, the trip path and the safety inputs (R338 to R366). -/
structure SafetySt where
  /-- R343 channels K1 to K6. -/
  ch : List Channel := List.replicate 6 {}
  /-- R354 trip latch; reset set. -/
  tripLatch : Bool := true
  /-- R363 ARMED; reset 0. -/
  armed : Bool := false
  /-- R363 trip sources that blocked the last RESTART edge, coded as TRIPSRC; reset 0. -/
  blockedBy : Nat := 0
  /-- R356 SI1 to SI4 and RESTART. -/
  inputs : List SafeIn := List.replicate 5 {}
  /-- R353 S_ERR is seen asserted or its levels equal; reset 0. -/
  sErr : Bool := false
  /-- R401 S_ERR asserted since this instant; reset none. -/
  sErrAt : Option Nat := none
  /-- R353 C-die over-temperature; reset 0. -/
  overTemp : Bool := false
  /-- R353 C-die watchdog; reset 0. -/
  watchdog : Bool := false
  /-- R353 asserted sources at the last evaluation, coded as TRIPSRC; reset 0. -/
  lastSrc : Nat := 0
  /-- R355 the check for WELD 0x02 has not begun since the start or a watchdog reset; reset 1. -/
  weldDue : Bool := true
  /-- R365 the COUPLED input is ACTIVE since this instant; reset none. -/
  cplAt : Option Nat := none
  /-- R365, R380 the combination is coupled; reset 0. -/
  coupled : Bool := false
  /-- R35 SL pair equal: S_ERR pair seen by the C-die, C_ERR pair seen by the S-die; reset 0. -/
  slEqual : Bool × Bool := (false, false)
  deriving DecidableEq, Repr

/-- States of the session machine (R375). -/
inductive SState where
  | idle
  | connecting
  | accepted
  | failed
  deriving DecidableEq, Repr

/-- The session machine of the safe frames (R367 to R380). -/
structure SessionSt where
  /-- R375 state; reset IDLE. -/
  st : SState := .idle
  /-- R375 session number in force; reset 0. -/
  number : Nat := 0
  /-- R372 SEQ of the next frame formed; reset 0. -/
  ownSeq : Nat := 0
  /-- R373 last accepted partner SEQ; reset 0. -/
  partSeq : Nat := 0
  /-- R373 last accepted partner TSTAMP; reset 0. -/
  partTs : Nat := 0
  /-- R374 failure count; reset 0. -/
  failCnt : Nat := 0
  /-- R456 LASTFAIL; reset 0. -/
  lastFail : Nat := 0
  /-- R373 CONNECT frames of this session: TSTAMP and instant of formation; reset none. -/
  connects : List (Nat × Nat) := []
  /-- R374 instant of the first CONNECT; reset 0. -/
  firstAt : Nat := 0
  /-- R372 instant from which SF_TPER counts; reset 0. -/
  sentAt : Nat := 0
  /-- R374 instant of the last accepted frame; reset 0. -/
  accAt : Nat := 0
  /-- R375 IDLE after a DISCONNECT since this instant, to reconnect after 1 s; reset none. -/
  reconnectAt : Option Nat := none
  /-- R456 last accepted PARTNER payload, 10 bytes; reset 0. -/
  partner : List Byte := List.replicate 10 0
  /-- R456 opaque bytes of the accepted ACCEPT; reset 0. -/
  accOpaque : List Byte := [0, 0, 0]
  deriving DecidableEq, Repr

/-- Modes of a loop slot (R320 MODE). -/
inductive LoopMode where
  | unused
  | manual
  | auto
  | tune
  | held
  | fallback
  deriving DecidableEq, Repr

/-- One slot of the control engine (R311 to R337). Values are Q16.16; `i` and `rr` carry 32 further fraction bits. -/
structure LoopSlot where
  /-- R320 MODE; reset unused. -/
  mode : LoopMode := .unused
  /-- R321 target r; reset 0. -/
  r : Int := 0
  /-- R317 ramped set-point, Q16.48; reset 0. -/
  rr : Int := 0
  /-- R317 integrator, Q16.48; reset 0. -/
  i : Int := 0
  /-- R319 derivative state; reset 0. -/
  d : Int := 0
  /-- R319 y_prev; reset 0. -/
  yPrev : Int := 0
  /-- R324 manual output; reset 0. -/
  manOut : Int := 0
  /-- R323 last applied output; reset 0. -/
  uLast : Int := 0
  /-- R320 SAT, WND, RLIM; reset 0. -/
  sat : Bool := false
  wnd : Bool := false
  rlim : Bool := false
  /-- R320 TRK; reset 0. -/
  trk : Bool := false
  /-- R320 FBLOST; reset 0. -/
  fbLost : Bool := false
  /-- R320 FROZEN; reset 0. -/
  frozen : Bool := false
  /-- R331 sample at the detection of FROZEN; reset 0. -/
  frozenAt : Int := 0
  /-- R320 WAIT; reset 0. -/
  waiting : Bool := false
  /-- R320 TUNE; reset 0b00. -/
  tune : Nat := 0
  /-- R320 ABORT; reset 0x0000. -/
  abort : Nat := 0
  /-- R331 feedback and output of the last ticks of AUTO, newest first; reset empty. -/
  window : List (Int × Int) := []
  /-- R323 the next tick is a transfer tick; reset 0. -/
  transfer : Bool := false
  /-- R319 error of the last tick; reset 0. -/
  e : Int := 0
  /-- R326 the slot has been started since the C-die start; reset 0. -/
  started : Bool := false
  /-- R328 y_prev takes the next feedback sample; reset 0. -/
  fresh : Bool := false
  deriving DecidableEq, Repr

/-- A tuning in progress (R334 to R337). -/
structure Tuning where
  o : TuneOrder
  /-- R336 injection from AUTO. -/
  fromAuto : Bool
  /-- R335 manual output at the start, Q16.16. -/
  u0 : Int
  /-- instant of the start. -/
  startAt : Nat
  /-- ticks run. -/
  ticks : Nat
  /-- R335 the relay output is u0 + h. -/
  high : Bool
  /-- R335 tick of the last switch to u0 + h; none before the first. -/
  cycleStart : Option Nat
  /-- R335 measured cycles: length in ticks and max(y) - min(y); the newest first, the discarded first cycle among them. -/
  cycles : List (Nat × Int)
  /-- R335 extremes of y since the last switch. -/
  yMax : Int
  yMin : Int
  /-- R336 captured points not yet sent (y, u), newest first. -/
  points : List (Int × Int)
  /-- R337 points already sent. -/
  sentPts : Nat
  /-- R336 LFSR state. -/
  lfsr : Nat
  deriving DecidableEq, Repr

/-- One location of the Chassis page (R124). -/
structure ChassisRec where
  acc : Acc := {}
  entry : Entry
  /-- R314 latest sample and whether it carries INV; reset none. -/
  latest : Option (Int × Bool) := none
  /-- R74 the entry that the location held before the close of the running sweep's boundary; reset none. -/
  prev : Option Entry := none
  /-- R74 an entry whose write misses its sweep, and completes in the next; reset none. -/
  late : Option Entry := none
  deriving DecidableEq, Repr

/-- One SENT channel (R387, R536 to R538). -/
structure SentCh where
  /-- R387 consecutive bad messages; reset 0. -/
  bad : Nat := 0
  /-- R387 consecutive valid messages; reset 0. -/
  good : Nat := 0
  /-- R387 consecutive valid messages with status bit 0 set; reset 0. -/
  stBad : Nat := 0
  /-- R387 consecutive valid messages with status bit 0 clear; reset 0. -/
  stGood : Nat := 0
  /-- R538 calibration pulse of the previous message, if it passed; reset none. -/
  prevCal : Option Nat := none
  /-- R387 instant of the last valid message, or of the allowed start; reset 0. -/
  lastAt : Nat := 0
  /-- R387 SPn is switched on; reset 0. -/
  supply : Bool := false
  /-- R387 SPn was switched off for a restart at this instant; reset none. -/
  offAt : Option Nat := none
  /-- R387 SPn was switched on after a restart at this instant; reset none. -/
  onAt : Option Nat := none
  /-- R387 SPn reached its limit since it was switched on; reset 0. -/
  limited : Bool := false
  /-- R197 consecutive current samples beyond +OC_DIS, beyond -OC_CHG, within; reset 0. -/
  ocDis : Nat := 0
  ocChg : Nat := 0
  ocIn : Nat := 0
  ocFirst : Int := 0
  deriving DecidableEq, Repr

/-- A system calibration sequence of one channel (R181 to R183). -/
structure SysCal where
  chan : Nat
  /-- offset of the accepted ZERO and the instant of its acceptance. -/
  zero : Option (Int × Nat)
  /-- step being measured (0 ZERO, 1 SPAN), its start and IREF. -/
  measuring : Option (Nat × Nat × Int)
  /-- R182 raw samples of the running measurement. -/
  acc : Acc
  host : HostId
  pair : Nat
  tag : Nat
  deriving DecidableEq, Repr

/-- One current sample held by the head: instant, code (or mA), overranging; `raw` before the system factors (R192, R182). -/
structure CurSample where
  at' : Nat
  code : Int
  ovl : Bool
  raw : Int
  deriving DecidableEq, Repr

/-- A written Atlas entry kept for the detectors that need earlier windows (R128, R171, R199). -/
structure Written where
  index : Nat
  close : Nat
  entry : Entry
  deriving DecidableEq, Repr

/-- An entry that waits at the head: its Atlas index, the boundary that closed its window, and the entry (R74, R120). -/
abbrev Waiting := Written

/-- What the head tracks of one record (R120, R121, R128). -/
structure RecTrack where
  /-- R275 close of the newest window written or lost, none before the first. -/
  done : Option Nat := none
  /-- R120 close of the newest window written, none before the first. -/
  wrote : Option Nat := none
  /-- R121 the next entry written carries GAP. -/
  gapNext : Bool := false
  /-- R128 primed windows closed since the last start. -/
  primed : Nat := 0
  /-- R385, R300, R307 consecutive judged entries at the upper and lower level. -/
  hi : Nat := 0
  lo : Nat := 0
  /-- R295 consecutive windows without a usable entry. -/
  miss : Nat := 0
  /-- R299 latest usable entry. -/
  usable : Option Entry := none
  deriving DecidableEq, Repr

/-- What the head tracks of one position (R274 to R276, R286). -/
structure PosTrack where
  /-- R279 factory identity; reset 0. -/
  id : Word := 0
  /-- R283 sweep of the adoption at which the device last took its position; reset 0. -/
  since : Nat := 0
  /-- R275 sweep of the adoption from which the head follows the position's records; reset 0. -/
  trackFrom : Nat := 0
  /-- R274 next SEQ expected, none before the first; reset none. -/
  nextSeq : Option Nat := none
  /-- R274 frames held after a missing SEQ; reset none. -/
  heldF : List (Nat × List Item) := []
  /-- R275 a declared loss awaits the next entry item; reset 0. -/
  openLoss : Bool := false
  /-- R276 sweep of the last frame; reset 0. -/
  lastSweep : Nat := 0
  /-- R276 silent; reset 0. -/
  silent : Bool := false
  /-- R253 latest reported link words; reset 0. -/
  linkE : Word := 0
  linkW : Word := 0
  /-- R286 port E, W reported down; reset 0. -/
  downE : Bool := false
  downW : Bool := false
  /-- R274 sweep of the last RING_LINK 0x01 report; reset none. -/
  linkAt : Option Nat := none
  /-- R441 DFLAGS of the last pass; reset 0. -/
  dflags : Nat := 0
  /-- R441 preferred direction, true = W, and path latencies; reset 0. -/
  prefW : Bool := false
  latE : Nat := 0
  latW : Nat := 0
  /-- R294 SENSOR sub-codes reported by the device, by input; reset none. -/
  broken : SMap Nat := []
  /-- R170 BENCH causes 0x01 to 0x06 reported present; reset none. -/
  bench : List Nat := []
  deriving DecidableEq, Repr

/-- One pass of a Traverse as the head sees it (R281). -/
structure PassResult where
  valid : Bool
  ovl : Bool
  n : Nat
  closed : Bool
  ids : List Word
  hopsE : List Nat
  hopsW : List Nat
  lambdas : List (Nat × Nat)
  latE : List Nat
  latW : List Nat
  dflags : List Nat
  links : List (Word × Word)
  deriving DecidableEq, Repr

/-- Traverse at the head (R277 to R284). -/
structure TraverseSt where
  /-- R279 TRAV; reset 0. -/
  trav : Nat := 0
  /-- R277 triggered: waits for the next boundary; reset 0. -/
  trigger : Bool := false
  /-- R277 instant of the latest trigger; reset 0. -/
  trigAt : Nat := 0
  /-- R277, R282 a boundary has come at which a pass may start; reset 0. -/
  due : Bool := false
  /-- R277 a Traverse runs; reset 0. -/
  running : Bool := false
  /-- R279 PASS; reset 0. -/
  pass : Nat := 0
  /-- R278 a pass is in progress; reset 0. -/
  passOpen : Bool := false
  /-- R278 instant at which the pass began; reset 0. -/
  passAt : Nat := 0
  /-- R277 instant at which the pass before it began; reset 0. -/
  prevAt : Nat := 0
  /-- R278 tokens sent in the pass: on E, on W; reset no. -/
  sentE : Bool := false
  sentW : Bool := false
  /-- R278 tokens returned: sent on E, sent on W, with the port of return; reset none. -/
  backE : Option (Token × RPort) := none
  backW : Option (Token × RPort) := none
  /-- R282 result of the previous pass; reset none. -/
  prev : Option PassResult := none
  /-- R282 retries; reset 0. -/
  retries : Nat := 0
  /-- R441 RESULT; reset 5. -/
  result : Nat := 5
  /-- R277 retry 1 s after this instant; reset none. -/
  retryAt : Option Nat := none
  /-- R283 adoption decided and waiting for s_a; reset none. -/
  adopting : Option (AdoptMsg × PassResult) := none
  /-- R283 adopted count, form and s_a of the adoption in force; reset 0. -/
  n : Nat := 0
  closed : Bool := false
  sa : Nat := 0
  /-- R489 the latest Traverse has settled and its adoption has taken effect; reset 0. -/
  settled : Bool := false
  /-- R475, R441 TRAV of the adoption in force; reset 0. -/
  adoptedTrav : Nat := 0
  deriving DecidableEq, Repr

/-- Contour derating at the head (R299 to R306). -/
structure ContourSt where
  /-- R304 published steps; reset 0. -/
  pubC : Nat := 0
  pubD : Nat := 0
  /-- R304 timers D and U of each direction run since this instant; reset stopped. -/
  dC : Option Nat := none
  dD : Option Nat := none
  uC : Option Nat := none
  uD : Option Nat := none
  /-- R299 pack temperatures of the latest evaluation, 0.01 °C; reset none. -/
  tHot : Option Int := none
  tCold : Option Int := none
  /-- R306 sensors that gave T_hot at the last evaluation, as 32 × position + input - 1; reset none. -/
  hotAt : List Nat := []
  /-- R306 sensor whose failure holds the steps, and the restart of D; reset none. -/
  failed : Option (Nat × Nat) := none
  /-- R305 charge and discharge step caps in force; reset 15. -/
  capC : Nat := 15
  capD : Nat := 15
  /-- R377 a cap lowers a published limit in this sweep; reset 0. -/
  lowered : Bool := false
  /-- R304 steps published, changed at a boundary; reset 0. -/
  outC : Nat := 0
  outD : Nat := 0
  deriving DecidableEq, Repr

/-- A pending spot reading in one of the four slots (R147, R445). -/
structure SpotSlot where
  host : HostId
  pair : Nat
  tag : Nat
  pos : Nat
  entry : Word
  acceptSweep : Nat
  acceptAt : Nat
  /-- R151 readings of the slot that were reported lost and that the device still holds; their results are discarded. -/
  stale : Nat
  /-- R147 the result, or the loss, waits to be placed in the response queue. -/
  answered : Bool
  deriving DecidableEq, Repr

/-- The latest result of one cell and bin (R451): integrations run, SM, SP and the sweep of the result. -/
structure SndCell where
  cell : Nat
  bin : Nat
  result : Nat
  tries : Nat
  sm : Int
  sp : Int
  sweep : Nat
  deriving DecidableEq, Repr

/-- A Sounding at the head: the report being collected (R208, R451). -/
structure SndReport where
  host : HostId
  pair : Nat
  tag : Nat
  pos : Nat
  cells : Nat
  bins : Nat
  cycles : List Nat
  startSweep : Nat
  /-- latest result of each cell and bin. -/
  results : List SndCell
  deriving DecidableEq, Repr

/-- Who asked for a self-test (R447). -/
structure Asker where
  host : HostId
  pair : Nat
  tag : Nat
  deriving DecidableEq, Repr

/-- The head's derived measurements (R171 to R201). -/
structure DerivedSt where
  /-- R192 shunt samples, newest first; reset empty. -/
  shunt : List CurSample := []
  /-- R193 valid SENT current samples, newest first; reset empty. -/
  sent : List CurSample := []
  /-- R195 sweep from which the plausibility spans count; reset 0. -/
  plFrom : Nat := 0
  /-- R196 consecutive failing and passing judged spans, and cause; reset 0. -/
  plFail : Nat := 0
  plPass : Nat := 0
  /-- R172 consecutive failing spans by cell, as 24 × position + cell - 1; reset empty. -/
  chk : SMap Nat := []
  /-- R398 cells judged in the latest span of a position, as a mask; reset none. -/
  chkMask : SMap Nat := []
  /-- R176 cells 1 or 24 that bled since the span opened, by position; reset none. -/
  bled : SMap Bool := []
  /-- R200 boundary at which DR_SPAN took effect; reset 0. -/
  drFrom : Nat := 0
  /-- R398 Triangulation status by position (0 not armed, 1 pass, 2 cause, 3 not judged); reset empty. -/
  triStat : SMap Nat := []
  /-- R181 system calibration sequences; reset none. -/
  sysCal : List SysCal := []
  /-- R147 pending spot readings, four slots; reset none. -/
  spots : List (Option SpotSlot) := [none, none, none, none]
  /-- R447 who asked for the pending self-test of a position; reset none. -/
  tests : SMap Asker := []
  /-- R208 Soundings being collected; reset none. -/
  reports : List SndReport := []
  /-- R113, R120 earlier windows of the position groups, by 9 × position + group, newest first; reset none. -/
  posPast : SMap (List Window) := []
  /-- R72, R120 entries of the head's own records that are due and not yet written, oldest first; reset none. -/
  headDue : List Waiting := []
  /-- R74 entries whose write is delayed into the next sweep; reset none. -/
  lateIn : List Waiting := []
  /-- R74 written entries that are evaluated first in the next sweep; reset none. -/
  evalWait : List Waiting := []
  deriving DecidableEq, Repr

/-- Power, reset and cores of the C-die and the barrier (R485 to R502, R32 to R35). -/
structure PowerSt where
  /-- R486 VSUP stands above the power-on-reset threshold; reset 1. -/
  vsup : Bool := true
  /-- R310 VSUP fell below it at this instant; reset none. -/
  vsupFell : Option Nat := none
  /-- R502 RESET_N is high; reset 1. -/
  resetN : Bool := true
  /-- R486 instant of the later of VSUP rising and RESET_N going high; reset 0. -/
  readyAt : Nat := 0
  /-- R486 the C-die is out of reset; reset 1. -/
  running : Bool := true
  /-- R496 instant of the C-die start; reset 0. -/
  startAt : Nat := 0
  /-- R488 operating state; reset WAKE. -/
  op : OpState := .wake
  /-- R494 CFGREQ; reset 0. -/
  cfgReq : Bool := false
  /-- R494 SWP_STATE.REJ; reset 0. -/
  stRej : Bool := false
  /-- R494 DROP; reset 0b000. -/
  drop : Nat := 0
  /-- R309 LOCKED latch, always-on domain; reset 0. -/
  locked : Bool := false
  /-- R375 previous session number, always-on domain; reset 0. -/
  prevSession : Nat := 0
  /-- R390 the supervisor core is in reset since this instant, and for how long at most; reset none. -/
  coreReset : Option (Nat × Nat) := none
  /-- R390 the reset is a watchdog reset; reset 0. -/
  coreWd : Bool := false
  /-- R528 the crystal runs; reset 1. -/
  crystal : Bool := true
  /-- R32 lanes U1, U2, D1 are lost; reset none. -/
  lostLanes : List Lane := []
  /-- R34 the sweep mark is lost; reset 0. -/
  markLost : Bool := false
  /-- R37, R496 D1 has trained at the C-die; reset 0. -/
  d1 : Bool := false
  /-- R34 the reference clock runs at the head S-die; reset 0. -/
  refClock : Bool := false
  /-- R389 the reference clock returned at this instant; reset none. -/
  refAt : Option Nat := none
  /-- R390 the ring has been ordered awake; reset 0. -/
  woken : Bool := false
  /-- R402, R536 SENTVS is below 4.0 V; reset 0. -/
  sentvsLow : Bool := false
  /-- R526 consecutive readings outside and inside the bands, and cause: VSUP, SENTVS; reset 0. -/
  vsupBad : Nat × Nat × Bool := (0, 0, false)
  sentvsBad : Nat × Nat × Bool := (0, 0, false)
  deriving DecidableEq, Repr

/-- The whole block. -/
structure State where
  /-- The model's clock, ns since State.reset (R20); reset 0. -/
  now : Nat := 0
  /-- The commands that wait, first in, first out; reset empty. -/
  pending : List Instr := []
  /-- FREE VALUE: how many open values have been drawn; the model's own, and no reset changes it. Reset 0 (DESIGN CHOICE, log 3). -/
  draws : Nat := 0
  /-- R485 to R502 power, reset and barrier. -/
  pw : PowerSt := {}
  /-- R52 to R74 sweep and commit. -/
  swp : SweepSt := {}
  /-- R468 to R483 Legend, passwords, Gazetteer, firmware. -/
  leg : LegendSt := {}
  /-- R415 HOST A and HOST B. -/
  portA : HostPort := {}
  portB : HostPort := {}
  /-- R423 Zardo served HOST A last; reset 0. -/
  lastA : Bool := false
  /-- R416 the 64 queues. -/
  queues : List Queue := List.replicate 64 {}
  /-- R428 owner of each of the 16 semaphores; reset free. -/
  sems : List (Option HostId) := List.replicate 16 none
  /-- R381 to R406 fault collector. -/
  flt : Collector := {}
  /-- R338 to R366 contactors and safety inputs. -/
  saf : SafetySt := {}
  /-- R367 to R380 coupling session. -/
  ses : SessionSt := {}
  /-- R311 the 16 loop slots. -/
  loops : List LoopSlot := List.replicate 16 {}
  /-- R334 tuning in progress; reset none. -/
  tuning : Option Tuning := none
  /-- R315 duty of PW1 to PW8, Q16.16 percent; reset 0. -/
  pwm : List Int := List.replicate 8 0
  /-- R299 Contour. -/
  ctr : ContourSt := {}
  /-- R119 the Atlas: entries that differ from the unpopulated entry; reset every index unpopulated. -/
  atlas : SMap Entry := []
  /-- R124 the Chassis page: the 128 locations that differ from the not-present entry; reset: the indices in use await
  their first window, the others are not present (R110). -/
  chassis : SMap ChassisRec := []
  /-- R112 windows of the Chassis groups 0x10 to 0x17. -/
  chWins : List Window := [⟨10, 0⟩, ⟨10, 0⟩, ⟨10, 0⟩, ⟨1, 0⟩, ⟨1, 0⟩, ⟨1, 0⟩, ⟨1, 0⟩, ⟨10, 0⟩]
  /-- R113 windows of the position groups as the head holds them, by 9 × position + group; reset none (Legend value, s0 of the adoption). -/
  posWins : SMap Window := []
  /-- R116 accumulators of the DR, SM and SP records, which the head computes, by Atlas index; reset empty. -/
  headAccs : SMap Acc := []
  /-- R120 tracking by Atlas index; reset empty. -/
  tracks : SMap RecTrack := []
  /-- R128 entries written, newest first; reset empty. -/
  written : List Written := []
  /-- R274 tracking by position; reset empty. -/
  poss : List PosTrack := List.replicate 32 {}
  /-- R277 Traverse. -/
  trv : TraverseSt := {}
  /-- R171 to R201 derived measurements and host requests in progress. -/
  der : DerivedSt := {}
  /-- R387 SENT channels SN1 to SN8. -/
  sent : List SentCh := List.replicate 8 {}
  /-- R29 the S-dies by ring slot; a slot whose S-die never leaves power-on reset is empty (R3). -/
  devs : List Dev := List.replicate 32 {}
  deriving DecidableEq, Repr

/-- The block right after reset: the C-die of a newly delivered device has just left its power-on reset (R25, R496, R544),
every S-die is in its power-on reset (R485), and nothing has been commanded. -/
def State.reset : State :=
  { saf := { inputs := List.replicate 4 {} ++ [{ safeAt := some 0 }] }
    chassis := ((List.range 10).map (· + 24) ++ [88, 89]).map (fun i =>
      (i, { acc := { opened := true }, entry := ⟨0, -8388608, -8388608, 0, { prm := true }⟩ })) }

end Sys2Proof.Machine
end

