-- ==== Sys2Proof/Machine/Ops.lean ====
section
/-!
DEFINITION. The named operations of the block that every command uses: lists and sparse memories, bytes and CRCs,
access to devices, ports, queues and channels, event flags, time.
-/

namespace Sys2Proof.Machine

/-- What a command answers. -/
abbrev Out := Host.Outcome State Fault Refusal

/-! ### Sparse memories in canonical form -/

/-- The entry held at key `i`. -/
def smapGet {α : Type} : SMap α → Nat → Option α
  | [], _ => none
  | (k, v) :: m, i => if i = k then some v else smapGet m i

/-- Holds `v` at key `i`, keeping the keys strictly rising. -/
def smapSet {α : Type} : SMap α → Nat → α → SMap α
  | [], i, v => [(i, v)]
  | (k, w) :: m, i, v =>
    if i < k then (i, v) :: (k, w) :: m
    else if i = k then (i, v) :: m
    else (k, w) :: smapSet m i v

/-- Removes the entry at key `i`. -/
def smapErase {α : Type} : SMap α → Nat → SMap α
  | [], _ => []
  | (k, w) :: m, i => if i = k then m else (k, w) :: smapErase m i

/-- Holds `v` at key `i` where an unlisted key reads as `dflt`: the value `dflt` is never listed. -/
def smapPut {α : Type} [DecidableEq α] (dflt : α) (m : SMap α) (i : Nat) (v : α) : SMap α :=
  if v = dflt then smapErase m i else smapSet m i v

/-- Every key of the map is at least `lo`, and the keys rise strictly. -/
def smapFrom {α : Type} (lo : Nat) : SMap α → Bool
  | [] => true
  | (k, _) :: m => decide (lo ≤ k) && smapFrom (k + 1) m

/-- The canonical form: keys strictly rising, no entry equal to what an unlisted key reads as. -/
def smapWf {α : Type} [DecidableEq α] (dflt : α) (m : SMap α) : Bool :=
  smapFrom 0 m && m.all (fun e => decide (e.2 ≠ dflt))

/-! ### Numbers, bits and bytes -/

/-- Bits [hi:lo] of a word. -/
def bits (v hi lo : Nat) : Nat := (v >>> lo) % 2 ^ (hi + 1 - lo)

/-- Bit n of a word. -/
def bit (v n : Nat) : Bool := v.testBit n

/-- The number 0 or 1 of a flag. -/
def b2n (b : Bool) : Nat := cond b 1 0

/-- A w-bit two's complement value as an integer. -/
def sext (w v : Nat) : Int :=
  let x := v % 2 ^ w
  if x < 2 ^ (w - 1) then (x : Int) else (x : Int) - (2 ^ w : Nat)

/-- An integer as a w-bit two's complement value. -/
def toBits (w : Nat) (v : Int) : Nat := (v % ((2 ^ w : Nat) : Int)).toNat

/-- `n` bytes of `v`, least significant first (R22). -/
def leBytes : Nat → Nat → List Byte
  | 0, _ => []
  | n + 1, v => BitVec.ofNat 8 v :: leBytes n (v / 256)

/-- The number that bytes spell, least significant first (R22). -/
def ofLe : List Byte → Nat
  | [] => 0
  | b :: bs => b.toNat + 256 * ofLe bs

/-- Bytes `o` to `o + n - 1` as a number; bytes beyond the end read as 0. -/
def field (b : List Byte) (o n : Nat) : Nat := ofLe ((b.drop o).take n)

/-- The four bytes of each word, in order (R409). -/
def wordsToBytes (ws : List Word) : List Byte := ws.flatMap (fun w => leBytes 4 w.toNat)

/-- Bytes gathered into words, the last padded with 0x00 (R418). -/
def bytesToWords : Nat → List Byte → List Word
  | 0, _ => []
  | _, [] => []
  | n + 1, b :: bs => BitVec.ofNat 32 (ofLe ((b :: bs).take 4)) :: bytesToWords n ((b :: bs).drop 4)

/-- Bytes as padded words. -/
def packWords (bs : List Byte) : List Word := bytesToWords ((bs.length + 3) / 4) bs

/-- A word from a number. -/
def word (v : Nat) : Word := BitVec.ofNat 32 v

/-- `n` bits of a reflected CRC register with polynomial `poly`. -/
def crcRefl (poly : Nat) : Nat → Nat → Nat
  | 0, c => c
  | n + 1, c => crcRefl poly n (if c % 2 = 1 then (c / 2) ^^^ poly else c / 2)

/-- A reflected CRC-32 over bytes, initial value and final XOR 0xFFFFFFFF. -/
def crcBytes (poly : Nat) (bs : List Byte) : Nat :=
  (bs.foldl (fun c b => crcRefl poly 8 (c ^^^ b.toNat)) 0xFFFFFFFF) ^^^ 0xFFFFFFFF

/-- The CRC-32 of ring frames (R261). -/
def crc32 (bs : List Byte) : Nat := crcBytes 0xEDB88320 bs

/-- The CRC-32C of safe frames, Legend images and tables (R369). -/
def crc32c (bs : List Byte) : Nat := crcBytes 0x82F63B78 bs

/-- `n` bits of the CRC-8 register (R410). -/
def crc8Step : Nat → Nat → Nat
  | 0, c => c
  | n + 1, c => crc8Step n (if c ≥ 128 then (c * 2 % 256) ^^^ 0x2F else c * 2)

/-- The CRC-8 of host transactions: polynomial 0x2F, initial value 0xFF (R410). -/
def crc8 (bs : List Byte) : Nat := bs.foldl (fun c b => crc8Step 8 (c ^^^ b.toNat)) 0xFF

/-- A quotient rounded to nearest, halves away from zero. -/
def divRound (n d : Int) : Int :=
  if d = 0 then 0
  else
    let s := n.sign * d.sign
    s * (((2 * n.natAbs + d.natAbs) / (2 * d.natAbs) : Nat) : Int)

/-- A rational rounded to nearest, halves away from zero. -/
def roundQ (q : Rat) : Int := divRound q.num q.den

/-- A value held between two limits. -/
def clampI (lo hi v : Int) : Int := if v < lo then lo else if v > hi then hi else v

/-- `f` applied to element `i` of a list. -/
def modAt {α : Type} (l : List α) (i : Nat) (f : α → α) : List α := l.modify i f

/-- The list with element `i` removed. -/
def dropAt {α : Type} (l : List α) (i : Nat) : List α := l.take i ++ l.drop (i + 1)

/-- The sum of a list of integers. -/
def sumI (l : List Int) : Int := l.foldl (· + ·) 0

/-- The largest of a list of integers and `d`. -/
def maxI (d : Int) (l : List Int) : Int := l.foldl max d

/-- The smallest of a list of integers and `d`. -/
def minI (d : Int) (l : List Int) : Int := l.foldl min d

/-- The median of a short list (the lower of the two middle values of an even one). -/
def insertI (v : Int) : List Int → List Int
  | [] => [v]
  | x :: l => if v ≤ x then v :: x :: l else x :: insertI v l

/-- A list of integers in ascending order. -/
def sortI (l : List Int) : List Int := l.foldr insertI []

/-! ### Time -/

/-- The clock of the model one crystal period later (log 1). -/
def State.tick (s : State) : State := { s with now := s.now + 40 }

/-- A command that a timer's end is brings the clock to that end where it stands before it (log 1). -/
def State.until (s : State) (t : Nat) : State := { s with now := max s.now t }

/-- The number nearest to `ref` that is `v` modulo `m` (the full number of a counter that wraps). -/
def unwrap (ref m v : Nat) : Nat :=
  let base := ref / m * m + v % m
  if base + m / 2 ≤ ref then base + m
  else if ref + m / 2 < base ∧ m ≤ base then base - m
  else base

/-- Milliseconds in ns. -/
def ms (n : Nat) : Nat := n * 1000000

/-- Microseconds in ns. -/
def us (n : Nat) : Nat := n * 1000

/-! ### Parts of the state -/

/-- The device in ring slot d. -/
def State.dev (s : State) (d : Nat) : Dev := s.devs.getD d {}

/-- Changes the device in ring slot d. -/
def State.modDev (s : State) (d : Nat) (f : Dev → Dev) : State := { s with devs := modAt s.devs d f }

/-- A port of a device. -/
def Dev.port (d : Dev) : RPort → PortSt
  | .E => d.portE
  | .W => d.portW

/-- Changes a port of a device. -/
def Dev.modPort (d : Dev) (p : RPort) (f : PortSt → PortSt) : Dev :=
  match p with
  | .E => { d with portE := f d.portE }
  | .W => { d with portW := f d.portW }

/-- The other ring port. -/
def rportOther : RPort → RPort
  | .E => .W
  | .W => .E

/-- Changes cell k (0 to 23) of a device. -/
def Dev.modCell (d : Dev) (k : Nat) (f : Cell → Cell) : Dev := { d with cells := modAt d.cells k f }

/-- Cell k (0 to 23) of a device. -/
def Dev.cell (d : Dev) (k : Nat) : Cell := d.cells.getD k {}

/-- Modulator m (0 to 23 assigned, 24 RM1, 25 RM2, 26 shunt) of a device. -/
def Dev.mod (d : Dev) (m : Nat) : Modulator := d.mods.getD m {}

/-- Changes a modulator of a device. -/
def Dev.modMod (d : Dev) (m : Nat) (f : Modulator → Modulator) : Dev := { d with mods := modAt d.mods m f }

/-- Changes an accumulator of a device. -/
def Dev.modAcc (d : Dev) (r : Nat) (f : Acc → Acc) : Dev := { d with accs := modAt d.accs r f }

/-- The accumulator of record r of a device. -/
def Dev.acc (d : Dev) (r : Nat) : Acc := d.accs.getD r {}

/-- The S-die of the slot runs (R485). -/
def Dev.awake (d : Dev) : Bool := decide (d.power = .awake)

/-- The other host. -/
def hostOther : HostId → HostId
  | .A => .B
  | .B => .A

/-- The number of a host: 0 HOST A, 1 HOST B (R458, R464). -/
def hostNum : HostId → Nat
  | .A => 0
  | .B => 1

/-- A host port. -/
def State.port (s : State) : HostId → HostPort
  | .A => s.portA
  | .B => s.portB

/-- Changes a host port. -/
def State.modPort (s : State) (h : HostId) (f : HostPort → HostPort) : State :=
  match h with
  | .A => { s with portA := f s.portA }
  | .B => { s with portB := f s.portB }

/-- Queue q. -/
def State.queue (s : State) (q : Nat) : Queue := s.queues.getD q {}

/-- Changes queue q. -/
def State.modQueue (s : State) (q : Nat) (f : Queue → Queue) : State := { s with queues := modAt s.queues q f }

/-- The command queue of a host's pair (R416). -/
def cmdQ (h : HostId) (pair : Nat) : Nat := 32 * hostNum h + pair

/-- The response queue of a host's pair (R416). -/
def rspQ (h : HostId) (pair : Nat) : Nat := 32 * hostNum h + 16 + pair

/-- Contactor channel n (0 to 5). -/
def State.chan (s : State) (n : Nat) : Channel := s.saf.ch.getD n {}

/-- Changes contactor channel n. -/
def State.modChan (s : State) (n : Nat) (f : Channel → Channel) : State :=
  { s with saf := { s.saf with ch := modAt s.saf.ch n f } }

/-- Input i: 0 to 3 SI1 to SI4, 4 RESTART. -/
def State.input (s : State) (i : Nat) : SafeIn := s.saf.inputs.getD i {}

/-- Changes input i. -/
def State.modInput (s : State) (i : Nat) (f : SafeIn → SafeIn) : State :=
  { s with saf := { s.saf with inputs := modAt s.saf.inputs i f } }

/-- Loop slot n (0 to 15). -/
def State.loop (s : State) (n : Nat) : LoopSlot := s.loops.getD n {}

/-- Changes loop slot n. -/
def State.modLoop (s : State) (n : Nat) (f : LoopSlot → LoopSlot) : State := { s with loops := modAt s.loops n f }

/-- The fault latch of a class. -/
def State.latch (s : State) (c : Nat) : Latch := s.flt.latches.getD c {}

/-- Changes the fault latch of a class. -/
def State.modLatch (s : State) (c : Nat) (f : Latch → Latch) : State :=
  { s with flt := { s.flt with latches := modAt s.flt.latches c f } }

/-- What the head tracks of a position. -/
def State.posTrack (s : State) (p : Nat) : PosTrack := s.poss.getD p {}

/-- Changes what the head tracks of a position. -/
def State.modPos (s : State) (p : Nat) (f : PosTrack → PosTrack) : State := { s with poss := modAt s.poss p f }

/-- What the head tracks of an Atlas index. -/
def State.track (s : State) (i : Nat) : RecTrack := (smapGet s.tracks i).getD {}

/-- Changes what the head tracks of an Atlas index. -/
def State.modTrack (s : State) (i : Nat) (f : RecTrack → RecTrack) : State :=
  { s with tracks := smapSet s.tracks i (f (s.track i)) }

/-- SENT channel n (0 to 7). -/
def State.sentCh (s : State) (n : Nat) : SentCh := s.sent.getD n {}

/-- Changes SENT channel n. -/
def State.modSent (s : State) (n : Nat) (f : SentCh → SentCh) : State := { s with sent := modAt s.sent n f }

/-- The number of the running sweep (R55); 0 before the first boundary. -/
def State.sweep (s : State) : Nat := s.swp.count.getD 0

/-- Adopted positions (R283). -/
def State.adopted (s : State) (p : Nat) : Bool := decide (p < s.trv.n)

/-- The slot of the awake device that holds position p. -/
def State.slotOf (s : State) (p : Nat) : Option Nat :=
  (List.range s.devs.length).find? (fun d => (s.dev d).awake && decide ((s.dev d).pos = some p))

/-- The ring slots. -/
def State.slots (s : State) : List Nat := List.range s.devs.length

/-- Every port of every queue of a list changed. -/
def State.foldNat (s : State) (l : List Nat) (f : State → Nat → State) : State := l.foldl f s

/-! ### Periods and quotas (R52) -/

/-- Sweep period of a PERIOD code, µs (R52). -/
def periodUs : Nat → Nat
  | 0 => 500
  | 1 => 1000
  | 2 => 2000
  | 3 => 5000
  | 4 => 10000
  | 5 => 20000
  | 6 => 50000
  | _ => 100000

/-- Decimated samples per sweep (R52). -/
def periodSamples (c : Nat) : Nat := periodUs c * 2 / 125

/-- Upstream quota per member (R52). -/
def periodQuota : Nat → Nat
  | 0 => 24
  | 1 => 48
  | 2 => 96
  | _ => 192

/-- Control tick divisor of a TICKDIV code (R57). -/
def tickDiv : Nat → Nat
  | 0 => 1
  | 1 => 2
  | 2 => 4
  | 3 => 5
  | _ => 10

/-- Sweep period in force at the head, ns. -/
def State.periodNs (s : State) : Nat := us (periodUs s.swp.period)

/-! ### Record groups (R116) and Atlas indices (R9) -/

/-- Record group of a record r: CV, BV, DR, SM, SP, BQ, TT, AX, DV. -/
def groupOf (r : Nat) : Nat :=
  if r < 144 then r / 24 else if r < 176 then 6 else if r < 184 then 7 else 8

/-- Atlas index of record r at position p (R9). -/
def atlasIdx (p r : Nat) : Nat := 192 * p + r

/-- The unpopulated entry (R110). -/
def unpopulated : Entry := ⟨0, -8388608, -8388608, 0, { inv := true, gap := true, age := 15 }⟩

/-- The not-present entry (R110). -/
def notPresent : Entry := ⟨0, -8388608, -8388608, 0, { inv := true }⟩

/-- The awaiting entry (R110). -/
def awaiting : Entry := ⟨0, -8388608, -8388608, 0, { prm := true }⟩

/-- The entry is one of the special entries of R110. -/
def entrySpecial (e : Entry) : Bool := decide (e.min = -8388608 ∧ e.max = -8388608)

/-- The entry is a special or an empty one, or has no admitted sample. -/
def entryBlank (e : Entry) : Bool := decide (e.count = 0)

/-- The entry mean, rounded to nearest, halves away from zero. -/
def entryMean (e : Entry) : Int := divRound e.sum e.count

/-- The mean of an entry, exact. -/
def meanQ (e : Entry) : Rat := (e.sum : Rat) / (e.count : Rat)

/-- The Atlas entry at an index (R119): an unlisted index is unpopulated. -/
def State.atlasGet (s : State) (i : Nat) : Entry := (smapGet s.atlas i).getD unpopulated

/-- Writes the Atlas entry at an index, whole (R44). -/
def State.atlasPut (s : State) (i : Nat) (e : Entry) : State :=
  { s with atlas := smapPut unpopulated s.atlas i e }

/-- The mask with the bits of a list set, such as POSOK (R465). -/
def maskOf (l : List Nat) : Nat := l.eraseDups.foldl (fun m p => m + 2 ^ p) 0

/-- A Chassis location that no configuration makes present. -/
def noChassis : ChassisRec := { entry := notPresent }

/-- The Chassis location at an index (R124): an unlisted index is not present. -/
def State.chassisRec (s : State) (i : Nat) : ChassisRec := (smapGet s.chassis i).getD noChassis

/-- Holds a Chassis location, whole (R44). -/
def State.chassisPut (s : State) (i : Nat) (r : ChassisRec) : State :=
  { s with chassis := smapPut noChassis s.chassis i r }

end Sys2Proof.Machine
end

