-- ==== Sys2Proof/Machine/Params.lean ====
section
/-!
DEFINITION. The fields of the Legend (R470): identity, width, index count, range and reset value of each, taken from
the parameter tables of the chapters, and the reading of a field from an image. The width of a field is the smallest of 1, 2
and 4 bytes that holds its range or layout (log 12).
-/

namespace Sys2Proof.Machine

/-! ### Field identities (R470) -/

/-- RING_N. -/
abbrev Fld.ringN : Nat := 0x0001
/-- LOCKREG. -/
abbrev Fld.lockReg : Nat := 0x0002
/-- REG_SWP. -/
abbrev Fld.regSwp : Nat := 0x0003
/-- REG_ERR. -/
abbrev Fld.regErr : Nat := 0x0004
/-- LOGIN_TMO, min. -/
abbrev Fld.loginTmo : Nat := 0x0005
/-- STR1_LAST. -/
abbrev Fld.str1Last : Nat := 0x0006
/-- CONV_CFG (R80). -/
abbrev Fld.convCfg : Nat := 0x0101
/-- CONV_RTAP (R81). -/
abbrev Fld.convRtap : Nat := 0x0102
/-- WIN (R112). -/
abbrev Fld.win : Nat := 0x0201
/-- STK_WIN (R129). -/
abbrev Fld.stkWin : Nat := 0x0301
/-- FRZ_WIN. -/
abbrev Fld.frzWin : Nat := 0x0302
/-- FRZ_DELTA. -/
abbrev Fld.frzDelta : Nat := 0x0303
/-- FRZ_AMP. -/
abbrev Fld.frzAmp : Nat := 0x0304
/-- BCAL_INT, s (R166). -/
abbrev Fld.bcalInt : Nat := 0x0401
/-- REF_TOL, ppm. -/
abbrev Fld.refTol : Nat := 0x0402
/-- ZERO_TOL, µV. -/
abbrev Fld.zeroTol : Nat := 0x0403
/-- REF_N. -/
abbrev Fld.refN : Nat := 0x0404
/-- BCHK_TH, µV. -/
abbrev Fld.bchkTh : Nat := 0x0405
/-- BCHK_N. -/
abbrev Fld.bchkN : Nat := 0x0406
/-- BCHK_MAX. -/
abbrev Fld.bchkMax : Nat := 0x0407
/-- ARB_TH, µV. -/
abbrev Fld.arbTh : Nat := 0x0408
/-- TRI_STK, mV. -/
abbrev Fld.triStk : Nat := 0x0409
/-- TRI_SUM, mV. -/
abbrev Fld.triSum : Nat := 0x040A
/-- TRI_BLD, mV. -/
abbrev Fld.triBld : Nat := 0x040B
/-- TRI_IQUIET, 10 µV. -/
abbrev Fld.triIquiet : Nat := 0x040C
/-- OW_TH_HI, mV. -/
abbrev Fld.owThHi : Nat := 0x040D
/-- OW_TH_LO, mV. -/
abbrev Fld.owThLo : Nat := 0x040E
/-- OW_AGE, ms. -/
abbrev Fld.owAge : Nat := 0x040F
/-- OW_N. -/
abbrev Fld.owN : Nat := 0x0410
/-- SC_OFS (R183). -/
abbrev Fld.scOfs : Nat := 0x0411
/-- SC_GAIN, Q2.30 (R183). -/
abbrev Fld.scGain : Nat := 0x0412
/-- VL_RATIO, Q16.16 (R531). -/
abbrev Fld.vlRatio : Nat := 0x0413
/-- SHUNT_R, 0.1 µΩ (R190). -/
abbrev Fld.shuntR : Nat := 0x0501
/-- ISENT_CH. -/
abbrev Fld.isentCh : Nat := 0x0502
/-- ISENT_ZERO. -/
abbrev Fld.isentZero : Nat := 0x0503
/-- ISENT_MAPC, 0.001 mA. -/
abbrev Fld.isentMapc : Nat := 0x0504
/-- ISENT_FS, A. -/
abbrev Fld.isentFs : Nat := 0x0505
/-- DR_STR2. -/
abbrev Fld.drStr2 : Nat := 0x0506
/-- PL_SPAN (R194). -/
abbrev Fld.plSpan : Nat := 0x0507
/-- PL_LAG. -/
abbrev Fld.plLag : Nat := 0x0508
/-- PL_ABS, A. -/
abbrev Fld.plAbs : Nat := 0x0509
/-- PL_REL, 0.1 %. -/
abbrev Fld.plRel : Nat := 0x050A
/-- PL_N. -/
abbrev Fld.plN : Nat := 0x050B
/-- OC_DIS, A (R197). -/
abbrev Fld.ocDis : Nat := 0x050C
/-- OC_CHG, A. -/
abbrev Fld.ocChg : Nat := 0x050D
/-- OC_N. -/
abbrev Fld.ocN : Nat := 0x050E
/-- DR_SPAN (R198). -/
abbrev Fld.drSpan : Nat := 0x050F
/-- DR_NMIN. -/
abbrev Fld.drNmin : Nat := 0x0510
/-- DR_DI, A. -/
abbrev Fld.drDi : Nat := 0x0511
/-- DR_RES, µV. -/
abbrev Fld.drRes : Nat := 0x0512
/-- SND_RBIN (R203). -/
abbrev Fld.sndRbin : Nat := 0x0513
/-- SND_SETTLE. -/
abbrev Fld.sndSettle : Nat := 0x0514
/-- SND_IQUIET, 10 µV. -/
abbrev Fld.sndIquiet : Nat := 0x0515
/-- SND_VMIN, mV. -/
abbrev Fld.sndVmin : Nat := 0x0516
/-- BAL_RB, 0.1 Ω (R216). -/
abbrev Fld.balRb : Nat := 0x0601
/-- BAL_QUIET. -/
abbrev Fld.balQuiet : Nat := 0x0602
/-- BAL_PMOD, mW. -/
abbrev Fld.balPmod : Nat := 0x0603
/-- BAL_TSTOP, 0.01 °C. -/
abbrev Fld.balTstop : Nat := 0x0604
/-- BAL_VMIN, mV. -/
abbrev Fld.balVmin : Nat := 0x0605
/-- BAL_SIL, 10 ms. -/
abbrev Fld.balSil : Nat := 0x0606
/-- TH_CFG (R290). -/
abbrev Fld.thCfg : Nat := 0x0701
/-- NTC_LUT (R292). -/
abbrev Fld.ntcLut : Nat := 0x0702
/-- SNS_N (R301). -/
abbrev Fld.snsN : Nat := 0x0703
/-- TH_AGE. -/
abbrev Fld.thAge : Nat := 0x0704
/-- VOUCH_N. -/
abbrev Fld.vouchN : Nat := 0x0705
/-- T_OT, 0.01 °C. -/
abbrev Fld.tOt : Nat := 0x0706
/-- T_UT. -/
abbrev Fld.tUt : Nat := 0x0707
/-- T_LOCK. -/
abbrev Fld.tLock : Nat := 0x0708
/-- LOCK_N. -/
abbrev Fld.lockN : Nat := 0x0709
/-- CT_HYS, 0.01 K. -/
abbrev Fld.ctHys : Nat := 0x070A
/-- CT_DWDN, 0.1 s. -/
abbrev Fld.ctDwdn : Nat := 0x070B
/-- CT_DWUP, s. -/
abbrev Fld.ctDwup : Nat := 0x070C
/-- CT_NBAND. -/
abbrev Fld.ctNband : Nat := 0x070D
/-- CT_UNC_C. -/
abbrev Fld.ctUncC : Nat := 0x070E
/-- CT_UNC_D. -/
abbrev Fld.ctUncD : Nat := 0x070F
/-- CONTOUR_STEP (R302). -/
abbrev Fld.contourStep : Nat := 0x0710
/-- CONTOUR_BAND (R302). -/
abbrev Fld.contourBand : Nat := 0x0711
/-- LOOP_REC (R312, R313). -/
abbrev Fld.loopRec : Nat := 0x0801
/-- CONT_CFG (R340). -/
abbrev Fld.contCfg : Nat := 0x0901
/-- CONT_TIME (R341). -/
abbrev Fld.contTime : Nat := 0x0902
/-- CONT_CUR (R341). -/
abbrev Fld.contCur : Nat := 0x0903
/-- PRE_DV, V (R340). -/
abbrev Fld.preDv : Nat := 0x0904
/-- SI_CFG (R357). -/
abbrev Fld.siCfg : Nat := 0x0905
/-- RST_CFG (R357). -/
abbrev Fld.rstCfg : Nat := 0x0906
/-- CPL_T, ms (R365). -/
abbrev Fld.cplT : Nat := 0x0907
/-- SF_ID_OWN (R370). -/
abbrev Fld.sfIdOwn : Nat := 0x0A01
/-- SF_ID_PART. -/
abbrev Fld.sfIdPart : Nat := 0x0A02
/-- SF_HOST. -/
abbrev Fld.sfHost : Nat := 0x0A03
/-- SF_TPER, ms. -/
abbrev Fld.sfTper : Nat := 0x0A04
/-- SF_TEXP, ms. -/
abbrev Fld.sfTexp : Nat := 0x0A05
/-- SF_SEQWIN. -/
abbrev Fld.sfSeqwin : Nat := 0x0A06
/-- SF_BADN. -/
abbrev Fld.sfBadn : Nat := 0x0A07
/-- SF_TCON, s. -/
abbrev Fld.sfTcon : Nat := 0x0A08
/-- SEV_CFG (R384). -/
abbrev Fld.sevCfg : Nat := 0x0B01
/-- DRT_C (R384). -/
abbrev Fld.drtC : Nat := 0x0B02
/-- DRT_D. -/
abbrev Fld.drtD : Nat := 0x0B03
/-- LOOP_TRIPFB. -/
abbrev Fld.loopTripfb : Nat := 0x0B04
/-- V_OV, mV. -/
abbrev Fld.vOv : Nat := 0x0B05
/-- V_UV, mV. -/
abbrev Fld.vUv : Nat := 0x0B06
/-- V_HYS, mV. -/
abbrev Fld.vHys : Nat := 0x0B07
/-- V_N. -/
abbrev Fld.vN : Nat := 0x0B08
/-- SENT_N. -/
abbrev Fld.sentN : Nat := 0x0B09
/-- SENT_TMO, ms. -/
abbrev Fld.sentTmo : Nat := 0x0B0A
/-- SENT_TSTART, ms. -/
abbrev Fld.sentTstart : Nat := 0x0B0B
/-- QSIZE (R417). -/
abbrev Fld.qsize : Nat := 0x0C01
/-- SENT_CFG (R537). -/
abbrev Fld.sentCfg : Nat := 0x0D01

/-- One row of the field table: width in bytes, number of indices, signedness, range and reset value. -/
structure FieldSpec where
  fid : Nat
  width : Nat
  count : Nat
  signed : Bool
  lo : Int
  hi : Int
  reset : Nat
  deriving DecidableEq, Repr

/-- The fields of block 0x00 (R470). -/
def fieldRows0 : List FieldSpec :=
  [
   ⟨Fld.ringN, 1, 1, false, 0, 32, 0⟩,
   ⟨Fld.lockReg, 1, 1, false, 0, 1, 0⟩,
   ⟨Fld.regSwp, 4, 1, false, 0, 4294967295, 1⟩,
   ⟨Fld.regErr, 4, 1, false, 0, 4294967295, 68096⟩,
   ⟨Fld.loginTmo, 1, 1, false, 0, 60, 15⟩,
   ⟨Fld.str1Last, 1, 1, false, 0, 31, 31⟩
  ]

/-- The fields of block 0x01 (R470). -/
def fieldRows1 : List FieldSpec :=
  [
   ⟨Fld.convCfg, 4, 1, false, 0, 255, 160⟩,
   ⟨Fld.convRtap, 2, 800, false, 0, 65535, 0⟩
  ]

/-- The fields of block 0x02 (R470). -/
def fieldRows2 : List FieldSpec :=
  [
   ⟨Fld.win, 2, 296, false, 1, 65535, 0⟩
  ]

/-- The fields of block 0x03 (R470). -/
def fieldRows3 : List FieldSpec :=
  [
   ⟨Fld.stkWin, 1, 1, false, 2, 255, 8⟩,
   ⟨Fld.frzWin, 1, 1, false, 2, 255, 16⟩,
   ⟨Fld.frzDelta, 2, 1, false, 1, 65535, 100⟩,
   ⟨Fld.frzAmp, 2, 1, false, 1, 65535, 500⟩
  ]

/-- The fields of block 0x04 (R470). -/
def fieldRows4 : List FieldSpec :=
  [
   ⟨Fld.bcalInt, 2, 1, false, 1, 3600, 60⟩,
   ⟨Fld.refTol, 2, 1, false, 100, 10000, 1500⟩,
   ⟨Fld.zeroTol, 2, 1, false, 10, 5000, 300⟩,
   ⟨Fld.refN, 1, 1, false, 1, 15, 3⟩,
   ⟨Fld.bchkTh, 2, 1, false, 500, 50000, 3000⟩,
   ⟨Fld.bchkN, 1, 1, false, 1, 15, 3⟩,
   ⟨Fld.bchkMax, 1, 1, false, 2, 24, 3⟩,
   ⟨Fld.arbTh, 2, 1, false, 200, 10000, 1000⟩,
   ⟨Fld.triStk, 2, 1, false, 10, 1000, 100⟩,
   ⟨Fld.triSum, 2, 1, false, 2, 500, 24⟩,
   ⟨Fld.triBld, 1, 1, false, 0, 100, 10⟩,
   ⟨Fld.triIquiet, 2, 1, false, 1, 65535, 20⟩,
   ⟨Fld.owThHi, 2, 1, false, 5, 1000, 100⟩,
   ⟨Fld.owThLo, 2, 1, false, 2, 500, 20⟩,
   ⟨Fld.owAge, 2, 1, false, 5, 1000, 50⟩,
   ⟨Fld.owN, 1, 1, false, 1, 8, 2⟩,
   ⟨Fld.scOfs, 4, 17, true, -2147483648, 2147483647, 0⟩,
   ⟨Fld.scGain, 4, 17, false, 0, 4294967295, 1073741824⟩,
   ⟨Fld.vlRatio, 4, 2, false, 0, 4294967295, 32768000⟩
  ]

/-- The fields of block 0x05 (R470). -/
def fieldRows5 : List FieldSpec :=
  [
   ⟨Fld.shuntR, 2, 1, false, 1, 65535, 1000⟩,
   ⟨Fld.isentCh, 1, 1, false, 0, 255, 255⟩,
   ⟨Fld.isentZero, 2, 1, false, 0, 4095, 2048⟩,
   ⟨Fld.isentMapc, 4, 1, true, -8388607, 8388607, 250000⟩,
   ⟨Fld.isentFs, 2, 1, false, 1, 2000, 500⟩,
   ⟨Fld.drStr2, 1, 1, false, 0, 1, 0⟩,
   ⟨Fld.plSpan, 2, 1, false, 1, 1000, 20⟩,
   ⟨Fld.plLag, 1, 1, false, 0, 50, 2⟩,
   ⟨Fld.plAbs, 1, 1, false, 1, 200, 5⟩,
   ⟨Fld.plRel, 1, 1, false, 0, 250, 30⟩,
   ⟨Fld.plN, 1, 1, false, 0, 15, 3⟩,
   ⟨Fld.ocDis, 2, 1, false, 1, 2000, 500⟩,
   ⟨Fld.ocChg, 2, 1, false, 1, 2000, 500⟩,
   ⟨Fld.ocN, 1, 1, false, 1, 255, 16⟩,
   ⟨Fld.drSpan, 2, 1, false, 16, 4095, 250⟩,
   ⟨Fld.drNmin, 2, 1, false, 8, 4095, 200⟩,
   ⟨Fld.drDi, 2, 1, false, 1, 500, 20⟩,
   ⟨Fld.drRes, 2, 1, false, 1, 65535, 500⟩,
   ⟨Fld.sndRbin, 1, 1, false, 0, 7, 7⟩,
   ⟨Fld.sndSettle, 1, 1, false, 0, 15, 1⟩,
   ⟨Fld.sndIquiet, 2, 1, false, 1, 65535, 50⟩,
   ⟨Fld.sndVmin, 2, 1, false, 1000, 5000, 2500⟩
  ]

/-- The fields of block 0x06 (R470). -/
def fieldRows6 : List FieldSpec :=
  [
   ⟨Fld.balRb, 2, 768, false, 0, 65535, 0⟩,
   ⟨Fld.balQuiet, 1, 1, false, 0, 255, 4⟩,
   ⟨Fld.balPmod, 2, 1, false, 100, 10000, 2000⟩,
   ⟨Fld.balTstop, 2, 1, false, 4000, 12500, 8500⟩,
   ⟨Fld.balVmin, 2, 1, false, 1000, 4500, 2800⟩,
   ⟨Fld.balSil, 2, 1, false, 5, 1000, 25⟩
  ]

/-- The fields of block 0x07 (R470). -/
def fieldRows7 : List FieldSpec :=
  [
   ⟨Fld.thCfg, 4, 1024, false, 0, 3, 0⟩,
   ⟨Fld.ntcLut, 4, 64, false, 0, 4294967295, 0⟩,
   ⟨Fld.snsN, 1, 1, false, 1, 15, 2⟩,
   ⟨Fld.thAge, 1, 1, false, 1, 15, 3⟩,
   ⟨Fld.vouchN, 1, 1, false, 0, 31, 0⟩,
   ⟨Fld.tOt, 2, 1, true, -4000, 12500, 6000⟩,
   ⟨Fld.tUt, 2, 1, true, -4000, 12500, 62536⟩,
   ⟨Fld.tLock, 2, 1, true, 4000, 14000, 8000⟩,
   ⟨Fld.lockN, 1, 1, false, 1, 15, 2⟩,
   ⟨Fld.ctHys, 2, 1, false, 50, 1000, 200⟩,
   ⟨Fld.ctDwdn, 2, 1, false, 1, 600, 20⟩,
   ⟨Fld.ctDwup, 2, 1, false, 1, 600, 10⟩,
   ⟨Fld.ctNband, 1, 1, false, 1, 16, 1⟩,
   ⟨Fld.ctUncC, 1, 1, false, 0, 15, 0⟩,
   ⟨Fld.ctUncD, 1, 1, false, 0, 15, 0⟩,
   ⟨Fld.contourStep, 4, 16, false, 0, 4294967295, 0⟩,
   ⟨Fld.contourBand, 4, 16, false, 0, 16777215, 0⟩
  ]

/-- The fields of block 0x08 (R470). -/
def fieldRows8 : List FieldSpec :=
  [
   ⟨Fld.loopRec, 64, 16, false, 0, 13407807929942597099574024998205846127479365820592393377723561443721764030073546976801874298166903427690031858186486050853753882811946569946433649006084095, 65280⟩
  ]

/-- The fields of block 0x09 (R470). -/
def fieldRows9 : List FieldSpec :=
  [
   ⟨Fld.contCfg, 4, 6, false, 0, 4294967295, 677642240⟩,
   ⟨Fld.contTime, 4, 6, false, 0, 4294967295, 338821220⟩,
   ⟨Fld.contCur, 8, 6, false, 0, 18446744073709551615, 0⟩,
   ⟨Fld.preDv, 1, 1, false, 1, 100, 20⟩,
   ⟨Fld.siCfg, 4, 4, false, 0, 524287, 5168⟩,
   ⟨Fld.rstCfg, 4, 1, false, 0, 524287, 5168⟩,
   ⟨Fld.cplT, 2, 1, false, 0, 5000, 500⟩
  ]

/-- The fields of block 0x0A (R470). -/
def fieldRowsA : List FieldSpec :=
  [
   ⟨Fld.sfIdOwn, 4, 1, false, 1, 4294967295, 1⟩,
   ⟨Fld.sfIdPart, 4, 1, false, 1, 4294967295, 2⟩,
   ⟨Fld.sfHost, 1, 1, false, 0, 1, 0⟩,
   ⟨Fld.sfTper, 1, 1, false, 10, 250, 20⟩,
   ⟨Fld.sfTexp, 2, 1, false, 20, 500, 100⟩,
   ⟨Fld.sfSeqwin, 1, 1, false, 1, 255, 4⟩,
   ⟨Fld.sfBadn, 1, 1, false, 1, 15, 3⟩,
   ⟨Fld.sfTcon, 1, 1, false, 1, 30, 5⟩
  ]

/-- The fields of block 0x0B (R470). -/
def fieldRowsB : List FieldSpec :=
  [
   ⟨Fld.sevCfg, 1, 32, false, 0, 127, 0⟩,
   ⟨Fld.drtC, 1, 1, false, 0, 15, 4⟩,
   ⟨Fld.drtD, 1, 1, false, 0, 15, 4⟩,
   ⟨Fld.loopTripfb, 2, 1, false, 0, 65535, 0⟩,
   ⟨Fld.vOv, 2, 1, false, 2000, 5000, 4250⟩,
   ⟨Fld.vUv, 2, 1, false, 500, 4000, 2500⟩,
   ⟨Fld.vHys, 2, 1, false, 0, 500, 50⟩,
   ⟨Fld.vN, 1, 1, false, 1, 15, 2⟩,
   ⟨Fld.sentN, 1, 1, false, 1, 15, 3⟩,
   ⟨Fld.sentTmo, 2, 1, false, 2, 1000, 10⟩,
   ⟨Fld.sentTstart, 2, 1, false, 0, 500, 50⟩
  ]

/-- The fields of block 0x0C (R470). -/
def fieldRowsC : List FieldSpec :=
  [
   ⟨Fld.qsize, 1, 64, false, 1, 128, 16⟩
  ]

/-- The fields of block 0x0D (R470). -/
def fieldRowsD : List FieldSpec :=
  [
   ⟨Fld.sentCfg, 4, 8, false, 0, 65535, 1556⟩
  ]

/-- The fields of one block. -/
def fieldRows (block : Nat) : List FieldSpec :=
  match block with
  | 0x00 => fieldRows0
  | 0x01 => fieldRows1
  | 0x02 => fieldRows2
  | 0x03 => fieldRows3
  | 0x04 => fieldRows4
  | 0x05 => fieldRows5
  | 0x06 => fieldRows6
  | 0x07 => fieldRows7
  | 0x08 => fieldRows8
  | 0x09 => fieldRows9
  | 0x0A => fieldRowsA
  | 0x0B => fieldRowsB
  | 0x0C => fieldRowsC
  | 0x0D => fieldRowsD
  | _ => []

/-- The row of a field identity. -/
def fieldSpec (fid : Nat) : Option FieldSpec := (fieldRows (fid / 256)).find? (fun r => decide (r.fid = fid))

/-- The reset window lengths of the groups CV to DV (R116). -/
def winReset : List Nat := [1, 10, 100, 100, 100, 1000, 10, 10, 10]

/-- The reset window lengths of the Chassis groups 0x10 to 0x17 (R124). -/
def chWinReset : List Nat := [10, 10, 10, 1, 1, 1, 1, 10]

/-- Divider ratios X of entries 0 to 15 of the reset linearisation table (R292), computed from the formula of the rule. -/
def ntcX0 : List Nat := [2110, 2232, 2363, 2504, 2654, 2816, 2990, 3177, 3378, 3594, 3827, 4077, 4348, 4641, 4955, 5295]

/-- Divider ratios X of entries 16 to 31 of the reset linearisation table (R292), computed from the formula of the rule. -/
def ntcX1 : List Nat := [5661, 6058, 6487, 6949, 7449, 7989, 8573, 9204, 9883, 10618, 11408, 12262, 13177, 14164, 15223, 16352]

/-- Divider ratios X of entries 32 to 47 of the reset linearisation table (R292), computed from the formula of the rule. -/
def ntcX2 : List Nat := [17563, 18848, 20219, 21670, 23196, 24806, 26484, 28238, 30048, 31917, 33831, 35770, 37734, 39695, 41652, 43583]

/-- Divider ratios X of entries 48 to 63 of the reset linearisation table (R292), computed from the formula of the rule. -/
def ntcX3 : List Nat := [45466, 47300, 49058, 50740, 52331, 53817, 55204, 56478, 57646, 58702, 59655, 60506, 61257, 61920, 62497, 62999]

/-- Entry i of the reset linearisation table (R292): X in the low half, T (signed, 0.01 °C) in the high half. -/
def ntcReset (i : Nat) : Nat :=
  let t : Int := 15000 - (((2 * 19000 * i + 63) / 126 : Nat) : Int)
  (ntcX0 ++ ntcX1 ++ ntcX2 ++ ntcX3).getD i 0 + 65536 * toBits 16 t

/-- Default severity and escalation ceiling of the classes 0x01 to 0x1F (R382). -/
def sevDefault : List (Nat × Nat) :=
  [(3, 3), (2, 3), (2, 3), (2, 3), (1, 2), (2, 3), (1, 2), (2, 3), (1, 2), (1, 2), (1, 2), (0, 1), (2, 3), (3, 3),
   (1, 2), (3, 3), (3, 3), (4, 4), (3, 3), (1, 2), (2, 3), (3, 3), (4, 4), (1, 3), (2, 3), (0, 1), (0, 1), (1, 3),
   (4, 4), (1, 3), (1, 2)]

/-- The lowest severity that the Legend may give a class (R382). -/
def sevLowest : List Nat :=
  [2, 1, 1, 1, 0, 2, 0, 1, 0, 0, 0, 0, 1, 3, 0, 1, 3, 4, 3, 0, 1, 3, 4, 0, 1, 0, 0, 0, 4, 0, 0]

/-- The classes whose severity the Legend cannot change (R382): WELD, DIE_OT, THERMAL_LOCK. -/
def sevFixed (c : Nat) : Bool := decide (c = 0x12 ∨ c = 0x17 ∨ c = 0x1D)

/-- The reset value of an index of a field. -/
def fieldReset (fid idx : Nat) : Nat :=
  if fid = Fld.win then
    (if idx < 288 then winReset.getD (idx % 9) 1 else chWinReset.getD (idx - 288) 1)
  else if fid = Fld.ntcLut then ntcReset idx
  else if fid = Fld.sevCfg then
    (let d := sevDefault.getD (idx - 1) (0, 0); d.1 + 16 * d.2)
  else match fieldSpec fid with
    | some r => r.reset
    | none => 0

/-- The key of an index of a field in an image. -/
def fieldKey (fid idx : Nat) : Nat := fid * 65536 + idx

/-- The raw value of a field in an image: an index that no record covers holds its reset value (R469). -/
def par (fs : SMap Nat) (fid idx : Nat) : Nat := (smapGet fs (fieldKey fid idx)).getD (fieldReset fid idx)

/-- The value of a signed field of `w` bits. -/
def parI (fs : SMap Nat) (fid idx w : Nat) : Int := sext w (par fs fid idx)

/-- A field of the active Legend image at the head (R475). -/
def State.par (s : State) (fid idx : Nat) : Nat := Machine.par s.leg.active.fields fid idx

/-- A signed 16-bit field of the active Legend image. -/
def State.parT (s : State) (fid : Nat) : Int := parI s.leg.active.fields fid 0 16

/-- A field in force at a device (R41, R474). -/
def Dev.par (d : Dev) (fid idx : Nat) : Nat := Machine.par d.fields fid idx

/-! ### Fields of the layout words -/

/-- CONV_CFG.POSTFILT (R80). -/
def Dev.postfilt (d : Dev) : Nat := bits (d.par Fld.convCfg 0) 1 0

/-- CONV_CFG.GATE: compensated mode (R80). -/
def Dev.compensated (d : Dev) : Bool := bit (d.par Fld.convCfg 0) 2

/-- CONV_CFG.GUARD, ns (R80). -/
def Dev.guardNs (d : Dev) : Nat := us (5 * bits (d.par Fld.convCfg 0) 6 3)

/-- CONV_CFG.AUTOSUB (R80). -/
def Dev.autosub (d : Dev) : Bool := bit (d.par Fld.convCfg 0) 7

/-- CONT_CFG[n].USE (R340). -/
def State.contUse (s : State) (n : Nat) : Bool := bit (s.par Fld.contCfg n) 0

/-- CONT_TIME[n].T_PI, ns (R341). -/
def State.tPi (s : State) (n : Nat) : Nat := ms (bits (s.par Fld.contTime n) 8 0)

/-- CONT_TIME[n].T_DO, ns (R341). -/
def State.tDo (s : State) (n : Nat) : Nat := ms (bits (s.par Fld.contTime n) 23 16)

/-- CONT_TIME[n].T_HD, ns (R341). -/
def State.tHd (s : State) (n : Nat) : Nat := ms (bits (s.par Fld.contTime n) 31 24)

/-- The configuration word of input i: SI_CFG for 0 to 3, RST_CFG for RESTART (R357). -/
def State.siWord (s : State) (i : Nat) : Nat := if i < 4 then s.par Fld.siCfg i else s.par Fld.rstCfg 0

/-- ROLE of SI(i+1): 0 unused, 1 TRIP, 2 COUPLED, 3 MONITOR (R357). -/
def State.siRole (s : State) (i : Nat) : Nat := if i < 4 then bits (s.siWord i) 2 1 else 0

/-- Antivalence of input i (R357). -/
def State.siAnti (s : State) (i : Nat) : Bool := bit (s.siWord i) 0

/-- Automatic restart of input i; the COUPLED input always behaves so (R357, R365). -/
def State.siAuto (s : State) (i : Nat) : Bool := bit (s.siWord i) 3 || decide (s.siRole i = 2)

/-- Discrepancy time of input i, ns (R357). -/
def State.siTd (s : State) (i : Nat) : Nat := ms (bits (s.siWord i) 18 8)

/-- Word w (0 to 15) of the active record of loop slot n (R312). -/
def State.loopWord (s : State) (n w : Nat) : Nat := (s.par Fld.loopRec n >>> (32 * w)) % 2 ^ 32

/-- A signed word of the active record of loop slot n. -/
def State.loopQ (s : State) (n w : Nat) : Int := sext 32 (s.loopWord n w)

/-- CTRL.USE of loop slot n (R313). -/
def State.loopUse (s : State) (n : Nat) : Nat := bits (s.loopWord n 0) 1 0

/-- CTRL.SRC of loop slot n (R313). -/
def State.loopSrc (s : State) (n : Nat) : Nat := bits (s.loopWord n 0) 15 8

/-- CTRL.DEST of loop slot n (R313). -/
def State.loopDest (s : State) (n : Nat) : Nat := bits (s.loopWord n 0) 23 16

end Sys2Proof.Machine
end

