-- ==== Sys2Proof/Machine/Flags.lean ====
section
/-!
DEFINITION. Flag words and status words: the flag word of an entry (R109), the event flags (R433), the status words
of channels, inputs and loops, the cell balance word, and the words of the direct registers that report state.
-/

namespace Sys2Proof.Machine

/-! ### Event flags (R433) -/

/-- Sets bit `b` of a port's IRQ_FLAG1. -/
def HostPort.flag (p : HostPort) (b : Nat) : HostPort := { p with flag1 := p.flag1 ||| (1#32 <<< b) }

/-- Sets bit `b` of a port's IRQ_FLAG0. -/
def HostPort.flagQ (p : HostPort) (b : Nat) : HostPort := { p with flag0 := p.flag0 ||| (1#32 <<< b) }

/-- An event that concerns both hosts sets its IRQ_FLAG1 bit on both ports. -/
def State.event (s : State) (b : Nat) : State := { s with portA := s.portA.flag b, portB := s.portB.flag b }

/-- An event that concerns one host. -/
def State.eventOn (s : State) (h : HostId) (b : Nat) : State := s.modPort h (·.flag b)

/-- An event that is raised only where a condition holds. -/
def State.eventIf (s : State) (c : Bool) (b : Nat) : State := cond c (s.event b) s

/-- Bits of IRQ_FLAG1 (R433). -/
abbrev Ev.atlas : Nat := 0
abbrev Ev.sweep : Nat := 1
abbrev Ev.epoch : Nat := 2
abbrev Ev.spot : Nat := 3
abbrev Ev.sound : Nat := 4
abbrev Ev.tune : Nat := 5
abbrev Ev.safefrm : Nat := 6
abbrev Ev.session : Nat := 7
abbrev Ev.flatch : Nat := 8
abbrev Ev.fesc : Nat := 9
abbrev Ev.fcause : Nat := 10
abbrev Ev.trip : Nat := 11
abbrev Ev.armed : Nat := 12
abbrev Ev.sin : Nat := 13
abbrev Ev.cont : Nat := 14
abbrev Ev.locked : Nat := 15
abbrev Ev.loop : Nat := 16
abbrev Ev.trav : Nat := 17
abbrev Ev.ring : Nat := 18
abbrev Ev.legend : Nat := 19
abbrev Ev.gaz : Nat := 20
abbrev Ev.fwupd : Nat := 21
abbrev Ev.semfree : Nat := 22
abbrev Ev.othfrz : Nat := 23
abbrev Ev.login : Nat := 24
abbrev Ev.stage : Nat := 25
abbrev Ev.xerr : Nat := 26
abbrev Ev.rej : Nat := 27
abbrev Ev.test : Nat := 28
abbrev Ev.state : Nat := 29
abbrev Ev.wake : Nat := 30
abbrev Ev.wdog : Nat := 31

/-! ### The flag word of an entry (R109) -/

/-- The 16 bits of a flag word. -/
def flagsWord (f : Flags) : Nat :=
  b2n f.ovr + 2 * b2n f.rcv + 4 * b2n f.blk + 8 * b2n f.cal + 16 * b2n f.sub + 32 * b2n f.inv + 64 * b2n f.prm
    + 128 * b2n f.gap + 256 * (f.age % 16) + 4096 * b2n f.stk + 8192 * b2n f.frz

/-- The flags that 16 bits spell; the reserved bits are ignored. -/
def flagsOf (v : Nat) : Flags :=
  { ovr := bit v 0, rcv := bit v 1, blk := bit v 2, cal := bit v 3, sub := bit v 4, inv := bit v 5, prm := bit v 6,
    gap := bit v 7, age := bits v 11 8, stk := bit v 12, frz := bit v 13 }

/-! ### Status words -/

/-- PHASE code (R352). -/
def phaseCode : Phase → Nat
  | .opened => 0
  | .pull => 1
  | .hold => 2
  | .drop => 3
  | .blocked => 4

/-- The channel is in PULL or HOLD, so KHn is commanded on (R338, R343). -/
def Channel.energised (c : Channel) : Bool := decide (c.phase = .pull) || decide (c.phase = .hold)

/-- The channel is OPEN or BLOCKED (R494, R497). -/
def Channel.safe (c : Channel) : Bool := decide (c.phase = .opened) || decide (c.phase = .blocked)

/-- The status word of contactor channel n (R352). -/
def State.chanWord (s : State) (n : Nat) : Nat :=
  let c := s.chan n
  phaseCode c.phase + 8 * b2n c.cmd + 16 * b2n c.kf + 32 * b2n c.energised + 64 * b2n c.klOn + 128 * b2n s.saf.armed
    + 256 * b2n s.saf.tripLatch + 512 * (c.lastRef % 8) + 65536 * min c.tpi 511 + 2 ^ 25 * min c.tdo 127

/-- The status word of input i (R366). -/
def State.inputWord (s : State) (i : Nat) : Nat :=
  let x := s.input i
  b2n x.a + 2 * b2n x.b + 4 * b2n x.act + 8 * b2n x.disc + 16 * b2n x.rwait + 32 * b2n x.discAt.isSome
    + 64 * b2n x.stuck + 128 * b2n x.idle + 65536 * (x.skew % 65536)

/-- MODE code of a loop slot (R320). -/
def loopModeCode : LoopMode → Nat
  | .unused => 0
  | .manual => 1
  | .auto => 2
  | .tune => 3
  | .held => 4
  | .fallback => 5

/-- The status word of loop slot n (R320). -/
def State.loopWordStat (s : State) (n : Nat) : Nat :=
  let l := s.loop n
  let atlim := decide (l.mode ≠ .unused) && (decide (l.uLast = s.loopQ n 6) || decide (l.uLast = s.loopQ n 7))
  loopModeCode l.mode + 8 * b2n l.sat + 16 * b2n l.wnd + 32 * b2n l.rlim + 64 * b2n atlim + 128 * b2n l.trk
    + 256 * b2n l.fbLost + 512 * b2n l.frozen + 1024 * b2n l.waiting + 2048 * (l.tune % 4) + 65536 * (l.abort % 65536)

/-- PAUSE code (R220). -/
def pauseCode : Pause → Nat
  | .none => 0
  | .sounding => 1
  | .power => 2
  | .thermal => 3
  | .infeasible => 4

/-- The balance status word of a cell (R220): REMAIN in minutes, rounded up. -/
def Cell.word (c : Cell) : Nat :=
  min ((c.remain + 59999999999) / 60000000000) 4095 + 4096 * b2n c.active + 8192 * b2n c.cond + 16384 * b2n c.gateFlt
    + 65536 * pauseCode c.pause + 2 ^ 19 * (c.ended % 4)

/-- The link status word of a ring port (R253). -/
def PortSt.word (p : PortSt) : Nat :=
  (match p.st with
    | .down => 0
    | .acquire => 1
    | .up => 2
    | .wake => 3)
  + 4 * b2n p.rxGood + 8 * b2n p.peerOk + 16 * b2n p.clkSrc + 32 * b2n p.invPol + 64 * b2n p.everUp
  + 256 * min p.missed 255 + 65536 * min p.losses 255 + 2 ^ 24 * min p.kerr 255

/-- Code of an operating state in SWP_STATE (R488, R494). -/
def opCode : OpState → Nat
  | .config => 0
  | .run => 1
  | .safe => 2
  | .locked => 3
  | _ => 4

/-! ### Fault collector words (R405) -/

/-- A class whose cause is present (R393). -/
def State.causeOf (s : State) (c : Nat) : Bool := s.flt.causes.any (fun x => decide (x.src.cls = c))

/-- Bits [31:1] of a predicate on the classes, with bit [0] their disjunction. -/
def classBits (f : Nat → Bool) : Nat :=
  let v := ((List.range 31).map (fun i => cond (f (i + 1)) (2 ^ (i + 1)) 0)).foldl (· + ·) 0
  v + cond (decide (v = 0)) 0 1

/-- ERR_CAUSE (R405). -/
def State.errCause (s : State) : Nat := classBits s.causeOf

/-- ERR_LATCH (R405). -/
def State.errLatch (s : State) : Nat := classBits (fun c => (s.latch c).latched)

/-- Some latch is set. -/
def State.anyLatch (s : State) : Bool := s.flt.latches.any (·.latched)

/-- Some set latch has an effective severity of `v` or above. -/
def State.sevAtLeast (s : State) (v : Nat) : Bool := s.flt.latches.any (fun l => l.latched && decide (v ≤ l.sev))

/-- MAXSEV: the highest effective severity of the set latches, 0b111 with none (R405). -/
def State.maxSev (s : State) : Nat :=
  cond s.anyLatch (s.flt.latches.foldl (fun m l => cond l.latched (max m l.sev) m) 0) 7

/-- ERR_STAT (R405). -/
def State.errStat (s : State) : Nat :=
  s.maxSev + 8 * b2n s.flt.errLow + 16 * b2n (s.sevAtLeast 3) + 32 * b2n s.pw.locked + 64 * b2n s.flt.fwdog
    + 128 * b2n (s.flt.latches.any (fun l => l.latched && l.ovf)) + 256 * (s.flt.first % 32)
    + 65536 * min s.flt.occ 65535

end Sys2Proof.Machine
end

