-- ==== Sys2Proof/Machine/Collector.lean ====
section
/-!
DEFINITION. The fault collector (R381 to R406): occurrences, latches, masking, reactions, the trip path (R353, R354),
the LOCKED latch and ERR_OUT.
-/

namespace Sys2Proof.Machine

/-! ### The fault log (R406) -/

/-- Appends a record to the fault log, which holds the last 256. -/
def State.logAt (s : State) (kind cls sub pos detail sweep : Nat) (value : Word) : State :=
  { s with flt := { s.flt with
      log := (⟨s.flt.logSeq, kind, cls, sub, pos, detail, sweep, value⟩ :: s.flt.log).take 256
      logSeq := s.flt.logSeq + 1 } }

/-! ### Reactions that act on the data plane (R69) -/

/-- A setting ordered by a fault reaction: it enters the reaction records of this sweep, or of the next after the
reaction cut-off (R69). -/
def State.react (s : State) (x : Setting) : State :=
  cond s.swp.reactCut { s with swp := { s.swp with reactNext := s.swp.reactNext ++ [x] } }
    { s with swp := { s.swp with reactions := s.swp.reactions ++ [x] } }

/-- A setting of the device's own lands (R19): in this sweep before the cut-off, in the next after it (R64). -/
def State.land (s : State) (x : Landed) : State :=
  cond s.swp.hold { s with swp := { s.swp with landNext := s.swp.landNext ++ [x] } }
    { s with swp := { s.swp with landed := s.swp.landed ++ [x] } }

/-- A head-side reaction of the collector lands: after the reaction cut-off in the next sweep (R69). -/
def State.landReaction (s : State) (x : Landed) : State :=
  cond s.swp.reactCut { s with swp := { s.swp with landNext := s.swp.landNext ++ [x] } }
    { s with swp := { s.swp with landed := s.swp.landed ++ [x] } }

/-! ### Operating state changes (R488) -/

/-- Enters an operating state. Every change but one between RUN and SAFE clears the balance timers (R219); a change to
CONFIG or LOCKED halts Soundings (R212), and a pending maintenance self-test is cancelled (R184). Those orders reach the devices as reaction records (log 16). -/
def State.enter (s : State) (o : OpState) : State :=
  if s.pw.op = o then s
  else
    let quiet := decide ((s.pw.op = .run ∧ o = .safe) ∨ (s.pw.op = .safe ∧ o = .run))
    let cancel := decide (o = .dormant) || (decide (s.pw.op = .run ∨ s.pw.op = .safe) && decide (o = .config ∨ o = .locked))
    let s := { s with pw := { s.pw with op := o } }.event Ev.state
    let s := cond cancel { s with der := { s.der with tests := [] } } s
    let s := cond quiet s (s.react ⟨255, .clearTimers⟩)
    let s := cond (decide (o = .config ∨ o = .locked)) (s.react ⟨255, .cancelTest⟩) s
    cond (decide (o = .config ∨ o = .locked)) (s.react ⟨255, .soundHalt⟩) s

/-! ### ERR_OUT (R402, R403) -/

/-- The asserted trip sources, coded as TRIPSRC (R353, R458). -/
def State.tripMask (s : State) : Nat :=
  b2n (s.sevAtLeast 3)
    + ((List.range 4).map (fun i => cond (decide (s.siRole i = 1) && !(s.input i).act) (2 ^ (i + 1)) 0)).foldl (· + ·) 0
    + 32 * b2n (s.saf.sErr || s.saf.slEqual.1) + 64 * b2n s.saf.overTemp + 128 * b2n s.saf.watchdog
    + 256 * b2n s.pw.locked

/-- A condition of R402 that drives ERR_OUT low is present. -/
def State.errCond (s : State) : Bool :=
  s.sevAtLeast (bits s.flt.ctrl.toNat 18 16) || decide (s.tripMask ≠ 0) || s.flt.beforeFirst

/-- Drives ERR_OUT low; the compatibility wave stops (R402, R403). -/
def State.errDrop (s : State) : State :=
  cond s.flt.errLow s { s with flt := { s.flt with errLow := true, lowSince := s.now, wave := false } }

/-- Drives ERR_OUT low where a condition of R402 is present. -/
def State.errEval (s : State) : State := cond s.errCond s.errDrop s

/-! ### The trip path (R353, R354) -/

/-- A channel whose drives turn off moves to DROP at `now` (R348); one whose auxiliary contact already stands
recognised open has nothing to wait for (log 17). -/
def Channel.drop (c : Channel) (now : Nat) (own : Bool) : Channel :=
  { c with
    phase := cond c.kf .drop (cond own .blocked .opened)
    cmd := false, t0 := now, holdAt := none, ownFault := own, welded := false, lowAt := none, klOn := false
    tdo := cond c.kf c.tdo 0 }

/-- Every channel in PULL or HOLD moves to DROP (R354). -/
def State.dropAll (s : State) : State :=
  let any := s.saf.ch.any (·.energised)
  let s := { s with saf := { s.saf with ch := s.saf.ch.map (fun (c : Channel) => cond c.energised (c.drop s.now false) c) } }
  s.eventIf any Ev.cont

/-- The trip path as the sources stand now. While one is asserted the trip latch is set, ARMED is clear and no channel is
energised, whatever else happens (R353, R354); a source that was not asserted before also drives ERR_OUT low (R402). With
no source left C_ERR ends (R353), unless its pair of levels is equal (R35). -/
def State.evalTrip (s : State) : State :=
  let m := s.tripMask
  let rising := m ^^^ (m &&& s.saf.lastSrc)
  let s := { s with saf := { s.saf with lastSrc := m } }
  if m = 0 then
    (if (s.dev 0).cErr ∧ s.saf.slEqual.2 = false then s.modDev 0 (fun d => { d with cErr := false }) else s)
  else
    let s := { s with saf := { s.saf with tripLatch := true, armed := false } }.dropAll
    if rising = 0 then s else (s.event Ev.trip).errDrop

/-- Sets the LOCKED latch and enters LOCKED at once (R309, R492). -/
def State.lock (s : State) : State :=
  if s.pw.locked then s.enter .locked
  else ({ s with pw := { s.pw with locked := true } }.event Ev.locked).enter .locked

/-! ### Severity (R381 to R384) -/

/-- The floor of a sub-code (R383). -/
def sevFloor (cls sub : Nat) : Nat :=
  if cls = 0x13 ∧ sub = 3 then 4
  else if cls = 0x15 ∧ sub = 0x0A then 3
  else if cls = 0x1C ∧ sub = 0x11 then 3
  else if cls = 0x1E ∧ sub = 2 then 3
  else 0

/-- The configured severity of a class (R384). -/
def State.sevCfg (s : State) (c : Nat) : Nat := bits (s.par Fld.sevCfg c) 2 0

/-- The escalation ceiling of a class (R384). -/
def State.escMax (s : State) (c : Nat) : Nat := bits (s.par Fld.sevCfg c) 6 4

/-- The base severity of a source (R383). -/
def State.sevBase (s : State) (cls sub : Nat) : Nat := max (s.sevCfg cls) (sevFloor cls sub)

/-! ### Consequential masking (R399) -/

/-- A loop slot (1 to 16) whose feedback comes from SENT channel n (1 to 8) or its supply (R399). -/
def State.loopOnSent (s : State) (slot n : Nat) : Bool :=
  let c := s.loopSrc (slot - 1)
  decide (c = 2 * (n - 1) ∨ c = 2 * (n - 1) + 1 ∨ c = 0x10 + n - 1)

/-- The class is never masked (R400). -/
def neverMasked (c : Nat) : Bool := [0x01, 0x02, 0x03, 0x04, 0x0E, 0x10, 0x11, 0x12, 0x13, 0x17, 0x1D].contains c

/-- The detectors that an open interval masks (R399). -/
def State.masks (s : State) (k : MaskKind) (x : Source) : Bool :=
  !neverMasked x.cls &&
  match k with
  | .sentSupply n =>
    decide (x.cls = 0x0F ∧ x.detail = n) || decide (x.cls = 0x18 ∧ x.sub = 2)
      || (decide (x.cls = 0x0D)
          && decide (s.par Fld.isentCh 0 = 2 * (n - 1) ∨ s.par Fld.isentCh 0 = 2 * (n - 1) + 1))
      || (decide (x.cls = 0x14 ∧ x.sub ≤ 2) && s.loopOnSent x.detail n)
  | .sDieCore p =>
    decide (x.pos = p) && (decide (x.cls = 0x1C ∧ x.sub ≤ 6) || decide (x.cls = 0x1A ∧ x.sub = 1)
      || decide (x.cls = 0x05 ∧ x.sub = 3))
  | .supervisor =>
    decide (x.cls = 0x1C ∧ x.sub ≤ 6) || [0x14, 0x15, 0x1B, 0x0D, 0x1A].contains x.cls
      || decide (x.cls = 0x0F ∧ x.sub = 2) || decide (x.cls = 0x05 ∧ x.sub = 3)
  | .lane l =>
    (decide (x.cls = 0x16)
      && (match l with
          | .U1 => decide (x.sub = 1)
          | .U2 => decide (x.sub = 2)
          | .D1 => decide (x.sub = 3)))
      || decide (x.cls = 0x1C ∧ (x.sub = 2 ∨ x.sub = 3))

/-- The occurrence is consequential: an open masking interval covers its detector (R399). -/
def State.consequential (s : State) (x : Source) : Bool :=
  s.flt.masks.any (fun m => decide (s.now < m.untilNs) && s.masks m.kind x)

/-- Opens a masking interval of the reset duration `dur` (ns) and 2 sweeps (R399). -/
def State.openMask (s : State) (k : MaskKind) (dur : Nat) : State :=
  { s with flt := { s.flt with
      masks := ⟨k, s.now + dur + 2 * s.periodNs⟩ :: s.flt.masks.filter (fun m => decide (m.kind ≠ k)) } }

/-! ### Occurrences (R394) -/

/-- Moves the slots named in LOOP_TRIPFB to FALLBACK (R332, R381). A tuning of such a slot is aborted; the next tick
delivers what it captured (log 18). -/
def State.tripFallback (s : State) : State :=
  let m := s.par Fld.loopTripfb 0
  s.foldNat (List.range 16) (fun s n =>
    let l := s.loop n
    if m.testBit n ∧ l.mode ≠ .unused ∧ l.mode ≠ .fallback then
      (s.modLoop n (fun l => { l with
        mode := .fallback, uLast := s.loopQ n 13, waiting := false
        tune := cond (decide (l.mode = .tune)) 3 l.tune
        abort := cond (decide (l.mode = .tune)) 6 l.abort })).event Ev.loop
    else s)

/-- The latch of class `c` after an occurrence of source `x` outside every masking interval (R394). -/
def Latch.occur (l : Latch) (base escMax sweep : Nat) (x : Source) (value : Word) (seen : Nat) : Latch :=
  if l.latched then
    let esc := !l.acked && decide (l.escSweep ≠ sweep)
    let sev := cond esc (max l.sev (min (l.sev + 1) escMax)) l.sev
    { l with ovf := true, occ := min (l.occ + 1) 255, acked := false
             escSweep := cond esc sweep l.escSweep, sev := max sev base }
  else
    { latched := true, acked := false, ovf := false, sev := base, occ := 1, sub := x.sub, pos := x.pos
      detail := x.detail, sweep := seen, value := value, escSweep := sweep }

/-- The reactions of the severity that a class has reached (R381), from `old` (`none`: the latch was not set). -/
def State.applySev (s : State) (old : Option Nat) (new : Nat) : State :=
  let was := old.getD 0
  let trips := decide (3 ≤ new) && decide (was < 3)
  let s := cond (decide (4 ≤ new) && decide (was < 4)) s.lock s
  let s := cond trips s.tripFallback s
  let s := cond (decide (3 ≤ new) && decide (s.pw.op = .run)) (s.enter .safe) s
  s.errEval.evalTrip

/-- The further reactions of R382: bleed off at the position, a supply restart of a SENT channel. -/
def State.furtherReaction (s : State) (x : Source) : State :=
  if x.cls = 0x03 ∨ x.cls = 0x06 then s.react ⟨x.pos, .bleedOff⟩
  else if x.cls = 0x0F ∧ x.sub ≤ 3 then s.landReaction (.supplyRestart x.detail)
  else s

/-- The collector handles an occurrence that no interval masks (R394). -/
def State.occur (s : State) (x : Source) (value : Word) (seen : Nat) : State :=
  let old := s.latch x.cls
  let new := old.occur (s.sevBase x.cls x.sub) (s.escMax x.cls) s.sweep x value seen
  let first := cond s.anyLatch s.flt.first x.cls
  let s := (s.modLatch x.cls (fun _ => new))
  let s := { s with flt := { s.flt with first := first, occ := min (s.flt.occ + 1) 65535 } }
  let s := cond old.latched (cond (decide (old.sev < new.sev)) (s.event Ev.fesc) s) (s.event Ev.flatch)
  ((s.applySev (cond old.latched (some old.sev) none) new.sev)).furtherReaction x

/-- The cause of a source is present. -/
def State.hasCause (s : State) (x : Source) : Bool := s.flt.causes.any (fun c => decide (c.src = x))

/-- Raises a source: an occurrence where its cause was absent (R392), with the sweep of detection `seen`. A
consequential occurrence is logged and changes no latch (R394). `ev` marks an event source (R391). An overrun shows in
SWP_STAT (R57, R74). -/
def State.raiseAt (s : State) (x : Source) (value : Word) (ev : Bool) (seen : Nat) : State :=
  if s.hasCause x then s
  else
    let m := s.consequential x
    let s := cond (decide (x.cls = 0x1C ∧ 1 ≤ x.sub ∧ x.sub ≤ 6))
      { s with swp := { s.swp with ovr := true, lastSub := x.sub } } s
    let s := { s with flt := { s.flt with causes := s.flt.causes ++ [Cause.mk x ev value m] } }.event Ev.fcause
    let s := s.logAt (cond m 2 0) x.cls x.sub x.pos x.detail seen value
    cond m s (s.occur x value seen)

/-- Raises a source that its rule clears, detected in the running sweep. -/
def State.raise (s : State) (cls sub pos detail : Nat) (value : Word) : State :=
  s.raiseAt ⟨cls, sub, pos, detail⟩ value false s.sweep

/-- Raises an event source (R391), detected in the running sweep. -/
def State.raiseEv (s : State) (cls sub pos detail : Nat) (value : Word) : State :=
  s.raiseAt ⟨cls, sub, pos, detail⟩ value true s.sweep

/-- Raises a source whose rule states no value: the value is free (log 9). -/
def State.raiseOpenAt (s : State) (x : Source) (ev : Bool) (seen : Nat) : State :=
  if s.hasCause x then s
  else { s.raiseAt x (Config.openFaultValue s.draws) ev seen with draws := s.draws + 1 }

/-- Raises a source that its rule clears, of a rule that states no value, detected in the running sweep. -/
def State.raiseOpen (s : State) (cls sub pos detail : Nat) : State :=
  s.raiseOpenAt ⟨cls, sub, pos, detail⟩ false s.sweep

/-- Raises an event source of a rule that states no value, detected in the running sweep. -/
def State.raiseOpenEv (s : State) (cls sub pos detail : Nat) : State :=
  s.raiseOpenAt ⟨cls, sub, pos, detail⟩ true s.sweep

/-- The detail of a source whose rule states none (log 9). -/
def openDetail (cls sub pos : Nat) : Nat := (Config.openDetail cls sub pos).toNat

/-- The cause of a source is absent again: the clearance is logged and no latch changes (R392, R393). -/
def State.clearAt (s : State) (x : Source) (seen : Nat) : State :=
  if s.hasCause x then
    let s := { s with flt := { s.flt with causes := s.flt.causes.filter (fun c => decide (c.src ≠ x)) } }
    (s.event Ev.fcause).logAt 1 x.cls x.sub x.pos x.detail seen 0
  else s

/-- The cause of a source is absent again, seen in the running sweep. -/
def State.clear (s : State) (cls sub pos detail : Nat) : State := s.clearAt ⟨cls, sub, pos, detail⟩ s.sweep

/-- Raises or clears a source as a condition holds or not. -/
def State.judge (s : State) (bad : Bool) (cls sub pos detail : Nat) (value : Word) : State :=
  cond bad (s.raise cls sub pos detail value) (s.clear cls sub pos detail)

/-- Event sources lapse at a boundary without a clearance record (R391). -/
def State.lapseEvents (s : State) : State :=
  let any := s.flt.causes.any (·.event)
  { s with flt := { s.flt with causes := s.flt.causes.filter (fun c => !c.event) } }.eventIf any Ev.fcause

/-- A masking interval ends: every masked cause that is still present has an occurrence (R400). -/
def State.endMask (s : State) (k : MaskKind) : State :=
  let here := s.flt.causes.filter (fun c => c.masked && s.masks k c.src)
  let s := { s with flt := { s.flt with masks := s.flt.masks.filter (fun m => decide (m.kind ≠ k)) } }
  here.foldl (fun s c =>
    if s.consequential c.src then s
    else
      let s := { s with flt := { s.flt with
        causes := s.flt.causes.map (fun (y : Cause) => if y.src = c.src then { y with masked := false } else y) } }
      (s.logAt 0 c.src.cls c.src.sub c.src.pos c.src.detail s.sweep c.value).occur c.src c.value s.sweep) s

/-- Reactions that last while their latch is set are ordered again at each boundary: bleed off at the positions of
CELL_OT and OPEN_TAP (R381, R382, R396). -/
def State.holdReactions (s : State) : State :=
  [0x03, 0x06].foldl (fun s c =>
    if (s.latch c).latched then
      let ps := (s.latch c).pos :: (s.flt.causes.filter (fun x => decide (x.src.cls = c))).map (·.src.pos)
      ps.eraseDups.foldl (fun s p => s.react ⟨p, .bleedOff⟩) s
    else s) s

/-- A 32-bit value of a source. -/
def sval (v : Int) : Word := BitVec.ofNat 32 (toBits 32 v)

/-! ### What every command ends with -/

/-- The end of a command that has taken `s` to `t`: the queue is not the command's to change, time does not run back, and the
trip path, which is hardware, follows its sources (R353, R354; log 51). -/
def State.finish (s t : State) : State :=
  let t := { t with pending := s.pending, now := max s.now t.now }
  cond t.pw.running t.evalTrip t

/-- A command takes `s` to `t`. -/
def done (s t : State) : Out := .next (s.finish t)

/-- A command that acts on the C-die: nothing happens while the C-die is in reset or DORMANT (log 2). -/
def onC (s : State) (f : State → State) : Out := done s (cond s.pw.running (f s) s)

/-- A command that the supervisor core runs: nothing happens while the core is in reset (log 2, R329, R397). -/
def onCore (s : State) (f : State → State) : Out := done s (cond (s.pw.running && s.pw.coreReset.isNone) (f s) s)

/-- A command that changes the state only where a condition holds (log 2). -/
def guarded (c : Bool) (s : State) (f : State → State) : Out := done s (cond c (f s) s)

end Sys2Proof.Machine
end

