-- ==== Sys2Proof/Machine/Mailbox.lean ====
section
/-!
DEFINITION. Messages: staging areas (R424), responses and event messages (R434), placement (R425, R426), and the
command queues from which Zardo takes complete messages (R418 to R423).
-/

namespace Sys2Proof.Machine

/-! ### Sizes and areas -/

/-- Bytes of a message with a body of `len` bytes: header and padded body (R418). -/
def msgBytes (len : Nat) : Nat := 4 + (len + 3) / 4 * 4

/-- The header word of a message or fragment (R418). -/
def msgHeader (len code : Nat) (frag more : Bool) : Word :=
  word (len % 8192 + 8192 * b2n frag + 16384 * b2n more + 65536 * (code % 65536))

/-- Bytes in use in the response area (`event = false`) or the event area of a host (R424). -/
def HostPort.areaUse (p : HostPort) (event : Bool) : Nat :=
  (p.staged.filter (fun m => decide (m.event = event))).foldl (fun n m => n + msgBytes m.body.length) 0

/-- Stages a message (R424); a frozen port's messages are discarded (R430). -/
def State.stageMsg (s : State) (h : HostId) (m : Staged) : State :=
  cond (s.port h).frozen s (s.modPort h (fun p => { p with staged := p.staged ++ [m] }))

/-- Stages the response to a command: TAG, STATUS and the result (R418, R434). -/
def State.respond (s : State) (h : HostId) (pair code tag status : Nat) (result : List Byte) : State :=
  s.stageMsg h ⟨pair, code, false, leBytes 2 tag ++ leBytes 2 status ++ result, 0⟩

/-- The response to a refused command: DETAIL gives the index and the Legend field concerned (R439). -/
def State.refuse (s : State) (h : HostId) (pair code tag status idx fid : Nat) : State :=
  s.respond h pair code tag status (leBytes 2 idx ++ leBytes 2 fid)

/-- Stages an event message (R424). One that finds its event area full is discarded: HOST 0x06 and the STAGE flag. -/
def State.eventMsg (s : State) (h : HostId) (pair code tag status : Nat) (result : List Byte) : State :=
  let body := leBytes 2 tag ++ leBytes 2 status ++ result
  if (s.port h).frozen then s
  else if (s.port h).areaUse true + msgBytes body.length > 8192 then
    (s.eventOn h Ev.stage).raiseOpenEv 0x1B 6 0 (hostNum h)
  else s.stageMsg h ⟨pair, code, true, body, 0⟩

/-- STATUS codes (R439). -/
abbrev St.ok : Nat := 0x0000
abbrev St.unknown : Nat := 0x0001
abbrev St.length : Nat := 0x0002
abbrev St.level : Nat := 0x0003
abbrev St.invalid : Nat := 0x0004
abbrev St.wrongState : Nat := 0x0005
abbrev St.busy : Nat := 0x0006
abbrev St.causePresent : Nat := 0x0007
abbrev St.commitFull : Nat := 0x0008
abbrev St.notAdopted : Nat := 0x0009
abbrev St.unreachable : Nat := 0x000A
abbrev St.spotFull : Nat := 0x000B
abbrev St.calDue : Nat := 0x000C
abbrev St.notReady : Nat := 0x000D
abbrev St.loopClosed : Nat := 0x000E
abbrev St.destInUse : Nat := 0x000F
abbrev St.bump : Nat := 0x0010
abbrev St.notArmed : Nat := 0x0011
abbrev St.interlock : Nat := 0x0012
abbrev St.precharge : Nat := 0x0013
abbrev St.sequence : Nat := 0x0014
abbrev St.unstable : Nat := 0x0015
abbrev St.outOfLimits : Nat := 0x0016
abbrev St.password : Nat := 0x0017
abbrev St.crc : Nat := 0x0018
abbrev St.notFrozen : Nat := 0x0019
abbrev St.lost : Nat := 0x001A

/-- The command codes of R440. -/
def cmdCodes : List Nat :=
  [0x0101, 0x0102, 0x0103, 0x0104, 0x0105, 0x0106, 0x0107, 0x0108, 0x0109, 0x010A, 0x0201, 0x0202, 0x0203, 0x0204,
   0x0205, 0x0206, 0x0207, 0x0301, 0x0302, 0x0303, 0x0304, 0x0305, 0x0306, 0x0307, 0x0308]

/-- The largest response body of a CODE (R441 to R467). -/
def maxResponse : Nat → Nat
  | 0x0101 => 784
  | 0x0103 => 4088
  | 0x0104 => 2056
  | 0x0105 => 1036
  | 0x0107 => 356
  | 0x0108 => 24
  | 0x0109 => 104
  | 0x0201 => 68
  | 0x0202 => 24
  | 0x0204 => 40
  | 0x0205 => 32
  | 0x0206 => 520
  | 0x0301 => 32
  | 0x0303 => 4096
  | 0x0304 => 16
  | 0x0305 => 4096
  | 0x0306 => 24
  | _ => 12

/-- The message is a setting or bulk command, which executes only while writes land (R437, R440). -/
def isSetting (code : Nat) (body : List Byte) : Bool :=
  let op := field body 2 1
  match code with
  | 0x0101 => decide (op = 0)
  | 0x0102 => true
  | 0x0105 => decide (op = 0)
  | 0x0107 => decide (op ≠ 0)
  | 0x0109 => decide (op = 0)
  | 0x010A => true
  | 0x0201 => decide (field body 3 1 = 0)
  | 0x0202 => decide (field body 3 1 % 16 ≠ 0)
  | 0x0203 => true
  | 0x0204 => decide (op = 0)
  | 0x0302 => decide (op = 2)
  | 0x0304 => decide (op = 0)
  | 0x0306 => decide (op = 3)
  | 0x0308 => true
  | _ => false

/-! ### Placement (R425, R426) -/

/-- Appends the words of one message or fragment to a response queue and sets RSP. -/
def State.placeWords (s : State) (h : HostId) (pair : Nat) (ws : List Word) (more : Bool) : State :=
  (s.modQueue (rspQ h pair) (fun q =>
    { q with words := q.words ++ ws, msgs := q.msgs ++ [ws.length], opened := more })).modPort h (·.flagQ pair)

/-- What follows the placing of a message: the event flag of an event message (R433); a spot reading whose answer is placed is
pending no more (R147). -/
def State.placedFlag (s : State) (h : HostId) (code : Nat) (body : List Byte) : State :=
  if code = 0x8106 then
    ({ s with der := { s.der with spots := modAt s.der.spots (field body 5 1) (fun _ => none) } }).eventOn h Ev.spot
  else if code = 0x8203 then s.eventOn h Ev.tune
  else s

/-- Replaces the first staged message of a pair, or removes it. -/
def replaceFirst (pair : Nat) (m : Option Staged) : List Staged → List Staged
  | [] => []
  | x :: l => if x.pair = pair then m.toList ++ l else x :: replaceFirst pair m l

/-- Places the undrained outgoing safe frame in response queue 15 where it fits (R371, R457). -/
def State.placeSafe (s : State) (h : HostId) : State :=
  match (s.port h).safeOut with
  | none => s
  | some f =>
    let q := s.queue (rspQ h 15)
    if q.opened || (s.port h).staged.any (fun m => decide (m.pair = 15)) || decide (4 * q.words.length + 32 > 64 * q.size) then s
    else
      let s := s.placeWords h 15 (msgHeader 28 0x8205 false false :: packWords ([0, 0, 0, 0] ++ f)) false
      (s.modPort h (fun p => { p with safeOut := none })).eventOn h Ev.safefrm

/-- Places the next staged message or fragment of a pair where the queue has room (R425, R426). -/
def State.placeNext (s : State) (h : HostId) (pair : Nat) : State :=
  let q := s.queue (rspQ h pair)
  let cap := 64 * q.size
  let used := 4 * q.words.length
  match (s.port h).staged.find? (fun m => decide (m.pair = pair)) with
  | none => cond (decide (pair = 15)) (s.placeSafe h) s
  | some m =>
    let len := m.body.length
    if msgBytes len ≤ cap then
      if used + msgBytes len ≤ cap then
        let s := s.placeWords h pair (msgHeader len m.code false false :: packWords m.body) false
        (s.modPort h (fun p => { p with staged := replaceFirst pair none p.staged })).placedFlag h m.code m.body
      else s
    else
      let piece := (m.body.drop m.placed).take 60
      let more := decide (m.placed + piece.length < len)
      if used + msgBytes piece.length ≤ cap then
        let s := s.placeWords h pair (msgHeader piece.length m.code true more :: packWords piece) more
        let rest := cond more (some { m with placed := m.placed + piece.length }) none
        let s := s.modPort h (fun p => { p with staged := replaceFirst pair rest p.staged })
        cond more s (s.placedFlag h m.code m.body)
      else s

/-! ### Command queues (R418 to R423) -/

/-- What the head of a command queue holds. -/
inductive HeadMsg where
  | empty
  | partly
  | malformed
  | whole (code : Nat) (body : List Byte) (n : Nat) (frag more : Bool)
  deriving DecidableEq, Repr

/-- Reads the head of a command queue, with the request that is open in it (R418, R422). -/
def headMsg (ws : List Word) (req : Option OpenReq) : HeadMsg :=
  match ws with
  | [] => .empty
  | w :: rest =>
    let v := w.toNat
    let len := v % 8192
    let frag := bit v 13
    let more := bit v 14
    let code := v / 65536
    let bad := bit v 15 || decide (len > 4096)
      || (match req with
          | none => decide (len < 2)
          | some r => !frag || decide (code ≠ r.code) || decide (r.body.length + len > 4096))
      || (frag && (decide (len = 0) || decide (len > 60)))
    let n := (len + 3) / 4
    if bad then .malformed
    else if rest.length < n then .partly
    else .whole code ((wordsToBytes (rest.take n)).take len) (n + 1) frag more

/-- The fragmented request open in a pair's command queue. -/
def HostPort.reqOf (p : HostPort) (pair : Nat) : Option OpenReq :=
  match p.request with
  | some r => cond (decide (r.pair = pair) && !r.complete) (some r) none
  | none => none

/-- Removes words from the head of a command queue; an emptied queue sets CQE (R423). -/
def State.popCmd (s : State) (h : HostId) (pair n : Nat) : State :=
  let s := s.modQueue (cmdQ h pair) (fun q => { q with words := q.words.drop n })
  cond ((s.queue (cmdQ h pair)).words.isEmpty) (s.modPort h (·.flagQ (16 + pair))) s

/-- Zardo's own handling of the head of a command queue, as far as it goes without a command of the table: fragments
move to the request area (R421), and a message of unknown CODE is answered (R435). Answers false where the head is
malformed, which freezes the port (R422). -/
def State.digest (fuel : Nat) (s : State) (h : HostId) (pair : Nat) : State × Bool :=
  match fuel with
  | 0 => (s, true)
  | fuel + 1 =>
    match headMsg (s.queue (cmdQ h pair)).words ((s.port h).reqOf pair) with
    | .empty => (s, true)
    | .partly => (s, true)
    | .malformed => (s, false)
    | .whole code body n frag more =>
      if frag then
        match (s.port h).request with
        | none =>
          State.digest fuel ((s.modPort h (fun p => { p with request := some ⟨pair, code, body, !more⟩ })).popCmd h pair n)
            h pair
        | some r =>
          if r.pair = pair ∧ r.complete = false then
            State.digest fuel
              ((s.modPort h (fun p => { p with request := some ⟨pair, code, r.body ++ body, !more⟩ })).popCmd h pair n)
              h pair
          else (s, true)
      else if cmdCodes.contains code then (s, true)
      else if (s.port h).areaUse false + msgBytes 8 ≤ 12288 then
        State.digest fuel ((s.popCmd h pair n).refuse h pair code (field body 0 2) St.unknown 0 0) h pair
      else (s, true)

/-- The complete message that a pair offers to Zardo (R421, R423). -/
def State.offer (s : State) (h : HostId) (pair : Nat) : Option (Nat × List Byte) :=
  match (s.port h).request with
  | some r => cond (r.complete && decide (r.pair = pair)) (some (r.code, r.body)) none
  | none =>
    match headMsg (s.queue (cmdQ h pair)).words none with
    | .whole code body _ false _ => some (code, body)
    | _ => none

/-- The message that a pair offers may be taken: a setting only while writes land, and only with room for the largest
response of its CODE (R423). -/
def State.takeable (s : State) (h : HostId) (pair : Nat) : Bool :=
  match s.offer h pair with
  | none => false
  | some (code, body) =>
    !(s.swp.hold && isSetting code body)
      && decide ((s.port h).areaUse false + msgBytes (maxResponse code) ≤ 12288)

/-- The pair of a host whose turn it is: round-robin from the pair after the one last served (R423). -/
def State.nextPair (s : State) (h : HostId) : Option Nat :=
  let from' := (s.port h).lastPair + 1
  ((List.range 16).map (fun i => (from' + i) % 16)).find? (fun i => s.takeable h i)

/-- The host and pair that Zardo serves next: the hosts alternate (R423). -/
def State.pick (s : State) : Option (HostId × Nat) :=
  let a := (s.nextPair .A).map (fun p => (HostId.A, p))
  let b := (s.nextPair .B).map (fun p => (HostId.B, p))
  cond s.lastA (b.or a) (a.or b)

/-- Zardo takes the offered message of a pair out of its queue (R423). -/
def State.takeMsg (s : State) (h : HostId) (pair : Nat) : State :=
  let s :=
    match (s.port h).request with
    | some _ => s.modPort h (fun p => { p with request := none })
    | none =>
      match headMsg (s.queue (cmdQ h pair)).words none with
      | .whole _ _ n _ _ => s.popCmd h pair n
      | _ => s
  { s.modPort h (fun p => { p with lastPair := pair, lastCmd := s.now }) with lastA := decide (h = .A) }

end Sys2Proof.Machine
end

