-- ==== Sys2Proof/Machine/Operands.lean ====
section
/-!
DEFINITION. Operand forms: the fields of a Survey entry word (R134 to R136) and the default table (R146), the bytes of an
entry (R108), of upstream items (R268, R269), of frames and their CRC (R260 to R264, R279, R283).
-/

namespace Sys2Proof.Machine

/-! ### The Survey entry word (R134) -/

/-- CHAN. -/
def eChan (w : Word) : Nat := bits w.toNat 5 0
/-- END. -/
def eEnd (w : Word) : Bool := bit w.toNat 7
/-- SETTLE, µs. -/
def eSettle (w : Word) : Nat := bits w.toNat 15 8
/-- Repeats: REPEAT plus one. -/
def eRepeats (w : Word) : Nat := bits w.toNat 21 16 + 1
/-- OWMODE. -/
def eOwMode (w : Word) : Nat := bits w.toNat 23 22
/-- OWLEVEL: 1 = 100 µA. -/
def eOwHigh (w : Word) : Bool := bit w.toNat 24
/-- OWPASS. -/
def eOwPass (w : Word) : Bool := bit w.toNat 25
/-- PASSEND. -/
def ePassEnd (w : Word) : Bool := bit w.toNat 26
/-- PASSDIV as a divisor: 1, 4, 16, 64. -/
def ePassDiv (w : Word) : Nat := 4 ^ bits w.toNat 28 27

/-- Duration of an entry that runs, µs (R136). -/
def eDuration (w : Word) : Nat := 2 + eSettle w + (if eChan w = 0x3F then 0 else 5 * eRepeats w)

/-- The tap into which an entry drives open-wire current: CTk or CT(k-1) (R139, R178). -/
def eTap (w : Word) : Option Nat :=
  if eChan w < 24 ∧ eOwMode w = 1 then some (eChan w + 1)
  else if eChan w < 24 ∧ eOwMode w = 2 then some (eChan w)
  else none

/-- Cells (0 to 23) that use tap j (R139). -/
def tapCells (j : Nat) : List Nat := (if 0 < j ∧ j ≤ 24 then [j - 1] else []) ++ (if j < 24 then [j] else [])

/-- An entry word of the default table: channel, settle delay, repeats and upper bits. -/
def eWord (chan settle repeats high : Nat) : Word := word (chan + 256 * settle + 65536 * (repeats - 1) + high)

/-- OWMODE 0b01, 100 µA, OWPASS, PASSDIV 0b10 (R146). -/
def owSource : Nat := 2 ^ 22 + 2 ^ 24 + 2 ^ 25 + 2 ^ 28

/-- The default table of R146; the head adds VL1 and VL2. -/
def defaultTable (head : Bool) : List Word :=
  (List.range 24).map (fun k => eWord k 20 8 0) ++ [eWord 0x38 20 8 0]
    ++ (List.range 32).map (fun k => eWord (0x18 + k) 50 4 0)
    ++ [eWord 0x3B 10 8 0, eWord 0x3C 10 8 0, eWord 0x3E 10 8 0, eWord 0x3D 10 8 0]
    ++ (if head then [eWord 0x39 20 8 0, eWord 0x3A 20 8 0] else [])
    ++ (List.range 24).map (fun k => eWord k 200 4 owSource)
    ++ [eWord 0 200 4 (2 ^ 23 + 2 ^ 24 + 2 ^ 25 + 2 ^ 26 + 2 ^ 28 + 2 ^ 7)]

/-- An entry word that R142 items 2, 3 and 5 allow under a sweep period (µs). -/
def entryAllowed (w : Word) (periodUs' : Nat) : Bool :=
  !bit w.toNat 6 && decide (bits w.toNat 31 29 = 0) && decide (eOwMode w ≠ 3)
    && (decide (eOwMode w = 0) || decide (eChan w < 24))
    && !(decide (eChan w = 0x3F) && (eOwPass w || ePassEnd w))
    && decide (eDuration w + 5 ≤ periodUs')

/-- A word's channel exists only at position 0 (R142 item 4). -/
def entryHeadOnly (w : Word) : Bool := decide (eChan w = 0x39 ∨ eChan w = 0x3A)

/-- The table up to and with its first END entry (R135). -/
def tableOf : List Word → List Word
  | [] => []
  | w :: l => if eEnd w then [w] else w :: tableOf l

/-! ### Bytes of entries and items -/

/-- The 16 bytes of an entry (R108). -/
def entryBytes (e : Entry) : List Byte :=
  leBytes 6 (toBits 48 e.sum) ++ leBytes 3 (toBits 24 e.min) ++ leBytes 3 (toBits 24 e.max) ++ leBytes 2 e.count
    ++ leBytes 2 (flagsWord e.flags)

/-- The 16 bytes of an item body (R269). -/
def itemBytes : ItemBody → List Byte
  | .entry e => entryBytes e
  | .spot sum mn mx count flags instant slot =>
    leBytes 4 (toBits 32 sum) ++ leBytes 3 (toBits 24 mn) ++ leBytes 3 (toBits 24 mx) ++ leBytes 1 count
      ++ leBytes 2 (flagsWord flags) ++ leBytes 3 (instant % 2 ^ 18 + 2 ^ 18 * (slot % 4))
  | .sounding a b v st =>
    leBytes 6 (toBits 48 a) ++ leBytes 6 (toBits 48 b) ++ leBytes 3 (toBits 24 v) ++ leBytes 1 st
  | .event c sub detail sweep v v2 =>
    leBytes 1 c ++ leBytes 1 sub ++ leBytes 2 detail ++ leBytes 4 sweep ++ leBytes 4 v.toNat ++ leBytes 4 v2.toNat
  | .ack q ty st crc => leBytes 2 q ++ leBytes 1 ty ++ leBytes 1 st ++ leBytes 4 crc.toNat ++ leBytes 8 0
  | .notice e w => leBytes 4 e.toNat ++ leBytes 4 w.toNat ++ leBytes 8 0
  | .alive => leBytes 16 0

/-! ### Bytes of frame payloads -/

/-- Bytes of a device record (R279). -/
def recBytes (r : TokenRec) : List Byte :=
  leBytes 4 r.id.toNat ++ leBytes 1 r.dh ++ leBytes 1 (b2n r.cPowered + 2 * b2n r.coreHalted) ++ leBytes 2 r.lambda
    ++ leBytes 4 r.linkE.toNat ++ leBytes 4 r.linkW.toNat

/-- Setting identity and value bytes of a setting record. The identities of settings that no Legend field names lie in
block 0xF0 (log 14); the record of REG_SWP holds SWP_CTRL alone, 8 bytes with its head (R67). -/
def settingBytes : SettingVal → Nat × List Byte
  | .field fid idx v => (fid, (if fid = Fld.regSwp then [] else leBytes 2 idx) ++ leBytes (match fieldSpec fid with
      | some r => r.width
      | none => 4) v)
  | .window g w s0 => (Fld.win, leBytes 1 g ++ leBytes 2 w ++ leBytes 4 s0)
  | .balance m t => (0xF001, leBytes 3 m ++ leBytes 2 t)
  | .calHalt => (0xF002, [])
  | .calResume => (0xF003, [])
  | .substitute c => (0xF004, leBytes 1 c)
  | .revert c => (0xF005, leBytes 1 c)
  | .arbitrate c o => (0xF006, leBytes 1 c ++ leBytes 1 (b2n o))
  | .selfTest f => (0xF007, leBytes 1 (b2n f))
  | .sounding c b l => (0xF008, leBytes 3 c ++ leBytes 1 b ++ l.flatMap (leBytes 2))
  | .soundHalt => (0xF009, [])
  | .activate o => (0xF00A, leBytes 2 o)
  | .firmware => (0xF00B, [])
  | .quota q => (0xF00C, leBytes 1 q)
  | .bleedOff => (0xF00D, [])
  | .clearTimers => (0xF00E, [])
  | .dormant => (0xF00F, [])
  | .cancelTest => (0xF010, [])

/-- Bytes of one setting record: TARGET, ID, LEN, VALUE (R264). -/
def recordBytes (x : Setting) : List Byte :=
  let v := settingBytes x.val
  leBytes 1 x.target ++ leBytes 2 v.1 ++ leBytes 1 v.2.length ++ v.2

/-- Bytes of a commit or reaction record (R264). -/
def commitBytes (c : CommitMsg) : List Byte :=
  leBytes 2 c.epoch ++ leBytes 4 c.sweep ++ leBytes 2 c.settings.length ++ c.settings.flatMap recordBytes

/-- TYPE of a payload (R263). -/
def frameType : Payload → Nat
  | .token _ => 0x01
  | .probe _ => 0x02
  | .probeReply _ _ => 0x03
  | .adopt _ => 0x04
  | .header _ => 0x10
  | .keepalive _ _ => 0x11
  | .commit _ => 0x12
  | .reaction _ => 0x13
  | .command _ => 0x14
  | .stage _ => 0x15
  | .items _ => 0x20
  | .bad t _ => t

/-- Payload bytes (R264, R268, R279, R283). -/
def payloadBytes : Payload → List Byte
  | .token t =>
    leBytes 1 t.trav ++ leBytes 1 t.pass ++ leBytes 1 (b2n t.dirW + 2 * b2n t.ended + 4 * b2n t.ovl) ++ leBytes 1 t.h
      ++ leBytes 4 t.headId.toNat ++ leBytes 4 t.lsum ++ leBytes 2 t.fwd ++ leBytes 2 0 ++ t.recs.flatMap recBytes
  | .probe n => leBytes 4 n
  | .probeReply n t => leBytes 4 n ++ leBytes 4 t
  | .adopt a =>
    leBytes 1 a.trav ++ leBytes 1 a.n ++ leBytes 1 (b2n a.closed) ++ [0] ++ leBytes 4 a.sa
      ++ (List.range 32).flatMap (fun i => leBytes 4 (a.ids.getD i 0).toNat)
  | .header h =>
    leBytes 4 h.sweep ++ leBytes 2 h.epoch ++ leBytes 1 (h.period + 16 * h.tickdiv)
      ++ leBytes 1 (b2n h.wrapped + 2 * b2n h.traverse + 4 * b2n h.unsettled) ++ leBytes 1 h.n ++ leBytes 1 h.quota
      ++ leBytes 1 h.brkE ++ leBytes 1 h.brkW ++ leBytes 1 h.trav ++ leBytes 3 0
  | .keepalive n e => leBytes 4 n ++ leBytes 4 e
  | .commit c => commitBytes c
  | .reaction c => commitBytes c
  | .command (.spot slot e) => leBytes 2 0x0106 ++ leBytes 1 slot ++ leBytes 4 e.toNat
  | .command (.other c p) => leBytes 2 c ++ p
  | .stage m =>
    leBytes 2 m.object ++ leBytes 4 m.offset ++ leBytes 4 m.total ++ leBytes 4 m.crc.toNat ++ m.data
  | .items l => l.flatMap (fun i => leBytes 1 i.kind ++ leBytes 1 i.tag ++ itemBytes i.body)
  | .bad _ b => b

/-- FLAGS without its parity bit (R260). -/
def frameFlags (f : Frame) : Nat := f.hops % 32 + 32 * b2n f.wrap

/-- The number of ones among the low n bits. -/
def ones : Nat → Nat → Nat
  | 0, _ => 0
  | n + 1, v => v % 2 + ones n (v / 2)

/-- The parity bit that makes the number of ones in FLAGS odd (R261). -/
def oddParity (hops : Nat) (wrap : Bool) : Bool := decide (ones 6 (hops % 32 + 32 * b2n wrap) % 2 = 0)

/-- The CRC of a frame: over the header with FLAGS taken as 0x00, and the payload (R261). -/
def frameCrc (f : Frame) : Nat :=
  crc32 (leBytes 1 f.dest ++ leBytes 1 f.src ++ leBytes 1 (frameType f.payload) ++ [0] ++ leBytes 2 f.lenField
    ++ leBytes 2 f.seq ++ payloadBytes f.payload)

/-- A payload that its TYPE admits (R263). -/
def payloadListed : Payload → Bool
  | .bad _ _ => false
  | _ => true

/-- The code group is a code error: a control symbol that the device does not use, wrong disparity, or K28.1 or K28.5 off the
character alignment (R241; log 165). -/
def codeError (g : CodeGroup) : Bool :=
  !g.disparity || decide (g.symbol = .other) || ((decide (g.symbol = .idle) || decide (g.symbol = .meridian)) && !g.aligned)

/-- The code errors that the receiver met inside the frame (R241, R244). -/
def codeErrors (f : Frame) : Nat := (f.groups.filter codeError).length

/-- The frame is valid at a receiver (R262). -/
def frameValid (f : Frame) : Bool :=
  f.framed && !f.hasError && decide (codeErrors f = 0) && decide (f.lenField = (payloadBytes f.payload).length) && decide (f.lenField ≤ 1024)
    && decide (f.parity = oddParity f.hops f.wrap) && decide (f.crc = word (frameCrc f)) && payloadListed f.payload

/-- A frame with every derived field filled in (R260, R261). -/
def mkFrame (dest src hops seq : Nat) (p : Payload) : Frame :=
  let f : Frame := ⟨dest, src, hops, false, oddParity hops false, (payloadBytes p).length, seq, p, 0, true, false, []⟩
  { f with crc := word (frameCrc f) }

/-- Characters that a frame occupies on a lane with its idle set, in ns (R245). -/
def frameNs (f : Frame) : Nat := 32 * (12 + f.lenField + 4)

/-- A frame whose HOPS or WRAP a device changes on forward: the parity is rewritten (R261). -/
def frameRelay (f : Frame) (hops : Nat) (wrap : Bool) : Frame :=
  { f with hops := hops, wrap := wrap, parity := oddParity hops wrap }

end Sys2Proof.Machine
end

