-- ==== Sys2Proof/Machine/Device.lean ====
section
/-!
DEFINITION. Operations of one S-die: its items and reports (R268, R392), accumulators, windows and entries (R102 to
R118, R126), bleed switches (R214 to R235). Cells are numbered 0 to 23 here, modulators 0 to 26, records 0 to 191.
-/

namespace Sys2Proof.Machine

/-! ### Reports (R269, R392) -/

/-- Queues an event item: a cause raised or cleared, with the device's own sweep of detection. -/
def Dev.report2 (d : Dev) (up : Bool) (cls sub detail : Nat) (value value2 : Word) : Dev :=
  { d with events := d.events ++ [Item.mk 0xC2 (b2n up) (.event cls sub detail (d.sweep % 2 ^ 32) value value2)] }

/-- Queues an event item of one value. -/
def Dev.report (d : Dev) (up : Bool) (cls sub detail : Nat) (value : Word) : Dev :=
  d.report2 up cls sub detail value 0

/-- Queues an acknowledgement item (R269). -/
def Dev.ack (d : Dev) (seq type status : Nat) (crc : Word) : Dev :=
  { d with acks := d.acks ++ [Item.mk 0xC3 0 (.ack seq type status crc)] }

/-- Queues a link notice item (R268). -/
def Dev.notice (d : Dev) : Dev :=
  { d with notices := d.notices ++ [Item.mk 0xC4 0 (.notice (word d.portE.word) (word d.portW.word))] }

/-! ### Settings of a device -/

/-- Decimated sample periods of a post-filter span (R77). -/
def spanOf : Nat → Nat
  | 0 => 4
  | 1 => 20
  | 2 => 68
  | _ => 260

/-- Span S_f in force at a device. -/
def Dev.sf (d : Dev) : Nat := spanOf d.postfilt

/-- The position that indexes the position fields: a device without one uses that which it held last, and before its first
one index 0 of its own image (R283 item 6, log 13). -/
def Dev.posIx (d : Dev) : Nat := (d.pos.or d.lastPos).getD 0

/-- CONV_RTAP of tap j, 0.1 mΩ (R81). -/
def Dev.rtap (d : Dev) (j : Nat) : Nat := d.par Fld.convRtap (25 * d.posIx + j)

/-- BAL_RB of cell k, 0.1 Ω (R216). -/
def Dev.rb (d : Dev) (k : Nat) : Nat := d.par Fld.balRb (24 * d.posIx + k)

/-- ROLE of thermistor input n (0 to 31) (R290). -/
def Dev.thRole (d : Dev) (n : Nat) : Nat := bits (d.par Fld.thCfg (32 * d.posIx + n)) 1 0

/-- Sweep period in force at a device, ns. -/
def Dev.periodNs' (d : Dev) : Nat := us (periodUs d.period)

/-- Cells of a device that share a tap with cell k (R85). -/
def neighbours (k : Nat) : List Nat := (if k = 0 then [] else [k - 1]) ++ (if k < 23 then [k + 1] else [])

/-- The device serves position 0. -/
def Dev.isHead (d : Dev) : Bool := decide (d.role = .head)

/-! ### Records (R116 to R118) -/

/-- A record that the device forms and sends; DR, SM, SP, 185 and 189 are the head C-die's own (R118). -/
def Dev.sends (d : Dev) (r : Nat) : Bool :=
  decide (r < 48) || decide (120 ≤ r ∧ r < 178) || [180, 181, 184, 186, 187, 190].contains r
    || (d.isHead && [178, 179, 188].contains r)

/-- An event group: DR, SM, SP and record 181 (R117). -/
def eventRecord (r : Nat) : Bool := decide (48 ≤ r ∧ r < 120) || decide (r = 181)

/-- A record that no device has, or that a member has not (R118). -/
def absentRecord (p r : Nat) : Bool :=
  [182, 183, 191].contains r || (decide (p ≠ 0) && [178, 179, 185, 188, 189].contains r)

/-- The consequence of a BENCH sub-code holds at the device: its cause is present (R170), or a failed self-test step adds
it: steps 1 to 3 that of 0x04, step 11 that of 0x06 (R188). -/
def Dev.benchHas (d : Dev) (x : Nat) : Bool :=
  d.sv.bench.contains x || (decide (x = 4) && d.sv.stepBad.any (fun n => decide (n ≤ 3)))
    || (decide (x = 6) && d.sv.stepBad.contains 11)

/-- The consequence of one of these BENCH sub-codes holds at the device (R170, R188). -/
def Dev.benchAny (d : Dev) (l : List Nat) : Bool := l.any d.benchHas

/-- The sweep at hand is a sweep of recovery for cell k: of its own, or of a neighbour (R88). -/
def Dev.recovering (d : Dev) (k : Nat) : Bool :=
  (k :: neighbours k).any (fun c => decide (0 < (d.cell c).recLeft) || decide (0 < (d.cell c).rcv))

/-- A tap of cell k is declared open (R180). -/
def Dev.tapOpen (d : Dev) (k : Nat) : Bool := d.sv.openTaps.contains k || d.sv.openTaps.contains (k + 1)

/-- The cell is fed by a relief modulator that covers for calibration (R92). -/
def Dev.covered (d : Dev) (k : Nat) : Bool :=
  match (d.cell k).source with
  | some m => decide (24 ≤ m) && decide ((d.cell k).subst ≠ some m)
  | none => false

/-- INV of a record's window while its cause lasts (R94, R96, R111, R170, R180, R225, R294). -/
def Dev.invOf (d : Dev) (r : Nat) : Bool :=
  (if r < 24 then
    (d.cell r).failInv || (d.cell r).source.isNone || d.benchAny [2] || d.tapOpen r || decide ((d.cell r).bench = 9)
  else if r < 48 then
    d.benchAny [1, 4, 5] || d.tapOpen (r - 24) || decide (8 ≤ (d.cell (r - 24)).bench)
  else if 120 ≤ r ∧ r < 144 then (d.cell (r - 120)).source.isNone
  else if 144 ≤ r ∧ r < 176 then
    d.benchAny [1, 4, 5] || (decide (d.thRole (r - 144) ≠ 0) && decide ((d.sv.therm.getD (r - 144) {}).broken ≠ 0))
  else if r = 177 then d.benchAny [2]
  else if r = 180 then d.benchAny [1, 3, 4, 5]
  else if r = 176 ∨ r = 178 ∨ r = 179 ∨ r = 186 then d.benchAny [1, 4, 5]
  else if r = 188 then (d.mod 26).failed
  else false)

/-- The flags with which a window opens (R111, R88, R92, R94). -/
def Dev.openFlags (d : Dev) (r : Nat) (prm : Bool) : Flags :=
  { prm := prm, inv := d.invOf r
    rcv := decide (r < 24) && d.recovering r
    cal := decide (r < 24) && d.covered r
    sub := decide (r < 24) && (d.cell r).subst.isSome }

/-- A window of the record accumulates sweep means (R104). -/
def meanModeOf (period w : Nat) : Bool := decide (65535 < periodSamples period * w)

/-- An accumulator at the opening of a window with sweep n (R106). -/
def openAcc (flags : Flags) (opened meanMode : Bool) (n : Nat) : Acc :=
  { flags := flags, opened := opened, meanMode := meanMode, prm := flags.prm, born := n }

/-- One admitted sample (R102, R106, R107). -/
def Acc.add (a : Acc) (code : Int) : Acc :=
  let c := clampI (-8388607) 8388607 code
  let a := { a with min := Min.min a.min c, max := Max.max a.max c }
  if a.meanMode then { a with swSum := a.swSum + c, swCnt := a.swCnt + 1 }
  else { a with sum := a.sum + c, count := a.count + 1 }

/-- Changes the flags of a window. -/
def Acc.flag (a : Acc) (f : Flags → Flags) : Acc := { a with flags := f a.flags }

/-- The end of a sweep in sweep-mean mode (R105). -/
def Acc.endSweep (a : Acc) : Acc :=
  if a.meanMode ∧ 0 < a.swCnt then
    { a with sum := a.sum + divRound a.swSum a.swCnt, count := a.count + 1, swSum := 0, swCnt := 0 }
  else { a with swSum := 0, swCnt := 0 }

/-- A window that closes full: opened by a close of R113, closed at the next such close, with no sample excluded under
row 1 of R101 (R126). -/
def Acc.full (a : Acc) (due : Bool) : Bool := a.opened && due && !a.row1

/-- The entry that a closing window forms (R108, R109): GAP and AGE are the head's. -/
def Acc.entry (a : Acc) (due : Bool) : Entry :=
  ⟨a.sum, a.min, a.max, a.count, { a.flags with prm := !a.full due, gap := false, age := 0 }⟩

/-- The boundary that begins sweep n is a close of R113 for a window length. -/
def Window.due (w : Window) (n : Nat) : Bool := decide (w.s0 < n) && decide ((n - w.s0) % (max w.w 1) = 0)

/-- The boundary that begins sweep n is a close of R113 for the window that opens there (R113, R114). -/
def Window.opens (w : Window) (n : Nat) : Bool := decide (w.s0 ≤ n) && decide ((n - w.s0) % (max w.w 1) = 0)

/-- The key (CLOSE, record) of R270. -/
def Backlog.key (b : Backlog) : Nat := 192 * b.close + b.record

/-- Inserts by ascending key. -/
def backInsert (b : Backlog) : List Backlog → List Backlog
  | [] => [b]
  | x :: l => if b.key < x.key then b :: x :: l else x :: backInsert b l

/-- An entry joins the backlog; a full one loses its lowest key (R271). -/
def Dev.push (d : Dev) (b : Backlog) : Dev :=
  let l := backInsert b d.backlog
  { d with backlog := cond (decide (1024 < l.length)) (l.drop 1) l }

/-- What the S-die keeps of an entry for its own rules: the latest CV and BV means (R226, R228). -/
def Dev.learn (d : Dev) (r : Nat) (e : Entry) : Dev :=
  if r < 24 then d.modCell r (fun c => { c with
    cvMean := cond (decide (0 < e.count)) (some (entryMean e)) c.cvMean, cvEmpty := decide (e.count = 0) })
  else if r < 48 ∧ 0 < e.count then d.modCell (r - 24) (fun c => { c with bvMean := some (entryMean e) })
  else d

/-- Record r's window closes at the boundary that begins sweep n, and the next opens (R111, R113, R117). -/
def Dev.closeRec (d : Dev) (n r : Nat) (due opens : Bool) (w : Nat) : Dev :=
  let a := (d.acc r).endSweep
  let e := a.entry due
  let d := if d.sends r ∧ ¬ (eventRecord r ∧ e.count = 0) then d.push ⟨n, r, e⟩ else d
  let d := d.learn r e
  d.modAcc r (fun _ => openAcc (d.openFlags r (!a.full due)) opens (meanModeOf d.period w) n)

/-- Records of a group. -/
def groupRecords (g : Nat) : List Nat :=
  if g < 6 then (List.range 24).map (· + 24 * g)
  else if g = 6 then (List.range 32).map (· + 144)
  else (List.range 8).map (· + 176 + 8 * (g - 7))

/-- The window of a group. -/
def Dev.win (d : Dev) (g : Nat) : Window := d.wins.getD g ⟨1, 0⟩

/-- Every group whose window is due closes at the boundary that begins sweep n (R113). -/
def Dev.closeDue (d : Dev) (n : Nat) : Dev :=
  (List.range 9).foldl (fun d g =>
    let w := d.win g
    if w.due n then (groupRecords g).foldl (fun d r => d.closeRec n r true true w.w) d else d) d

/-- A new length or a new s0 of a group takes effect at the boundary that begins sweep n (R114): a window open there that
did not just close full closes short. -/
def Dev.setWindow (d : Dev) (n g : Nat) (w : Window) : Dev :=
  let just := (d.win g).due n || decide ((d.win g).s0 = n)
  let d := { d with wins := modAt d.wins g (fun _ => w) }
  if just then
    (groupRecords g).foldl (fun d r => d.modAcc r (fun a => { a with
      opened := w.opens n, meanMode := meanModeOf d.period w.w })) d
  else (groupRecords g).foldl (fun d r => d.closeRec n r false (w.opens n) w.w) d

/-- A start of record r at the boundary that begins sweep n (R126): its window opens anew. Only at s0 is that opening a close
of R113 by itself; after it the window is short and carries PRM (R62, R114). -/
def Dev.startRec (d : Dev) (n r : Nat) : Dev :=
  let w := d.win (groupOf r)
  d.modAcc r (fun _ => openAcc (d.openFlags r true) (decide (w.s0 = n)) (meanModeOf d.period w.w) n)

/-- The windows that opened at the boundary of sweep n take their flags from what the device has become there (R92, R94,
R111). -/
def Dev.reopen (d : Dev) (n : Nat) : Dev :=
  { d with accs := d.accs.zipIdx.map (fun (x : Acc × Nat) =>
      if x.1.born = n then { x.1 with flags := d.openFlags x.2 x.1.flags.prm } else x.1) }

/-- Every record of the device starts (R126, R156, R283). -/
def Dev.startAll (d : Dev) (n : Nat) : Dev := (List.range 192).foldl (fun d r => d.startRec n r) d

/-! ### Modulators and sources (R91) -/

/-- A bin of the running Sounding keys cell k (R204, R208). -/
def Dev.keyed (d : Dev) (k : Nat) : Bool :=
  match d.snd with
  | some s => (match s.bin with
    | some b => decide (k % 2 = s.group) && s.cells.testBit k && !s.done.contains (k, b)
    | none => false)
  | none => false

/-- The bin in progress on cell k alone is aborted (R209). -/
def Dev.abortCell (d : Dev) (k : Nat) : Dev :=
  { d with snd := d.snd.map (fun (x : Sounding) => { x with aborted := (x.aborted ++ [k]).eraseDups }) }

/-- The source of a cell becomes modulator m (or none), at the boundary of sweep n; a bin in progress on the cell is aborted
(R209). -/
def Dev.setSource (d : Dev) (k n : Nat) (m : Option Nat) : Dev :=
  if (d.cell k).source = m then d
  else
    let d := if d.keyed k then d.abortCell k else d
    d.modCell k (fun c => { c with source := m, sources := (m.map (fun m => (n, m))).toList ++ c.sources })

/-- Connects modulator m to the tap pair of cell k (R91). -/
def Dev.connect (d : Dev) (m k : Nat) : Dev := d.modMod m (fun x => { x with conn := some k, got := 0 })

/-- Disconnects modulator m. -/
def Dev.disconnect (d : Dev) (m : Nat) : Dev := d.modMod m (fun x => { x with conn := none, got := 0 })

/-- State of relief modulator 24 or 25. -/
def Dev.relief (d : Dev) (m : Nat) : Relief := if m = 24 then d.rm1 else d.rm2

/-- Changes the state of relief modulator 24 or 25. -/
def Dev.setRelief (d : Dev) (m : Nat) (x : Relief) : Dev :=
  if m = 24 then { d with rm1 := x } else if m = 25 then { d with rm2 := x } else d

/-- A free relief modulator. -/
def Dev.freeRelief (d : Dev) : Option Nat := [24, 25].find? (fun m => decide (d.relief m = .free))

/-- Samples of cell k excluded as post-filter fill or relief settling (R79, R94). -/
def Dev.setFill (d : Dev) (k : Nat) : Dev :=
  (d.modCell k (fun c => { c with fill := d.sf, fillCal := false })).modAcc k (fun a => { a with row1 := true, prm := true })

/-- MOD_FAIL 0x01: the declaration of a failed modulator (R94); INV of its cell begins. -/
def Dev.declareFailed (d : Dev) (m : Nat) : Dev :=
  let feeding := (List.range 24).find? (fun k => decide ((d.cell k).source = some m))
  let d := (d.modMod m (fun x => { x with failed := true })).report true 0x09 1 (m + 1)
    (word (match feeding with
      | some k => k + 1
      | none => 0))
  match feeding with
  | some k => (d.modCell k (fun c => { c with failInv := true })).modAcc k (·.flag (fun f => { f with inv := true }))
  | none => d

/-! ### Bleed switches (R214 to R235) -/

/-- Counts the conduction of a cell's switch up to instant t (R218, R225). -/
def Cell.countTo (c : Cell) (t : Nat) : Cell :=
  let dt := bif c.gate then t - c.countedAt else 0
  { c with condNs := c.condNs + dt, periodNs := c.periodNs + dt, countedAt := max c.countedAt t }

/-- Drives the gate of a cell at instant t. -/
def Cell.drive (c : Cell) (on : Bool) (t : Nat) : Cell :=
  let c := c.countTo t
  if c.gate = on then c else { c with gate := on, edgeAt := some t }

/-- Drives the gate of cell k of a device. -/
def Dev.drive (d : Dev) (k : Nat) (on : Bool) (t : Nat) : Dev := d.modCell k (·.drive on t)

/-- Ends the bleed of a cell at instant t with a reason (R220 ENDED); an inactive cell only loses its drive. -/
def Cell.endBleed (c : Cell) (t reason : Nat) : Cell :=
  let c := c.drive false t
  { c with active := false, remain := 0, pause := .none, admitted := false, ended := if c.active then reason else c.ended }

/-- Ends every bleed of the device with ENDED = 0b11; a balance command that waits is dropped with the timers (R219, R229,
R235, R308). -/
def Dev.bleedAllOff (d : Dev) (t : Nat) : Dev :=
  { d with cells := d.cells.map (fun (c : Cell) => { c.endBleed t 3 with held := none }) }

/-- The first cell of module m (0 lower, 1 upper) is cell 12 m. -/
def moduleCells (m : Nat) : List Nat := (List.range 12).map (· + 12 * m)

/-- Conduction per sweep under the schedule of R221 and R223, ns; 0 where it is infeasible (R222). -/
def Dev.tc (d : Dev) : Nat :=
  let q := d.par Fld.balQuiet 0
  if q = 0 then d.periodNs'
  else
    let on := (periodSamples d.period + 1) * 62500
    let off := q * 62500 + d.sf * 62500 + d.guardNs + 5000 + 2000
    if on < off + 50000 then 0 else on - off

/-- The schedule is feasible (R222). -/
def Dev.feasible (d : Dev) : Bool := decide (0 < d.tc)

/-- The running Sounding holds cell k's group, so that its balancing pauses (R211). -/
def Dev.soundingGroup (d : Dev) (k : Nat) : Bool :=
  match d.snd with
  | some s => decide (k % 2 = s.group) && s.cells.testBit k
  | none => false

/-- The bin in progress on cell k and its neighbours is aborted (R209, R211). -/
def Dev.abortSound (d : Dev) (k : Nat) : Dev :=
  match d.snd with
  | some s => { d with snd := some { s with aborted := (s.aborted ++ (k :: neighbours k)).eraseDups } }
  | none => d

/-- The switch of cell k changes state at t other than by the keying: bins in progress on the cell and beside it are
aborted, unless they begin at that instant (R209). -/
def Dev.switch (d : Dev) (k : Nat) (on : Bool) (t : Nat) : Dev :=
  let begun := d.snd.any (fun s => decide (s.since < t))
  let d := if (d.cell k).gate ≠ on ∧ begun then
      (k :: neighbours k).foldl (fun d c => if d.keyed c then d.abortCell c else d) d else d
  d.drive k on t

/-- The bleed of cell k ends at t with a reason; the keying of a Sounding on the cell goes on (R204, R211). -/
def Dev.endBleed (d : Dev) (k t reason : Nat) : Dev :=
  let d := if d.keyed k then d else d.switch k false t
  d.modCell k (fun c => { c with
    active := false, remain := 0, pause := .none, admitted := false, ended := if c.active then reason else c.ended })

/-- The end of a keying of these cells at t: each switch is off, and the samples up to here were keyed (R204, R211). -/
def Dev.keyingEnds (d : Dev) (cells : List Nat) (t : Nat) : Dev :=
  cells.foldl (fun d k => d.modCell k (fun c => { c.drive false t with keyedAt := some t })) d

/-- A Sounding halts: the keying stops (R212). Cells without a result are reported halted. -/
def Dev.haltSounding (d : Dev) (t : Nat) : Dev :=
  match d.snd with
  | some s =>
    let left := (List.range 24).flatMap (fun k => (List.range 8).filterMap (fun b =>
      if s.cells.testBit k ∧ s.bins.testBit b ∧ ¬ s.done.contains (k, b) then some (k, b) else none))
    let d := d.keyingEnds ((List.range 24).filter d.keyed) t
    { d with snd := none, sndItems := d.sndItems ++ left.map (fun (k, b) =>
        Item.mk 0xC1 (k + 1 + 32 * b) (.sounding 0 0 0 2)) }
  | none => { d with sndNext := none }

/-! ### Reports at the head (R32, R33, R392) -/

/-- What the head S-die takes in reaches the C-die over U1 or U2 (R33). -/
def State.upWorks (s : State) : Bool :=
  s.pw.running && (s.dev 0).isHead && !(s.pw.lostLanes.contains .U1 && s.pw.lostLanes.contains .U2)

/-- A source that no rule clears (R391), as a device reports it. -/
def itemEvent (cls sub : Nat) : Bool :=
  [0x0C, 0x1A, 0x1C].contains cls || decide (cls = 0x07 ∧ (sub = 7 ∨ sub = 0x0A)) || decide (cls = 0x09 ∧ sub = 1)
    || decide (cls = 0x0A ∧ sub = 4)

/-- What the head keeps of a device's reports beside the collector (R170, R253, R274, R286, R294). -/
def State.noteEvent (s : State) (p : Nat) (up : Bool) (cls sub detail : Nat) (value value2 : Word) : State :=
  if cls = 0x05 then
    s.modPos p (fun (t : PosTrack) => { t with broken := if up then smapSet t.broken detail sub else smapErase t.broken detail })
  else if cls = 0x07 ∧ (sub ≤ 6 ∨ sub = 0x0A) then
    -- a failed self-test step stands as 0x10 plus its number (R188)
    let mark := if sub = 0x0A then 0x10 + detail else sub
    s.modPos p (fun (t : PosTrack) => { t with
      bench := if up then (t.bench ++ [mark]).eraseDups else t.bench.filter (· ≠ mark) })
  else if cls = 0x0A then
    let lost := up && decide (sub = 1)
    s.modPos p (fun (t : PosTrack) => { t with
      linkE := if detail = 0 then value else value2, linkW := if detail = 0 then value2 else value
      downE := t.downE || (lost && decide (detail = 0)), downW := t.downW || (lost && decide (detail = 1))
      linkAt := if lost then some s.sweep else t.linkAt })
  else s

/-- An occurrence or a clearance that the device at position p reports reaches the collector (R269, R392). -/
def State.takeEvent (s : State) (p : Nat) (up : Bool) (cls sub detail sweep : Nat) (value value2 : Word) : State :=
  let seen := unwrap s.sweep (2 ^ 32) sweep
  let s := s.noteEvent p up cls sub detail value value2
  if up then s.raiseAt ⟨cls, sub, p, detail⟩ value (itemEvent cls sub) seen
  else s.clearAt ⟨cls, sub, p, detail⟩ seen

/-- A report of the head S-die goes over U1 or U2 as it is made; one that asks for a commit record again (R68) waits
for the device's items (log 49). -/
def State.headReport (s : State) (i : Item) : State :=
  match i.body with
  | .event cls sub detail sweep v v2 => s.takeEvent 0 (decide (i.tag % 2 = 1)) cls sub detail sweep v v2
  | _ => s

/-- An event item that waits for the device's items of the sweep (R68). -/
def itemWaits (i : Item) : Bool :=
  match i.body with
  | .event cls sub _ _ _ _ => decide (cls = 0x1A ∧ sub = 1)
  | _ => false

/-- The head S-die's reports reach the collector (log 49). -/
def State.headReports (s : State) : State :=
  let l := (s.dev 0).events
  if s.upWorks ∧ (s.dev 0).pos = some 0 ∧ l.any (fun i => !itemWaits i) then
    (l.filter (fun i => !itemWaits i)).foldl State.headReport
      (s.modDev 0 (fun (x : Dev) => { x with events := x.events.filter itemWaits }))
  else s

/-- A command that acts at the S-die of slot d: nothing happens while it is not awake (log 2). What the head S-die then
has to report reaches the collector (log 49). -/
def onS (s : State) (d : Nat) (f : State → State) : Out :=
  done s (cond (s.dev d).awake (cond (decide (d = 0)) (f s).headReports (f s)) s)

end Sys2Proof.Machine
end

