-- ==== Sys2Proof/Machine/Conversion.lean ====
section
/-!
DEFINITION. Decimated samples (R75 to R101): overrange and recovery, samples under bleed, the classification of R101,
the tap sum, the shunt and its overcurrent comparator (R192, R197).
-/

namespace Sys2Proof.Machine

/-! ### S_ERR (R401) -/

/-- S_ERR at the head follows its causes: shunt overcurrent and the head S-die's over-temperature (R401, R308). -/
def State.sErrUpdate (s : State) : State :=
  let d := s.dev 0
  let on := d.ocCause.1 || d.ocCause.2 || (d.overTemp && d.isHead)
  let s := s.modDev 0 (fun d => { d with sErr := on })
  if s.pw.running then
    ({ s with saf := { s.saf with
        sErr := on, sErrAt := cond on (cond s.saf.sErr s.saf.sErrAt (some s.now)) none } }).evalTrip
  else s

/-! ### One cell sample -/

/-- The delivered code of a cell sample and whether it is an overrange sample (R84). -/
def clipCell (r : RawSample) : Int × Bool :=
  match r.overload with
  | .high => (5500000, true)
  | .low => (-1000000, true)
  | .none =>
    if r.code > 5500000 then (5500000, true) else if r.code < -1000000 then (-1000000, true) else (r.code, false)

/-- The delivered code of a shunt sample and whether it overranges (R118). -/
def clipShunt (r : RawSample) : Int × Bool :=
  match r.overload with
  | .high => (1000000, true)
  | .low => (-1000000, true)
  | .none =>
    if r.code > 1000000 then (1000000, true) else if r.code < -1000000 then (-1000000, true) else (r.code, false)

/-- The instant at which the gating interval of a sample that completes at `t` begins (R98). -/
def Dev.gateStart (d : Dev) (t : Nat) : Nat := t - (d.sf * 62500 + d.guardNs)

/-- The switch of a cell changed state at or after `a`, or its pin differs from its command (R98, R230). -/
def Cell.moved (c : Cell) (a : Nat) : Bool :=
  c.gateBad || (match c.edgeAt with
    | some t => decide (a ≤ t)
    | none => false)

/-- An open-wire current flowed in a tap of the cell at or after `a` (R139). -/
def Cell.openWire (c : Cell) (a : Nat) : Bool :=
  match c.owAt with
  | some t => decide (a ≤ t)
  | none => false

/-- The running entry drives open-wire current in a tap of cell k (R139). -/
def Dev.owNow (d : Dev) (k : Nat) : Bool :=
  match d.sv.running with
  | some r => (match eTap r.entry with
    | some j => (tapCells j).contains k
    | none => false)
  | none => false

/-- An open-wire current flows, or flowed at or after `a`, in a tap of cell k (R139). -/
def Dev.owTouch (d : Dev) (k a : Nat) : Bool := d.owNow k || (d.cell k).openWire a

/-- The switch of cell c is keyed by a Sounding, or was at or after `a` (R211). -/
def Dev.keyTouch (d : Dev) (c a : Nat) : Bool :=
  d.keyed c || (match (d.cell c).keyedAt with
    | some t => decide (a ≤ t)
    | none => false)

/-- The sample of cell k with this gating interval is touched (R98, R139, and for a whole keying R211). -/
def Dev.touched (d : Dev) (k a : Nat) : Bool :=
  d.owTouch k a || (k :: neighbours k).any (fun c => (d.cell c).gate || (d.cell c).moved a || d.keyTouch c a)

/-- The touched sample is excluded with BLK: always in gated mode (R99), and in compensated mode where a switch moved or
the conducting cell has no sample (R100). -/
def Dev.blocked (d : Dev) (k a : Nat) : Bool :=
  d.touched k a &&
    (!d.compensated || d.owTouch k a
      || (k :: neighbours k).any (fun c => (d.cell c).moved a || ((d.cell c).gate && (d.cell c).source.isNone)))

/-- The correction of R100: `m` gives the uncorrected samples; resistances in units of 0.1 Ω and 0.1 mΩ. -/
def Dev.corrected (d : Dev) (m : Nat → Int) (k : Nat) : Int :=
  let term (c rt : Nat) : Rat :=
    if (d.cell c).gate ∧ d.rb c ≠ 0 then (m c : Rat) * (rt : Rat) / ((d.rb c : Rat) * 1000) else 0
  roundQ ((m k : Rat) + term k (d.rtap k + d.rtap (k + 1))
    - (if k = 0 then 0 else term (k - 1) (d.rtap k))
    - (if k < 23 then term (k + 1) (d.rtap (k + 1)) else 0))

/-- An overrange sample or the first samples after a return, with span S_f (R87, R88). DESIGN CHOICE (log 148): without a
source there is no sample, so an excursion that was going on when the source was lost stands, and its neighbours stay excluded
with RCV, until a source gives an in-range sample. -/
def Cell.excursion (c : Cell) (hasSource ovl : Bool) (sf : Nat) : Cell :=
  if !hasSource then c
  else if ovl then { c with ovl := true, recLeft := 0 }
  else if c.ovl then { c with ovl := false, recLeft := sf, rcv := 2 }
  else if 0 < c.recLeft then { c with rcv := max c.rcv 1 }
  else c

/-- The cell's sample is an overrange or a recovery sample (R87). -/
def Cell.excursing (c : Cell) : Bool := c.ovl || decide (0 < c.recLeft)

/-- Classifies the sample of cell k by R101 and accumulates it. Answers the device and the admitted value. -/
def Dev.classify (d : Dev) (m : Nat → Int) (k a : Nat) : Dev × Option Int :=
  let c := d.cell k
  let ovl := c.ovl && c.source.isSome
  let rec' := decide (0 < c.recLeft) || (neighbours k).any (fun x => (d.cell x).excursing)
  let blk := d.blocked k a
  let mark (f : Flags) : Flags :=
    { f with ovr := f.ovr || ovl, rcv := f.rcv || rec', blk := f.blk || blk, cal := f.cal || d.covered k || (c.fillCal && decide (0 < c.fill))
             inv := f.inv || c.failInv || c.source.isNone, sub := f.sub || c.subst.isSome }
  let d' := d.modAcc k (·.flag mark)
  if c.source.isNone ∨ 0 < c.fill then
    (d'.modAcc k (fun x => { x with row1 := true }), none)
  else if ovl then (d'.modAcc k (·.add (m k)), some (m k))
  else if rec' then (d', none)
  else if blk then (d', none)
  else
    let v := if d.touched k a then d.corrected m k else m k
    (d'.modAcc k (·.add v), some v)

/-- The delivered code of cell k's sample from its source, and whether it overranges (R84, R91). -/
def Dev.cellCode (d : Dev) (raw : List RawSample) (k : Nat) : Int × Bool :=
  match (d.cell k).source with
  | some m => clipCell (raw.getD m ⟨0, .none⟩)
  | none => (0, false)

/-- Excursions of the 24 cells at one sample; one beside a keyed cell or on it aborts the bin (R87, R209). -/
def Dev.excursions (d : Dev) (raw : List RawSample) : Dev :=
  let d := (List.range 24).foldl (fun d k =>
    d.modCell k (fun c => c.excursion c.source.isSome (d.cellCode raw k).2 d.sf)) d
  (List.range 24).foldl (fun d k =>
    if d.keyed k ∧ (k :: neighbours k).any (fun c => (d.cell c).excursing) then d.abortCell k else d) d

/-- One decimated sample has been delivered: fill and recovery samples and the samples of each connection count (R79, R87,
R92). -/
def Dev.sampled (d : Dev) : Dev :=
  { d with
    cells := d.cells.map (fun (c : Cell) => { c with
      fill := c.fill - 1, fillCal := c.fillCal && decide (1 < c.fill), recLeft := c.recLeft - 1 })
    mods := d.mods.map (fun (x : Modulator) => bif x.conn.isSome then { x with got := x.got + 1 } else x) }

/-- The value that the charge of a cell counts with: its uncorrected sample, or without a source the latest Benchmark
result; before the first one that value is free (R225, log 149). -/
def Dev.chargeCode (d : Dev) (k : Nat) (code : Int) : Int :=
  if (d.cell k).source.isSome then code else (d.cell k).bvLast.getD (Config.openSample d.sweep)

/-- The samples of the 24 cells that complete at instant t, and the tap sum of record 177 (R101, R118). A half of its sum in
100 µV rounds away from zero, as R130 rounds (DESIGN CHOICE, log 150). -/
def Dev.cellSamples (d : Dev) (raw : List RawSample) (t : Nat) : Dev :=
  let m (k : Nat) : Int := (d.cellCode raw k).1
  let d := d.excursions raw
  let a := d.gateStart t
  let r := (List.range 24).foldl (fun (x : Dev × List (Option Int)) k =>
    let y := x.1.classify m k a
    (y.1, x.2 ++ [y.2])) (d, [])
  let row1 := (List.range 24).any (fun k => (d.cell k).source.isNone || decide (0 < (d.cell k).fill))
  let d := r.1.modAcc 177 (fun x => { x with row1 := x.row1 || row1 })
  let d := if r.2.all (·.isSome) then
      d.modAcc 177 (·.add (divRound (sumI (r.2.map (·.getD 0))) 100)) else d
  ({ d with
    cells := d.cells.zipIdx.map (fun (x : Cell × Nat) =>
      let c := x.1.countTo t
      { c with charge := c.charge + d.chargeCode x.2 (m x.2) * (c.periodNs : Int), periodNs := 0 }) }).sampled

/-- The running comparison sweeps of the arbitrations take the two modulators' samples (R173). -/
def Dev.arbSample (d : Dev) (raw : List RawSample) : Dev :=
  { d with arbs := d.arbs.map (fun (x : Arbitration) =>
      if x.stage = 1 then
        let a := clipCell (raw.getD x.suspect ⟨0, .none⟩)
        let b := clipCell (raw.getD x.second ⟨0, .none⟩)
        { x with sumA := x.sumA + a.1, sumB := x.sumB + b.1, n := x.n + 1, clean := x.clean && !a.2 && !b.2 }
      else x) }

/-! ### The shunt (R191, R192, R197) -/

/-- A shunt code after the system calibration factors; an overranging one is not scaled (R183). -/
def Dev.scaleShunt (d : Dev) (raw : Int) (ovl : Bool) : Int :=
  if ovl then raw
  else clampI (-8388607) 8388607
    (divRound ((raw - parI d.fields Fld.scOfs 0 32) * (d.par Fld.scGain 0 : Int)) (2 ^ 30))

/-- Counts of consecutive samples beyond +OC_DIS, beyond -OC_CHG and within both (R197): c / SHUNT_R is in ampere. -/
def Dev.overcurrent (d : Dev) (code : Int) (ovl : Bool) : Dev :=
  let r : Int := d.par Fld.shuntR 0
  let dis := decide (code > (d.par Fld.ocDis 0 : Int) * r) || (ovl && decide (0 < code))
  let chg := decide (code < -((d.par Fld.ocChg 0 : Int) * r)) || (ovl && decide (code < 0))
  { d with
    ocDis := bif dis then d.ocDis + 1 else 0
    ocChg := bif chg then d.ocChg + 1 else 0
    ocIn := bif dis || chg then 0 else d.ocIn + 1
    ocFirst := bif (dis && decide (d.ocDis = 0)) || (chg && decide (d.ocChg = 0)) then code else d.ocFirst }

/-- A raw sample of a channel under system calibration enters its running measurement (R182). -/
def State.feedCal (s : State) (chan : Nat) (raw : Int) : State :=
  { s with der := { s.der with sysCal := s.der.sysCal.map (fun (c : SysCal) =>
      match c.measuring with
      | some (_, t, _) => if c.chan = chan ∧ s.now ≤ t + 1000000000 then { c with acc := c.acc.add raw } else c
      | none => c) } }

/-- A shunt sample completes at the head S-die: it enters record 188, and the head holds it (R118, R192). -/
def State.shuntSample (s : State) (d t : Nat) (raw : RawSample) : State :=
  let x := s.dev d
  if x.isHead = false ∨ (x.mod 26).conn.isNone then s
  else
    let c := clipShunt raw
    let code := x.scaleShunt c.1 c.2
    let s := s.modDev d (fun x =>
      let x := if 0 < x.shuntFill then x.modAcc 188 (fun a => { a with row1 := true })
        else x.modAcc 188 (fun a => (a.add code).flag (fun f => { f with ovr := f.ovr || c.2 }))
      ({ x with shuntFill := x.shuntFill - 1 }).overcurrent code c.2)
    if d = 0 ∧ s.pw.running then
      let s := cond (decide (x.shuntFill = 0)) (s.feedCal 0xFF c.1) s
      { s with der := { s.der with shunt := ⟨t, code, c.2, c.1⟩ :: s.der.shunt } }
    else s

/-- The shunt overcurrent causes clear after 16 consecutive samples within both limits (R197 item 1). -/
def State.overcurrentClear (s : State) : State :=
  let d := s.dev 0
  if 16 ≤ d.ocIn ∧ (d.ocCause.1 ∨ d.ocCause.2) then
    let s := s.modDev 0 (fun d => { d with ocCause := (false, false) })
    let s := cond s.pw.running ((s.clear 0x0E 1 0 0).clear 0x0E 2 0 0) s
    s.sErrUpdate
  else s

/-! ### The commands -/

/-- A sample before the device's first boundary: it fills post-filters and reaches no record (R156). -/
def Dev.earlySample (d : Dev) (raw : List RawSample) : Dev :=
  let d := (d.excursions raw).sampled
  { d with shuntFill := d.shuntFill - 1, sampleNo := d.sampleNo + 1 }

/-- SAMPLE_COMPLETE: decimated sample j of the running sweep completes at the local boundary plus j × 62.5 µs, on every
modulator of the device (R54, R101, R192). Samples before the device's first boundary, counted from the end of its
self-calibration, reach no record (R156). -/
def execSampleComplete (d : Nat) (raw : List RawSample) (s : State) : Out :=
  onS s d fun s =>
    let x := s.dev d
    if x.calibrated = false then s
    else if x.measuring = false then
      (s.until (x.startAt + ms 160 + (x.sampleNo + 1) * 62500)).modDev d (·.earlySample raw)
    else if periodSamples x.period ≤ x.sampleNo then s
    else
      let t := x.lastB + (x.sampleNo + 1) * 62500
      let s := (s.until t).modDev d (fun x =>
        { (x.arbSample raw).cellSamples raw t with sampleNo := x.sampleNo + 1 })
      let s := s.shuntSample d t (raw.getD 26 ⟨0, .none⟩)
      if d = 0 then s.overcurrentClear else s

/-- SHUNT_OVERCURRENT: OC_N consecutive shunt samples lie beyond one limit: S_ERR, and OVERCURR with the first sample beyond
it in mA (R197 item 1). -/
def execShuntOvercurrent (dir : Direction) (s : State) : Out :=
  onS s 0 fun s =>
    let d := s.dev 0
    let n := d.par Fld.ocN 0
    let v := sval (divRound (d.ocFirst * 1000) (d.par Fld.shuntR 0))
    match dir with
    | .discharge =>
      if n ≤ d.ocDis ∧ d.ocCause.1 = false then
        let s := s.modDev 0 (fun d => { d with ocCause := (true, d.ocCause.2) })
        (cond s.pw.running (s.raise 0x0E 1 0 0 v) s).sErrUpdate
      else s
    | .charge =>
      if n ≤ d.ocChg ∧ d.ocCause.2 = false then
        let s := s.modDev 0 (fun d => { d with ocCause := (d.ocCause.1, true) })
        (cond s.pw.running (s.raise 0x0E 2 0 0 v) s).sErrUpdate
      else s

end Sys2Proof.Machine
end

