-- ==== Sys2Proof/Machine/Survey.lean ====
section
/-!
DEFINITION. The Benchmark converter (R130 to R152): the Survey table and its scheduler, results, open-wire evaluation
(R178 to R180), reference checks (R167 to R170), thermistors and the thermal stop (R293 to R298, R227), spot readings.
-/

namespace Sys2Proof.Machine

/-- The free detail of a class 7 report at a device (log 9). -/
def Dev.benchDetail (d : Dev) (sub : Nat) : Nat := openDetail 0x07 sub d.posIx

/-- A free value of a report whose rule states none (log 9). -/
def Dev.openValue (d : Dev) : Word := Config.openFaultValue d.sweep

/-- Changes the Benchmark state. -/
def Dev.modSv (d : Dev) (f : Survey → Survey) : Dev := { d with sv := f d.sv }

/-- Changes thermistor input n (0 to 31). -/
def Dev.modTherm (d : Dev) (n : Nat) (f : Therm → Therm) : Dev :=
  d.modSv (fun v => { v with therm := modAt v.therm n f })

/-! ### Scheduling (R135 to R137, R144, R145) -/

/-- The table that the device runs (R133, R146). DESIGN CHOICE (log 151): a device on the default table that becomes or stops
being position 0 changes to that form of the table at once, with its index and pass count as they stand. -/
def Dev.table (d : Dev) : List Word :=
  match d.sv.stored with
  | some t => cond d.sv.storedOk t (defaultTable (decide (d.pos = some 0)))
  | none => defaultTable (decide (d.pos = some 0))

/-- A Sounding keys a cell that uses the tap of this entry (R211). -/
def Dev.soundsTap (d : Dev) (w : Word) : Bool :=
  match eTap w with
  | some j => (tapCells j).any d.keyed
  | none => false

/-- The entry is skipped on this pass (R135, R145, R211). -/
def Dev.skips (d : Dev) (w : Word) : Bool :=
  decide (d.sv.pass % ePassDiv w ≠ 0) || decide (periodUs d.period < eDuration w + 5) || d.soundsTap w

/-- The table position after entry i of the table (R135). -/
def Dev.advance (d : Dev) (w : Word) : Dev :=
  d.modSv (fun v => bif eEnd w then { v with idx := 0, pass := v.pass + 1 } else { v with idx := v.idx + 1 })

/-- The device at the next entry that runs, and that entry (R135); the fuel bounds the entries skipped: 65 passes of 256
entries hold every pass count that PASSDIV distinguishes. -/
def Dev.seek : Nat → Dev → Dev × Option Word
  | 0, d => (d, none)
  | n + 1, d =>
    match d.table[d.sv.idx]? with
    | none => (d, none)
    | some w => if d.skips w then Dev.seek n (d.advance w) else (d, some w)

/-- The entry would end by B + P - 5 µs (R137). -/
def Dev.fits (d : Dev) (t : Nat) (w : Word) : Bool :=
  decide (t + us (eDuration w) + 5000 ≤ d.lastB + d.periodNs')

/-- At an entry boundary a pending spot reading waits for its start; otherwise the next table entry starts, or the
scheduler idles until the boundary (R137, R148). DESIGN CHOICE (log 152): a spot reading that a change of sweep period has
made too long for any sweep never starts, and the table waits behind it. -/
def Dev.schedule (d : Dev) (t : Nat) : Dev :=
  let d := d.modSv (fun v => { v with running := none, slotAt := none })
  if d.sv.started = false ∨ d.sv.occ.isSome then d
  else if d.sv.spots ≠ [] then d.modSv (fun v => { v with slotAt := some t })
  else
    let x := Dev.seek 16640 d
    match x.2 with
    | some w => if x.1.fits t w then x.1.modSv (fun v => { v with running := some ⟨w, none, t⟩ }) else x.1
    | none => x.1

/-! ### Results (R130 to R132) -/

/-- A converter result in the unit of its record, clipped to the range of its channel (R131, R132). Channels 0x39 and
0x3A give ball microvolts, which VL_RATIO scales to mV (R531). Answers the code and whether it lay outside. -/
def Dev.benchResult (d : Dev) (chan : Nat) (v : Rat) : Int × Bool :=
  let lim (lo hi : Int) (x : Rat) : Int × Bool :=
    if x < (lo : Rat) then (lo, true) else if (hi : Rat) < x then (hi, true) else (roundQ x, false)
  if chan < 0x18 then lim (-1000000) 5500000 v
  else if chan < 0x38 then lim 0 3000000 v
  else if chan = 0x38 then lim 0 1500000 v
  else if chan = 0x39 ∨ chan = 0x3A then
    lim 0 1000000 (v * (d.par Fld.vlRatio (chan - 0x39) : Rat) / 65536000)
  else if chan = 0x3D then lim (-100000) 100000 v
  else if chan = 0x3E then lim 0 3500000 v
  else lim 0 3000000 v

/-- The mean of the repeats (R130). -/
def meanOf (l : List Int) : Rat := if l = [] then 0 else (sumI l : Rat) / (l.length : Rat)

/-- The record that a channel feeds (R131). -/
def benchRecord (chan : Nat) : Option Nat :=
  if chan < 0x18 then some (24 + chan)
  else if chan < 0x38 then some (144 + chan - 0x18)
  else if chan = 0x38 then some 176
  else if chan = 0x39 then some 178
  else if chan = 0x3A then some 179
  else if chan = 0x3B then some 180
  else if chan = 0x3C then some 186
  else none

/-- A result of cell k whose entry began at `t0` is touched (R140). -/
def Dev.benchTouched (d : Dev) (k t0 : Nat) : Bool :=
  let a := t0 - d.guardNs
  (d.cell k).openWire a || (k :: neighbours k).any (fun c => (d.cell c).gate || (d.cell c).moved a || d.keyTouch c a)

/-! ### Thermistors (R293, R294, R297, R298) -/

/-- An NTC_LUT word: X and T (R292). -/
def lutWord (w : Nat) : Nat × Int := (bits w 15 0, sext 16 (bits w 31 16))

/-- What the linearisation of R293 gives. -/
structure Linear where
  code : Int
  inv : Bool
  ovr : Bool
  /-- 1 open, 2 shorted. -/
  kind : Nat
  deriving DecidableEq, Repr

/-- Linearises a divider ratio x in units of 1/65,536 (R293); `lut` gives the entries of NTC_LUT. -/
def linearise (lut : Nat → Nat × Int) (x : Rat) : Linear :=
  if (64553 : Rat) ≤ x then ⟨15000, true, false, 1⟩
  else if x ≤ 655 then ⟨15000, true, false, 2⟩
  else if x < ((lut 0).1 : Rat) then ⟨(lut 0).2, false, true, 0⟩
  else if ((lut 63).1 : Rat) < x then ⟨(lut 63).2, false, true, 0⟩
  else
    let i := ((List.range 63).find? (fun i => decide (x ≤ ((lut (i + 1)).1 : Rat)))).getD 62
    let a := lut i
    let b := lut (i + 1)
    ⟨roundQ ((a.2 : Rat) + ((b.2 - a.2 : Int) : Rat) * (x - a.1) / ((b.1 : Rat) - a.1)), false, false, 0⟩

/-- Linearises a divider voltage of a device against its bias (R293). -/
def Dev.linear (d : Dev) (v : Rat) : Linear :=
  linearise (fun i => lutWord (d.par Fld.ntcLut i)) (v * 65536 / ((d.sv.bias.getD 3000000 : Int) : Rat))

/-- A broken cell sensor that others of its module vouch for (R297). -/
def Dev.vouched (d : Dev) (n : Nat) : Bool :=
  let need := d.par Fld.vouchN 0
  decide (1 ≤ need) && decide (need ≤ ((List.range 32).filter (fun i =>
    decide (i ≠ n) && decide (d.thRole i = d.thRole n) && decide ((d.sv.therm.getD i {}).broken = 0))).length)

/-- The temperature of module m, 0.01 °C (R298). -/
def Dev.moduleTemp (d : Dev) (m : Nat) : Option Int :=
  (List.range 32).foldl (fun (x : Option Int) n =>
    if d.thRole n ≠ m + 1 then x
    else
      let s := d.sv.therm.getD n {}
      let v := if s.broken ≠ 0 then (if d.vouched n then none else some 15000) else s.value
      match x, v with
      | some a, some b => some (max a b)
      | none, v => v
      | x, none => x) none

/-- The thermal stop of a module (R227): every bleed switch off at instant t, timers kept, BAL 0x03. -/
def Dev.thermalStop (d : Dev) (m t : Nat) (temp : Int) : Dev :=
  let d := (moduleCells m).foldl (fun d k =>
    let d := if d.keyed k then d.abortSound k else d
    (d.switch k false t).modCell k (fun c =>
      bif c.active then { c with pause := .thermal, admitted := false } else c)) d
  let d := d.modSv (fun v => { v with stopped := if m = 0 then (true, v.stopped.2) else (v.stopped.1, true) })
  d.report true 0x0C 3 (m + 1) (sval temp)

/-- The module temperatures are formed again, and BAL_TSTOP is judged (R227, R298). -/
def Dev.judgeModules (d : Dev) (t : Nat) : Dev :=
  let a := d.moduleTemp 0
  let b := d.moduleTemp 1
  let d := d.modSv (fun v => { v with modTemp := (a, b) })
  let lim : Int := d.par Fld.balTstop 0
  let d := match a with
    | some x => if lim ≤ x ∧ d.sv.stopped.1 = false then d.thermalStop 0 t x else d
    | none => d
  match b with
  | some x => if lim ≤ x ∧ d.sv.stopped.2 = false then d.thermalStop 1 t x else d
  | none => d

/-- Declares input n broken with a sub-code, or clears its declaration with 0 (R294). The consequence of a failed measurement
path acts on windows that open later (R170). -/
def Dev.setBroken (d : Dev) (n sub : Nat) : Dev :=
  let old := (d.sv.therm.getD n {}).broken
  if old = sub then d
  else
    let d := if old ≠ 0 then d.report false 0x05 old (n + 1) 0 else d
    let d := d.modTherm n (fun x => { x with broken := sub })
    let d := if sub ≠ 0 then
        (d.report true 0x05 sub (n + 1) d.openValue).modAcc (144 + n)
          (·.flag (fun f => { f with inv := f.inv || decide (sub ≠ 4) })) else d
    d

/-- Inputs whose measurement path has failed or works again (R294, SENSOR 0x04). -/
def Dev.pathSensors (d : Dev) : Dev :=
  let bad := d.benchAny [1, 4, 5, 6]
  (List.range 32).foldl (fun d n =>
    if d.thRole n = 0 then d
    else if bad then d.setBroken n 4
    else if (d.sv.therm.getD n {}).broken = 4 then d.setBroken n 0 else d) d

/-- A thermistor result of the table, and whether the voltage lay outside the channel's range (R132, R293, R294). -/
def Dev.thermResult (d : Dev) (n t : Nat) (v : Rat) (outside : Bool) : Dev :=
  let x := d.linear v
  let d := d.modAcc (144 + n) (fun a => (a.add x.code).flag (fun f =>
    { f with inv := f.inv || x.inv, ovr := f.ovr || x.ovr || outside }))
  let d := d.modTherm n (fun s =>
    if x.kind = 0 then { s with value := some x.code, badCnt := 0, okCnt := s.okCnt + 1 }
    else { s with badCnt := s.badCnt + 1, okCnt := 0 })
  let s := d.sv.therm.getD n {}
  let lim := d.par Fld.snsN 0
  let d :=
    if d.thRole n = 0 ∨ s.broken = 4 then d
    else if x.kind ≠ 0 ∧ lim ≤ s.badCnt ∧ s.broken = 0 then d.setBroken n x.kind
    else if x.kind = 0 ∧ lim ≤ s.okCnt ∧ s.broken ≠ 0 then d.setBroken n 0
    else d
  d.judgeModules t

/-! ### Benchmark faults (R167 to R170) -/

/-- Declares or clears a BENCH cause of the device (R168, R169). -/
def Dev.setBench (d : Dev) (sub : Nat) (on : Bool) : Dev :=
  if d.sv.bench.contains sub = on then d
  else
    let d := d.report on 0x07 sub (d.benchDetail sub) (cond on d.openValue 0)
    (d.modSv (fun v => { v with bench := bif on then v.bench ++ [sub] else v.bench.filter (fun x => decide (x ≠ sub)) }))
      |>.pathSensors

/-- Counts of consecutive results out and in, and what they declare (R169). -/
def countOut (c : Nat × Nat) (out : Bool) : Nat × Nat := if out then (c.1 + 1, 0) else (0, c.2 + 1)

/-- A zero or bias check (R169). -/
def Dev.judgeCount (d : Dev) (sub : Nat) (c : Nat × Nat) : Dev :=
  let n := d.par Fld.refN 0
  if n ≤ c.1 then d.setBench sub true else if n ≤ c.2 then d.setBench sub false else d

/-- The outcome of a judgement of R168: 0 pass, else the row of its table. `s` and `m` are results in µV. -/
def refOutcome (s m tol : Int) : Nat :=
  let outS := decide (tol * 1250000 < 1000000 * (s - 1250000).natAbs)
  let outM := decide (tol * 2500000 < 1000000 * (m - 2500000).natAbs)
  let far := decide (tol * 2500000 < 1000000 * ((m - 2500000) - 2 * (s - 1250000)).natAbs)
  match outM, outS with
  | false, false => 0
  | true, true => if far then 4 else 1
  | true, false => 2
  | false, true => 3

/-- A pair of reference results that completed within 10 ms is judged (R167, R168). DESIGN CHOICE (log 153): a result belongs
to one pair only; both are spent when the pair is judged. -/
def Dev.judgeRefs (d : Dev) : Dev :=
  match d.sv.refS, d.sv.refM with
  | some (s, ts), some (m, tm) =>
    if ts - tm ≤ ms 10 ∧ tm - ts ≤ ms 10 then
      let o := refOutcome s m (d.par Fld.refTol 0)
      let n := if d.sv.judged.1 = o then d.sv.judged.2 + 1 else 1
      let d := d.modSv (fun v => { v with refS := none, refM := none, judged := (o, n) })
      if n < d.par Fld.refN 0 then d
      else
        match o with
        | 0 => ((d.setBench 1 false).setBench 2 false).setBench 3 false
        | 1 => d.setBench 1 true
        | 2 => d.setBench 2 true
        | 3 => d.setBench 3 true
        | _ => (d.setBench 1 true).setBench 2 true
    else d
  | _, _ => d

/-- Three consecutive readings outside or inside a supply band raise or clear a SUPPLY cause (R526). -/
def supplyCount (c : Nat × Nat × Bool) (out inside : Bool) : Nat × Nat × Bool :=
  let a := if out then c.1 + 1 else 0
  let b := if inside then c.2.1 + 1 else 0
  (a, b, (c.2.2 || decide (3 ≤ a)) && !decide (3 ≤ b))

/-- A stack result judged for SUPPLY 0x04 (R526), 100 µV. -/
def Dev.judgeStack (d : Dev) (v : Int) : Dev :=
  let old := d.sv.stackBad
  let new := supplyCount old (decide (v < 160000)) (decide (165000 < v))
  let d := d.modSv (fun x => { x with stackBad := new })
  if old.2.2 = new.2.2 then d
  else d.report new.2.2 0x18 4 (openDetail 0x18 4 d.posIx) (cond new.2.2 d.openValue 0)

/-! ### Open-wire evaluation (R178 to R180) -/

/-- One result with OWPASS = 1 is judged (R178, R179). -/
def Dev.owJudge (d : Dev) (w : Word) (t : Nat) (code : Int) (touched : Bool) : Dev :=
  match eTap w, smapGet d.sv.owRef (eChan w) with
  | some tap, some (r, tr) =>
    if touched ∨ d.benchAny [1, 4, 5] ∨ ms (d.par Fld.owAge 0) < t - tr ∨ d.sv.badSources.contains tap then d
    else
      let lim : Int := 1000 * (d.par (if eOwHigh w then Fld.owThHi else Fld.owThLo) 0 : Int)
      let was := (smapGet d.sv.owPass tap).getD false
      d.modSv (fun v => { v with owPass := smapSet v.owPass tap (was || decide (lim < code - r)) })
  | _, _ => d

/-- An open-wire pass closes (R141, R180). -/
def Dev.owEnd (d : Dev) : Dev :=
  let n := d.par Fld.owN 0
  let open' := (d.sv.owPass.filter (·.2)).length
  let d := d.modAcc 181 (·.add (open' : Int))
  let d := d.sv.owPass.foldl (fun (d : Dev) (e : Nat × Bool) =>
    let o := (smapGet d.sv.owOpen e.1).getD 0
    let i := (smapGet d.sv.owIntact e.1).getD 0
    let o := if e.2 then o + 1 else 0
    let i := if e.2 then 0 else i + 1
    let d := d.modSv (fun v => { v with owOpen := smapSet v.owOpen e.1 o, owIntact := smapSet v.owIntact e.1 i })
    if n ≤ o ∧ d.sv.openTaps.contains e.1 = false then
      (d.modSv (fun v => { v with openTaps := v.openTaps ++ [e.1] })).report true 0x06 1 e.1 d.openValue
    else if n ≤ i ∧ d.sv.openTaps.contains e.1 then
      (d.modSv (fun v => { v with openTaps := v.openTaps.filter (fun x => decide (x ≠ e.1)) })).report false 0x06 1 e.1 0
    else d) d
  d.modSv (fun v => { v with owPass := [], owLast := v.owPass.map (·.1) })

/-! ### The end of an entry -/

/-- A result of a cell channel (R132, R140, R178, R225): an untouched one without open-wire current is a reference. DESIGN
CHOICE (log 150): the mean of the repeats, before it is rounded, decides whether the result lies outside its range. -/
def Dev.cellResult (d : Dev) (r : Running) (chan t : Nat) (c : Int × Bool) : Dev :=
  let w := r.entry
  let touched := d.benchTouched chan r.since
  let d :=
    if eOwPass w then d.owJudge w t c.1 touched
    else if touched then d.modAcc (24 + chan) (·.flag (fun f => { f with blk := true }))
    else d.modAcc (24 + chan) (fun a => (a.add c.1).flag (fun f => { f with ovr := f.ovr || c.2 }))
  let d := if eOwMode w = 0 then d.modCell chan (fun x => { x with bvLast := some c.1 }) else d
  if eOwMode w = 0 ∧ touched = false then d.modSv (fun v => { v with owRef := smapSet v.owRef chan (c.1, t) }) else d

/-- A result of a channel above the cells: its record, and the check that judges it (R131, R132, R167, R169, R293, R526). -/
def Dev.otherResult (d : Dev) (chan t : Nat) (c : Int × Bool) : Dev :=
  let d :=
    if chan < 0x38 then d.thermResult (chan - 0x18) t ((c.1 : Int) : Rat) c.2
    else match benchRecord chan with
      | some rec' => cond (d.sends rec')
          (d.modAcc rec' (fun a => (a.add c.1).flag (fun f => { f with ovr := f.ovr || c.2 }))) d
      | none => d
  if chan = 0x38 then d.judgeStack c.1
  else if chan = 0x3B then (d.modSv (fun v => { v with refS := some (c.1, t) })).judgeRefs
  else if chan = 0x3C then (d.modSv (fun v => { v with refM := some (c.1, t) })).judgeRefs
  else if chan = 0x3D then
    let n := countOut d.sv.zeroCnt (decide ((d.par Fld.zeroTol 0) < c.1.natAbs))
    (d.modSv (fun v => { v with zeroCnt := n })).judgeCount 4 n
  else if chan = 0x3E then
    let n := countOut d.sv.biasCnt (decide (c.1 < 2970000 ∨ 3030000 < c.1))
    (d.modSv (fun v => { v with biasCnt := n, bias := some c.1 })).judgeCount 6 n
  else d

/-- The result of a table entry goes to its record or its evaluation; with OWPASS = 1 it goes to the open-wire evaluation and
nowhere else (R131, R132, R140, R141). -/
def Dev.entryResult (d : Dev) (r : Running) (t : Nat) (results : List Int) : Dev :=
  let w := r.entry
  let chan := eChan w
  let c := d.benchResult chan (meanOf results)
  if chan = 0x3F then d
  else
    let d := if chan < 0x18 then d.cellResult r chan t c else if eOwPass w then d else d.otherResult chan t c
    if ePassEnd w then d.owEnd else d

/-- Open-wire current of an entry ends: the cells that use the tap are touched up to instant t (R139). -/
def Dev.owCurrentEnd (d : Dev) (w : Word) (t : Nat) : Dev :=
  match eTap w with
  | some j => (tapCells j).foldl (fun d k => d.modCell k (fun c => { c with owAt := some t })) d
  | none => d

/-- An entry that ended in time counts towards the end of a converter fault (R169). -/
def Dev.entryTimely (d : Dev) : Dev :=
  let n := d.sv.timelyCnt + 1
  let d := d.modSv (fun v => { v with lateCnt := 0, timelyCnt := n })
  if d.par Fld.refN 0 ≤ n then d.setBench 5 false else d

/-- SURVEY_ENTRY_END: the running table entry completes; its sample is delivered, and the next entry starts or the
scheduler idles (R103, R130, R137). -/
def execSurveyEntryEnd (d : Nat) (results : List Int) (s : State) : Out :=
  onS s d fun s =>
    match (s.dev d).sv.running with
    | some r =>
      if r.spotSlot.isSome then s
      else
        let t := r.since + us (eDuration r.entry)
        (s.until t).modDev d (fun x =>
          (((x.entryResult r t (results.take (eRepeats r.entry))).owCurrentEnd r.entry t).entryTimely.advance r.entry)
            |>.schedule t)
    | none => s

/-! ### Spot readings (R148 to R151) -/

/-- SPOT_READING_START: at an entry boundary the oldest pending spot reading starts, where it fits (R148). -/
def execSpotReadingStart (d : Nat) (s : State) : Out :=
  onS s d fun s =>
    let x := s.dev d
    match x.sv.slotAt, x.sv.spots with
    | some t, p :: _ =>
      if x.sv.running.isNone ∧ x.sv.occ.isNone ∧ x.fits t p.entry then
        (s.until t).modDev d (·.modSv (fun v => { v with running := some ⟨p.entry, some p.slot, t⟩, slotAt := none }))
      else s
    | _, _ => s

/-- The codes of a spot reading's repeats, and whether one lay outside its range or read a broken sensor (R149). -/
def Dev.spotCodes (d : Dev) (chan : Nat) (results : List Int) : List Int × Bool × Bool :=
  let cs := results.map (fun (v : Int) => d.benchResult chan (v : Rat))
  if 0x18 ≤ chan ∧ chan < 0x38 then
    let ls := cs.map (fun c => d.linear (c.1 : Rat))
    (ls.map (·.code), ls.any (·.ovr) || cs.any (·.2), ls.any (·.inv) || decide ((d.sv.therm.getD (chan - 0x18) {}).broken ≠ 0))
  else (cs.map (·.1), cs.any (·.2), false)

/-- The result of a spot reading is held for upstream transmission (R149 to R151, R269). -/
def Dev.spotResult (d : Dev) (r : Running) (slot t : Nat) (results : List Int) : Dev :=
  let chan := eChan r.entry
  let x := d.spotCodes chan results
  let codes := x.1
  let flags : Flags :=
    { ovr := x.2.1, inv := x.2.2 || d.benchAny [5]
      blk := decide (chan < 0x18) && d.benchTouched chan r.since }
  let body := ItemBody.spot (sumI codes) (minI (codes.getD 0 0) codes) (maxI (codes.getD 0 0) codes) codes.length flags
    ((t - d.lastB) / 1000) slot
  { d with spotItems := d.spotItems ++ [Item.mk 0xC0 (d.sweep % 256) body] }

/-- SPOT_READING_COMPLETE: the last repeat ends, and the interrupted table resumes (R148, R149). -/
def execSpotReadingComplete (d : Nat) (results : List Int) (s : State) : Out :=
  onS s d fun s =>
    match (s.dev d).sv.running with
    | some r =>
      match r.spotSlot with
      | some slot =>
        let t := r.since + us (eDuration r.entry)
        (s.until t).modDev d (fun x =>
          let x := (x.spotResult r slot t (results.take (eRepeats r.entry))).owCurrentEnd r.entry t
          (x.modSv (fun v => { v with spots := v.spots.drop 1 })).schedule t)
      | none => s
    | none => s

end Sys2Proof.Machine
end

