-- ==== Sys2Proof/Machine/Calibration.lean ====
section
/-!
DEFINITION. Calibration of a device (R153 to R165, R173, R174, R184 to R189): self-calibration, covers of rolling
calibration, substitution, arbitration, Benchmark occupations and self-tests.
-/

namespace Sys2Proof.Machine

/-! ### Factors and limits (R155, R157) -/

/-- Offset and gain lie within the limits of R155: ±5.0 mV, ±2.0 %. -/
def calWithin (ofs : Int) (gain : Nat) : Bool :=
  decide (ofs.natAbs ≤ 50000) && decide (1052266988 ≤ gain ∧ gain ≤ 1095216660)

/-- Writes the factors of a modulator (R157). -/
def Dev.writeCal (d : Dev) (m : Nat) (c : ModCal) (temp : Int) (src t : Nat) : Dev :=
  d.modMod m (fun x => { x with ofs := c.ofs, gain := c.gain, writtenAt := some t, temp := temp, src := src })

/-- The modulator takes back the calibration record that it held before (R95, R174). -/
def Modulator.restore (x old : Modulator) : Modulator :=
  { x with ofs := old.ofs, gain := old.gain, writtenAt := old.writtenAt, temp := old.temp, src := old.src }

/-- The modulator that belongs to a cell: the assigned one, or the relief modulator that substitutes permanently (R97). -/
def Dev.homeMod (d : Dev) (k : Nat) : Nat := (d.cell k).subst.getD k

/-- A failed relief modulator is retired (R96). -/
def Dev.retire (d : Dev) (m : Nat) : Dev := if 24 ≤ m ∧ m < 26 then d.setRelief m .retired else d

/-- A relief modulator that is not retired is free again. -/
def Dev.freeAgain (d : Dev) (m : Nat) : Dev :=
  if 24 ≤ m ∧ d.relief m ≠ .retired then (d.disconnect m).setRelief m .free else d.disconnect m

/-- Connects modulator m to the tap pair of cell k where it is not connected to it already. -/
def Dev.join (d : Dev) (m k : Nat) : Dev := if (d.mod m).conn = some k then d else d.connect m k

/-! ### Self-calibration (R153 to R156) -/

/-- What the self-calibration measured of modulator m. -/
def measured (c : SelfCal) (m : Nat) : ModCal := c.mods.getD m ⟨0, 0x40000000, 0⟩

/-- Modulators, of the first n, that break the cross-check limit (R155). -/
def crossBad (c : SelfCal) (n : Nat) : List Nat :=
  (List.range n).filter (fun m => decide (2000 < (measured c m).cross.natAbs))

/-- Modulators, of the first n, that break a limit and are declared failed: where 3 or more break the cross-check limit,
none on that count (R155). -/
def calFailing (c : SelfCal) (n : Nat) : List Nat :=
  (List.range n).filter (fun m => !calWithin (measured c m).ofs (measured c m).gain
    || (decide ((crossBad c n).length < 3) && (crossBad c n).contains m))

/-- Modulators that a device calibrates: 26, and the shunt modulator at the head (R154, R157; log 141). -/
def Dev.modCount (d : Dev) : Nat := if d.isHead then 27 else 26

/-- Every modulator is disconnected, and what went on with them is over (R154, R189). -/
def Dev.disconnectAll (d : Dev) : Dev :=
  { (List.range 27).foldl (fun d m => d.disconnect m) d with
    cells := d.cells.map (fun (c : Cell) => { c with source := none }), cover := none, arbs := [], returns := [] }

/-- Phase 6, with no modulator connected: the reference checks, the limit checks with the declarations, the factors
(R154, R155, R167; log 141). -/
def Dev.calChecks (d : Dev) (cal : SelfCal) (src t : Nat) : Dev :=
  let n := d.modCount
  let d := (d.modSv (fun v => { v with
    refS := some ((d.benchResult 0x3B cal.refS).1, t), refM := some ((d.benchResult 0x3C cal.refM).1, t) })).judgeRefs
  let d := (List.range n).foldl (fun d m => d.writeCal m (measured cal m) cal.temp src t) d
  let d := if 3 ≤ (crossBad cal n).length then d.report true 0x07 7 (d.benchDetail 7) d.openValue else d
  (calFailing cal n).foldl (fun d m => (d.declareFailed m).retire m) d

/-- Phase 7: each cell is connected to its assigned modulator or to its substitute (R154, R97); a failed one feeds its cell
with INV until B_f (R94). -/
def Dev.reconnect (d : Dev) : Dev :=
  let d := (List.range 24).foldl (fun d k =>
    let m := d.homeMod k
    let d := (d.connect m k).modCell k (fun c => { c with
      source := some m, sources := (d.sweep, m) :: c.sources, failInv := (d.mod m).failed })
    if 24 ≤ m ∧ d.relief m ≠ .retired then d.setRelief m (.substituting k) else d) d
  let d := [24, 25].foldl (fun d m =>
    match d.relief m with
    | .substituting _ => d
    | .retired => d
    | _ => d.setRelief m .free) d
  if d.isHead then { (d.connect 26 24) with shuntFill := d.sf } else d

/-- A self-calibration ends: checks and factors, reconnection, and the start of every record (R154 to R156). -/
def Dev.applyCal (d : Dev) (cal : SelfCal) (src t : Nat) : Dev :=
  let d := (d.disconnectAll.calChecks cal src t).reconnect
  let d := { d.startAll d.sweep with ownCal := (none, none) }
  (List.range 24).foldl (fun d k => d.setFill k) d

/-- SELF_CALIBRATION_COMPLETE: 160 ms after the S-die start (R153 to R156, R164). -/
def execSelfCalibrationComplete (d : Nat) (cal : SelfCal) (s : State) : Out :=
  onS s d fun s =>
    if (s.dev d).calibrated then s
    else
      let t := (s.dev d).startAt + ms 160
      (s.until t).modDev d (fun x =>
        ({ x.applyCal cal 0 t with calibrated := true }).modSv (fun v => { v with recalFrom := t }))

/-! ### Substitution (R94 to R96) -/

/-- A cover in progress is abandoned: its cell's own modulator returns with its old factors, and the samples of its fill
are excluded with CAL (R95). Before the switch it was never disconnected. -/
def Dev.abandonCover (d : Dev) (n : Nat) : Dev :=
  match d.cover with
  | some c =>
    let d := { d.freeAgain c.rm with cover := none }
    if c.phase = 0 then d
    else
      let h := d.homeMod c.cell
      let d := ((d.modMod h (fun x => x.restore c.old)).connect h c.cell).setSource c.cell n (some h)
      (d.setFill c.cell).modCell c.cell (fun x => { x with fillCal := true })
  | none => d

/-- A relief modulator becomes the permanent source of cell k at the boundary of sweep n; `clean` where it was connected
already, so that no sample is excluded (R94). -/
def Dev.takeSubst (d : Dev) (k m n : Nat) (clean : Bool) : Dev :=
  let old := (d.cell k).source
  let d := match old with
    | some x => cond (decide (x = m)) d (d.disconnect x)
    | none => d
  let d := if d.homeMod k = m then d else d.disconnect (d.homeMod k)
  let d := if clean then d else d.connect m k
  let d := (d.modCell k (fun c => { c with subst := some m, failInv := false })).setSource k n (some m)
  let d := (d.modAcc k (·.flag (fun f => { f with sub := true }))).setRelief m (.substituting k)
  if clean then d else d.setFill k

/-- No relief modulator is free for cell k: its modulator is disconnected (R96). -/
def Dev.loseSource (d : Dev) (k n : Nat) : Dev :=
  let d := match (d.cell k).source with
    | some x => d.disconnect x
    | none => d
  ((d.modCell k (fun c => { c with failInv := false })).setSource k n none).modAcc k (fun a =>
    { a.flag (fun f => { f with inv := true }) with row1 := true })

/-- The substitution of cell k at B_f (R94 step 2, R95, R96). DESIGN CHOICE (log 142): while one relief modulator
substitutes and the other only arbitrates another cell, neither is free, and the cell's modulator is disconnected for good. -/
def Dev.substitute (d : Dev) (k n : Nat) : Dev :=
  match [24, 25].find? (fun m => decide ((d.mod m).conn = some k) && !(d.mod m).failed) with
  | some m =>
    let d := d.takeSubst k m n true
    { d with
      cover := d.cover.filter (fun c => decide (c.cell ≠ k))
      arbs := d.arbs.filter (fun a => decide (a.cell ≠ k))
      returns := d.returns.filter (fun x => decide (x.1 ≠ k)) }
  | none =>
    match d.freeRelief with
    | some m => d.takeSubst k m n false
    | none =>
      match d.cover with
      | some c =>
        if c.cell = k then d.loseSource k n else (d.abandonCover n).takeSubst k c.rm n false
      | none => d.loseSource k n

/-- Cells whose failed source is to be replaced at this boundary (R94): automatically, or where a host ordered it; a failed
substituting relief modulator always (R96). An arbitration that has failed settles its own cell (R174). -/
def Dev.substituteDue (d : Dev) (n : Nat) : Dev :=
  (List.range 24).foldl (fun d k =>
    if (d.cell k).failInv ∧ (d.autosub ∨ (d.cell k).subst.isSome)
        ∧ d.arbs.any (fun a => decide (a.cell = k ∧ a.stage = 2)) = false then d.substitute k n else d) d

/-- The substitution of a cell is reverted: its assigned modulator, no longer failed, takes the cell back under the
handback of R92 (R97, R446). Where a cover runs for the cell, the covering modulator hands back to it (log 143). -/
def Dev.revert (d : Dev) (k : Nat) : Dev :=
  match (d.cell k).subst with
  | none => d
  | some m =>
    let d := (d.modMod k (fun x => { x with failed := false })).modCell k (fun c => { c with subst := none })
    match d.cover.filter (fun c => decide (c.cell = k ∧ c.phase ≠ 0)) with
    | some c => { (d.freeAgain m).join k k with cover := some { c with phase := 3, old := d.mod k } }
    | none =>
      let d := match d.cover.filter (fun c => decide (c.cell = k)) with
        | some c => { d.freeAgain c.rm with cover := none }
        | none => d
      let d := if d.relief m = .retired then d else d.setRelief m (.covering k)
      { d.join k k with returns := d.returns ++ [(k, m)] }

/-! ### Covers (R92, R93, R158 to R161) -/

/-- Sweeps of a calibration phase (R158). -/
def coverSweeps (period : Nat) : Nat := max 1 ((62000 + periodUs period - 1) / periodUs period)

/-- Sweeps of one parallel interval (R92). -/
def parallelSweeps (period sf : Nat) : Nat := (sf + periodSamples period - 1) / periodSamples period

/-- A planned switch of cell k waits: recovery (R93), Sounding (R211), or an arbitration that compares its two modulators
(R173). -/
def Dev.deferred (d : Dev) (k : Nat) : Bool := d.recovering k || d.keyed k || d.arbs.any (fun a => decide (a.cell = k))

/-- The cell of rotation place i, where a cover is possible (R158). -/
def Dev.rotationCell (d : Dev) (i : Nat) : Option Nat :=
  if i < 24 then
    if (d.cell i).source = some i ∧ (d.mod i).failed = false then some i else none
  else (List.range 24).find? (fun k =>
    decide ((d.cell k).source = some i ∧ (d.cell k).subst = some i) && !(d.mod i).failed)

/-- The relief modulator of the next cover: the other one where both are free (R158). -/
def Dev.coverRelief (d : Dev) (k : Nat) : Option Nat :=
  let free := [24, 25].filter (fun m => decide (d.relief m = .free) && !(d.mod m).failed
    && decide ((d.cell k).source ≠ some m))
  if free.length = 2 then free.find? (fun m => decide (m ≠ d.rollLast)) else free.head?

/-- A cover begins at the boundary of sweep n where the rotation runs (R158, R159, R161, R162); one due on a cell under
arbitration waits (R173). -/
def Dev.beginCover (d : Dev) (n : Nat) : Dev :=
  if d.cover.isSome ∨ d.rollHalt.isSome ∨ d.calibrated = false ∨ n < d.rollWait then d
  else
    match ((List.range 26).map (fun i => (d.rollNext + i) % 26)).find? (fun i => (d.rotationCell i).isSome) with
    | none => d
    | some i =>
      match d.rotationCell i with
      | none => d
      | some k =>
        if d.arbs.any (fun a => decide (a.cell = k)) then d
        else
          match d.coverRelief k with
          | none => d
          | some m =>
            { (d.connect m k).setRelief m (.covering k) with
              cover := some ⟨k, m, 0, 0, d.mod (d.homeMod k)⟩, rollNext := i }

/-- The rotation moves on from a cover that is over; where fewer than two relief modulators are free, the one that is
calibrates itself for C sweeps first (R158, R161). -/
def Dev.rotate (d : Dev) (n rm : Nat) : Dev :=
  let alone := decide (([24, 25].filter (fun m => decide (d.relief m = .free))).length < 2)
  { d with cover := none, rollNext := (d.rollNext + 1) % 26, rollLast := rm
           rollWait := bif alone then n + coverSweeps d.period else d.rollWait }

/-- The source switches to the covering relief modulator, or back, at the first boundary at which it may (R92, R93). -/
def Dev.advanceCover (d : Dev) (n : Nat) : Dev :=
  match d.cover with
  | some c =>
    let h := d.homeMod c.cell
    if c.phase = 0 then
      if d.sf ≤ (d.mod c.rm).got ∧ ¬ d.deferred c.cell then
        { (d.setSource c.cell n (some c.rm)).disconnect h with
          cover := some { c with phase := 1, calEnd := n + coverSweeps d.period } }
      else d
    else if c.phase = 3 then
      if d.sf ≤ (d.mod h).got ∧ ¬ d.deferred c.cell then
        ((d.setSource c.cell n (some h)).freeAgain c.rm).rotate n c.rm
      else d
    else d
  | none => d

/-- Handbacks of reverted substitutions: the source switches at the first boundary at which it may (R92, R93, R97). -/
def Dev.advanceReturns (d : Dev) (n : Nat) : Dev :=
  d.returns.foldl (fun d x =>
    if d.sf ≤ (d.mod x.1).got ∧ ¬ d.deferred x.1 then
      let d := (d.setSource x.1 n (some x.1)).freeAgain x.2
      { d with returns := d.returns.filter (fun y => decide (y.1 ≠ x.1)) }
    else d) d

/-- The own calibration of a relief modulator that stands free goes on: C sweeps each time (R91 item 4, R161; log 144). -/
def Dev.ownCalibrate (d : Dev) (n : Nat) : Dev :=
  let next (m : Nat) (e : Option Nat) : Option Nat :=
    if d.relief m = .free then some (e.getD (n + coverSweeps d.period)) else none
  { d with ownCal := (next 24 d.ownCal.1, next 25 d.ownCal.2) }

/-- The relief modulator whose own calibration is over. -/
def Dev.ownOver (d : Dev) : Option Nat :=
  let over' (e : Option Nat) : Bool := match e with
    | some e => decide (e ≤ d.sweep)
    | none => false
  if over' d.ownCal.1 then some 24 else if over' d.ownCal.2 then some 25 else none

/-- The result of a relief modulator's own calibration: new factors, or its retirement (R91, R155, R96; log 144). -/
def Dev.ownResult (d : Dev) (m : Nat) (cal : ModCal) (temp : Int) (t : Nat) : Dev :=
  let d := { d with ownCal := if m = 24 then (none, d.ownCal.2) else (d.ownCal.1, none) }
  if calWithin cal.ofs cal.gain then d.writeCal m cal temp 1 t else (d.declareFailed m).retire m

/-- The result of a cover's calibration phase (R159, R160). -/
def Dev.coverResult (d : Dev) (c : Cover) (cal : ModCal) (temp : Int) (t : Nat) : Dev :=
  let h := d.homeMod c.cell
  if calWithin cal.ofs cal.gain then
    { (d.writeCal h cal temp 1 t).join h c.cell with cover := some { c with phase := 3 } }
  else
    let d := (d.declareFailed h).retire h
    if d.autosub ∨ 24 ≤ h then
      let d := (d.takeSubst c.cell c.rm d.sweep true).rotate d.sweep c.rm
      if d.sampleNo = 0 then d.reopen d.sweep else d
    else
      ((d.modCell c.cell (fun y => { y with failInv := true })).modAcc c.cell
        (·.flag (fun f => { f with inv := true }))).rotate d.sweep c.rm

/-- ROLLING_CAL_PHASE_END: the calibration phase has run C sweeps (R159, R160); between covers, the own calibration of a
relief modulator (R91, R161; log 144). -/
def execRollingCalPhaseEnd (d : Nat) (cal : ModCal) (temp : Int) (s : State) : Out :=
  onS s d fun s =>
    let x := s.dev d
    match x.cover.filter (fun c => decide (c.phase = 1 ∧ c.calEnd ≤ x.sweep)), x.ownOver with
    | some c, _ => s.modDev d (fun x => x.coverResult c cal temp s.now)
    | none, some m => s.modDev d (fun x => x.ownResult m cal temp s.now)
    | none, none => s

/-- ROLLING_CAL_HALT_EXPIRY: a host halt has lasted 24 h (R162). -/
def execRollingCalHaltExpiry (d : Nat) (s : State) : Out :=
  onS s d fun s =>
    match (s.dev d).rollHalt with
    | some t => (s.until (t + ms 86400000)).modDev d (fun x => { x with rollHalt := none })
    | none => s

/-! ### Arbitration (R173, R174) -/

/-- Marks the Benchmark channel or the check of a cell (R170 0x08, 0x09; 0 clears). -/
def Dev.setCellBench (d : Dev) (k sub : Nat) : Dev :=
  let old := (d.cell k).bench
  if old = sub then d
  else
    let d := if old ≠ 0 then d.report false 0x07 old (k + 1) 0 else d
    let d := d.modCell k (fun c => { c with bench := sub })
    if sub ≠ 0 then d.report true 0x07 sub (k + 1) d.openValue else d

/-- The suspect modulator covers cell k for calibration. -/
def Dev.suspectCovers (d : Dev) (k sus : Nat) : Bool := decide (24 ≤ sus) && decide ((d.cell k).subst ≠ some sus)

/-- The second modulator of an arbitration (R173): the cell's own where a covering one is suspect; the relief modulator that
stands in parallel with the cell's source already, since a tap pair takes only one (R91 item 1; log 145); else a free one. -/
def Dev.arbSecond (d : Dev) (k sus : Nat) : Option Nat :=
  if d.suspectCovers k sus then (if (d.mod (d.homeMod k)).failed then none else some (d.homeMod k))
  else match d.cover.filter (fun c => decide (c.cell = k ∧ c.phase = 0)) with
    | some c => some c.rm
    | none => d.freeRelief

/-- An arbitration order of cell k is applied (R173). One that runs for the cell already stands. -/
def Dev.arbitrate (d : Dev) (k : Nat) (ordered : Bool) : Dev :=
  if d.arbs.any (fun a => decide (a.cell = k)) then d
  else
    match (d.cell k).source with
    | none => d.setCellBench k 9
    | some sus =>
      match d.arbSecond k sus with
      | none => d.setCellBench k 9
      | some m =>
        let d := d.join m k
        let d := if 24 ≤ m ∧ d.relief m = .free then d.setRelief m (.arbitrating k) else d
        { d with arbs := d.arbs ++ [⟨k, sus, m, 0, 0, 0, 0, true, ordered⟩] }

/-- The arbitration of a cell goes on as `a`. -/
def Dev.putArb (d : Dev) (a : Arbitration) : Dev :=
  { d with arbs := d.arbs.map (fun (x : Arbitration) => if x.cell = a.cell then a else x) }

/-- The arbitration of a cell is over. -/
def Dev.dropArb (d : Dev) (a : Arbitration) : Dev :=
  { d with arbs := d.arbs.filter (fun x => decide (x.cell ≠ a.cell)) }

/-- An arbitration whose means agree: the second modulator is disconnected (R173), but one that a cover or a handback of the
cell needs connected. -/
def Dev.endArb (d : Dev) (a : Arbitration) : Dev :=
  let d := d.dropArb a
  let kept := d.cover.any (fun c => decide (c.cell = a.cell) &&
      (decide (c.phase = 0 ∧ a.second = c.rm) || decide (c.phase = 3 ∧ a.second = d.homeMod a.cell)))
    || d.returns.any (fun x => decide (x.1 = a.cell))
  if kept then d
  else if d.relief a.second = .arbitrating a.cell ∧ 24 ≤ a.second then d.freeAgain a.second
  else d.disconnect a.second

/-- B_f of a failed arbitration (R174 item 1): the cell's own modulator takes the cell back from a covering one, with its
factors from before the cover; otherwise the relief modulator that was connected substitutes. -/
def Dev.arbSubstitute (d : Dev) (a : Arbitration) (n : Nat) : Dev :=
  let d := d.dropArb a
  if d.suspectCovers a.cell a.suspect then
    let d := match d.cover.filter (fun c => decide (c.cell = a.cell)) with
      | some c => { d.modMod a.second (fun x => x.restore c.old) with cover := none }
      | none => d
    let d := ((d.disconnect a.suspect).setSource a.cell n (some a.second)).modCell a.cell (fun c =>
      { c with failInv := false })
    { d with returns := d.returns.filter (fun x => decide (x.1 ≠ a.cell)) }
  else if d.autosub ∨ 24 ≤ a.suspect then
    { d.takeSubst a.cell a.second n true with cover := d.cover.filter (fun c => decide (c.cell ≠ a.cell)) }
  else d

/-- The outcome of a comparison whose means agree (R174 item 2): the Benchmark channel of the cell has failed. A cell marked
0x08 or 0x09 is cleared by an arbitration that CALIBRATE ordered; DESIGN CHOICE (log 146): its Benchmark channel counts as
within its limits where the latest CV and BV means differ by no more than BCHK_TH. -/
def Dev.arbAgreed (d : Dev) (a : Arbitration) : Dev :=
  let near : Bool := match (d.cell a.cell).cvMean, (d.cell a.cell).bvMean with
    | some c, some b => decide ((c - b).natAbs ≤ d.par Fld.bchkTh 0)
    | _, _ => false
  (d.endArb a).setCellBench a.cell (if a.ordered ∧ (d.cell a.cell).bench ≠ 0 ∧ near then 0 else 8)

/-- An arbitration at a boundary: the comparison sweep begins, ends, or its outcome is applied (R173, R174). -/
def Dev.advanceArb (d : Dev) (n : Nat) (a : Arbitration) : Dev :=
  if a.stage = 2 then d.arbSubstitute a n
  else if a.stage = 0 then
    if d.sf ≤ (d.mod a.second).got ∧ d.sf ≤ (d.mod a.suspect).got then
      d.putArb { a with stage := 1, sumA := 0, sumB := 0, n := 0, clean := true }
    else d
  else if a.clean = false ∨ a.n = 0 then
    d.putArb { a with sumA := 0, sumB := 0, n := 0, clean := true }
  else if (d.par Fld.arbTh 0) * a.n < (a.sumA - a.sumB).natAbs then
    ((d.putArb { a with stage := 2 }).declareFailed a.suspect).retire a.suspect
  else d.arbAgreed a

/-- Every arbitration in progress at a boundary. -/
def Dev.advanceArbs (d : Dev) (n : Nat) : Dev := d.arbs.foldl (fun d a => d.advanceArb n a) d

/-! ### Occupations and self-tests (R164, R165, R184 to R189) -/

/-- BENCHMARK_RECAL_DUE: BCAL_INT has passed since the last recalibration began (R164). -/
def execBenchmarkRecalDue (d : Nat) (s : State) : Out :=
  onS s d fun s =>
    if (s.dev d).calibrated ∧ (s.dev d).sv.recalDue = false then
      let t := (s.dev d).sv.recalFrom + ms (1000 * (s.dev d).par Fld.bcalInt 0)
      (s.until t).modDev d (·.modSv (fun v => { v with recalDue := true }))
    else s

/-- A self-test occupation is due at the boundary of sweep n: a full one, or a maintenance sweep no earlier than 64 sweeps
after the device's previous one (R165, R185, R189). -/
def Dev.testDue (d : Dev) (n : Nat) : Option Occupation :=
  match d.sv.test with
  | some t =>
    if t.running then none
    else if t.full then some .full
    else if (match d.sv.lastMaint with
      | some l => decide (l + 64 ≤ n)
      | none => true) then some (.maintenance t.step) else none
  | none => none

/-- The occupation that falls due at the boundary of sweep n (R165): a recalibration before a maintenance sweep. -/
def Dev.dueOccupation (d : Dev) (n : Nat) : Option Occupation :=
  if d.sv.recalDue then some .recal else d.testDue n

/-- Boundaries that each kind of occupation has waited, where `began` begins at this one (R165 item 3). -/
def Dev.countWaits (d : Dev) (n : Nat) (began : Option Occupation) : Dev :=
  let recal := d.sv.recalDue && decide (began ≠ some .recal)
  let test := (d.testDue n).isSome && (began.isNone || decide (began = some .recal))
  d.modSv (fun v => { v with
    recalWaited := bif recal then v.recalWaited + 1 else 0, testWaited := bif test then v.testWaited + 1 else 0 })

/-- An occupation begins. A recalibration that has waited counts its interval from the boundary at which it could have
begun (R164). -/
def Dev.beginOccupation (d : Dev) (n t : Nat) (o : Occupation) : Dev :=
  let d := d.modSv (fun v => { v with occ := some o, running := none, slotAt := none })
  match o with
  | .recal => d.modSv (fun v => { v with recalDue := false, recalFrom := v.recalAt.getD t, recalAt := none })
  | .maintenance _ =>
    d.modSv (fun v => { v with
      lastMaint := some n, test := v.test.map (fun (x : SelfTest) => { x with running := true, since := t }) })
  | .full =>
    let d := d.modSv (fun v => { v with
      test := v.test.map (fun (x : SelfTest) => { x with running := true, since := t }) })
    ((List.range 24).foldl (fun d k => d.loseSource k n) d).disconnectAll

/-- An occupation begins at the boundary at `t` of sweep n where no spot reading is pending (R165). -/
def Dev.occupy (d : Dev) (n t : Nat) : Dev :=
  if d.calibrated = false then d
  else
    let d := d.modSv (fun v => { v with recalAt := if v.recalDue then v.recalAt.or (some t) else none })
    let began := if d.sv.occ.isSome ∨ d.sv.spots ≠ [] then none else d.dueOccupation n
    let d := d.countWaits n began
    match began with
    | some o => d.beginOccupation n t o
    | none => d

/-- BENCHMARK_OCCUPATION_END: a recalibration of 400 µs ends, or the Survey time of a maintenance sweep; the table
resumes at an entry boundary (R164, R185). -/
def execBenchmarkOccupationEnd (d : Nat) (s : State) : Out :=
  onS s d fun s =>
    let x := s.dev d
    match x.sv.occ with
    | some .recal =>
      let t := x.lastB + us 400
      (s.until t).modDev d (fun x => (x.modSv (fun v => { v with occ := none })).schedule t)
    | some (.maintenance _) =>
      let t := x.lastB + x.periodNs' - 5000
      (s.until t).modDev d (fun x => (x.modSv (fun v => { v with occ := none })).schedule t)
    | _ => s

/-- Two-bit codes packed least significant first (R447). -/
def pack2 : List Nat → Nat
  | [] => 0
  | c :: l => c % 4 + 4 * pack2 l

/-- Modulators that the rotation calibrates: one of each cell that has a source, unless it has failed (R158). -/
def Dev.rotationPlaces (d : Dev) : Nat :=
  ((List.range 24).filter (fun k => (d.cell k).source.isSome && !(d.mod (d.homeMod k)).failed)).length

/-- Relief modulators that the rotation can use: neither retired nor substituting (R96). -/
def Dev.coverable (d : Dev) : Nat :=
  ([24, 25].filter (fun r => decide (d.relief r ≠ .retired)
    && !(match d.relief r with
      | .substituting _ => true
      | _ => false))).length

/-- Time of one rotation plus one cover (R187, R159, R161). -/
def Dev.rotationNs (d : Dev) : Nat :=
  let one := (2 * parallelSweeps d.period d.sf + coverSweeps d.period) * d.periodNs'
  let each := if d.coverable < 2 then one + coverSweeps d.period * d.periodNs' else one
  d.rotationPlaces * each + one

/-- The code of a modulator in a maintenance self-test (R187): 0 not tested, 1 pass, 2 fail. The rolling calibration of the
shunt modulator never runs: it is not tested (log 147). -/
def Dev.modCode (d : Dev) (m now : Nat) : Nat :=
  let x := d.mod m
  if m = 26 ∨ d.rollHalt.isSome ∨ d.coverable = 0 then 0
  else if x.failed ∨ ¬ calWithin x.ofs x.gain then 2
  else match x.writtenAt with
    | some t => if now - t ≤ d.rotationNs then 1 else 2
    | none => 2

/-- The code of a modulator in a full self-test, which a member has no shunt modulator for (R188, R189). -/
def Dev.fullCode (d : Dev) (m : Nat) : Nat :=
  if m = 26 ∧ d.isHead = false then 0 else if (d.mod m).failed then 2 else 1

/-- The self-test result (R447), placed as an event message with the TEST flag (R188). -/
def State.deliverTest (s : State) (d : Nat) (t : SelfTest) (badGates : List Nat) : State :=
  let x := s.dev d
  if s.pw.running = false then s
  else
    let steps := pack2 (t.results.map (fun b => cond b 1 2))
    let mods := pack2 ((List.range 27).map (fun m =>
      if t.full then x.fullCode m else x.modCode m s.now))
    let gates := (badGates.map (2 ^ ·)).foldl (· + ·) 0
    let a := (smapGet s.der.tests (x.pos.getD 0)).getD ⟨.A, 0, 0⟩
    let s := { s with der := { s.der with tests := smapErase s.der.tests (x.pos.getD 0) } }
    let passed := (t.results.zipIdx.filter (·.1)).map (fun y => 0x11 + y.2)
    let s := s.modPos (x.pos.getD 0) (fun (p : PosTrack) => { p with bench := p.bench.filter (fun b => !passed.contains b) })
    (s.eventMsg a.host a.pair 0x8107 a.tag St.ok
      ([BitVec.ofNat 8 (x.pos.getD 0xFF), BitVec.ofNat 8 (b2n t.full)] ++ leBytes 2 0 ++ leBytes 4 steps
        ++ leBytes 8 mods ++ leBytes 4 gates)).event Ev.test

/-- A failed step raises BENCH 0x0A; steps 1 to 3 and 11 add the consequence of 0x04 or 0x06, which lasts until a later
self-test passes the step (DESIGN CHOICE, log 166); a failed open-wire source leaves its tap unjudged until a later
self-test passes it (R188). -/
def Dev.stepResult (d : Dev) (step : Nat) (r : StepResult) : Dev :=
  let d := if 8 ≤ step ∧ step ≤ 10 then
      d.modSv (fun v =>
        let test := v.test.map (fun (x : SelfTest) => { x with bad := x.bad ++ r.badTaps })
        { v with
          test := test
          badSources := bif step == 10 then (match test with
            | some x => x.bad.eraseDups
            | none => v.badSources) else (v.badSources ++ r.badTaps).eraseDups })
    else d
  let d := if step ≤ 3 ∨ step = 11 then
      (d.modSv (fun v => { v with
        stepBad := bif r.pass then v.stepBad.filter (fun x => decide (x ≠ step)) else (v.stepBad ++ [step]).eraseDups })).pathSensors
    else d
  if r.pass then d else d.report true 0x07 0x0A step d.openValue

/-- MAINTENANCE_SWEEP: the step of the running maintenance sweep gives its result; after step 11 the self-test result is
delivered (R185 to R188). -/
def execMaintenanceSweep (d : Nat) (r : StepResult) (s : State) : Out :=
  onS s d fun s =>
    match (s.dev d).sv.occ, (s.dev d).sv.test with
    | some (.maintenance k), some t =>
      if t.running = false then s
      else
        let s := s.modDev d (fun x => (x.stepResult k r).modSv (fun v => { v with
          test := v.test.map (fun (x : SelfTest) => { x with
            step := k + 1, results := x.results ++ [r.pass], running := false }) }))
        let t' := { t with results := t.results ++ [r.pass] }
        if 11 ≤ k then (s.deliverTest d t' []).modDev d (·.modSv (fun v => { v with test := none })) else s
    | _, _ => s

/-- FULL_SELF_TEST_END: 1,200 ms after its start the full self-test ends: every record starts, and the result is
delivered (R189). -/
def execFullSelfTestEnd (d : Nat) (r : FullTest) (s : State) : Out :=
  onS s d fun s =>
    match (s.dev d).sv.occ, (s.dev d).sv.test with
    | some .full, some t =>
      let s := s.until (t.since + ms 1200)
      let t' := { t with results := r.steps.map (·.pass) }
      let s := s.modDev d (fun x =>
        let x := r.steps.zipIdx.foldl (fun (x : Dev) (y : StepResult × Nat) => x.stepResult (y.2 + 1) y.1) x
        let x := x.applyCal r.cal 2 s.now
        let x := r.badGates.foldl (fun (x : Dev) g => x.report true 0x0C 5 (g + 1) 0) x
        (x.modSv (fun v => { v with occ := none, test := none })).schedule s.now)
      s.deliverTest d t' r.badGates
    | _, _ => s

end Sys2Proof.Machine
end

