-- ==== Sys2Proof/Machine/Balancing.lean ====
section
/-!
DEFINITION. Bleed at a device: balance commands and limits (R217 to R231), the scheduled edges (R221), gate faults, the
bleed-silence timer (R233, R235), C_ERR (R36), and the keying of a Sounding (R202 to R212).
-/

namespace Sys2Proof.Machine

/-! ### Balance commands and timers -/

/-- Cell k neighbours a cell that is keyed (R211). -/
def Dev.byKeyed (d : Dev) (k : Nat) : Bool := (neighbours k).any d.keyed

/-- The timer value of a balance command replaces the remaining time of a cell at instant t; 0 ends its bleeding (R217). -/
def Dev.setTimer (d : Dev) (k minutes t : Nat) : Dev :=
  let d := if minutes = 0 then d.endBleed k t 2
    else d.modCell k (fun c => { c with remain := minutes * 60000000000, active := true })
  d.modCell k (fun c => { c with held := none })

/-- A balance command committed at the boundary at t (R217, R231 item 1); a change for the neighbour of a keyed cell is
held until the bin ends (R211). After a bleed-silence expiry it acts once valid frames have resumed, when the timer runs
again (R235); during an over-temperature of the die not at all (R308). -/
def Dev.setBalance (d : Dev) (mask minutes t : Nat) : Dev :=
  let d := { d with bleedOff := d.bleedOff && (d.overTemp || d.silence.isNone) }
  if d.bleedOff then d
  else (List.range 24).foldl (fun d k =>
    if mask.testBit k then
      (if d.byKeyed k then d.modCell k (fun c => { c with held := some minutes }) else d.setTimer k minutes t)
    else d) d

/-- The BQ sample of a cell for the sweep just ended, and the remainder carried in µC (R225). -/
def Cell.bqSample (c : Cell) (rb : Nat) : Int × Rat :=
  let total : Rat := c.bqRem + (if rb = 0 then 0 else (c.charge : Rat) / ((rb : Rat) * 100000000))
  (roundQ total, total - (roundQ total : Rat))

/-- The end of a sweep at instant t for the bleed of every cell: BQ samples, timers, COND (R218, R220, R225). -/
def Dev.bleedSweepEnd (d : Dev) (t : Nat) : Dev :=
  (List.range 24).foldl (fun d k =>
    let c := (d.cell k).countTo t
    let q := c.bqSample (d.rb k)
    let d := d.modAcc (120 + k) (fun a => (a.add q.1).flag (fun f => { f with inv := f.inv || c.source.isNone }))
    d.modCell k (fun _ => { c with
      bqRem := q.2, charge := 0, remain := c.remain - c.condNs, cond := decide (0 < c.condNs), condNs := 0 })) d

/-- Timer expiries (R218, R231 item 2); the expiry at the neighbour of a keyed cell is held (R211). -/
def Dev.expireTimers (d : Dev) (t : Nat) : Dev :=
  (List.range 24).foldl (fun d k =>
    if (d.cell k).active ∧ (d.cell k).remain = 0 ∧ d.byKeyed k = false then d.endBleed k t 1 else d) d

/-- The value that R228 judges for a cell: its latest CV mean, or the latest BV mean where its CV entry was empty. -/
def Cell.level (c : Cell) : Option Int := if c.cvEmpty then c.bvMean else c.cvMean

/-- Cells below BAL_VMIN stop, with BAL 0x04 (R228, R231 item 3). -/
def Dev.vminEnds (d : Dev) (t : Nat) : Dev :=
  (List.range 24).foldl (fun d k =>
    match (d.cell k).level with
    | some v =>
      if (d.cell k).active ∧ v < 1000 * (d.par Fld.balVmin 0 : Int) then
        (d.endBleed k t 3).report true 0x0C 4 (k + 1) (sval v)
      else d
    | none => d) d

/-- Bleed power of a cell in mW from its latest CV mean (R226); a keyed cell counts with duty 0.5. Before the first CV entry
the mean is free (log 149). -/
def Dev.bleedPower (d : Dev) (k : Nat) : Rat :=
  let v : Rat := ((d.cell k).cvMean.getD (Config.openSample d.sweep) : Int)
  let rb : Rat := d.rb k
  if d.rb k = 0 then 0
  else
    let full := v * v / (rb * 100000000)
    if d.keyed k then full / 2 else full * (d.tc : Rat) / (d.periodNs' : Rat)

/-- Cell `a` ranks before cell `b` (R226). -/
def Dev.ranks (d : Dev) (a b : Nat) : Bool :=
  let x := d.cell a
  let y := d.cell b
  if x.cond ≠ y.cond then x.cond
  else if x.remain ≠ y.remain then decide (y.remain < x.remain) else decide (a < b)

/-- Inserts a cell by rank. -/
def Dev.rankIn (d : Dev) (k : Nat) : List Nat → List Nat
  | [] => [k]
  | x :: l => if d.ranks k x then k :: x :: l else x :: d.rankIn k l

/-- Cells that take part in the admission of module m (R226): active and not stopped, and keyed ones. -/
def Dev.contenders (d : Dev) (m : Nat) : List Nat :=
  let stopped := if m = 0 then d.sv.stopped.1 else d.sv.stopped.2
  ((moduleCells m).filter (fun k =>
    !stopped && (d.keyed k || ((d.cell k).active && !d.soundingGroup k && d.feasible)))).foldr d.rankIn []

/-- Admits in rank until the next cell would carry the sum above BAL_PMOD; a cell paused for power is admitted again only
below 95 % (R226). -/
def Dev.grant (d : Dev) (limit : Rat) : List Nat → Rat → List Nat
  | [], _ => []
  | k :: l, sum =>
    let p := sum + d.bleedPower k
    let cap := if (d.cell k).pause = .power then limit * 95 / 100 else limit
    if p ≤ cap then k :: d.grant limit l p else []

/-- Admission of the modules and the pause states at the boundary at t (R222, R226, R227, R231 items 4 and 5). -/
def Dev.admission (d : Dev) (t : Nat) : Dev :=
  let resume (stopped : Bool) (temp : Option Int) : Bool :=
    stopped && !(match temp with
      | some x => decide (x ≤ (d.par Fld.balTstop 0 : Int) - 500)
      | none => true)
  let d := d.modSv (fun v => { v with
    stopped := (resume v.stopped.1 v.modTemp.1, resume v.stopped.2 v.modTemp.2) })
  let limit : Rat := d.par Fld.balPmod 0
  let ok := (d.grant limit (d.contenders 0) 0) ++ (d.grant limit (d.contenders 1) 0)
  let d := (List.range 24).foldl (fun d k =>
    if d.keyed k ∧ ¬ ok.contains k then ((d.abortCell k).drive k false t) else d) d
  let q := d.par Fld.balQuiet 0
  (List.range 24).foldl (fun d k =>
    let stopped := if k < 12 then d.sv.stopped.1 else d.sv.stopped.2
    d.modCell k (fun c =>
      if c.active then
        let pause := if d.soundingGroup k then Pause.sounding
          else if stopped then Pause.thermal
          else if !d.feasible then Pause.infeasible
          else if ok.contains k then Pause.none else Pause.power
        let on := decide (pause = .none)
        { c with pause := pause, admitted := on }
      else c)
    |> fun d => if d.keyed k then d else d.switch k (decide (q = 0) && (d.cell k).active && (d.cell k).admitted) t) d

/-! ### Sounding at a device (R202 to R212) -/

/-- Samples of one cycle of a bin (R202). -/
def binCycle (b : Nat) : Nat := [32000, 10800, 3646, 1232, 416, 140, 48, 16].getD b 16

/-- Default cycle count of a bin (R202). -/
def binDefault (b : Nat) : Nat := [4, 4, 5, 13, 39, 115, 334, 1000].getD b 1000

/-- Cycles integrated in a bin: 0 names the default. -/
def binCycles (cycles : List Nat) (b : Nat) : Nat := if cycles.getD b 0 = 0 then binDefault b else cycles.getD b 0

/-- Length of the keying of a bin in decimated samples (R204). -/
def Dev.keyLen (d : Dev) (s : Sounding) (b : Nat) : Nat :=
  (d.par Fld.sndSettle 0 + binCycles s.cycles b) * binCycle b

/-- Cells of a group that still want a bin. -/
def Sounding.wants (s : Sounding) (g b : Nat) : List Nat :=
  (List.range 24).filter (fun k => decide (k % 2 = g) && s.cells.testBit k && s.bins.testBit b && !s.done.contains (k, b))

/-- The next bin of a Sounding: odd cells first (cell 1 is index 0), bins from the highest (R208). -/
def Sounding.next (s : Sounding) : Option (Nat × Nat) :=
  ([0, 1].flatMap (fun g => ((List.range 8).map (fun i => (g, 7 - i))))).find? (fun x => decide (s.wants x.1 x.2 ≠ []))

/-- Bleeding is forbidden to a Sounding on cell k: a stop, C_ERR or bleed off is in force. -/
def Dev.keyStop (d : Dev) (k : Nat) : Bool :=
  d.cErr || d.overTemp || (if k < 12 then d.sv.stopped.1 else d.sv.stopped.2) || (d.cell k).gateFlt

/-- At the boundary at t the next bin begins where none is in progress (R204, R208), and a finished Sounding ends. -/
def Dev.soundBoundary (d : Dev) (t : Nat) : Dev :=
  match d.snd with
  | none => d
  | some s =>
    if s.bin.isSome then d
    else
      match s.next with
      | none => { d with snd := none }
      | some (g, b) =>
        let cells := s.wants g b
        let tries := if cells.any (fun k => s.redo.contains (k, b)) then 2 else 1
        let d := { d with snd := some { s with
          group := g, bin := some b, since := t, edges := 0, tries := tries, aborted := [] } }
        cells.foldl (fun d k => if d.keyStop k then d.abortCell k else d.drive k true t) d

/-- A Sounding begins at a boundary (R207). -/
def Dev.startSounding (d : Dev) (cells bins : Nat) (cycles : List Nat) : Dev :=
  { d with snd := some ⟨cells, bins, cycles, 0, none, 0, 0, 1, [], [], []⟩ }

/-- SOUNDING_KEYING_EDGE: the keyed switches toggle every n_b / 2 samples; keying ends with the switch off (R204). -/
def execSoundingKeyingEdge (d : Nat) (s : State) : Out :=
  onS s d fun s =>
    let x := s.dev d
    match x.snd with
    | some so =>
      match so.bin with
      | some b =>
        let e := so.edges + 1
        let total := 2 * (x.par Fld.sndSettle 0 + binCycles so.cycles b)
        if total ≤ e then s
        else
          let t := so.since + e * (binCycle b / 2) * 62500
          (s.until t).modDev d (fun x =>
            let cells := (List.range 24).filter x.keyed
            let x := { x with snd := some { so with edges := e } }
            cells.foldl (fun x k =>
              if e % 2 = 0 ∧ (x.keyStop k ∨ so.aborted.contains k) then x else x.drive k (decide (e % 2 = 0)) t) x)
      | none => s
    | none => s

/-- SOUNDING_INTEGRATION_END: the correlator results are held for upstream transmission (R205, R206, R210, R269). -/
def execSoundingIntegrationEnd (d : Nat) (sums : List CorrSum) (s : State) : Out :=
  onS s d fun s =>
    let x := s.dev d
    match x.snd with
    | some so =>
      match so.bin with
      | some b =>
        let t := so.since + (x.keyLen so b) * 62500 + 62500
        (s.until t).modDev d (fun x =>
          let cells := so.wants so.group b
          let item (k : Nat) : Item :=
            let r := (sums.find? (fun c => decide (c.cell = k + 1))).getD ⟨k + 1, 0, 0, 0⟩
            Item.mk 0xC1 (k + 1 + 32 * b) (.sounding r.a r.b r.vOn (b2n (so.aborted.contains k)))
          let again := cells.filter (fun k => so.aborted.contains k && !so.redo.contains (k, b))
          let over' := cells.filter (fun k => !again.contains k)
          let x := x.keyingEnds cells (so.since + (x.keyLen so b) * 62500)
          { x with
            snd := some { so with bin := none, redo := so.redo ++ again.map (·, b), done := so.done ++ over'.map (·, b) }
            sndItems := x.sndItems ++ cells.map item })
      | none => s
    | none => s

/-! ### Edges between boundaries -/

/-- BLEED_ON_EDGE: at B + 2 µs every admitted switch turns on (R221). -/
def execBleedOnEdge (d : Nat) (s : State) : Out :=
  onS s d fun s =>
    let x := s.dev d
    if x.measuring = false ∨ x.par Fld.balQuiet 0 = 0 ∨ x.feasible = false then s
    else
      let t := x.lastB + 2000
      (s.until t).modDev d (fun x => (List.range 24).foldl (fun x k =>
        if (x.cell k).admitted ∧ (x.cell k).active ∧ x.keyed k = false then x.switch k true t else x) x)

/-- BLEED_OFF_EDGE: at t_off every conducting switch turns off (R221). -/
def execBleedOffEdge (d : Nat) (s : State) : Out :=
  onS s d fun s =>
    let x := s.dev d
    if x.measuring = false ∨ x.par Fld.balQuiet 0 = 0 ∨ x.feasible = false then s
    else
      let t := x.lastB + 2000 + x.tc
      (s.until t).modDev d (fun x => (List.range 24).foldl (fun x k =>
        if (x.cell k).gate ∧ x.keyed k = false then x.switch k false t else x) x)

/-- BALANCE_TIMER_EXPIRY: at a boundary the remaining time of a cell is zero, and the bleeding ends; between boundaries
nothing expires, and at the neighbour of a keyed cell the expiry is held (R211, R218, R224, R231 item 2). -/
def execBalanceTimerExpiry (d cell : Nat) (s : State) : Out :=
  onS s d fun s =>
    s.modDev d (fun x =>
      if (x.cell cell).active ∧ (x.cell cell).remain = 0 ∧ x.byKeyed cell = false ∧ s.now = x.lastB then
        x.endBleed cell s.now 1
      else x)

/-- The pin of cell k begins to differ from its command at t: from here on samples are touched (R230). -/
def Dev.gateDiffers (d : Dev) (k t : Nat) : Dev :=
  d.modCell k (fun c => if c.gateBad then c else { c with gateBad := true, edgeAt := some t })

/-- A mismatch of cell k has become a gate fault (R230, R232). -/
def Dev.gateFault (d : Dev) (k t : Nat) : Dev :=
  let d := d.gateDiffers k t
  let d := (k :: neighbours k).foldl (fun d c => if d.keyed c then d.abortCell c else d) d
  (d.modCell k (fun c => { c.endBleed t 3 with gateFlt := true })).report true 0x0C 1 (k + 1) 0

/-- The pin of cell k agrees with its command again at t (R230). -/
def Dev.gateAgrees (d : Dev) (k t : Nat) : Dev :=
  d.modCell k (fun c => if c.gateBad then { c with gateBad := false, gateFlt := false, edgeAt := some t } else c)

/-- GATE_FAULT: a BG pin has differed from its command for more than 20 µs: the bleed ends, BAL 0x01 (R230, R232). The operand
also says when the pin begins to differ and when it agrees again, since the samples in between are touched (log 15). -/
def execGateFault (d cell : Nat) (p : GatePin) (s : State) : Out :=
  onS s d fun s =>
    s.modDev d (fun x =>
      match p with
      | .differs => x.gateDiffers cell s.now
      | .fault => x.gateFault cell s.now
      | .agrees => x.gateAgrees cell s.now)

/-- Every switch of the device turns off at t, and every timer is cleared; keyed bins are aborted (R211, R229, R235). -/
def Dev.cutBleed (d : Dev) (t : Nat) : Dev :=
  ((List.range 24).foldl (fun d k => if d.keyed k then d.abortCell k else d) d).bleedAllOff t

/-- BLEED_SILENCE_EXPIRY: BAL_SIL has passed since the last reload: bleed off, timers cleared, BAL 0x02 (R233, R235). -/
def execBleedSilenceExpiry (d : Nat) (s : State) : Out :=
  onS s d fun s =>
    match (s.dev d).silence with
    | some t0 =>
      let t := t0 + ms (10 * (s.dev d).par Fld.balSil 0)
      (s.until t).modDev d (fun x =>
        { x.cutBleed t with silence := none, bleedOff := true, silenceRep := some (x.sweep % 2 ^ 32) })
    | none => s

/-- C_ERR seen asserted at the head S-die: its bleed switches off and its timers clear (R36, R229). -/
def State.cErrOn (s : State) : State :=
  s.modDev 0 (fun d => if d.awake ∧ d.isHead then { d.cutBleed s.now with cErr := true } else d)

/-- C_ERR_ASSERT: C_ERR is the trip state of the C-die, or its pair shows equal levels (R32, R35, R36, R353). -/
def execCErrAssert (s : State) : Out :=
  onS s 0 fun s =>
    if s.saf.lastSrc ≠ 0 ∨ s.saf.slEqual.2 ∨ s.pw.running = false then s.cErrOn else s

end Sys2Proof.Machine
end

