-- ==== Sys2Proof/Machine/FieldRecords.lean ====
section
/-!
DEFINITION. Field records of the Legend (R469) as bytes: FIELD, INDEX, LEN and VALUE, ended by FIELD 0x0000.
-/

namespace Sys2Proof.Machine

/-- One field record (R469). -/
structure FieldRec where
  fid : Nat
  idx : Nat
  value : List Byte
  deriving DecidableEq, Repr

/-- Reads field records up to the terminator or the end of the bytes; none where one is cut short (R469). -/
def parseRecs : Nat → List Byte → Option (List FieldRec)
  | 0, _ => none
  | fuel + 1, b =>
    let fid := field b 0 2
    if b.length < 2 ∨ fid = 0 then some []
    else
      let len := field b 4 1
      if b.length < 5 + len then none
      else (parseRecs fuel (b.drop (5 + len))).map (FieldRec.mk fid (field b 2 2) ((b.drop 5).take len) :: ·)

/-- The consecutive indices that a record covers, `w` bytes each: index and value (R469). -/
def FieldRec.indices (r : FieldRec) (w : Nat) : List (Nat × Nat) :=
  if w = 0 then [] else (List.range (r.value.length / w)).map (fun i => (r.idx + i, field r.value (w * i) w))

/-- The bytes of one record of a single index. -/
def recOf (fid idx w v : Nat) : List Byte := leBytes 2 fid ++ leBytes 2 idx ++ leBytes 1 w ++ leBytes w v

/-- Width in bytes of a field, 0 for an unknown one. -/
def fieldWidth (fid : Nat) : Nat := match fieldSpec fid with
  | some r => r.width
  | none => 0

/-- Indices of a field. -/
def fieldCount (fid : Nat) : Nat := match fieldSpec fid with
  | some r => r.count
  | none => 0

/-- Field records as a map of field keys. -/
def recsMap (l : List FieldRec) (m : SMap Nat) : SMap Nat :=
  l.foldl (fun m r => (r.indices (fieldWidth r.fid)).foldl (fun m x => smapSet m (fieldKey r.fid x.1) x.2) m) m

end Sys2Proof.Machine
end

