-- ==== Sys2Proof/Machine/Gazetteer.lean ====
section
/-!
DEFINITION. The Gazetteer (R479) and the Legend image as bytes (R468, R469).
-/

namespace Sys2Proof.Machine

/-! ### The Gazetteer (R464, R479) -/

/-- An entry that waits to be written to the Gazetteer; SEQ is given when it is written. -/
def State.gazAdd (s : State) (sweep host level fid old new : Nat) : State :=
  { s with leg := { s.leg with
      gazPend := s.leg.gazPend ++ [⟨0, sweep, host, level, fid, word old, word new⟩] } }

/-- The level of a host's port (R464 LEVEL). -/
def State.levelOf (s : State) (h : HostId) : Nat := (s.port h).level

/-- GAZETTEER_WRITE: the entries that wait are written, the newest 1,024 are kept, and DONE follows last (R475, R479). -/
def execGazetteerWrite (s : State) : Out :=
  onC s fun s =>
    let l := s.leg
    if l.gazPend = [] ∧ l.donePend = false then s
    else
      let r := l.gazPend.foldl (fun (x : List GazRec × Nat) e => ({ e with seq := x.2 } :: x.1, x.2 + 1)) (l.gaz, l.gazSeq)
      let a := bif l.donePend then { l.active with done := true } else l.active
      let l' := { l with gaz := r.1.take 1024, gazSeq := r.2, gazPend := [], donePend := false, active := a }
      let l' := bif l.donePend then
          (bif l.useB then { l' with copyB := { l.copyB with done := true } } else { l' with copyA := { l.copyA with done := true } })
        else l'
      ({ s with leg := l' }).eventIf (decide (l.gazPend ≠ [])) Ev.gaz

/-! ### The substitution map (R479, R446) -/

/-- The substitution map of a device as bytes: 0 assigned, 1 RM1, 2 RM2 (log 23). -/
def Dev.substMap (d : Dev) : List Byte :=
  d.cells.map (fun (c : Cell) => match c.subst with
    | some 24 => 1#8
    | some 25 => 2#8
    | _ => 0#8)

/-- Entries for the cells of the device in position p whose substitution changed, against its map before: by the host that
ordered it, or by the device itself (R94, R97, R479). An order that has been applied is forgotten. -/
def State.gazSubst (s : State) (p : Nat) (old new : Dev) (ordered : List Nat) (sweep : Nat) : State :=
  (List.range 24).foldl (fun s k =>
    let who := (smapGet s.leg.substBy (24 * p + k)).getD (2, 0)
    let s := if ordered.contains k then { s with leg := { s.leg with substBy := smapErase s.leg.substBy (24 * p + k) } } else s
    if (old.cell k).subst ≠ (new.cell k).subst then
      s.gazAdd sweep who.1 who.2 0xFF20 (crc32c old.substMap) (crc32c new.substMap)
    else s) s

/-! ### The image (R468, R469) -/

/-- Consecutive indices of a field gathered for one record: field, first index, next index, width, value bytes. -/
structure RecRun where
  fid : Nat
  first : Nat
  next : Nat
  width : Nat
  value : List Byte
  deriving DecidableEq, Repr

/-- The bytes of one gathered record. -/
def RecRun.bytes (r : RecRun) : List Byte :=
  leBytes 2 r.fid ++ leBytes 2 r.first ++ leBytes 1 r.value.length ++ r.value

/-- Field records in ascending order; consecutive indices share a record as long as LEN holds them (log 24). -/
def runsOf (fs : SMap Nat) : List RecRun :=
  (fs.foldl (fun (acc : List RecRun) e =>
    let fid := e.1 / 65536
    let idx := e.1 % 65536
    let w := match fieldSpec fid with
      | some r => r.width
      | none => 0
    match acc with
    | r :: l =>
      if r.fid = fid ∧ r.next = idx ∧ r.value.length + w ≤ 255 then
        { r with next := idx + 1, value := r.value ++ leBytes w e.2 } :: l
      else ⟨fid, idx, idx + 1, w, leBytes w e.2⟩ :: acc
    | [] => [⟨fid, idx, idx + 1, w, leBytes w e.2⟩]) []).reverse

/-- The bytes of the field records with their terminator (R469). -/
def recordsBytes (fs : SMap Nat) : List Byte := (runsOf fs).flatMap RecRun.bytes ++ [0, 0]

/-- The image as bytes with its CRC field as given (R468). DONE counts as written in the CRC (log 24). -/
def Image.bytesWith (i : Image) (crc : Nat) : List Byte :=
  let recs := recordsBytes i.fields
  leBytes 2 0x0041 ++ leBytes 2 i.version ++ leBytes 4 crc ++ leBytes 4 i.sweep ++ leBytes 1 i.host ++ leBytes 1 i.level
    ++ leBytes 2 recs.length ++ leBytes 4 0xA5C3F00F ++ List.replicate 12 0 ++ recs
    ++ List.replicate (16352 - recs.length) 0

/-- The CRC of an image (R468). -/
def Image.crc (i : Image) : Nat := crc32c (i.bytesWith 0)

/-- The field records fit within the image (R469). -/
def recordsFit (fs : SMap Nat) : Bool := decide ((recordsBytes fs).length ≤ 16352)

/-- The bytes of all indices of a field (R479). -/
def fieldAll (fs : SMap Nat) (fid : Nat) : List Byte :=
  match fieldSpec fid with
  | some r => (List.range r.count).flatMap (fun i => leBytes r.width (par fs fid i))
  | none => []

/-! ### Change sets (R473, R475) -/

/-- Fields of one map over those of another. -/
def overFields (base new : SMap Nat) : SMap Nat := new.foldl (fun m e => smapSet m e.1 e.2) base

/-- The fields of an image with a change set applied. -/
def overSet (base : SMap Nat) (c : ChangeSet) : SMap Nat := c.drop.foldl smapErase (overFields base c.fields)

/-- Change sets that have landed and wait for their boundary, in order of landing. -/
def State.pendingSets (s : State) : List ChangeSet :=
  (s.swp.landed ++ s.swp.landNext).filterMap (fun (x : Landed) => match x with
    | .legend c => some c
    | _ => none)

/-- The active fields with every landed change set applied. -/
def State.pendingFields (s : State) : SMap Nat :=
  s.pendingSets.foldl overSet s.leg.active.fields

/-- The VERSION of the next change set (R468). -/
def State.nextVersion (s : State) : Nat :=
  let v := match s.pendingSets.getLast? with
    | some c => c.version
    | none => s.leg.active.version
  if v = 0xFFFF ∨ v = 0 then 1 else v + 1

/-- The sweep at whose boundary a setting that lands now takes effect (R64, R437); the first boundary begins sweep 0. -/
def State.effect (s : State) : Nat :=
  match s.swp.count with
  | some n => n + (bif s.swp.hold then 2 else 1)
  | none => bif s.swp.hold then 1 else 0

/-- A change set lands: it is written to the copy that is not active, and waits for its boundary (R473, R475). -/
def State.landChange (s : State) (fields : SMap Nat) (host level : Nat) (bulk : Bool) (drop : List Nat) : State :=
  let v := s.nextVersion
  let c : ChangeSet := ⟨fields, v, host, level, bulk, drop⟩
  let img : Image := ⟨v, s.effect % 2 ^ 32, host, level, false, true, false, overSet s.pendingFields c⟩
  let s := s.land (.legend c)
  { s with leg := bif s.leg.useB then { s.leg with copyA := img } else { s.leg with copyB := img } }

/-- The fields of a map that differ from the active image, as a change set. -/
def State.changesOf (s : State) (m : SMap Nat) : SMap Nat :=
  m.filter (fun e => decide (smapGet s.leg.active.fields e.1 ≠ some e.2))

/-- Field identities of a change, each once. -/
def fidsOf (m : SMap Nat) : List Nat := (m.map (fun e => e.1 / 65536)).eraseDups

/-! ### Settings that travel to the devices (R474) -/

/-- The field is one of the position fields (R474). -/
def positionField (fid : Nat) : Bool := [Fld.convRtap, Fld.win, Fld.balRb, Fld.thCfg].contains fid

/-- The field acts at the devices and travels in the commit record (R474). -/
def deviceField (fid : Nat) : Bool :=
  !positionField fid && ([1, 4, 6].contains (fid / 256)
    || [Fld.regSwp, Fld.shuntR, Fld.ocDis, Fld.ocChg, Fld.ocN, Fld.sndRbin, Fld.sndSettle, Fld.sndVmin, Fld.ntcLut,
        Fld.snsN, Fld.vouchN].contains fid)

/-- Size in bytes of setting records (R264, R67). -/
def settingsSize (l : List Setting) : Nat := (l.map (fun x => (recordBytes x).length)).foldl (· + ·) 0

/-- The setting records of a landed setting. -/
def landedSettings (effect : Nat) : Landed → List Setting
  | .device x => [x]
  | .legend c =>
    (c.fields.filter (fun e => deviceField (e.1 / 65536))).map (fun e =>
      Setting.mk 255 (.field (e.1 / 65536) (e.1 % 65536) e.2))
      ++ (c.fields.filter (fun e => !c.bulk && decide (e.1 / 65536 = Fld.win ∧ e.1 % 65536 < 288))).map (fun e =>
        Setting.mk (e.1 % 65536 / 9) (.window (e.1 % 65536 % 9) e.2 effect))
  | .swpCtrl v => [⟨255, .field Fld.regSwp 0 v.toNat⟩]
  | .survey ps => ps.map (fun p => Setting.mk p (.activate 1))
  | .position p _ => [⟨p, .activate 2⟩]
  | .firmware true ps _ _ => ps.map (fun p => Setting.mk p .firmware)
  | .dormant => [⟨255, .dormant⟩]
  | _ => []

/-- The shadow location that a setting record writes: TARGET, field and index; none for an order. -/
def settingPlace (x : Setting) : Option (Nat × Nat × Nat) :=
  match x.val with
  | .field fid idx _ => some (x.target, fid, idx)
  | .window g _ _ => some (x.target, Fld.win, g)
  | _ => none

/-- Of the writes to one shadow location only the last remains (R65, R19). -/
def lastWrites : List Setting → List Setting
  | [] => []
  | x :: l => if (settingPlace x).isSome && l.any (fun y => decide (settingPlace y = settingPlace x)) then lastWrites l
    else x :: lastWrites l

/-- The setting records that a commit record holds of these, but for REG_SWP, whose place is reserved (R66, R67). -/
def recordPart (l : List Setting) : List Setting :=
  lastWrites (l.filter (fun x => match x.val with
    | .field fid _ _ => decide (fid ≠ Fld.regSwp)
    | _ => true))

/-- Setting records of the commit record that is forming, with those of further settings (R66, R67). -/
def State.recordWith (s : State) (more : List Setting) : List Setting :=
  recordPart (((bif s.swp.hold then s.swp.landNext else s.swp.landed).flatMap (landedSettings s.effect)) ++ more)

/-- Setting records of the commit record that is forming, but for REG_SWP (R66, R67). -/
def State.pendingSettings (s : State) : List Setting := s.recordWith []

/-- The change would make the record larger than R67 allows. -/
def State.commitFull (s : State) (x : Landed) : Bool :=
  decide (1008 < settingsSize (s.recordWith (landedSettings s.effect x)))

end Sys2Proof.Machine
end

