-- ==== Sys2Proof/Machine/Boundary.lean ====
section
/-!
DEFINITION. The local boundary of an S-die (R59 to R63, R65 to R70): where it is placed, what commit and reaction records
change there, adoption (R283), and the events at the device that belong to the Meridian.
-/

namespace Sys2Proof.Machine

/-! ### Placing the boundary (R59, R61) -/

/-- A latency in 10 ps as ns, rounded. -/
def latNs (l : Option Nat) : Nat := (l.getD 0 + 50) / 100

/-- The boundary that K28.1 from one direction gives: arrival + 16.000 µs less the latency of the path (R59). -/
def boundaryOf (arrival : Option Nat) (l : Option Nat) : Option Nat := arrival.map (fun a => a + 16000 - latNs l)

/-- The instant of the boundary, its sweep-health code (R63) and the direction it is taken from, by the rules of R61. -/
def Dev.place (d : Dev) : Option (Nat × Nat × Bool) :=
  let e := boundaryOf d.sawE d.latE
  let w := boundaryOf d.sawW d.latW
  match (if d.useW then w else e), (if d.useW then e else w), d.nextB with
  | some t, _, _ => some (t, 0, d.useW)
  | none, some t, _ => some (t, 1, !d.useW)
  | none, none, some t => some (t, 2, d.useW)
  | none, none, none => none

/-- The number of the sweep that the boundary begins: that of the header received since the last boundary, else the
running number plus one (R55, R264). -/
def Dev.nextSweep (d : Dev) : Nat :=
  match d.header with
  | some h => unwrap (d.sweep + 1) (2 ^ 32) h.sweep
  | none => d.sweep + 1

/-! ### S-die resets -/

/-- An S-die after its power-on reset: only the S-die flash is kept (R97, R133, R253, R480). -/
def Dev.afterReset (d : Dev) : Dev :=
  { cells := d.cells.map (fun (c : Cell) => { subst := c.subst })
    sv := { stored := d.sv.stored, storedOk := d.sv.storedOk }
    release := d.release, newSlot := d.newSlot, prevRelease := d.prevRelease, firstStart := d.firstStart }

/-- An S-die core reset at t, by its watchdog or a firmware activation: bleed ends, the timers clear, and records not yet
applied are lost (R219, R390, R481). -/
def Dev.coreStop (d : Dev) (t : Nat) (watchdog : Bool) : Dev :=
  { d.cutBleed t with coreReset := some t, wdReport := watchdog, commitPend := [], reactPend := [] }

/-- A committed DORMANT order applied at t (R498 item 1, R259). -/
def Dev.goDormant (d : Dev) (t : Nat) : Dev :=
  { d.afterReset with power := .dormant, dormantAt := some (t + 2 * d.periodNs') }

/-! ### Settings at a device (R65 to R70) -/

/-- A new post-filter setting restarts every post-filter: the first S_f samples are excluded (R79). -/
def Dev.refill (d : Dev) : Dev :=
  let d := (List.range 24).foldl (fun d k => d.setFill k) d
  let d := d.modAcc 177 (fun a => { a with row1 := true, prm := true })
  if d.isHead then { (d.modAcc 188 (fun a => { a with row1 := true, prm := true })) with shuntFill := d.sf } else d

/-- The index of the first table entry that a sweep period is too short for (R145). -/
def Dev.firstLong (d : Dev) : Option Nat :=
  (List.range d.table.length).find? (fun i => decide (periodUs d.period < eDuration (d.table.getD i 0) + 5))

/-- A new sweep period at the boundary of sweep n (R56, R114, R145). -/
def Dev.setPeriod (d : Dev) (n code : Nat) : Dev :=
  if d.period = code then d
  else
    let d := { d with period := code, quota := periodQuota code }
    let d := (List.range 9).foldl (fun d g => d.setWindow n g ⟨(d.win g).w, n⟩) d
    match d.firstLong with
    | some i => d.report true 0x1A 3 i 0
    | none => d

/-- Inputs without a role are not judged: their declarations end (R291, R483). -/
def Dev.unfit (d : Dev) : Dev :=
  (List.range 32).foldl (fun d n =>
    if d.thRole n = 0 ∧ (d.sv.therm.getD n {}).broken ≠ 0 then d.setBroken n 0 else d) d

/-- A field takes a value at the boundary of sweep n. -/
def Dev.setField (d : Dev) (n fid idx v : Nat) : Dev :=
  let filter := d.postfilt
  let d := { d with fields := smapSet d.fields (fieldKey fid idx) v }
  if fid = Fld.convCfg then (if d.postfilt = filter then d else d.refill)
  else if fid = Fld.regSwp then d.setPeriod n (v % 8)
  else if fid = Fld.thCfg then d.unfit
  else d

/-- The bytes of a staged object. -/
def StageBuf.bytes (b : StageBuf) : List Byte := (List.range b.total).map (fun i => (smapGet b.mem i).getD 0)

/-- Words of a Survey table object, up to its END entry (R143). -/
def tableObject (b : List Byte) : List Word :=
  tableOf ((List.range (b.length / 4)).map (fun i => word (field b (4 * i) 4)))

/-- A new Survey table at the boundary: entry 0, pass 0, the open-wire pass cut short; a table without a bias entry leaves
no bias result to use; the reference check needs both channels (R141, R143, R167, R293). -/
def Dev.newTable (d : Dev) (t : List Word) : Dev :=
  let d := d.modSv (fun v => { v with
    stored := some t, storedOk := true, idx := 0, pass := 0, owPass := []
    bias := if t.any (fun w => decide (eChan w = 0x3E)) then v.bias else none })
  if t.any (fun w => decide (eChan w = 0x3B)) && t.any (fun w => decide (eChan w = 0x3C)) then d
  else d.report true 0x1A 4 0 0

/-- Position fields of a staged Legend object (R474). A WIN record carries W alone for the sweep of the activation, or W
and s0 for a window that the ring already runs (R113, log 14). -/
def Dev.legendObject (d : Dev) (n : Nat) (b : List Byte) : Dev :=
  ((parseRecs (b.length + 1) b).getD []).foldl (fun d r =>
    if r.fid = Fld.win then
      let w := field r.value 0 2
      let x : Window := ⟨w, if r.value.length = 6 then unwrap n (2 ^ 32) (field r.value 2 4) else n⟩
      let d := { d with fields := smapSet d.fields (fieldKey Fld.win r.idx) w }
      if d.win (r.idx % 9) = x then d else d.setWindow n (r.idx % 9) x
    else (r.indices (fieldWidth r.fid)).foldl (fun d x => d.setField n r.fid x.1 x.2) d) d

/-- The staged object is activated where it has verified (R67). -/
def Dev.activate (d : Dev) (n object : Nat) : Dev :=
  match d.staging.find? (fun b => decide (b.object = object) && b.verified) with
  | some b =>
    let d := { d with staging := d.staging.filter (fun x => decide (x.object ≠ object)) }
    if object = 1 then d.newTable (tableObject b.bytes)
    else if object = 2 then d.legendObject n b.bytes
    else d
  | none => d

/-- The S-die core restarts into its new firmware slot at t (R481 item 2). -/
def Dev.newFirmware (d : Dev) (t : Nat) : Dev :=
  match d.newSlot with
  | some crc =>
    { d.coreStop t false with
      prevRelease := d.release, release := Config.firmwareRelease crc, newSlot := none, firstStart := some t }
  | none => d

/-- One setting of a commit or reaction record at the boundary at t that begins sweep n (R66, R69). DESIGN CHOICE (log 154): a
halt of rolling calibration ordered while one is in force restarts its 24 h. -/
def Dev.applyVal (d : Dev) (n t : Nat) (x : SettingVal) : Dev :=
  match x with
  | .field fid idx v => d.setField n fid idx v
  | .window g w s0 => d.setWindow n g ⟨w, s0⟩
  | .balance mask minutes => d.setBalance mask minutes t
  | .calHalt => { d with rollHalt := some t }
  | .calResume => { d with rollHalt := none }
  | .substitute k => if (d.cell (k - 1)).failInv then d.substitute (k - 1) n else d
  | .revert k => d.revert (k - 1)
  | .arbitrate k ordered => d.arbitrate (k - 1) ordered
  | .selfTest full =>
    if d.sv.test.isSome then d
    else d.modSv (fun v => { v with test := some ⟨full, 1, [], false, [], t⟩ })
  | .sounding cells bins cycles => if d.snd.isSome then d else d.startSounding cells bins cycles
  | .soundHalt => d.haltSounding t
  | .activate o => d.activate n o
  | .firmware => d.newFirmware t
  | .quota q => { d with quota := q }
  | .bleedOff => { (d.cutBleed t).haltSounding t with bleedOff := true }
  | .clearTimers => d.bleedAllOff t
  | .cancelTest => d.modSv (fun v => { v with test := v.test.filter (·.full) })
  | .dormant => d.goDormant t

/-- The record addresses the device (R264). -/
def Dev.targeted (d : Dev) (x : Setting) : Bool := decide (x.target = 255) || decide (d.pos = some x.target)

/-- Applies the settings of a record that address the device. -/
def Dev.applyRecord (d : Dev) (n t : Nat) (c : CommitMsg) : Dev :=
  c.settings.foldl (fun d x => if d.targeted x then d.applyVal n t x.val else d) d

/-- Epoch `a` follows epoch `b` under the wrap of 16 bits (R66). -/
def epochNewer (a b : Nat) : Bool := decide (a ≠ b ∧ (a + 65536 - b) % 65536 < 32768)

/-- Commit records tagged for this sweep or an earlier one, in order of reception (R66, R68). -/
def Dev.applyCommits (d : Dev) (n t : Nat) : Dev :=
  let due := d.commitPend.filter (fun c => decide (c.sweep ≤ n))
  let d := { d with commitPend := d.commitPend.filter (fun c => decide (n < c.sweep)) }
  due.foldl (fun d c =>
    let d := { d with
      epoch := if epochNewer c.epoch d.epoch then c.epoch else d.epoch, late := d.late.filter (fun e => decide (e ≠ c.epoch)) }
    d.applyRecord n t c) d

/-- Reaction records held for this boundary (R69). -/
def Dev.applyReactions (d : Dev) (n t : Nat) : Dev :=
  let l := d.reactPend
  l.foldl (fun d c => d.applyRecord n t c) { d with reactPend := [] }

/-! ### Adoption (R283) -/

/-- The position that a device's hop counts give (R281). -/
def adoptPos (a : AdoptMsg) (hops : Option Nat × Option Nat) : Option Nat :=
  match hops.1, hops.2 with
  | some e, some w => if a.closed then (if e + w = a.n then some e else none) else some e
  | some e, none => some e
  | none, some w => some (a.n - w)
  | none, none => none

/-- A port at the adoption boundary: a held port joins, a port that is not UP is wrapped (R283 item 3, R285, R288). -/
def PortSt.adopt (p : PortSt) (head : Bool) : PortSt :=
  let up := decide (p.st = .up)
  { p with held := false, everUp := up, leftUp := false, wrapped := !up && !head }

/-- Reset values of the position fields and their windows with s0 = s_a (R283 item 6, log 21). -/
def Dev.resetPosition (d : Dev) (sa : Nat) : Dev :=
  let isPos (k : Nat) : Bool := [Fld.convRtap, Fld.win, Fld.balRb, Fld.thCfg].contains (k / 65536)
  { d with
    fields := d.fields.filter (fun x => !isPos x.1)
    wins := winReset.map (fun w => ⟨w, sa⟩) }

/-- The adoption that a device of factory identity `id` holds takes effect at the boundary at t of sweep n (R283): a device
that takes another position than the one it last held runs the reset values of the position fields; one whose position
changes discards its entries (R271), and a Sounding at it halts (R212). -/
def Dev.applyAdopt (d : Dev) (n t : Nat) (id : Word) : Dev :=
  match d.adoptMsg with
  | none => d
  | some a =>
    if n < a.sa then d
    else
      let p : Option Nat := if d.isHead then some 0 else
        (adoptPos a d.hops).filter (fun p => decide (p < a.n) && decide (a.ids.getD p 0 = id))
      let same := decide (d.pos = p)
      let first := !d.adopted
      let w := match d.hops.1, d.hops.2 with
        | some e, some w => decide (w < e)
        | none, some _ => true
        | _, none => false
      let again := d.recount
      let fresh := p.isSome && decide (p ≠ d.lastPos)
      let d := { d with
        adoptMsg := none, adopted := true, recount := false, pos := p, lastPos := p.or d.lastPos
        latE := d.lat.1, latW := d.lat.2, prefW := w && !d.isHead
        useW := if first then w && !d.isHead else d.useW, prefRun := 0
        portE := d.portE.adopt d.isHead, portW := d.portW.adopt d.isHead }
      if same then (if again then (List.range 9).foldl (fun d g => d.setWindow n g ⟨(d.win g).w, a.sa⟩) d else d)
      else
        let d := if fresh then d.resetPosition a.sa else d
        let d := { d.haltSounding t with backlog := [] }
        if p.isSome then d.startAll n else d

/-! ### The boundary (R231, R283) -/

/-- Balance commands held for the neighbour of a keyed cell take effect once the bin has ended (R211). -/
def Dev.applyHeld (d : Dev) (t : Nat) : Dev :=
  (List.range 24).foldl (fun d k =>
    match (d.cell k).held with
    | some m => if d.byKeyed k then d else d.setTimer k m t
    | none => d) d

/-- No switch conducts while C_ERR or the over-temperature comparator forbids it (R36, R308). -/
def Dev.forceOff (d : Dev) (t : Nat) : Dev :=
  if d.cErr ∨ d.overTemp then
    { d with cells := d.cells.map (fun (c : Cell) => { c.drive false t with admitted := false }) }
  else d

/-- The once-per-sweep readings of the sweep that ends (R118), and the buck supply judged for SUPPLY 0x03 (R526). -/
def Dev.readings (d : Dev) (r : DevReadings) : Dev :=
  let d := (d.modAcc 184 (·.add r.temp)).modAcc 187 (·.add r.buck)
  let new := supplyCount d.buckBad (decide (r.buck < 47500 ∨ 52500 < r.buck)) (decide (48000 ≤ r.buck ∧ r.buck ≤ 52000))
  let old := d.buckBad
  let d := { d with buckBad := new }
  if old.2.2 = new.2.2 then d
  else d.report new.2.2 0x18 3 (openDetail 0x18 3 d.posIx) (bif new.2.2 then sval r.buck else 0)

/-- Windows at the boundary that begins sweep n: the first boundary of a device starts every record (R114, R126, R156);
a later one ends the sweep and closes what is due (R113); an unsynchronised device closes none (R62). -/
def Dev.windows (d : Dev) (n : Nat) (resync : Bool) : Dev :=
  if d.calibrated = false then d
  else if d.measuring = false then { d.startAll n with measuring := true }
  else if resync then d.startAll n
  else if d.unsync then { d with accs := d.accs.map (·.endSweep) }
  else
    let d := d.closeDue n
    { d with accs := d.accs.map (·.endSweep) }

/-- Substitution, arbitration and rolling calibration at the boundary of sweep n (R91 to R97, R158 to R174). -/
def Dev.relieve (d : Dev) (n : Nat) : Dev :=
  (((((d.substituteDue n).advanceArbs n).advanceCover n).advanceReturns n).beginCover n).ownCalibrate n

/-- The Survey at the boundary at t of sweep n (R144, R165, R137): an entry fits in where it ends by the end of the sweep that
begins here. -/
def Dev.surveyBoundary (d : Dev) (n t : Nat) : Dev :=
  if d.calibrated = false then d
  else
    let d := if d.sv.started then d else d.modSv (fun v => { v with started := true, startedAt := n, idx := 0, pass := 0 })
    let d := d.modSv (fun v => { v with occ := match v.occ with
      | some (.maintenance _) => none
      | o => o })
    let d := d.occupy n t
    if d.sv.running.isSome then d else ({ d with lastB := t }).schedule t

/-- A device that begins a sweep late runs it on stale settings: the windows open then carry INV (R68). -/
def Dev.markLate (d : Dev) : Dev :=
  if d.late.isEmpty = false then { d with accs := d.accs.map (fun (a : Acc) => a.flag (fun f => { f with inv := true })) } else d

/-- Where the head has begun its sweep count anew, what the device counts in sweeps keeps its distance (R55). -/
def Dev.rebase (d : Dev) (n : Nat) : Dev :=
  if d.sweep + 1 ≤ n then d
  else
    let f (x : Nat) : Nat := x + n - (d.sweep + 1)
    { d with
      rollWait := f d.rollWait, cover := d.cover.map (fun (c : Cover) => { c with calEnd := f c.calEnd })
      ownCal := (d.ownCal.1.map f, d.ownCal.2.map f)
      cells := d.cells.map (fun (c : Cell) => { c with sources := (c.source.map (fun m => (0, m))).toList })
      sv := { d.sv with startedAt := f d.sv.startedAt, lastMaint := d.sv.lastMaint.map f } }

/-- The device at its boundary at t, before what its core does there: readings, bleed accounting, the sweeps of recovery
(R88), windows. -/
def Dev.boundaryHard (d : Dev) (r : DevReadings) (n t : Nat) (resync : Bool) : Dev :=
  let d := if d.measuring then ({ d with cells := d.cells.map (fun (c : Cell) => c.countTo t) }.bleedSweepEnd t).readings r else d
  let d := { d with cells := d.cells.map (fun (c : Cell) => { c with rcv := c.rcv - 1 }) }
  (d.rebase n).windows n resync

/-- What the core does at the boundary at t that begins sweep n, in the order of R231 and R283; the windows that open there
take their flags from its outcome. -/
def Dev.boundaryCore (d : Dev) (n t : Nat) (id : Word) : Dev :=
  let d := d.applyCommits n t
  let d := if d.unsync then d else d.applyAdopt n t id
  let d := (d.applyHeld t).expireTimers t
  let d := d.applyReactions n t
  if d.awake = false then d
  else
    let d := (d.relieve n).soundBoundary t
    (((d.vminEnds t).admission t).surveyBoundary n t).reopen n

/-- What goes on at the boundary at t of sweep n while the core is halted: timers and the Survey are hardware (R50, R137,
R219). -/
def Dev.boundaryHalted (d : Dev) (n t : Nat) : Dev := (d.expireTimers t).surveyBoundary n t

/-- The instant at which a frame and its idle set have left (R245). -/
def TxFrame.ends (x : TxFrame) : Nat := x.at' + frameNs x.frame

/-- Frames that the port has sent by t are done with. -/
def PortSt.forget (q : PortSt) (t : Nat) : PortSt := { q with tx := q.tx.filter (fun x => decide (t < x.ends)) }

/-- The boundary is placed, and the next sweep begins (R59, R61, R63). -/
def Dev.newSweep (d : Dev) (n t health : Nat) : Dev :=
  let seen := if d.prefW then d.sawW.isSome else d.sawE.isSome
  let d := { d with
    health := health, sweep := n, sampleNo := 0, lastB := t, nextB := some (t + d.periodNs')
    flywheel := bif health == 2 then d.flywheel + 1 else 0
    prefRun := bif seen then d.prefRun + 1 else 0
    sawE := none, sawW := none, header := none, seen := [], seenLast := d.seen
    portE := d.portE.forget t, portW := d.portW.forget t }
  if d.measuring then d.modAcc 190 (·.add (health : Int)) else d

/-- The latencies that a device takes at its adoption govern the boundaries after it: the next Meridian is predicted one
period after the last one, whatever latency the boundary of the adoption was set with (R61, R283 item 2; log 33, DEDUCED). -/
def Dev.latencyShift (d old : Dev) (w : Bool) : Dev :=
  let l (x : Dev) : Nat := latNs (if w then x.latW else x.latE)
  { d with nextB := d.nextB.map (fun b => b + l old - l d) }

/-- The head raises CLOCK 0x03 for the unsynchronised device of slot d, or clears it (R62, R389; log 22). -/
def State.unsyncCause (s : State) (d : Nat) (on : Bool) : State :=
  if s.pw.running = false then s
  else match (s.dev d).pos with
    | some p => s.judge on 0x19 3 p p 0
    | none => s

/-- LOCAL_BOUNDARY: the S-die of slot d reaches its local boundary (R59 to R63, R66 to R70, R231, R283). Without a core
the windows still close, timers expire and the Survey goes on (R50, R137, R219). -/
def execLocalBoundary (d : Nat) (r : DevReadings) (s : State) : Out :=
  onS s d fun s =>
    match (s.dev d).place with
    | none => s
    | some (t, health, useW) =>
      let s := s.until t
      let x := s.dev d
      let resync := x.unsync && decide (health ≠ 2)
      let n := x.nextSweep
      let x := { x with unsync := x.unsync && !resync, useW := useW }
      let x := x.boundaryHard r n t resync
      let x := if x.coreReset.isSome then x.boundaryHalted n t else x.boundaryCore n t (Config.factoryId d)
      let x := (x.markLate).forceOff t
      let x := if x.awake then (x.newSweep n t health).latencyShift (s.dev d) useW else x
      let inf := !x.feasible && !x.infeasible
      let ordered := ((s.dev d).commitPend.flatMap (·.settings)).filterMap (fun (y : Setting) => match y.val with
        | .substitute k => some (k - 1)
        | .revert k => some (k - 1)
        | _ => none)
      let s := cond (s.pw.running && x.awake) (s.gazSubst ((s.dev d).posIx) (s.dev d) x ordered n) s
      let s := s.modDev d (fun _ => { x with infeasible := x.awake && !x.feasible })
      let s := if resync then s.unsyncCause d false else s
      cond (decide (d = 0) && inf && x.awake && s.pw.running) (s.raiseEv 0x1A 5 0 0 0) s

/-- DECLARE_UNSYNCHRONISED: after 8 consecutive flywheeled boundaries (R62, R389). -/
def execDeclareUnsynchronised (d : Nat) (s : State) : Out :=
  onS s d fun s =>
    if 8 ≤ (s.dev d).flywheel ∧ (s.dev d).unsync = false then
      (s.modDev d (fun x => { x with unsync := true })).unsyncCause d true
    else s

/-- RETURN_TO_PREFERRED_DIRECTION: after 64 consecutive sweeps with the Meridian from that direction (R61). -/
def execReturnToPreferredDirection (d : Nat) (s : State) : Out :=
  onS s d fun s =>
    if 64 ≤ (s.dev d).prefRun ∧ (s.dev d).useW ≠ (s.dev d).prefW then
      s.modDev d (fun x => { x with useW := x.prefW })
    else s

/-- The arrival of K28.1 at `t` is accepted: inside ±200 ns of the
prediction, or at any instant while unsynchronised or before the first boundary (R61, R62). -/
def Dev.accepts (d : Dev) (t : Nat) (fromW : Bool) : Bool :=
  match d.nextB with
  | some b =>
    let l := latNs (if fromW then d.latW else d.latE)
    d.unsync || (decide (b + l ≤ t + 16000 + 200) && decide (t + 16000 ≤ b + l + 200))
  | none => true

/-- K28.1 leaves by the port at t, ahead of everything else: what the transmitter has still to send moves by one character
period (R243, R245, R254). A port that is not UP, or is held, sends none (R251, R288). -/
def PortSt.sendMark (q : PortSt) (t : Nat) : PortSt :=
  if q.st ≠ .up ∨ q.held then q
  else { q with
    markAt := some t, busyUntil := if t < q.busyUntil then q.busyUntil + 32 else q.busyUntil
    tx := q.tx.map (fun x => if t < x.at' then { x with at' := x.at' + 32 } else x) }

/-- MERIDIAN_ARRIVAL: K28.1 arrives at a member on a port (R59, R61, R243), and passes to the opposite port with the latency
fixed at link-up (R248, R254), whatever its own boundary makes of it. The copy that left the head by port E runs round the ring
through each device's port W. A held or down port passes none (R251, R288); an unsynchronised device that holds an adoption
takes it in by a held port, since its neighbour has joined at s_a (R283 item 8). -/
def execMeridianArrival (d : Nat) (p : RPort) (s : State) : Out :=
  onS s d fun s =>
    let x := s.dev d
    let q := x.port p
    let fromW := decide (p = .E)
    let deaf := q.held && !(x.unsync && x.adoptMsg.isSome)
    if x.isHead ∨ q.st ≠ .up then s
    else
      let x := if q.held then x else x.modPort (rportOther p) (·.sendMark (s.now + latNs (some q.fwd)))
      let x := if deaf ∨ x.accepts s.now fromW = false then x
        else if fromW then { x with sawW := some s.now } else { x with sawE := some s.now }
      s.modDev d (fun _ => x)

end Sys2Proof.Machine
end

