-- ==== Sys2Proof/Machine/SafeFrames.lean ====
section
/-!
DEFINITION. Safe frames and coupling sessions (R367 to R380): forming, checking and the session machine.
-/

namespace Sys2Proof.Machine

/-! ### What a STATUS carries (R377) -/

/-- The entry meets the entry conditions of R346. -/
def entryFit (e : Entry) : Bool :=
  decide (0 < e.count) && !e.flags.inv && !e.flags.prm && !e.flags.gap && decide (e.flags.age ≤ 1)

/-- V_P in 100 µV: the sum of the means of record 176 over the positions of string 1 (R346, R10). -/
def State.vPack (s : State) : Option Rat :=
  let es := ((List.range (min (s.par Fld.str1Last 0 + 1) s.trv.n)).map (fun p => s.atlasGet (atlasIdx p 176)))
  cond (es.all entryFit && !es.isEmpty) (some (es.foldl (fun a e => a + meanQ e) 0)) none

/-- V_L in mV: the mean of record 178 of position 0 (R346). -/
def State.vLink (s : State) : Option Rat :=
  let e := s.atlasGet (atlasIdx 0 178)
  cond (entryFit e) (some (meanQ e)) none

/-- ICUR: the pack current in 0.1 A, 0x8000 without a usable entry (R377). -/
def State.icur (s : State) : Nat :=
  let e := s.atlasGet (atlasIdx 0 188)
  if entryFit e ∧ e.flags.ovr = false then
    toBits 16 (clampI (-32767) 32767 (roundQ (10 * meanQ e / (s.par Fld.shuntR 0 : Rat))))
  else 0x8000

/-- VPACK: V_P in 0.1 V, 0xFFFF where an entry fails (R377). -/
def State.vpackField (s : State) : Nat :=
  match s.vPack with
  | some v => toBits 16 (roundQ (v / 1000))
  | none => 0xFFFF

/-- The published charge and discharge limits, 0.1 A (R305). -/
def State.pubLimits (s : State) : Nat × Nat :=
  (bits (s.par Fld.contourStep s.ctr.outC) 15 0, bits (s.par Fld.contourStep s.ctr.outD) 31 16)

/-- SEV: the highest effective severity among the latches of the classes whose cause is present (R377). -/
def State.sevField (s : State) : Nat :=
  cond s.flt.causes.isEmpty 0xFF
    (((List.range 32).filter s.causeOf).foldl (fun m c => cond (s.latch c).latched (max m (s.latch c).sev) m) 0)

/-- The STATUS payload (R377). -/
def State.statusPayload (s : State) : List Byte :=
  leBytes 2 s.pubLimits.1 ++ leBytes 2 s.pubLimits.2 ++ leBytes 2 s.icur ++ leBytes 2 s.vpackField
    ++ [BitVec.ofNat 8 (opCode s.pw.op + 8 * b2n s.saf.armed
          + 16 * b2n (s.saf.ch.any (fun c => decide (c.phase = .hold))) + 32 * b2n s.ctr.lowered),
        BitVec.ofNat 8 s.sevField]

/-- The CONNECT payload (R376). -/
def State.connectPayload (s : State) : List Byte :=
  [1] ++ leBytes 2 (s.par Fld.sfTexp 0) ++ leBytes 2 (s.par Fld.sfTper 0) ++ leBytes 2 s.leg.active.version ++ [0, 0, 0]

/-! ### Forming frames (R367, R372) -/

/-- The µs counter of the crystal (R372). -/
def State.stamp (s : State) : Nat := s.now / 1000 % 2 ^ 32

/-- The CRC-32C of bytes 0 to 19 between two identities (R369). -/
def safeCrc (src dst : Nat) (b : List Byte) : Nat := crc32c (leBytes 4 src ++ leBytes 4 dst ++ b.take 20)

/-- The host that receives the outgoing frames (R370). -/
def State.sfHost (s : State) : HostId := cond (decide (s.par Fld.sfHost 0 = 1)) .B .A

/-- Forms one frame and hands it to the SF_HOST host, replacing an undrained one (R371, R372). -/
def State.formFrame (s : State) (type : Nat) (payload : List Byte) : State :=
  let b := leBytes 1 type ++ [0] ++ leBytes 2 s.ses.number ++ leBytes 2 s.ses.ownSeq ++ leBytes 4 s.stamp ++ payload
  let frame := b ++ leBytes 4 (safeCrc (s.par Fld.sfIdOwn 0) (s.par Fld.sfIdPart 0) b)
  let h := s.sfHost
  let s := { s with ses := { s.ses with ownSeq := (s.ses.ownSeq + 1) % 65536 } }
  cond (s.port h).frozen s ((s.modPort h (fun p => { p with safeOut := some frame })).placeSafe h)

/-- Forms a CONNECT and keeps its TSTAMP for the echo (R373, R376). -/
def State.formConnect (s : State) : State :=
  let texp := ms (s.par Fld.sfTexp 0)
  let s := s.formFrame 0x51 s.connectPayload
  { s with ses := { s.ses with
      sentAt := s.now
      connects := (s.stamp, s.now) :: s.ses.connects.filter (fun c => decide (s.now < c.2 + texp)) } }

/-- Forms a STATUS (R372, R377). -/
def State.formStatus (s : State) : State :=
  let s := s.formFrame 0x53 s.statusPayload
  { s with ses := { s.ses with sentAt := s.now } }

/-! ### The session machine (R375) -/

/-- A session number from the random source: never 0 and never the previous number (R375). -/
def sessionNumber (draw : Word) (prev : Nat) : Nat :=
  let c := draw.toNat % 65536
  (([c, (c + 1) % 65536, (c + 2) % 65536].find? (fun x => decide (x ≠ 0 ∧ x ≠ prev)))).getD 1

/-- Enters a state of the session machine. -/
def State.setSession (s : State) (st : SState) : State :=
  if s.ses.st = st then s else { s with ses := { s.ses with st := st } }.event Ev.session

/-- Enters CONNECTING with a new session number; the first CONNECT follows at once (R375). -/
def State.newSession (s : State) : State :=
  let n := sessionNumber ((Config.sessionDraw s.draws).setWidth 32) s.pw.prevSession
  let s := { s with draws := s.draws + 1, pw := { s.pw with prevSession := n } }
  let s := { s with ses := { s.ses with
    number := n, ownSeq := 0, failCnt := 0, connects := [], firstAt := s.now, reconnectAt := none } }
  ((s.setSession .connecting).formConnect)

/-- The session fails (R374): the cause is raised with the session in force, and while the combination is coupled a new
session begins at once (R375). -/
def State.failSession (s : State) (sub detail : Nat) : State :=
  let s := s.raise 0x15 sub 0 detail (word s.ses.number)
  let s := s.setSession .failed
  cond s.saf.coupled s.newSession s

/-- Uncoupling ends the session, with one DISCONNECT out of ACCEPTED (R375, R379). -/
def State.uncouple (s : State) : State :=
  let s := { s with saf := { s.saf with coupled := false, cplAt := none } }
  let s := if s.ses.st = .accepted then s.formFrame 0x55 (List.replicate 10 0) else s
  ({ s with ses := { s.ses with reconnectAt := none } }).setSession .idle

/-- The combination is coupled: a session starts out of IDLE (R365, R375). -/
def State.couple (s : State) : State :=
  let s := { s with saf := { s.saf with coupled := true } }
  if s.ses.st = .idle then s.newSession else s

/-- Without a COUPLED input the operating state couples and uncouples (R380). -/
def State.coupleByState (s : State) : State :=
  if (List.range 4).any (fun i => decide (s.siRole i = 2)) then s
  else if s.pw.op = .run ∧ s.saf.coupled = false then s.couple
  else if s.saf.coupled ∧ s.pw.op ≠ .run ∧ s.pw.op ≠ .safe ∧ s.pw.op ≠ .locked then s.uncouple
  else s

/-! ### Checking a delivered frame (R373, R376) -/

/-- The check that a delivered frame fails: 0 none, 1 to 5 of R373, 9 an ACCEPT of another VERSION (R376). -/
def State.checkFrame (s : State) (f : List Byte) : Nat :=
  let type := field f 0 1
  let ok1 := decide (field f 20 4 = safeCrc (s.par Fld.sfIdPart 0) (s.par Fld.sfIdOwn 0) f)
  let ok2 := decide (field f 1 1 = 1)
    && match s.ses.st with
       | .connecting => decide (type = 0x52)
       | .accepted => decide (type = 0x55) || (decide (type = 0x54) && decide (field f 10 1 < 2))
       | _ => false
  let ok3 := decide (field f 2 2 = s.ses.number)
  let d := (field f 4 2 + 65536 - s.ses.partSeq) % 65536
  let ok4 := decide (type = 0x52) || decide (1 ≤ d ∧ d ≤ s.par Fld.sfSeqwin 0)
  let dt := (field f 6 4 + 2 ^ 32 - s.ses.partTs) % 2 ^ 32
  let texp := s.par Fld.sfTexp 0
  let ok5 := cond (decide (type = 0x52))
    (s.ses.connects.any (fun c => decide (c.1 = field f 11 4 ∧ s.now < c.2 + ms texp))
      && decide (field f 15 2 ≤ texp / 2))
    (decide (1 ≤ dt ∧ dt ≤ texp * 1000))
  if !ok1 then 1 else if !ok2 then 2 else if !ok3 then 3 else if !ok4 then 4 else if !ok5 then 5
  else if type = 0x52 ∧ field f 10 1 ≠ 1 then 9 else 0

/-- A discarded frame adds to the failure count (R374); in CONNECTING checks 2 and 3 do not count, and with no session
in force no frame counts (log 19). -/
def State.failFrame (s : State) (h : HostId) (chk : Nat) : State :=
  let s := { s with ses := { s.ses with lastFail := chk } }
  let counts := match s.ses.st with
    | .connecting => decide (chk ≠ 2 ∧ chk ≠ 3)
    | .accepted => true
    | _ => false
  if counts then
    let n := s.ses.failCnt + 1
    let s := { s with ses := { s.ses with failCnt := n } }
    if s.par Fld.sfBadn 0 ≤ n then s.failSession chk (hostNum h) else s
  else s

/-- Every cause of SAFEFRAME ends when a later session is accepted (R374). -/
def State.clearSafeframe (s : State) : State :=
  (s.flt.causes.filter (fun c => decide (c.src.cls = 0x15))).foldl (fun s c => s.clearAt c.src s.sweep) s

/-- An accepted frame (R373 to R378). -/
def State.acceptFrame (s : State) (f : List Byte) : State :=
  let type := field f 0 1
  let s := { s with ses := { s.ses with
    failCnt := 0, partSeq := field f 4 2, partTs := field f 6 4, accAt := s.now } }
  let host := hostNum s.sfHost
  if type = 0x52 then
    let s := { s with ses := { s.ses with accOpaque := (f.drop 17).take 3 } }
    ((s.setSession .accepted).clearSafeframe).formStatus
  else if type = 0x54 then
    let s := { s with ses := { s.ses with partner := (f.drop 10).take 10 } }
    if field f 10 1 % 2 = 1 then s.raise 0x15 0x0A 0 host (word s.ses.number) else s.clear 0x15 0x0A 0 host
  else
    let s := s.raise 0x15 8 0 host (word s.ses.number)
    ({ s with ses := { s.ses with reconnectAt := some s.now } }).setSession .idle

/-- A delivered frame is checked at once; answers the failed check and the state after the frame (R371, R373). -/
def State.deliverFrame (s : State) (h : HostId) (f : List Byte) : Nat × State :=
  let chk := s.checkFrame f
  (chk, cond (decide (chk = 0)) (s.acceptFrame f) (s.failFrame h chk))

/-! ### The timers (R372, R374, R375) -/

/-- SAFE_FRAME_SEND_TIMER: SF_TPER after the last frame a CONNECT or STATUS is formed (R372, R375). -/
def execSafeFrameSendTimer (s : State) : Out :=
  onCore s fun s =>
    let t := s.ses.sentAt + ms (s.par Fld.sfTper 0)
    match s.ses.st with
    | .connecting => (s.until t).formConnect
    | .accepted => (s.until t).formStatus
    | _ => s

/-- SAFE_FRAME_TIME_EXPECTATION: SF_TEXP has passed without an accepted frame (R374 item 2). -/
def execSafeFrameTimeExpectation (s : State) : Out :=
  onCore s fun s =>
    if s.ses.st = .accepted then
      (s.until (s.ses.accAt + ms (s.par Fld.sfTexp 0))).failSession 6 (hostNum s.sfHost)
    else s

/-- SAFE_FRAME_CONNECT_LIMIT: no ACCEPT by SF_TCON after the first CONNECT (R374 item 3). -/
def execSafeFrameConnectLimit (s : State) : Out :=
  onCore s fun s =>
    if s.ses.st = .connecting then
      (s.until (s.ses.firstAt + ms (1000 * s.par Fld.sfTcon 0))).failSession 7 (hostNum s.sfHost)
    else s

/-- SESSION_RECONNECT_DELAY: 1 s in IDLE after a DISCONNECT, while still coupled, a new session begins (R375, R456). -/
def execSessionReconnectDelay (s : State) : Out :=
  onCore s fun s =>
    match s.ses.reconnectAt with
    | some t =>
      let s := (s.until (t + ms 1000))
      let s := { s with ses := { s.ses with reconnectAt := none } }
      if s.saf.coupled ∧ s.ses.st = .idle then s.newSession else s
    | none => s

end Sys2Proof.Machine
end

