-- ==== Sys2Proof/Machine/Contactors.lean ====
section
/-!
DEFINITION. Contactor channels (R338 to R355): phases, interlocks, monitoring. Channel n of the model is K(n+1).
-/

namespace Sys2Proof.Machine

/-! ### Shared operations -/

/-- Detail of a fault of channel n: the channel number (R349). -/
def chanDetail (n : Nat) : Nat := n + 1

/-- A channel's own fault turns its drives off; it passes through DROP to BLOCKED (R349). -/
def State.chanFault (s : State) (n cls sub : Nat) : State :=
  let c := s.chan n
  let s := s.modChan n (fun c =>
    if c.energised then c.drop s.now true
    else if c.phase = .drop then { c with ownFault := true }
    else { c with phase := .blocked, cmd := false, klOn := false })
  (s.eventIf (decide ((s.chan n).phase ≠ c.phase)) Ev.cont).raiseOpenEv cls sub 0 (chanDetail n)

/-- The class causes of R349 that block channel n (R350). -/
def State.chanCause (s : State) (n : Nat) : Bool :=
  (s.chan n).pinBad || decide (2 ≤ (s.chan n).overCnt)
    || s.flt.causes.any (fun c => [0x11, 0x12, 0x13].contains c.src.cls && decide (c.src.detail = chanDetail n))

/-- LASTREF or refusal of a close, by the table of R346: 0 none, else the STATUS of the first failing condition. -/
def State.closeCheck (s : State) (n : Nat) : Nat :=
  let cfg := s.par Fld.contCfg n
  let req := bits cfg 9 4
  let excl := bits cfg 15 10
  let pre : Bool := match s.vPack, s.vLink with
    | some p, some l => decide (-((s.par Fld.preDv 0 : Rat)) ≤ p / 10000 - l / 1000
        ∧ p / 10000 - l / 1000 ≤ (s.par Fld.preDv 0 : Rat))
    | _, _ => false
  if s.pw.op ≠ .run ∨ s.pw.locked then St.wrongState
  else if ¬ s.contUse n then St.invalid
  else if ¬ s.saf.armed then St.notArmed
  else if (s.chan n).phase ≠ .opened then St.busy
  else if ¬ (List.range 6).all (fun k => (!req.testBit k || decide ((s.chan k).phase = .hold))
      && (!excl.testBit k || decide ((s.chan k).phase = .opened))) then St.interlock
  else if bit cfg 2 ∧ ¬ pre then St.precharge
  else 0

/-- LASTREF code of a STATUS (R352). -/
def lastRefOf (status : Nat) : Nat :=
  if status = St.notArmed then 1 else if status = St.interlock then 2 else if status = St.precharge then 3
  else if status = St.wrongState then 5 else if status = St.busy then 6 else if status = St.invalid then 7 else 0

/-- A close takes effect at its boundary: every condition is tested again (R347), and KHn turns on (R345). A KFn that
already stands recognised closed counts as a closing at elapsed time 0. -/
def State.chanClose (s : State) (n : Nat) : State :=
  if s.saf.tripLatch then s.modChan n (fun c => { c with lastRef := 4 })
  else
    let st := s.closeCheck n
    if st ≠ 0 then s.modChan n (fun c => { c with lastRef := lastRefOf st })
    else
      let s := s.clear 0x13 3 0 (chanDetail n)
      (s.modChan n (fun c => { c with
        phase := .pull, cmd := true, t0 := s.now, ownFault := false, welded := false, lowAt := none, highAt := none
        holdAt := cond c.kf (some (s.now + s.tHd n)) none
        tpi := cond c.kf 0 c.tpi })).event Ev.cont

/-- An open takes effect at its boundary: PULL and HOLD move to DROP (R347). -/
def State.chanOpen (s : State) (n : Nat) : State :=
  if (s.chan n).energised then (s.modChan n (fun c => c.drop s.now false)).event Ev.cont else s

/-- The pull-in limit is reached without a recognised closing: BLOCKED and FEEDBACK 0x01 (R345 item 2). -/
def State.pullInFail (s : State) (n : Nat) : State :=
  (s.modChan n (fun c => { c with tpi := min (s.tPi n / 1000000) 511 })).chanFault n 0x11 1

/-! ### The events -/

/-- KF_RECOGNISED: KFDEB consecutive samples of KFn show a new level (R344, R345, R348, R349). `level` is the level of the
pin, to which FBPOL is applied (R340). -/
def execKfRecognised (n : Nat) (level : Bool) (s : State) : Out :=
  onC s fun s =>
    let c := s.chan n
    let closed := level != bit (s.par Fld.contCfg n) 1
    if s.contUse n = false ∨ c.kf = closed then s
    else
      let s := s.modChan n (fun c => { c with kf := closed })
      let dt := s.now - c.t0
      if closed then
        match c.phase with
        | .pull =>
          if dt < s.tPi n then
            s.modChan n (fun c => { c with holdAt := some (s.now + s.tHd n), tpi := min (dt / 1000000) 511 })
          else s.pullInFail n
        | .opened => if s.saf.weldDue then s else s.raiseOpenEv 0x12 2 0 (chanDetail n)
        | .blocked => if s.saf.weldDue then s else s.raiseOpenEv 0x12 2 0 (chanDetail n)
        | _ => s
      else
        match c.phase with
        | .hold => s.chanFault n 0x11 2
        | .drop =>
          if dt < s.tDo n then
            (s.modChan n (fun c => { c with
              phase := cond c.ownFault .blocked .opened, tdo := min (dt / 2000000) 127 })).event Ev.cont
          else if c.welded then s
          else (s.modChan n (fun c => { c with welded := true, tdo := min (s.tDo n / 2000000) 127 })).raiseOpenEv
                 0x12 1 0 (chanDetail n)
        | _ => s

/-- PULL_IN_TIMEOUT: no recognised closing at t_0 + T_PI (R345 item 2). -/
def execPullInTimeout (n : Nat) (s : State) : Out :=
  onC s fun s =>
    let c := s.chan n
    if c.phase = .pull ∧ c.holdAt = none then (s.until (c.t0 + s.tPi n)).pullInFail n else s

/-- HOLD_DELAY_END: T_HD after the recognised closing the channel enters HOLD (R345 item 1). A contact that has opened
again is judged there (R349, log 20). -/
def execHoldDelayEnd (n : Nat) (s : State) : Out :=
  onC s fun s =>
    match (s.chan n).phase, (s.chan n).holdAt with
    | .pull, some t =>
      let s := ((s.until t).modChan n (fun c => { c with phase := .hold, holdAt := none })).event Ev.cont
      if (s.chan n).kf then s else s.chanFault n 0x11 2
    | _, _ => s

/-- DROP_OUT_TIMEOUT: no recognised opening at t_0 + T_DO: WELD 0x01, and the channel stays in DROP (R348 item 2). -/
def execDropOutTimeout (n : Nat) (s : State) : Out :=
  onC s fun s =>
    let c := s.chan n
    if c.phase = .drop ∧ c.welded = false then
      ((s.until (c.t0 + s.tDo n)).modChan n (fun c => { c with
        welded := true, tdo := min (s.tDo n / 2000000) 127 })).raiseOpenEv 0x12 1 0 (chanDetail n)
    else s

/-- COIL_CURRENT_TIMEOUT: every KSn reading for 20 ms below COIL_MIN in PULL or HOLD (COIL 0x01), or above it while
OPEN, DROP or BLOCKED (COIL 0x03) (R349). -/
def execCoilCurrentTimeout (n : Nat) (s : State) : Out :=
  onC s fun s =>
    let c := s.chan n
    if s.contUse n = false then s
    else if c.energised then
      match c.lowAt with
      | some t => (s.until (t + ms 20)).chanFault n 0x13 1
      | none => s
    else
      match c.highAt with
      | some t => (s.until (t + ms 20)).raiseOpen 0x13 3 0 (chanDetail n)
      | none => s

/-- COIL_PIN_MISMATCH: a KHn or KLn pin has differed from its command for more than 20 µs (R349).
`differs` false: the pin agrees with its command again (log 15). -/
def execCoilPinMismatch (n : Nat) (differs : Bool) (s : State) : Out :=
  onC s fun s =>
    if differs = false then s.modChan n (fun c => { c with pinBad := false })
    else if s.contUse n then
      (s.modChan n (fun c => { c with pinBad := true })).chanFault n 0x13 4
    else s

/-- The level of a trip source as the state holds it now (R353). -/
def State.tripBit (s : State) : TripSource → Bool
  | .collector => s.tripMask.testBit 0
  | .input i => decide (i < 4) && s.tripMask.testBit (i + 1)
  | .sErr => s.tripMask.testBit 5
  | .overTemp => s.tripMask.testBit 6
  | .watchdog => s.tripMask.testBit 7
  | .locked => s.tripMask.testBit 8

/-- TRIP_SOURCE_ASSERT: a source of R353 asserts. S_ERR is a level of the barrier and is taken up here (R401); every
other source stands in the state. The drives turn off, the trip latch sets, ARMED clears, channels drop (R354). -/
def execTripSourceAssert (src : TripSource) (s : State) : Out :=
  onC s fun s =>
    let s := match src with
      | .sErr => { s with saf := { s.saf with sErr := true, sErrAt := cond s.saf.sErr s.saf.sErrAt (some s.now) } }
      | _ => s
    if s.tripBit src then s.evalTrip else s

end Sys2Proof.Machine
end

