-- ==== Sys2Proof/Machine/SafetyInputs.lean ====
section
/-!
DEFINITION. Two-channel inputs (R356 to R366): SI1 to SI4 are inputs 0 to 3, RESTART is input 4.
-/

namespace Sys2Proof.Machine

/-- Channel A and channel B of an input each stand in their active position (R357). -/
def State.siActive (s : State) (i : Nat) : Bool × Bool :=
  let x := s.input i
  (x.a, x.b != s.siAnti i)

/-- Both channels stand in their active positions. -/
def State.siBoth (s : State) (i : Nat) : Bool := (s.siActive i).1 && (s.siActive i).2

/-- Both channels stand in their safe positions. -/
def State.siNone (s : State) (i : Nat) : Bool := !(s.siActive i).1 && !(s.siActive i).2

/-- An input becomes SAFE: COUPLED uncouples (R358, R365). -/
def State.siSafe (s : State) (i : Nat) : State :=
  let was := (s.input i).act
  let s := s.modInput i (fun x => { x with act := false })
  if s.siRole i = 2 ∧ was then
    cond s.saf.coupled s.uncouple { s with saf := { s.saf with cplAt := none } }
  else s

/-- An input becomes ACTIVE: COUPLED starts CPL_T (R358, R365). -/
def State.siMakeActive (s : State) (i : Nat) : State :=
  let s := s.modInput i (fun x => { x with act := true, rwait := false, wasAct := true })
  if s.siRole i = 2 then { s with saf := { s.saf with cplAt := some s.now } } else s

/-- The discrepancy latch of an input sets: SAFE, and SAFEIN 0x01 (R359 item 3, R362). -/
def State.siDiscrepancy (s : State) (i : Nat) : State :=
  let s := s.modInput i (fun x => { x with disc := true, discAt := none, rwait := false, accepted := false })
  let s := s.siSafe i
  cond (decide (i = 4) || decide (s.siRole i ≠ 0)) (s.raiseOpen 0x10 1 0 (i + 1)) s

/-- A RESTART edge (R363). -/
def State.restartEdge (s : State) : State :=
  let s := s.foldNat (List.range 4) (fun s i =>
    if (s.input i).disc ∧ s.siNone i then
      (s.modInput i (fun x => { x with disc := false })).clear 0x10 1 0 (i + 1)
    else s)
  let s := s.foldNat (List.range 4) (fun s i =>
    if (s.input i).rwait ∧ s.siBoth i then s.siMakeActive i else s)
  let any := (List.range 6).any (fun n => decide ((s.chan n).phase = .blocked) && !(s.chan n).kf && !s.chanCause n)
  let s := s.foldNat (List.range 6) (fun s n =>
    if (s.chan n).phase = .blocked ∧ (s.chan n).kf = false ∧ s.chanCause n = false then
      s.modChan n (fun c => { c with phase := .opened })
    else s)
  let s := s.eventIf any Ev.cont
  let s := s.evalTrip
  if s.tripMask = 0 then
    { s with saf := { s.saf with tripLatch := false, armed := true, blockedBy := 0 } }.event Ev.armed
  else { s with saf := { s.saf with blockedBy := s.tripMask } }

/-- Both channels of an input agree again after a discrepancy time that started at `t` (R359). -/
def State.siAgree (s : State) (i t : Nat) : State :=
  let x := s.input i
  let both := s.siBoth i
  let dt := s.now - t
  if s.siTd i ≤ dt then s.siDiscrepancy i
  else if both = x.wasActive then s.modInput i (fun x => { x with discAt := none })
  else s.modInput i (fun x => { x with discAt := none, skew := dt / 50000, accepted := both })

/-- What follows for SI1 to SI4 once both channels stand active (R358, R361). -/
def State.siStands (s : State) (i : Nat) : State :=
  let x := s.input i
  let s := s.clear 0x10 2 0 (i + 1)
  if x.act ∨ x.disc then s
  else if s.siAuto i then (if x.accepted then s.siMakeActive i else s)
  else if s.swp.count.isSome then s.modInput i (fun x => { x with rwait := true })
  else s

/-- What follows for RESTART once its channels agree (R362 to R364). -/
def State.restartStands (s : State) : State :=
  let x := s.input 4
  if s.siBoth 4 then
    if x.disc ∨ x.accepted = false then s
    else
      let s := s.modInput 4 (fun x => { x with act := true })
      cond (x.idleBefore && !x.act) s.restartEdge s
  else
    let s := s.modInput 4 (fun x => { x with
      act := false, disc := false, safeAt := some s.now, idle := false, pressedAt := none, accepted := false
      stuck := false })
    (s.clear 0x10 1 0 5).clear 0x1F 1 0 (openDetail 0x1F 1 0)

/-- A recognised change of one channel (R356, R358, R359). -/
def State.siChange (s : State) (i : Nat) (c : SiChan) (level : Bool) : State :=
  let before := s.siActive i
  let s := s.modInput i (fun x => match c with
    | .A => { x with a := level }
    | .B => { x with b := level })
  let after := s.siActive i
  if before = after then s
  else if after.1 ≠ after.2 then
    -- the first channel moves: the discrepancy time starts
    let was := before.1 && before.2
    let s := s.modInput i (fun x => { x with
      discAt := some s.now, wasActive := was, rwait := false, accepted := false
      idleBefore := cond was x.idleBefore x.idle, idle := cond was x.idle false
      safeAt := cond was x.safeAt none, pressedAt := cond was x.pressedAt (some s.now) })
    let lost := was && (s.input i).act && decide (i < 4)
    let s := s.siSafe i
    cond (lost && decide (s.siRole i = 1)) (s.raiseOpen 0x10 2 0 (i + 1)) s
  else
    let s := match (s.input i).discAt with
      | some t => s.siAgree i t
      | none => s
    if i = 4 then s.restartStands
    else if s.siBoth i then s.siStands i
    else s.modInput i (fun x => { x with rwait := false, accepted := false })

/-- SAFETY_CHANNEL_RECOGNISED: FILT consecutive samples show a new level of one channel (R356 to R363). -/
def execSafetyChannelRecognised (i : Nat) (c : SiChan) (level : Bool) (s : State) : Out :=
  onC s fun s =>
    let w := s.inputWord i
    let s := s.siChange i c level
    (s.eventIf (decide (s.inputWord i ≠ w)) Ev.sin).evalTrip

/-- SAFEIN_DISCREPANCY_TIMEOUT: the channels still disagree when the elapsed time equals T_D (R359 item 3). -/
def execSafeinDiscrepancyTimeout (i : Nat) (s : State) : Out :=
  onC s fun s =>
    match (s.input i).discAt with
    | some t => (((s.until (t + s.siTd i)).siDiscrepancy i).event Ev.sin).evalTrip
    | none => s

/-- RESTART_IDLE_TIMER: both RESTART channels have stood safe for 100 ms (R363, R366 IDLE). -/
def execRestartIdleTimer (s : State) : Out :=
  onC s fun s =>
    match (s.input 4).safeAt with
    | some t =>
      if s.siNone 4 ∧ (s.input 4).idle = false then
        ((s.until (t + ms 100)).modInput 4 (fun x => { x with idle := true })).event Ev.sin
      else s
    | none => s

/-- RESTART_STUCK: RESTART has stood active for more than 10 s: STUCK 0x01 (R364). -/
def execRestartStuck (s : State) : Out :=
  onC s fun s =>
    match (s.input 4).pressedAt with
    | some t =>
      if s.siBoth 4 then
        (((s.until (t + ms 10000)).modInput 4 (fun x => { x with stuck := true })).event Ev.sin).raiseOpen
          0x1F 1 0 (openDetail 0x1F 1 0)
      else s
    | none => s

/-- COUPLING_TIMER: the COUPLED input has been ACTIVE for CPL_T: a session starts (R365, R375). -/
def execCouplingTimer (s : State) : Out :=
  onC s fun s =>
    match s.saf.cplAt with
    | some t => if s.saf.coupled then s else (s.until (t + ms (s.par Fld.cplT 0))).couple
    | none => s

end Sys2Proof.Machine
end

