-- ==== Sys2Proof/Machine/Chassis.lean ====
section
/-!
DEFINITION. The Chassis page (R124, R125) and the records that the head computes itself: DR, SM, SP, 185 and 189 (R116,
R118): presence, samples, window closes.
-/

namespace Sys2Proof.Machine

/-! ### Presence (R119, R124, R193, R537) -/

/-- SENT_CFG of channel n (0 to 7): USE. -/
def State.sentUse (s : State) (n : Nat) : Bool := bit (s.par Fld.sentCfg n) 0

/-- SENT_CFG FMT: one fast channel. -/
def State.sentSingle (s : State) (n : Nat) : Bool := bit (s.par Fld.sentCfg n) 1

/-- The Legend keeps SPn switched on (R537). -/
def State.sentSupplied (s : State) (n : Nat) : Bool := s.sentUse n && bit (s.par Fld.sentCfg n) 4

/-- The Chassis page index is in use (R124, R537). -/
def State.chPresent (s : State) (i : Nat) : Bool :=
  if i < 16 then s.sentUse (i / 2) && !(decide (i % 2 = 1) && s.sentSingle (i / 2))
  else if i < 24 then s.sentSupplied (i - 16)
  else if i < 34 then true
  else if 40 ≤ i ∧ i < 88 then decide (s.loopUse ((i - 40) % 16) = 1 ∨ s.loopUse ((i - 40) % 16) = 2)
  else decide (i = 88 ∨ i = 89)

/-- Group of a Chassis page index, counted from 0x10 (R124). -/
def chGroup (i : Nat) : Nat :=
  if i < 16 then 0 else if i < 24 then 1 else if i < 28 then 2 else if i < 34 then 3
  else if i < 56 then 4 else if i < 72 then 5 else if i < 88 then 6 else 7

/-- The indices of the Chassis page that are not reserved. -/
def chIndices : List Nat := List.range 34 ++ (List.range 50).map (· + 40)

/-- The window of a Chassis group. -/
def State.chWin (s : State) (g : Nat) : Window := s.chWins.getD g ⟨10, 0⟩

/-! ### Samples of the Chassis page -/

/-- Changes the record of a Chassis index. -/
def State.modCh (s : State) (i : Nat) (f : ChassisRec → ChassisRec) : State := s.chassisPut i (f (s.chassisRec i))

/-- One sample of a Chassis index: an invalid one only marks the window INV (R125). -/
def State.chSample (s : State) (i : Nat) (code : Int) (inv : Bool) : State :=
  if s.chPresent i then
    s.modCh i (fun c => { c with
      latest := some (clampI (-8388607) 8388607 code, inv)
      acc := if inv then c.acc.flag (fun f => { f with inv := true }) else c.acc.add code })
  else s

/-- A source of the Chassis page is invalid: its latest sample and its window carry INV (R125, R314). -/
def State.chInvalid (s : State) (i : Nat) : State :=
  if s.chPresent i then
    s.modCh i (fun c => { c with
      latest := c.latest.map (fun x => (x.1, true)), acc := c.acc.flag (fun f => { f with inv := true }) })
  else s

/-- The messages of the SENT channel that gives a Chassis index fail or stop: its windows carry INV (R125). -/
def State.sentBad (s : State) (n : Nat) : Bool := s.hasCause ⟨0x0F, 1, 0, n + 1⟩ || s.hasCause ⟨0x0F, 2, 0, n + 1⟩

/-- A cause of INV of a Chassis index lasts (R111, R125). -/
def State.chBad (s : State) (i : Nat) (c : ChassisRec) : Bool :=
  (decide (i < 16) && s.sentBad (i / 2)) || (match c.latest with
    | some x => x.2
    | none => false)

/-- A Q16.16 loop value as a Q16.8 code (R124). DESIGN CHOICE (log 150): a half is rounded away from zero. -/
def q8 (v : Int) : Int := clampI (-8388607) 8388607 (divRound v 256)

/-- The record of a Chassis index starts at the boundary of sweep n: present and awaiting its first window, or not
present (R110, R124). -/
def State.chStart (s : State) (i n : Nat) : State :=
  if s.chPresent i then
    let w := s.chWin (chGroup i)
    s.chassisPut i { acc := openAcc { prm := true } (w.opens n) (meanModeOf s.swp.period w.w) n, entry := awaiting }
  else s.chassisPut i noChassis

/-- The window of a present Chassis index closes at the boundary of sweep n, and its entry is written (R124). -/
def State.chClose (s : State) (i n : Nat) (due opens : Bool) (w : Nat) : State :=
  if s.chPresent i then
    s.modCh i (fun c =>
      let a := c.acc.endSweep
      { c with
        acc := openAcc { prm := !a.full due, inv := s.chBad i c } opens (meanModeOf s.swp.period w) n
        prev := some c.entry, entry := a.entry due })
  else s

/-- An entry with its AGE one higher, up to 15; a special entry keeps AGE 0 (R120 items 4 and 6). -/
def aged (e : Entry) : Entry :=
  if e = awaiting ∨ entrySpecial e then e else { e with flags := { e.flags with age := min 15 (e.flags.age + 1) } }

/-- SWEEP 0x02 on a Chassis index: the write of the entry that closed at this sweep's boundary completes in the next sweep;
until then the location holds what it held, aged (R74, R120, R124; log 156). -/
def ChassisRec.delay (c : ChassisRec) : ChassisRec :=
  match c.prev with
  | some e => { c with entry := aged e, late := some c.entry, prev := none }
  | none => c

/-- The delayed write completes in the sweep that begins; `due` where the index closes a window there, which the AGE then
counts (R74, R120 item 3). -/
def ChassisRec.complete (c : ChassisRec) (due : Bool) : ChassisRec :=
  match c.late with
  | some e => { c with entry := bif due then aged e else e, late := none, prev := none }
  | none => { c with prev := none }

/-- Every Chassis group whose window is due closes at the boundary of sweep n; sweep means end (R105, R113, R124). -/
def State.chBoundary (s : State) (n : Nat) : State :=
  chIndices.foldl (fun s i =>
    let w := s.chWin (chGroup i)
    let c := s.chassisRec i
    let s := if c.late = none ∧ c.prev = none then s else s.modCh i (·.complete (w.due n))
    if w.due n then s.chClose i n true true w.w
    else if s.chPresent i then s.modCh i (fun c => { c with acc := c.acc.endSweep }) else s) s

/-- A new length or s0 of a Chassis group at the boundary of sweep n (R114, R56). -/
def State.chSetWindow (s : State) (n g : Nat) (w : Window) : State :=
  let just := (s.chWin g).due n || decide ((s.chWin g).s0 = n)
  let s := { s with chWins := modAt s.chWins g (fun _ => w) }
  (chIndices.filter (fun i => decide (chGroup i = g))).foldl (fun s i =>
    if just then
      (if s.chPresent i then s.modCh i (fun c => { c with acc := { c.acc with
        opened := w.opens n, meanMode := meanModeOf s.swp.period w.w } }) else s)
    else s.chClose i n false (w.opens n) w.w) s

/-- Chassis indices that a change of the Legend made present or not present, at the boundary of sweep n (R124). -/
def State.chRefresh (s : State) (was : List Nat) (n : Nat) : State :=
  chIndices.foldl (fun s i => if s.chPresent i = was.contains i then s else s.chStart i n) s

/-- Indices in use. -/
def State.chUsed (s : State) : List Nat := chIndices.filter s.chPresent

/-- A supply reading of the head judged for SUPPLY (R526), mV. -/
def State.judgeSupply (s : State) (sub : Nat) (old new : Nat × Nat × Bool) (v : Int) : State :=
  if old.2.2 = new.2.2 then s
  else if new.2.2 then s.raise 0x18 sub 0 (openDetail 0x18 sub 0) (sval v)
  else s.clear 0x18 sub 0 (openDetail 0x18 sub 0)

/-! ### Records that the head computes (R116 to R118) -/

/-- What an unlisted accumulator of the head reads as: primed, opened by a close, and empty. -/
def idleAcc : Acc := openAcc {} true false 0

/-- The accumulator of a record that the head computes. -/
def State.headAcc (s : State) (i : Nat) : Acc := (smapGet s.headAccs i).getD idleAcc

/-- Holds the accumulator of a record that the head computes. -/
def State.setHeadAcc (s : State) (i : Nat) (a : Acc) : State := { s with headAccs := smapPut idleAcc s.headAccs i a }

/-- One sample of a record that the head computes, at position p (R103). -/
def State.headSample (s : State) (p r : Nat) (code : Int) : State :=
  s.setHeadAcc (atlasIdx p r) ((s.headAcc (atlasIdx p r)).add code)

/-- The once-per-sweep readings of the head (R118, R124, R296, R526); an open or shorted XTn reads +150.00 °C with INV
(R293). -/
def State.chReadings (s : State) (r : ChassisReadings) : State :=
  let s := if s.trv.n = 0 then s else s.headSample 0 185 r.cTemp
  let s := (List.range 8).foldl (fun s n => s.chSample (16 + n) (r.sp.getD n 0) false) s
  let s := (List.range 4).foldl (fun s n =>
    let x := linearise (fun i => lutWord (s.par Fld.ntcLut i)) ((r.xt.getD n 0 : Nat) : Rat)
    let s := s.chSample (24 + n) x.code false
    let s := if x.inv then s.chInvalid (24 + n) else s
    if x.ovr then s.modCh (24 + n) (fun c => { c with acc := c.acc.flag (fun f => { f with ovr := true }) }) else s) s
  let s := (s.chSample 88 r.vsup false).chSample 89 r.sentvs false
  let v := supplyCount s.pw.vsupBad (decide (r.vsup < 8500 ∨ 33000 < r.vsup)) (decide (9000 ≤ r.vsup ∧ r.vsup ≤ 32000))
  let e := supplyCount s.pw.sentvsBad (decide (r.sentvs < 4600 ∨ 5400 < r.sentvs))
    (decide (4700 ≤ r.sentvs ∧ r.sentvs ≤ 5300))
  let s' := { s with pw := { s.pw with vsupBad := v, sentvsBad := e } }
  (s'.judgeSupply 1 s.pw.vsupBad v r.vsup).judgeSupply 2 s.pw.sentvsBad e r.sentvs

/-- Record 189 exists: a SENT channel carries pack current (R119, R193). -/
def State.sentCurrent (s : State) : Bool := decide (s.par Fld.isentCh 0 ≠ 0xFF)

/-- The DR records of a position exist: the shunt carries its current (R201, R10). -/
def State.drPresent (s : State) (p : Nat) : Bool := decide (p ≤ s.par Fld.str1Last 0) || decide (s.par Fld.drStr2 0 = 1)

/-- The record exists at the position in the configuration in force (R118, R119, R201). -/
def State.recPresent (s : State) (p r : Nat) : Bool :=
  !absentRecord p r && !(decide (r = 189) && !s.sentCurrent) && !(decide (48 ≤ r ∧ r < 72) && !s.drPresent p)

/-- Records of a group that the head computes at position p. -/
def headRecords (p g : Nat) : List Nat :=
  if 2 ≤ g ∧ g ≤ 4 then groupRecords g else if g = 8 ∧ p = 0 then [185, 189] else []

/-- The window of a position's group as the head holds it (R113). -/
def State.posWin (s : State) (p g : Nat) : Window :=
  (smapGet s.posWins (9 * p + g)).getD ⟨winReset.getD g 1, s.trv.sa⟩

/-- The windows of a position's group, newest first: the one in force and those before it (R113, R120). -/
def State.posHist (s : State) (p g : Nat) : List Window := s.posWin p g :: (smapGet s.der.posPast (9 * p + g)).getD []

/-- A new window of a position's group; the earlier ones are kept as far back as an AGE can count (R120 item 3). -/
def State.pushWin (s : State) (p g : Nat) (w : Window) : State :=
  { s with
    posWins := smapSet s.posWins (9 * p + g) w
    der := { s.der with posPast := smapSet s.der.posPast (9 * p + g) ((s.posHist p g).take 16) } }

/-- A cause of INV of a record of the head lasts: the messages of the SENT current channel fail or stop (R111, R125). -/
def State.headBad (s : State) (r : Nat) : Bool := decide (r = 189) && s.sentCurrent && s.sentBad (s.par Fld.isentCh 0 / 2)

/-- A window of a record that the head computes closes at the boundary of sweep n (R113, R117): its entry is due in the sweep
that begins, with the derived records (R72, R120); an event record without a sample is not written (R117). -/
def State.headClose (s : State) (n p r : Nat) (due opens : Bool) (w : Nat) : State :=
  if s.recPresent p r then
    let i := atlasIdx p r
    let a := (s.headAcc i).endSweep
    let e := a.entry due
    let s := if eventRecord r ∧ e.count = 0 then s
      else { s with der := { s.der with headDue := s.der.headDue ++ [⟨i, n, e⟩] } }
    s.setHeadAcc i (openAcc { prm := !a.full due, inv := s.headBad r } opens (meanModeOf s.swp.period w) n)
  else s

/-- A record of the head starts (R126). -/
def State.headStart (s : State) (p r n : Nat) : State :=
  let w := s.posWin p (groupOf r)
  s.setHeadAcc (atlasIdx p r) (openAcc { prm := true, inv := s.headBad r } (w.opens n) (meanModeOf s.swp.period w.w) n)

/-- Every record of the head whose window is due closes at the boundary of sweep n (R113). -/
def State.headBoundary (s : State) (n : Nat) : State :=
  (List.range s.trv.n).foldl (fun s p =>
    [2, 3, 4, 8].foldl (fun s g =>
      let w := s.posWin p g
      (headRecords p g).foldl (fun s r =>
        if w.due n then s.headClose n p r true true w.w
        else s.setHeadAcc (atlasIdx p r) (s.headAcc (atlasIdx p r)).endSweep) s) s) s

/-- A new length or s0 of a position's group at the head (R113, R114). -/
def State.setPosWin (s : State) (n p g : Nat) (w : Window) : State :=
  let just := (s.posWin p g).due n || decide ((s.posWin p g).s0 = n)
  let s := s.pushWin p g w
  (headRecords p g).foldl (fun s r =>
    if just then s.setHeadAcc (atlasIdx p r) { s.headAcc (atlasIdx p r) with
      opened := w.opens n, meanMode := meanModeOf s.swp.period w.w }
    else s.headClose n p r false (w.opens n) w.w) s

end Sys2Proof.Machine
end

