-- ==== Sys2Proof/Machine/Atlas.lean ====
section
/-!
DEFINITION. The Atlas at the head (R119 to R123, R126 to R129): writing entries with AGE and GAP, lost windows, stuck and
frozen records, and the level detectors that judge written entries (R300, R307, R385, R386).
-/

namespace Sys2Proof.Machine

/-! ### Closes of a window as the head counts them (R113, R120) -/

/-- The first close after boundary c, over the windows of a group, newest first: under each length until the next takes
effect, where the window then open closes (R113, R114). -/
def nextClose : List Window → Nat → Nat
  | [], c => c
  | w :: past, c =>
    if w.s0 ≤ c then w.s0 + ((c - w.s0) / (max w.w 1) + 1) * (max w.w 1)
    else match past with
      | [] => w.s0 + max w.w 1
      | _ :: _ => min w.s0 (nextClose past c)

/-- Closes after boundary c up to boundary n, over the windows of a group, newest first (R113, R114). -/
def closesIn : List Window → Nat → Nat → Nat
  | [], _, _ => 0
  | w :: past, c, n =>
    if n < w.s0 then closesIn past c n
    else if w.s0 ≤ c then (n - w.s0) / (max w.w 1) - (c - w.s0) / (max w.w 1)
    else (n - w.s0) / (max w.w 1) + (match past with
      | [] => 0
      | _ :: _ => closesIn past c (w.s0 - 1) + 1)

/-- A window of position p closed at boundary n: at a close of R113, or short at its s0 (R114). -/
def State.closedAt (s : State) (p g n : Nat) : Bool :=
  let w := s.posWin p g
  w.due n || (decide (w.s0 = n) && decide (s.trv.sa < n))

/-! ### Shunt samples of a span (R171, R192) -/

/-- The instant of the boundary of sweep c, at the period in force (log 26). -/
def State.boundaryAt (s : State) (c : Nat) : Nat := s.swp.boundary + (c - s.sweep) * s.periodNs - (s.sweep - c) * s.periodNs

/-- Shunt samples that complete after `a` and by `b`. -/
def State.shuntIn (s : State) (a b : Nat) : List CurSample := s.der.shunt.filter (fun x => decide (a < x.at' ∧ x.at' ≤ b))

/-- Shunt samples of sweeps `from'` to `to' - 1`. -/
def State.shuntSweeps (s : State) (from' to' : Nat) : List CurSample := s.shuntIn (s.boundaryAt from') (s.boundaryAt to')

/-- The spread of shunt samples, 0 for none. -/
def spreadOf (l : List CurSample) : Nat :=
  match l.map (·.code) with
  | [] => 0
  | c :: cs => (maxI c cs - minI c cs).toNat

/-- The mean of shunt samples in codes. -/
def curMean (l : List CurSample) : Rat := if l = [] then 0 else (sumI (l.map (·.code)) : Rat) / (l.length : Rat)

/-! ### Written entries -/

/-- Entries of an Atlas index that have been written, newest first. -/
def State.writtenOf (s : State) (i : Nat) : List Written := s.written.filter (fun w => decide (w.index = i))

/-- The entry written for a close of an index. -/
def State.entryAt (s : State) (i close : Nat) : Option Entry :=
  (s.written.find? (fun w => decide (w.index = i ∧ w.close = close))).map (·.entry)

/-- The record is watched by the stuck detector (R128). -/
def stkRecord (r : Nat) : Bool := decide (r < 48) || decide (r = 188)

/-- STK of an entry, with the entries before it (R129). -/
def State.stuck (s : State) (i : Nat) (e : Entry) : Bool :=
  let n := s.par Fld.stkWin 0
  let l := e :: ((s.writtenOf i).take (n - 1)).map (·.entry)
  decide (n ≤ (s.track i).primed + 1) && !e.flags.prm && decide (l.length = n)
    && l.all (fun e => decide (2 ≤ e.count) && decide (e.min = e.max))

/-- The closes of a list, newest first, follow one another in the windows of a group. -/
def consecutive (hist : List Window) : List Nat → Bool
  | a :: b :: l => decide (nextClose hist b = a) && consecutive hist (b :: l)
  | _ => true

/-- The largest less the smallest of a list of rationals. -/
def rangeQ (l : List Rat) : Rat := l.foldl max (l.headD 0) - l.foldl min (l.headD 0)

/-- FRZ of an entry that closes at `close`, with the consecutive windows before it (R128, R129); the means of record 188 are
taken over the same windows from the shunt samples that the head holds (log 26). -/
def State.froze (s : State) (p r close : Nat) (e : Entry) : Bool :=
  let i := atlasIdx p r
  let n := s.par Fld.frzWin 0
  let w := (s.posWin p (groupOf r)).w
  let l : List (Nat × Entry) := (close, e) :: ((s.writtenOf i).take (n - 1)).map (fun x => (x.close, x.entry))
  let amps := l.map (fun x => s.shuntSweeps (x.1 - w) x.1)
  decide (n ≤ (s.track i).primed + 1) && decide (n ≤ (s.track (atlasIdx 0 188)).primed) && !e.flags.prm
    && decide (l.length = n) && consecutive (s.posHist p (groupOf r)) (l.map (·.1))
    && l.all (fun x => decide (0 < x.2.count)) && amps.all (fun x => decide (x ≠ []))
    && decide (rangeQ (l.map (fun x => meanQ x.2)) ≤ (s.par Fld.frzDelta 0 : Rat))
    && decide (100 * (s.par Fld.frzAmp 0 : Rat) < rangeQ (amps.map curMean))

/-! ### Level detectors -/

/-- The judged value for an overvoltage or undervoltage (R385). -/
def judged (e : Entry) (high : Bool) : Int :=
  if e.flags.ovr then (if high then e.min else e.max) else entryMean e

/-- A judged entry of a cell (R385). -/
def State.judgeCell (s : State) (p k : Nat) (e : Entry) : State :=
  if e.count = 0 ∨ entrySpecial e then s
  else
    let i := atlasIdx p k
    let hi := judged e true
    let lo := judged e false
    let ov : Int := 1000 * (s.par Fld.vOv 0 : Nat)
    let uv : Int := 1000 * (s.par Fld.vUv 0 : Nat)
    let hys : Int := 1000 * (s.par Fld.vHys 0 : Nat)
    let s := s.modTrack i (fun t => { t with
      hi := if ov ≤ hi then t.hi + 1 else 0, lo := if lo ≤ uv then t.lo + 1 else 0 })
    let t := s.track i
    let n := s.par Fld.vN 0
    let s := if n ≤ t.hi then s.raise 0x01 1 p (k + 1) (sval hi) else if hi < ov - hys then s.clear 0x01 1 p (k + 1) else s
    if n ≤ t.lo then s.raise 0x02 1 p (k + 1) (sval lo) else if uv + hys < lo then s.clear 0x02 1 p (k + 1) else s

/-- ROLE of an input as the active Legend gives it (R290). -/
def State.thRole (s : State) (p n : Nat) : Nat := bits (s.par Fld.thCfg (32 * p + n)) 1 0

/-- An entry of a TT record is usable (R295). -/
def usableEntry (e : Entry) : Bool :=
  decide (0 < e.count) && !entrySpecial e && !e.flags.inv && decide (e.flags.age = 0)

/-- A usable TT entry of input n (0 to 31): levels, thermal lock, the end of staleness (R295, R300, R307). -/
def State.judgeTherm (s : State) (p n : Nat) (e : Entry) : State :=
  let role := s.thRole p n
  if role = 0 ∨ usableEntry e = false then s
  else
    let i := atlasIdx p (144 + n)
    let hys : Int := s.par Fld.ctHys 0
    let cell := decide (role = 1 ∨ role = 2)
    let s := s.modTrack i (fun t => { t with
      miss := 0, usable := some e
      hi := if cell && decide (s.parT Fld.tLock ≤ e.max) then t.hi + 1 else 0 })
    let s := s.clear 0x05 3 p (n + 1)
    let s := if s.parT Fld.tOt ≤ e.max then s.raise 0x03 1 p (n + 1) (sval e.max)
      else if e.max < s.parT Fld.tOt - hys then s.clear 0x03 1 p (n + 1) else s
    let s := if e.min ≤ s.parT Fld.tUt then s.raise 0x04 1 p (n + 1) (sval e.min)
      else if s.parT Fld.tUt + hys < e.min then s.clear 0x04 1 p (n + 1) else s
    if s.par Fld.lockN 0 ≤ (s.track i).hi then s.raiseEv 0x1D 1 p (n + 1) (sval e.max) else s

/-- MOD_FAIL 0x02 and 0x03, CURR_PLAUS 0x02 as the flags of a written entry stand (R386; details log 28). -/
def State.judgeFlags (s : State) (p r : Nat) (e : Entry) : State :=
  if r < 48 then
    let s := if e.flags.stk then s.raiseOpen 0x09 2 p r else s.clear 0x09 2 p r
    if e.flags.frz then s.raiseOpen 0x09 3 p r else s.clear 0x09 3 p r
  else if r = 188 then
    (if e.flags.stk then s.raiseOpen 0x0D 2 0 (openDetail 0x0D 2 0) else s.clear 0x0D 2 0 (openDetail 0x0D 2 0))
  else s

/-- The fault evaluation of a written entry (R72, R385, R386, R300, R307). -/
def State.evaluateNow (s : State) (p r : Nat) (e : Entry) : State :=
  let s := s.judgeFlags p r e
  if r < 24 then s.judgeCell p r (if e.flags.inv ∧ 0 < e.count then s.atlasGet (atlasIdx p (24 + r)) else e)
  else if 144 ≤ r ∧ r < 176 then s.judgeTherm p (r - 144) e
  else s

/-- A written entry is evaluated; in a sweep whose fault evaluation pass is not complete it waits for the next (R72, R74). -/
def State.evaluate (s : State) (p r close : Nat) (e : Entry) : State :=
  if s.swp.evalLate then { s with der := { s.der with evalWait := s.der.evalWait ++ [⟨atlasIdx p r, close, e⟩] } }
  else s.evaluateNow p r e

/-! ### Writing and losing -/

/-- GAP on the held entry of an index, and on the next one written (R121); an awaiting entry takes none (R120 item 6). -/
def State.markLost (s : State) (i : Nat) : State :=
  let e := s.atlasGet i
  let s := if e = awaiting ∨ entrySpecial e then s else s.atlasPut i { e with flags := { e.flags with gap := true } }
  s.modTrack i (fun t => { t with gapNext := true })

/-- The close after which the head looks for the next window of a record: that of the newest window written or lost, or the
adoption from which it follows the record (R275). -/
def State.lastDone (s : State) (p r : Nat) : Nat := (s.track (atlasIdx p r)).done.getD (s.posTrack p).trackFrom

/-- The entry of record r of position p for the window that closed at boundary `close` is written (R120, R121). -/
def State.putEntry (s : State) (p r close : Nat) (e : Entry) : State :=
  let i := atlasIdx p r
  let t := s.track i
  let hist := s.posHist p (groupOf r)
  let lost := !eventRecord r && decide (nextClose hist (s.lastDone p r) < close)
  let age := min 15 (closesIn hist close s.sweep)
  let e := { e with flags := { e.flags with
    gap := t.gapNext || lost, age := age
    stk := stkRecord r && s.stuck i e, frz := decide (r < 48) && s.froze p r close e } }
  let s := (s.atlasPut i e).modTrack i (fun t => { t with
    done := some close, wrote := some close, gapNext := false, primed := if e.flags.prm then 0 else t.primed + 1 })
  let s := { s with written := ⟨i, close, e⟩ :: s.written }
  s.evaluate p r close e

/-- An entry item of record r of position p arrives for the window that closed at boundary `close` (R117 to R121, R275): an
older one than the head holds is discarded; a write that misses the sweep completes in the next (R74). -/
def State.writeEntry (s : State) (p r close : Nat) (e : Entry) : State :=
  let i := atlasIdx p r
  let old : Bool := match (s.track i).done with
    | some c => decide (close ≤ c)
    | none => false
  if old ∨ s.recPresent p r = false ∨ s.adopted p = false then s
  else if s.swp.lateIdx.contains i then { s with der := { s.der with lateIn := s.der.lateIn ++ [⟨i, close, e⟩] } }
  else s.putEntry p r close e

/-- The entries of the head's own records that are due are written, oldest first (R72, R117, R120). -/
def State.writeHead (s : State) : State :=
  let l := s.der.headDue
  l.foldl (fun (s : State) (x : Waiting) =>
    let p := x.index / 192
    let r := x.index % 192
    if s.recPresent p r ∧ s.adopted p then s.writeEntry p r x.close x.entry else s) { s with der := { s.der with headDue := [] } }

/-- What an overrun delayed into the sweep that begins: writes complete, and the entries left over are evaluated first
(R74). -/
def State.catchUp (s : State) : State :=
  let e := s.der.evalWait
  let w := s.der.lateIn
  let s := { s with der := { s.der with evalWait := [], lateIn := [] } }
  let s := s.foldNat (List.range e.length) (fun s j => match e[j]? with
    | some x => s.evaluateNow (x.index / 192) (x.index % 192) x.entry
    | none => s)
  s.foldNat (List.range w.length) (fun s j => match w[j]? with
    | some x => s.writeEntry (x.index / 192) (x.index % 192) x.close x.entry
    | none => s)

/-- Windows of position p whose key (CLOSE, record) lies below `key` and that have no entry yet are lost (R275): none for
event groups, whose windows may have none. -/
def State.loseBelow (s : State) (p close rec' : Nat) : State :=
  (List.range 192).foldl (fun s r =>
    if s.recPresent p r = false ∨ eventRecord r ∨ (headRecords p (groupOf r)).contains r then s
    else
      -- the newest close of the record whose key lies below the given key
      let last := if r < rec' then close else close - 1
      if nextClose (s.posHist p (groupOf r)) (s.lastDone p r) ≤ last then
        (s.markLost (atlasIdx p r)).modTrack (atlasIdx p r) (fun t => { t with done := some last })
      else s) s

/-- The deadline of sweep n passes for every record of position p: a due entry that is not written ages the held one, lost or
not, and is lost where the position is silent or unsynchronised (R120 item 4, R121, R62, R276). -/
def State.ageRecords (s : State) (p n : Nat) : State :=
  let gone := (s.posTrack p).silent || s.hasCause ⟨0x19, 3, p, p⟩
  (List.range 192).foldl (fun s r =>
    let i := atlasIdx p r
    if s.recPresent p r = false ∨ s.closedAt p (groupOf r) n = false ∨ (s.track i).wrote = some n then s
    else
      let s := s.atlasPut i (aged (s.atlasGet i))
      if gone ∧ eventRecord r = false then (s.markLost i).modTrack i (fun t => { t with done := some n }) else s) s

end Sys2Proof.Machine
end

