-- ==== Sys2Proof/Machine/Contour.lean ====
section
/-!
DEFINITION. Temperatures at the head and Contour derating (R295, R297, R299, R302 to R306).
-/

namespace Sys2Proof.Machine

/-! ### Sensors as the head knows them (R295, R297, R299) -/

/-- A sensor of the ring: position and input 0 to 31, as 32 × position + input. -/
abbrev SensorId := Nat

/-- Every fitted sensor of the adopted positions. -/
def State.sensors (s : State) : List SensorId :=
  (List.range (32 * s.trv.n)).filter (fun i => decide (s.thRole (i / 32) (i % 32) ≠ 0))

/-- The input is stale (R295). -/
def State.stale (s : State) (i : SensorId) : Bool :=
  decide (s.par Fld.thAge 0 ≤ (s.track (atlasIdx (i / 32) (144 + i % 32))).miss)

/-- The input counts as broken: declared by its device, or stale (R294, R295). -/
def State.sensorBroken (s : State) (i : SensorId) : Bool :=
  (smapGet (s.posTrack (i / 32)).broken (i % 32 + 1)).isSome || s.stale i

/-- Enough other cell sensors of its module vouch for a broken cell sensor (R297). -/
def State.sensorVouched (s : State) (i : SensorId) : Bool :=
  let role := s.thRole (i / 32) (i % 32)
  let need := s.par Fld.vouchN 0
  decide (role = 1 ∨ role = 2) && decide (1 ≤ need)
    && decide (need ≤ ((List.range 32).filter (fun n =>
      decide (n ≠ i % 32 ∧ s.thRole (i / 32) n = role) && !s.sensorBroken (32 * (i / 32) + n))).length)

/-- What a working sensor contributes: its latest usable entry. An entry that carries INV from a single bad result is left
out, and the latest usable one stays in use (R299; log 35, DEDUCED). -/
def State.sensorEntry (s : State) (i : SensorId) : Option Entry :=
  if s.sensorBroken i then none else (s.track (atlasIdx (i / 32) (144 + i % 32))).usable

/-- What a sensor contributes to T_hot (R297, R299). -/
def State.sensorHot (s : State) (i : SensorId) : Option Int :=
  if s.sensorBroken i then (if s.sensorVouched i then none else some 15000) else (s.sensorEntry i).map (·.max)

/-- The greatest of some values, none for none. -/
def greatest (l : List Int) : Option Int := match l with
  | [] => none
  | x :: xs => some (maxI x xs)

/-- The least of some values, none for none. -/
def least (l : List Int) : Option Int := match l with
  | [] => none
  | x :: xs => some (minI x xs)

/-- T_hot (R299). -/
def State.tHot (s : State) : Option Int := greatest (s.sensors.filterMap s.sensorHot)

/-- T_cold (R299). -/
def State.tCold (s : State) : Option Int := least (s.sensors.filterMap (fun i => (s.sensorEntry i).map (·.min)))

/-- A TT window of every fitted sensor that closed at boundary n without a usable entry counts towards staleness; a stale
input raises SENSOR 0x03 (R294, R295). -/
def State.countStale (s : State) (n : Nat) : State :=
  s.sensors.foldl (fun s i =>
    let p := i / 32
    let idx := atlasIdx p (144 + i % 32)
    let from' := match s.slotOf p with
      | some d => if (s.dev d).sv.started then some (max (s.posTrack p).since (s.dev d).sv.startedAt) else none
      | none => some (s.posTrack p).since
    let counts : Bool := match from' with
      | some b => decide (b ≤ n)
      | none => false
    let good := decide ((s.track idx).done = some n) && usableEntry (s.atlasGet idx)
    if counts = false ∨ s.closedAt p 6 n = false ∨ good then s
    else
      let s := s.modTrack idx (fun t => { t with miss := t.miss + 1 })
      if s.stale i then s.raiseOpen 0x05 3 p (i % 32 + 1) else s) s

/-! ### The Contour table (R302, R303) -/

/-- Band that holds a temperature: one exactly on an edge belongs to the lower band (R303). -/
def State.bandOf (s : State) (t : Int) : Nat :=
  let nb := s.par Fld.ctNband 0
  ((List.range (nb - 1)).find? (fun b => decide (t ≤ sext 16 (bits (s.par Fld.contourBand b) 15 0)))).getD (nb - 1)

/-- step_d of a temperature (R304). -/
def State.stepOf (s : State) (dir : Direction) (t : Int) : Nat :=
  let w := s.par Fld.contourBand (s.bandOf t)
  match dir with
  | .charge => bits w 19 16
  | .discharge => bits w 23 20

/-- `down` of R304. -/
def State.contourDown (s : State) (dir : Direction) (hot cold : Int) : Nat := min (s.stepOf dir hot) (s.stepOf dir cold)

/-- `up` of R304. -/
def State.contourUp (s : State) (dir : Direction) (hot cold : Int) : Nat :=
  let h : Int := s.par Fld.ctHys 0
  min (s.stepOf dir (hot + h)) (s.stepOf dir (cold - h))

/-- The published step of a direction. -/
def ContourSt.pub (c : ContourSt) : Direction → Nat
  | .charge => c.pubC
  | .discharge => c.pubD

/-- Sets the published step of a direction. -/
def ContourSt.setPub (c : ContourSt) (dir : Direction) (v : Nat) : ContourSt :=
  match dir with
  | .charge => { c with pubC := v }
  | .discharge => { c with pubD := v }

/-- Timers D and U of a direction. -/
def ContourSt.timers (c : ContourSt) : Direction → Option Nat × Option Nat
  | .charge => (c.dC, c.uC)
  | .discharge => (c.dD, c.uD)

/-- Sets the timers of a direction. -/
def ContourSt.setTimers (c : ContourSt) (dir : Direction) (t : Option Nat × Option Nat) : ContourSt :=
  match dir with
  | .charge => { c with dC := t.1, uC := t.2 }
  | .discharge => { c with dD := t.1, uD := t.2 }

/-- Starts, keeps or stops the timers of a direction at an evaluation (R304). -/
def State.contourTimers (s : State) (dir : Direction) (hot cold : Int) : State :=
  let u := s.contourUp dir hot cold
  let p := s.ctr.pub dir
  let t := s.ctr.timers dir
  let run (x : Option Nat) : Option Nat := some (x.getD s.now)
  { s with ctr := s.ctr.setTimers dir (if p ≤ u then none else run t.1, if p < u then run t.2 else none) }

/-- The evaluation of Contour (R299, R304, R306). The steps themselves are CONTOUR_STEP_DOWN and CONTOUR_STEP_UP. -/
def State.contourEvaluate (s : State) : State :=
  let hot := s.tHot
  let cold := s.tCold
  let newly := s.ctr.hotAt.find? (fun i => s.sensorBroken i && !s.sensorVouched i)
  let throttling := decide (s.ctr.pubC < 15 ∨ s.ctr.pubD < 15)
  let failed := match s.ctr.failed with
    | some (i, t) => if s.sensors.contains i ∧ s.sensorBroken i then some (i, t) else none
    | none => if throttling then newly.map (fun i => (i, s.now)) else none
  let began := s.ctr.failed.isNone && failed.isSome
  let at' := s.sensors.filter (fun i => (s.sensorEntry i).isSome && decide ((s.sensorEntry i).map (·.max) = hot))
  let s := { s with ctr := { s.ctr with
    tHot := hot, tCold := cold, hotAt := at', failed := failed
    pubC := bif began then min s.ctr.pubC 1 else s.ctr.pubC, pubD := bif began then min s.ctr.pubD 1 else s.ctr.pubD } }
  let stop : ContourSt := { s.ctr with dC := none, dD := none, uC := none, uD := none }
  if failed.isSome then { s with ctr := stop }
  else
    match hot, cold with
    | some h, some c => (s.contourTimers .charge h c).contourTimers .discharge h c
    | _, _ => { s with ctr := { stop with pubC := 0, pubD := 0 } }

/-- CT_DWDN, ns. -/
def State.ctDwdn (s : State) : Nat := ms (100 * s.par Fld.ctDwdn 0)

/-- CONTOUR_STEP_DOWN: D_d has reached CT_DWDN while the band target lies below the published step (R304). -/
def execContourStepDown (dir : Direction) (s : State) : Out :=
  onCore s fun s =>
    match (s.ctr.timers dir).1, s.ctr.tHot, s.ctr.tCold with
    | some t, some h, some c =>
      let p := s.ctr.pub dir
      if s.ctr.failed.isNone ∧ s.contourDown dir h c < p then
        let s := s.until (t + s.ctDwdn)
        { s with ctr := (s.ctr.setPub dir (p - 1)).setTimers dir (some s.now, (s.ctr.timers dir).2) }
      else s
    | _, _, _ => s

/-- CONTOUR_STEP_UP: U_d has reached CT_DWUP (R304). -/
def execContourStepUp (dir : Direction) (s : State) : Out :=
  onCore s fun s =>
    match (s.ctr.timers dir).2 with
    | some t =>
      if s.ctr.failed.isNone ∧ s.ctr.pub dir < 15 then
        let s := s.until (t + ms (1000 * s.par Fld.ctDwup 0))
        { s with ctr := (s.ctr.setPub dir (s.ctr.pub dir + 1)).setTimers dir ((s.ctr.timers dir).1, some s.now) }
      else s
    | none => s

/-- CONTOUR_FAILSAFE_DWELL: CT_DWDN after the hottest sensor failed while throttling, both steps are 0 (R306 item 2). -/
def execContourFailsafeDwell (s : State) : Out :=
  onCore s fun s =>
    match s.ctr.failed with
    | some (_, t) => let s := s.until (t + s.ctDwdn)
      { s with ctr := { s.ctr with pubC := 0, pubD := 0 } }
    | none => s

end Sys2Proof.Machine
end

