-- ==== Sys2Proof/Machine/Derived.lean ====
section
/-!
DEFINITION. Derived records and checks at the head (R171 to R177, R194 to R201), and the deadline of the sweep (R120, R123).
-/

namespace Sys2Proof.Machine

/-! ### Benchmark check and Triangulation (R171 to R177) -/

/-- The entry is fit for a judged span: it has samples and carries none of INV, OVR, RCV and GAP (R171 item 2). -/
def spanEntry (e : Entry) : Bool :=
  decide (0 < e.count) && !entrySpecial e && !e.flags.inv && !e.flags.ovr && !e.flags.rcv && !e.flags.gap

/-- The span that closes at boundary n at position p: its first sweep, where the CV windows fit the BV window (R171
item 1). -/
def State.spanOf (s : State) (p n : Nat) : Option Nat :=
  let b := s.posWin p 1
  let c := s.posWin p 0
  if b.due n ∧ b.w ≤ n - b.s0 ∧ c.w ≠ 0 ∧ b.w % c.w = 0 ∧ c.s0 ≤ n - b.w ∧ (n - c.s0) % c.w = 0 then some (n - b.w) else none

/-- Closes of the CV windows that lie in the span [a, n). -/
def State.spanCloses (s : State) (p a n : Nat) : List Nat :=
  let w := max 1 (s.posWin p 0).w
  (List.range ((n - a) / w)).map (fun j => a + (j + 1) * w)

/-- The modulator that fed cell k of a device through the sweeps from `a` up to boundary n, none where it changed (R91, R171
item 3, R199 item 5): what the device tells the head of its sources. -/
def Cell.feeder (c : Cell) (a n : Nat) : Option Nat :=
  match c.sources.filter (fun x => decide (x.1 < n)) with
  | [] => none
  | x :: l =>
    -- the changes inside the span, and the source with which it began
    let inside := (x :: l).takeWhile (fun y => decide (a < y.1))
    let before := ((x :: l).find? (fun y => decide (y.1 ≤ a))).toList
    if before ≠ [] ∧ (inside ++ before).all (fun y => decide (y.2 = x.2)) then some x.2 else none

/-- The modulator that fed cell k of position p through the sweeps from `a` up to boundary n. -/
def State.feederOf (s : State) (p k a n : Nat) : Option Nat := (s.slotOf p).bind (fun d => ((s.dev d).cell k).feeder a n)

/-- The CV mean over a span and the BV mean of cell k, where every condition on its entries holds (R171 items 2, 3). -/
def State.cellSpan (s : State) (p k a n : Nat) : Option (Rat × Rat) :=
  let cv := (s.spanCloses p a n).map (fun c => s.entryAt (atlasIdx p k) c)
  let same := (s.feederOf p k a n).isSome
  match s.entryAt (atlasIdx p (24 + k)) n with
  | some bv =>
    if spanEntry bv && same && cv.all (fun e => match e with
      | some e => spanEntry e
      | none => false) then
      let es := cv.filterMap id
      some (((sumI (es.map (·.sum)) : Int) : Rat) / ((es.foldl (fun x e => x + e.count) 0 : Nat) : Rat), meanQ bv)
    else none
  | none => none

/-- Conditions of R171 items 4 and 5 on a span; a failed self-test step 1, 2 or 3 stands for sub-code 0x04 (R188). -/
def State.spanQuiet (s : State) (p a n : Nat) : Bool :=
  decide (spreadOf (s.shuntSweeps a n) ≤ 100 * s.par Fld.triIquiet 0)
    && !([1, 2, 4, 5, 0x11, 0x12, 0x13].any (fun x => (s.posTrack p).bench.contains x))

/-- The distance of two rationals. -/
def distQ (a b : Rat) : Rat := if a ≤ b then b - a else a - b

/-- Key of a cell in the counts of R172. -/
def cellKey (p k : Nat) : Nat := 24 * p + k

/-- The Benchmark check of the cells of position p over a span (R171, R172). -/
def State.cellCheck (s : State) (p : Nat) (l : List (Nat × (Rat × Rat))) : State :=
  let s := { s with der := { s.der with chkMask := smapPut 0 s.der.chkMask p (maskOf (l.map (·.1))) } }
  let lim : Rat := s.par Fld.bchkTh 0
  let fails := (l.filter (fun x => decide (lim < distQ x.2.1 x.2.2))).map (·.1)
  let common := decide (s.par Fld.bchkMax 0 ≤ fails.length)
  let s := l.foldl (fun s x =>
    let key := cellKey p x.1
    let c := (smapGet s.der.chk key).getD 0
    if fails.contains x.1 then
      if common then s
      else if s.par Fld.bchkN 0 ≤ c + 1 then
        ({ s with der := { s.der with chk := smapPut 0 s.der.chk key 0 } }).react ⟨p, .arbitrate (x.1 + 1) false⟩
      else { s with der := { s.der with chk := smapPut 0 s.der.chk key (c + 1) } }
    else { s with der := { s.der with chk := smapPut 0 s.der.chk key 0 } }) s
  if common then s.raiseOpenEv 0x07 7 p (openDetail 0x07 7 p) else s

/-- The TRIANG sub-code of the comparisons A, B and C, 0 for agreement (R177). -/
def triVerdict : Bool → Bool → Bool → Nat
  | true, true, true => 0
  | true, true, false => 4
  | false, true, false => 1
  | true, false, false => 2
  | false, false, true => 3
  | true, false, true => 3
  | false, true, true => 3
  | false, false, false => 5

/-- Triangulation of position p over a span (R175 to R177). -/
def State.triangulate (s : State) (p n : Nat) (quiet : Bool) (l : List (Nat × (Rat × Rat))) : State :=
  let set (s : State) (c : Nat) : State :=
    { s with der := { s.der with triStat := smapPut 0 s.der.triStat p c, bled := smapPut false s.der.bled p false } }
  let armed := (List.range 48 ++ [176]).all (fun r => decide (1 ≤ (s.track (atlasIdx p r)).primed))
  let b := s.posWin p 1
  let x := s.posWin p 7
  match s.entryAt (atlasIdx p 176) n with
  | some st =>
    if armed = false then set s 0
    else if quiet = false ∨ l.length ≠ 24 ∨ spanEntry st = false ∨ x.w ≠ b.w ∨ x.due n = false then set s 3
    else
      let scv : Rat := l.foldl (fun a y => a + y.2.1) 0
      let sbv : Rat := l.foldl (fun a y => a + y.2.2) 0
      let vst : Rat := 100 * meanQ st
      let a : Rat := 1000 * (s.par Fld.triStk 0 : Rat)
        + (if (smapGet s.der.bled p).getD false then 1000 * (s.par Fld.triBld 0 : Rat) else 0)
      let v := triVerdict (decide (distQ scv vst ≤ a)) (decide (distQ sbv vst ≤ a))
        (decide (distQ scv sbv ≤ 1000 * (s.par Fld.triSum 0 : Rat)))
      if v = 0 then set s 1 else (set s 2).raiseEv 0x08 v p (openDetail 0x08 v p) (word n)
  | none => set s (if armed then 3 else 0)

/-- The judgements of position p at the deadline of the sweep that began at boundary n. -/
def State.spanJudge (s : State) (n p : Nat) : State :=
  let bled : Bool := match s.slotOf p with
    | some d => ((s.dev d).cell 0).cond || ((s.dev d).cell 23).cond
    | none => false
  let s := if bled then { s with der := { s.der with bled := smapPut false s.der.bled p true } } else s
  match s.spanOf p n with
  | some a =>
    let quiet := s.spanQuiet p a n
    let l := if quiet then (List.range 24).filterMap (fun k => (s.cellSpan p k a n).map (fun x => (k, x))) else []
    (s.cellCheck p l).triangulate p n quiet l
  | none =>
    -- a BV window closes, and R171 item 1 fails
    if (s.posWin p 1).due n then (s.cellCheck p []).triangulate p n false [] else s

/-! ### Plausibility of the two currents (R194 to R196) -/

/-- A plausibility span is judged against a system calibration in progress (R183, R195 item 4). -/
def State.calOpen (s : State) : Bool :=
  s.der.sysCal.any (fun c => decide (c.chan = 0xFF ∨ c.chan = s.par Fld.isentCh 0))

/-- Saturates a current in A × 10 to 16 bits (R196). -/
def sat16 (q : Rat) : Nat := toBits 16 (clampI (-32767) 32767 (roundQ q))

/-- The plausibility check at the deadline after boundary n (R195, R196). -/
def State.plausibility (s : State) (n : Nat) : State :=
  let span := s.par Fld.plSpan 0
  let lim := s.par Fld.plN 0
  let ch := s.par Fld.isentCh 0
  if lim = 0 ∨ ch = 0xFF ∨ span = 0 ∨ n < s.der.plFrom + span ∨ (n - s.der.plFrom) % span ≠ 0 then s
  else
    let lag := s.par Fld.plLag 0
    let se := s.der.sent.filter (fun x => decide (s.boundaryAt (n - span) < x.at' ∧ x.at' ≤ s.boundaryAt n))
    let sh := s.shuntSweeps (n - span - lag) (n - lag)
    let cause := s.flt.causes.any (fun c => decide (c.src.cls = 0x0F ∧ c.src.detail = ch / 2 + 1))
    let primed := decide (0 < (s.track (atlasIdx 0 188)).primed ∧ 0 < (s.track (atlasIdx 0 189)).primed)
    if sh = [] ∨ sh.any (·.ovl) ∨ se.length < max 1 (span * periodUs s.swp.period / 1000) ∨ cause ∨ primed = false
        ∨ s.calOpen then s
    else
      let ish : Rat := 1000 * curMean sh / (s.par Fld.shuntR 0 : Rat)
      let ise : Rat := curMean se
      let big := max (distQ ish 0) (distQ ise 0)
      let bad := decide (1000 * (s.par Fld.plAbs 0 : Rat) + (s.par Fld.plRel 0 : Rat) * big / 1000 < distQ ish ise)
      let s := { s with der := { s.der with
        plFail := if bad then s.der.plFail + 1 else 0, plPass := if bad then 0 else s.der.plPass + 1 } }
      if bad ∧ lim ≤ s.der.plFail then s.raise 0x0D 1 0 ch (word (sat16 (ish / 100) + 65536 * sat16 (ise / 100)))
      else if lim ≤ s.der.plPass then s.clear 0x0D 1 0 ch else s

/-! ### Resistance from load steps (R198 to R201) -/

/-- The pair (V_w, I_w) of a CV window of a cell that closes at c and that modulator `m` fed, where it qualifies (R199): µV
and mA; `feed` gives the modulator of a window. -/
def State.drPair (s : State) (w c : Nat) (entries : List Written) (feed : Nat → Option Nat) (m : Option Nat) : Option (Rat × Rat) :=
  match entries.find? (fun x => decide (x.close = c)) with
  | some x =>
    let f := x.entry.flags
    let nmax := if meanModeOf s.swp.period w then w else periodSamples s.swp.period * w
    let sh := s.shuntSweeps (c - w) c
    if x.entry.count = nmax ∧ ¬ (f.ovr || f.rcv || f.blk || f.cal || f.inv || f.gap || f.prm)
        ∧ sh ≠ [] ∧ sh.all (fun y => !y.ovl) ∧ m.isSome ∧ feed c = m then
      some (meanQ x.entry, 1000 * curMean sh / (s.par Fld.shuntR 0 : Rat))
    else none
  | none => none

/-- The qualifying pairs of a span with the closes `cs`, oldest first (R199). DESIGN CHOICE (log 155): where windows from more
than one modulator meet items 1 to 4, those of the newest such window's modulator are taken. -/
def State.drPairs (s : State) (w : Nat) (cs : List Nat) (entries : List Written) (feed : Nat → Option Nat) : List (Rat × Rat) :=
  match cs.reverse.find? (fun c => (s.drPair w c entries feed (feed c)).isSome) with
  | some c => cs.filterMap (fun x => s.drPair w x entries feed (feed c))
  | none => []

/-- The estimate of a span of pairs, in 0.1 µΩ (R200), in exact rationals where the manual has 64-bit floating point (log 30). -/
def State.drEstimate (s : State) (l : List (Rat × Rat)) : Option Int :=
  let n := l.length
  let is := l.map (·.2)
  let big := is.foldl max (is.headD 0)
  let small := is.foldl min (is.headD 0)
  if n < s.par Fld.drNmin 0 ∨ big - small < 1000 * (s.par Fld.drDi 0 : Rat) then none
  else
    let im := is.foldl (· + ·) 0 / (n : Rat)
    let vm := l.foldl (fun a x => a + x.1) 0 / (n : Rat)
    let sii := is.foldl (fun a i => a + (i - im) * (i - im)) 0
    let siv := l.foldl (fun a x => a + (x.2 - im) * (x.1 - vm)) 0
    if sii = 0 then none
    else
      let r := -siv / sii
      let q := l.foldl (fun a x => let e := x.1 - vm + r * (x.2 - im)
        a + e * e) 0 / ((n - 2 : Nat) : Rat)
      if (s.par Fld.drRes 0 : Rat) * (s.par Fld.drRes 0 : Rat) < q then none else some (roundQ (r * 10000))

/-- The first boundary from which the CV windows of position p count into regression spans (R200). -/
def State.drBase (s : State) (p : Nat) : Nat :=
  let w := s.posWin p 0
  if s.der.drFrom ≤ w.s0 then w.s0 else w.s0 + ((s.der.drFrom - w.s0 + w.w - 1) / (max 1 w.w)) * w.w

/-- DR estimates of position p at the deadline after boundary n (R200, R201). -/
def State.resistance (s : State) (n p : Nat) : State :=
  let w := max 1 (s.posWin p 0).w
  let span := s.par Fld.drSpan 0
  let base := s.drBase p
  let i188 := atlasIdx 0 188
  if s.drPresent p = false ∨ n < base + span * w ∨ (n - base) % (span * w) ≠ 0 ∨ s.causeOf 0x0D
      ∨ (s.atlasGet i188).flags.inv ∨ (s.track i188).primed * (s.posWin 0 8).w < span * w then s
  else
    (List.range 24).foldl (fun s k =>
      let i := atlasIdx p k
      if (s.track i).primed < span then s
      else
        let es := (s.writtenOf i).take span
        let l := s.drPairs w ((List.range span).map (fun j => n - (span - 1 - j) * w)) es (fun c => s.feederOf p k (c - w) c)
        match s.drEstimate l with
        | some v => s.headSample p (48 + k) v
        | none => s) s

/-! ### The deadline (R72, R120, R123) -/

/-- What the head derives at the deadline of the sweep that began at boundary n. -/
def State.deriveAll (s : State) (n : Nat) : State :=
  let s := s.foldNat (List.range s.trv.n) (fun s p => s.spanJudge n p)
  let s := (s.plausibility n).foldNat (List.range s.trv.n) (fun s p => s.resistance n p)
  (s.countStale n).contourEvaluate

/-- The supervisor core services the heartbeat (R404). -/
def State.serviced (s : State) : State := { s with flt := { s.flt with heartbeat := s.now, stalled := false } }

/-- ATLAS_DEADLINE: at B + P - 60 µs undelivered entries age, derived records complete and the ATLAS event is raised (R72,
R120, R123, R304). In a sweep whose derived records overran the previous values stay and age (R74 sub-code 0x03); no ATLAS
event then says that they are complete (log 157). -/
def execAtlasDeadline (s : State) : Out :=
  onC s fun s =>
    match s.swp.count with
    | some n =>
      if s.swp.deadline then s
      else
        let s := s.until (s.swp.boundary + s.periodNs - us 60)
        let s := { s with swp := { s.swp with deadline := true } }
        let late := s.swp.derivedLate
        let s := if late then s else s.writeHead
        let s := s.foldNat (List.range s.trv.n) (fun s p => s.ageRecords p n)
        let s := if s.pw.coreReset.isNone then (if late then s else s.deriveAll n).serviced else s
        s.eventIf (!late) Ev.atlas
    | none => s

end Sys2Proof.Machine
end

