-- ==== Sys2Proof/Machine/Sent.lean ====
section
/-!
DEFINITION. SENT channels (R387, R536 to R538), the SENT current (R193, R197) and system calibration (R181 to R183).
Channel n of the model is SN(n+1).
-/

namespace Sys2Proof.Machine

/-! ### Message checks (R538) -/

/-- The CRC-4 table of polynomial x^4 + x^3 + x^2 + 1 (R538; log 25). -/
def sentTable : List Nat := [0, 13, 7, 10, 14, 3, 9, 4, 1, 12, 6, 11, 15, 2, 8, 5]

/-- The CRC-4 of the data nibbles: seed 5, and with the recommended form one trailing zero nibble (R538, log 25). -/
def sentCrc (recommended : Bool) (data : List Nat) : Nat :=
  let c := data.foldl (fun c x => x ^^^ sentTable.getD c 0) 5
  bif recommended then sentTable.getD c 0 else c

/-- SENT_CFG.TICK of channel n, in 0.5 µs (R537). -/
def State.sentTick (s : State) (n : Nat) : Nat := bits (s.par Fld.sentCfg n) 15 8

/-- A pulse in measured ticks: a 56th of the calibration pulse each (R538 item 1). -/
def sentTicks (cal pulse : Nat) : Nat := if cal = 0 then 0 else (2 * 56 * pulse + cal) / (2 * cal)

/-- The first failing check of a message, 0 for a valid one (R538). -/
def State.sentCheck (s : State) (n : Nat) (m : SentMsg) : Nat :=
  let cfg := s.par Fld.sentCfg n
  let t := s.sentTick n
  let ns := m.nibbles.map (fun p => sentTicks m.cal p)
  let vals := ns.map (· - 12)
  if 7000 * t < m.cal - 28000 * t ∨ 7000 * t < 28000 * t - m.cal then 1
  else if (match (s.sentCh n).prevCal with
      | some p => decide (p < 64 * (m.cal - p) ∨ p < 64 * (p - m.cal))
      | none => false) then 2
  else if ns.any (fun x => decide (x < 12 ∨ 27 < x)) then 3
  else if ns.length ≠ (bif s.sentSingle n then 5 else 8) then 4
  else if vals.getLastD 0 ≠ sentCrc (!bit cfg 3) ((vals.drop 1).dropLast) then 5
  else if (bit cfg 2 && match m.pause with
      | some p => decide (sentTicks m.cal p < 12 ∨ 768 < sentTicks m.cal p)
      | none => true) then 6
  else 0

/-- The status nibble and the fast channels of a valid message: channel 1 most significant nibble first, channel 2 in
reversed nibble order (R537, R538). -/
def sentValues (m : SentMsg) : Nat × Nat × Nat :=
  let v (i : Nat) : Nat := sentTicks m.cal (m.nibbles.getD i 0) - 12
  (v 0, 256 * v 1 + 16 * v 2 + v 3, 256 * v 6 + 16 * v 5 + v 4)

/-! ### Causes and supplies (R387) -/

/-- Raises a SENT sub-code of channel n. -/
def State.sentRaise (s : State) (n sub : Nat) : State := s.raiseOpen 0x0F sub 0 (n + 1)

/-- Clears a SENT sub-code of channel n. -/
def State.sentClear (s : State) (n sub : Nat) : State := s.clear 0x0F sub 0 (n + 1)

/-- A SENT sub-code cause of channel n is present. -/
def State.sentCause (s : State) (n sub : Nat) : Bool := s.hasCause ⟨0x0F, sub, 0, n + 1⟩

/-- The fast channels of SENT channel n are invalid while its messages fail or stop (R125). -/
def State.sentInvalid (s : State) (n : Nat) : State :=
  if s.sentCause n 1 ∨ s.sentCause n 2 then (s.chInvalid (2 * n)).chInvalid (2 * n + 1) else s

/-- Time that a sensor has in which to start, ns (R387). -/
def State.sentStart (s : State) : Nat := ms (s.par Fld.sentTstart 0)

/-- A restart of SPn begins at a boundary (R387, R399). -/
def State.sentRestart (s : State) (n : Nat) : State :=
  if (s.sentCh n).supply then
    (s.modSent n (fun (c : SentCh) => { c with supply := false, offAt := some s.now, onAt := none, prevCal := none }))
      |>.openMask (.sentSupply (n + 1)) (ms 100 + s.sentStart)
  else s

/-- SPn is switched on: its sensor has SENT_TSTART in which to start (R387). -/
def State.sentOn (s : State) (n : Nat) (restarted : Bool) : State :=
  s.modSent n (fun (c : SentCh) => { c with
    supply := true, offAt := none, onAt := if restarted then some s.now else none, limited := false
    lastAt := s.now + s.sentStart, prevCal := none })

/-- The channels as the active Legend configures them: supplies on or off, causes of unused channels absent (R537). -/
def State.sentApply (s : State) : State :=
  s.foldNat (List.range 8) fun s n =>
    let c := s.sentCh n
    let want := s.sentSupplied n && !s.pw.sentvsLow && !s.saf.overTemp
    if s.sentUse n = false then
      ([1, 2, 3, 4].foldl (fun s k => s.sentClear n k) s).modSent n (fun _ => {})
    else if want ∧ c.supply = false ∧ c.offAt = none then s.sentOn n false
    else if want = false ∧ c.supply then
      s.modSent n (fun (c : SentCh) => { c with supply := false, offAt := none, onAt := none })
    else if c.lastAt = 0 then s.modSent n (fun (c : SentCh) => { c with lastAt := s.now + s.sentStart })
    else s

/-! ### The current channel (R193, R197) -/

/-- The nominal or calibrated zero code of the SENT current channel (R183). -/
def State.isentOfs (s : State) : Int :=
  let ch := s.par Fld.isentCh 0
  match smapGet s.leg.active.fields (fieldKey Fld.scOfs (1 + ch)) with
  | some v => sext 32 v
  | none => s.par Fld.isentZero 0

/-- A raw value of the SENT current channel in mA (R183). -/
def State.isentMa (s : State) (raw : Int) : Int :=
  clampI (-8388607) 8388607
    (divRound ((raw - s.isentOfs) * (s.par Fld.scGain (1 + s.par Fld.isentCh 0) : Int) * parI s.leg.active.fields Fld.isentMapc 0 32)
      (2 ^ 30 * 1000))

/-- A valid SENT current sample is judged against the overcurrent limits (R197 item 2). -/
def State.isentJudge (s : State) (n : Nat) (ma : Int) : State :=
  let dis := decide (1000 * (s.par Fld.ocDis 0 : Int) < ma)
  let chg := decide (ma < -(1000 * (s.par Fld.ocChg 0 : Int)))
  let s := s.modSent n (fun (c : SentCh) => { c with
    ocDis := if dis then c.ocDis + 1 else 0
    ocChg := if chg then c.ocChg + 1 else 0
    ocIn := if dis || chg then 0 else c.ocIn + 1
    ocFirst := if (dis && decide (c.ocDis = 0)) || (chg && decide (c.ocChg = 0)) then ma else c.ocFirst })
  let c := s.sentCh n
  let s := if 3 ≤ c.ocDis then s.raise 0x0E 1 0 1 (sval c.ocFirst) else s
  let s := if 3 ≤ c.ocChg then s.raise 0x0E 2 0 1 (sval c.ocFirst) else s
  if 3 ≤ c.ocIn then (s.clear 0x0E 1 0 1).clear 0x0E 2 0 1 else s

/-- One fast-channel value: a raw sample, or a current sample of record 189 where the channel carries the current. -/
def State.sentSample (s : State) (i raw : Nat) : State :=
  let s := s.feedCal i raw
  if s.par Fld.isentCh 0 = i then
    let ma := s.isentMa raw
    let s := (s.chSample i ma false).headSample 0 189 ma
    let s := { s with der := { s.der with sent := ⟨s.now, ma, false, raw⟩ :: s.der.sent } }
    s.isentJudge (i / 2) ma
  else s.chSample i raw false

/-! ### The commands -/

/-- SENT_MESSAGE: a message is received on SNn and checked (R125, R193, R197, R387, R538). -/
def execSentMessage (n : Nat) (m : SentMsg) (s : State) : Out :=
  onC s fun s =>
    if s.sentUse n = false ∨ 8 ≤ n then s
    else
      let k := s.sentCheck n m
      let lim := s.par Fld.sentN 0
      if k ≠ 0 then
        let s := s.modSent n (fun (c : SentCh) => { c with
          bad := c.bad + 1, good := 0, stBad := 0, stGood := 0, prevCal := none })
        let s := if lim ≤ (s.sentCh n).bad then s.raise 0x0F 1 0 (n + 1) (word k) else s
        s.sentInvalid n
      else
        let v := sentValues m
        let st := bit v.1 0
        let s := s.modSent n (fun (c : SentCh) => { c with
          bad := 0, good := c.good + 1, prevCal := some m.cal, lastAt := s.now
          stBad := if st then c.stBad + 1 else 0, stGood := if st then 0 else c.stGood + 1 })
        let c := s.sentCh n
        let s := s.sentClear n 2
        let s := if 10 ≤ c.good then s.sentClear n 1 else s
        let s := if lim ≤ c.stBad then s.sentRaise n 4 else if 10 ≤ c.stGood then s.sentClear n 4 else s
        let s := s.sentSample (2 * n) v.2.1
        let s := if s.sentSingle n then s else s.sentSample (2 * n + 1) v.2.2
        s.sentInvalid n

/-- SENT_TIMEOUT: no valid message for SENT_TMO (R387). -/
def execSentTimeout (n : Nat) (s : State) : Out :=
  onC s fun s =>
    if s.sentUse n ∧ n < 8 ∧ (s.sentCh n).offAt = none ∧ s.sentCause n 2 = false then
      ((s.until ((s.sentCh n).lastAt + ms (s.par Fld.sentTmo 0))).sentRaise n 2).sentInvalid n
    else s

/-- SENT_SUPPLY_LIMIT: SPn has stood in its current limit for more than 1 ms (R387, R536). -/
def execSentSupplyLimit (n : Nat) (s : State) : Out :=
  onC s fun s =>
    if (s.sentCh n).supply then (s.modSent n (fun (c : SentCh) => { c with limited := true })).sentRaise n 3 else s

/-- SENT_SUPPLY_ON: 100 ms after a restart began SPn is switched on again (R387). -/
def execSentSupplyOn (n : Nat) (s : State) : Out :=
  onC s fun s =>
    match (s.sentCh n).offAt with
    | some t =>
      let s := s.until (t + ms 100)
      if s.sentSupplied n ∧ s.pw.sentvsLow = false ∧ s.saf.overTemp = false then s.sentOn n true
      else s.modSent n (fun (c : SentCh) => { c with offAt := none })
    | none => s

/-- SENT_SUPPLY_RUN_TIMER: SPn has run 100 ms after a restart without reaching its limit: SENT 0x03 clears (R387). -/
def execSentSupplyRunTimer (n : Nat) (s : State) : Out :=
  onC s fun s =>
    match (s.sentCh n).onAt with
    | some t =>
      let s := (s.until (t + ms 100)).modSent n (fun (c : SentCh) => { c with onAt := none })
      if (s.sentCh n).limited then s else s.sentClear n 3
    | none => s

/-- SENTVS_UNDERVOLTAGE: SENTVS falls below 4.0 V and SP1 to SP8 are off, or rises again and they are restored (R536). -/
def execSentvsUndervoltage (low : Bool) (s : State) : Out :=
  onC s fun s => ({ s with pw := { s.pw with sentvsLow := low } }).sentApply

/-! ### System calibration (R181 to R183, R448) -/

/-- Index of SC_OFS and SC_GAIN of a channel (R470). -/
def scIndex (chan : Nat) : Nat := if chan = 0xFF then 0 else 1 + chan

/-- The measured mean of a step, in raw codes. -/
def SysCal.mean (c : SysCal) : Int := divRound c.acc.sum c.acc.count

/-- The spread of the samples of a step. -/
def SysCal.spread (c : SysCal) : Nat := if c.acc.count = 0 then 0 else (c.acc.max - c.acc.min).toNat

/-- The gain of a SPAN: expected over measured (R182). -/
def State.calGain (s : State) (c : SysCal) (iref ofs : Int) : Rat :=
  let expected : Rat :=
    if c.chan = 0xFF then (iref : Rat) * (s.par Fld.shuntR 0 : Rat) / 1000
    else
      let mapc := parI s.leg.active.fields Fld.isentMapc 0 32
      if mapc = 0 then 0 else (iref : Rat) * 1000 / (mapc : Rat)
  let m : Rat := (c.acc.sum : Rat) / (c.acc.count : Rat) - (ofs : Rat)
  if m = 0 then 0 else expected / m

/-- |I_ref| of a SPAN lies below a fifth of full scale (R182). -/
def State.calSmall (s : State) (chan : Nat) (iref : Int) : Bool :=
  if chan = 0xFF then decide (iref.natAbs * s.par Fld.shuntR 0 < 200000000)
  else decide (iref.natAbs < 200 * s.par Fld.isentFs 0)

/-- The refusal of a measured step, 0 for an accepted one (R182). -/
def State.calRefusal (s : State) (c : SysCal) (step : Nat) (iref : Int) : Nat :=
  let shunt := decide (c.chan = 0xFF)
  let zero : Int := if shunt then 0 else s.par Fld.isentZero 0
  let lim : Nat := if shunt then 20000 else 205
  let off : Rat := (c.acc.sum : Rat) / (c.acc.count : Rat) - (zero : Rat)
  if c.acc.count = 0 ∨ (c.chan ≠ 0xFF ∧ c.acc.count < 100) ∨ (if shunt then 10000 else 41) < c.spread then St.unstable
  else if step = 0 then (if (lim : Rat) < off ∨ off < -(lim : Rat) then St.outOfLimits else 0)
  else
    let g := s.calGain c iref ((c.zero.map (·.1)).getD 0)
    if s.calSmall c.chan iref then St.outOfLimits
    else if g < 95 / 100 ∨ 105 / 100 < g then St.outOfLimits
    else 0

/-- SYS_CAL_MEASUREMENT_END: 1,000 ms after the acceptance of a ZERO or SPAN (R182, R183, R448). -/
def execSysCalMeasurementEnd (chan : Nat) (s : State) : Out :=
  onCore s fun s =>
    match s.der.sysCal.find? (fun c => decide (c.chan = chan) && c.measuring.isSome) with
    | none => s
    | some c =>
      match c.measuring with
      | none => s
      | some (step, t, iref) =>
        let s := s.until (t + ms 1000)
        let rest := s.der.sysCal.filter (fun x => decide (x.chan ≠ chan))
        let put (s : State) (l : List SysCal) : State := { s with der := { s.der with sysCal := rest ++ l } }
        let idle := { c with measuring := none, acc := {} }
        let st := s.calRefusal c step iref
        let head := leBytes 4 (toBits 32 c.mean) ++ leBytes 4 c.spread ++ leBytes 4 c.acc.count
        if st ≠ 0 then
          (put s (if c.zero.isSome then [idle] else [])).refuse c.host c.pair 0x0108 c.tag st chan 0
        else if step = 0 then
          (put s [{ idle with zero := some (c.mean, s.now) }]).respond c.host c.pair 0x0108 c.tag St.ok
            (head ++ leBytes 4 0 ++ leBytes 4 0)
        else
          let ofs := (c.zero.map (·.1)).getD 0
          let gain := (roundQ (s.calGain c iref ofs * 1073741824)).toNat
          let i := scIndex chan
          let e := s.effect
          let fs : SMap Nat := [(fieldKey Fld.scOfs i, toBits 32 ofs), (fieldKey Fld.scGain i, gain)]
          if s.commitFull (.legend ⟨fs, 0, 0, 0, false, []⟩) then
            (put s [idle]).refuse c.host c.pair 0x0108 c.tag St.commitFull chan 0
          else
          let s := (put s [{ idle with zero := none }]).landChange fs (hostNum c.host) (s.levelOf c.host) false []
          s.respond c.host c.pair 0x0108 c.tag St.ok (head ++ leBytes 4 gain ++ leBytes 4 e)

end Sys2Proof.Machine
end

