-- ==== Sys2Proof/Machine/Loops.lean ====
section
/-!
DEFINITION. The control engine (R311 to R337): ticks, modes, lost and frozen feedback, coil loops, tuning. Slot n of the
model is slot n + 1.
-/

namespace Sys2Proof.Machine

/-! ### Arithmetic (R317) -/

/-- A Q16.16 value as a rational. -/
def fix (v : Int) : Rat := (v : Rat) / 65536

/-- A value with 32 further fraction bits as a rational. -/
def fix48 (v : Int) : Rat := (v : Rat) / 281474976710656

/-- Rounds to Q16.16; the second part tells saturation (R317). -/
def q16 (x : Rat) : Int × Bool :=
  let v := roundQ (x * 65536)
  let c := clampI (-2147483648) 2147483647 v
  (c, decide (c ≠ v))

/-- Rounds to Q16.48; the second part tells saturation (R317). -/
def q48 (x : Rat) : Int × Bool :=
  let v := roundQ (x * 281474976710656)
  let c := clampI (-9223372036854775808) 9223372036854775807 v
  (c, decide (c ≠ v))

/-- A Q16.48 value as it is used and reported (R317). -/
def used (v : Int) : Int := (q16 (fix48 v)).1

/-- A Q16.16 value held to 32 further fraction bits. -/
def wide (v : Int) : Int := v * 4294967296

/-- sin(2 π x) of a phase, in units of 2^-62, by its power series in fixed point (log 30). -/
def sinPhase (x : Rat) : Int :=
  let one : Int := 4611686018427387904
  let f := x - (x.floor : Rat)
  -- the phase folded to a quarter turn
  let h := if f < 1 / 2 then f else f - 1 / 2
  let q := if h ≤ 1 / 4 then h else 1 / 2 - h
  let a := roundQ (q * 2 * (314159265358979323846264338328 / 100000000000000000000000000000) * (one : Rat))
  let r := (List.range 12).foldl (fun (acc : Int × Int) k =>
    let t := -(acc.2 * a / one) * a / one / (((2 * k + 2) * (2 * k + 3) : Nat) : Int)
    (acc.1 + t, t)) (a, a)
  if f < 1 / 2 then r.1 else -r.1

/-! ### Configuration and sources -/

/-- The control tick period in seconds (R71, R318). -/
def State.tickSeconds (s : State) : Rat := (periodUs s.swp.period : Rat) / ((tickDiv s.swp.tickdiv * 1000000 : Nat) : Rat)

/-- The slot runs: USE 0b01 or 0b10 (R313). -/
def State.loopUsed (s : State) (n : Nat) : Bool := decide (s.loopUse n = 1 ∨ s.loopUse n = 2)

/-- CTRL.FZ_N (R313). -/
def State.loopFz (s : State) (n : Nat) : Nat := bits (s.loopWord n 0) 31 24

/-- sgn of R318: reverse action computes feedback minus set-point. -/
def State.loopSgn (s : State) (n : Nat) : Int := if bit (s.loopWord n 0) 4 then -1 else 1

/-- The code of a slot's source where it is valid (R314). -/
def State.loopCode (s : State) (n : Nat) : Option Int :=
  let c := s.loopSrc n
  if c = 0xE0 then s.ctr.tHot
  else if c = 0xE1 then s.ctr.tCold
  else if (c < 34 ∨ c = 88 ∨ c = 89) ∧ s.chPresent c then
    match (s.chassisRec c).latest with
    | some (v, false) => some v
    | _ => none
  else none

/-- A code of the source in loop units (R314). -/
def State.loopScale (s : State) (n : Nat) (code : Int) : Int × Bool :=
  q16 (fix (s.loopQ n 9) * (code : Rat) + fix (s.loopQ n 10))

/-- The contactor channel of a slot's destination (R315). -/
def State.loopChan (s : State) (n : Nat) : Option Nat :=
  let d := s.loopDest n
  if 0x11 ≤ d ∧ d ≤ 0x16 then some (d - 0x11) else none

/-- The current that a channel's phase asks of its coil loop, mA (R343). -/
def State.coilTarget (s : State) (k : Nat) : Nat :=
  let w := s.par Fld.contCur k
  match (s.chan k).phase with
  | .pull => bits w 15 0
  | .hold => bits w 31 16
  | _ => 0

/-- The target of a slot: of a coil loop the current of its channel, scaled as the source is (R321, R333, log 29). -/
def State.loopTarget (s : State) (n : Nat) : Int :=
  match s.loopUse n, s.loopChan n with
  | 2, some k => (s.loopScale n (s.coilTarget k)).1
  | _, _ => (s.loop n).r

/-- The value that a slot's destination is forced to (R327, R333, R308). -/
def State.loopForced (s : State) (n : Nat) : Option Int :=
  match s.loopChan n with
  | some k => if (s.chan k).energised then none else some 0
  | none => if s.loopDest n ≠ 0 ∧ s.saf.overTemp then some 0 else none

/-- Applies a value to a destination (R315, R71). -/
def State.drivePwm (s : State) (dest : Nat) (v : Int) : State :=
  if 1 ≤ dest ∧ dest ≤ 8 then { s with pwm := modAt s.pwm (dest - 1) (fun _ => v) }
  else if 0x11 ≤ dest ∧ dest ≤ 0x16 then
    s.modChan (dest - 0x11) (fun c => { c with duty := v, klOn := c.energised && decide (0 < v) })
  else s

/-- A slot changes mode: LOOP event (R433). -/
def State.setLoopMode (s : State) (n : Nat) (m : LoopMode) : State :=
  if (s.loop n).mode = m then s else (s.modLoop n (fun l => { l with mode := m })).event Ev.loop

/-! ### One tick of R319 -/

/-- What R319 computes at a tick. -/
structure LoopCalc where
  e : Int
  rr : Int
  i : Int
  d : Int
  p : Int
  ff : Int
  u : Int
  sat : Bool
  wnd : Bool
  rlim : Bool
  deriving DecidableEq, Repr

/-- The ramped set-point of the next tick and whether the limit acted (R319, R321). -/
def State.loopRamp (s : State) (n : Nat) (target : Int) : Int × Bool :=
  let l := s.loop n
  let step := fix (s.loopQ n 8) * s.tickSeconds
  let gap := fix target - fix48 l.rr
  if s.loopQ n 8 = 0 ∨ (-step ≤ gap ∧ gap ≤ step) then (wide target, false)
  else ((q48 (fix48 l.rr + (if 0 < gap then step else -step))).1, true)

/-- Proportional and feed-forward parts for a set-point and a feedback: e, p and ff, and saturation. -/
def State.loopParts (s : State) (n : Nat) (rr y : Int) : (Int × Int × Int) × Bool :=
  let e := q16 ((s.loopSgn n : Rat) * (fix rr - fix y))
  let p := q16 (fix (s.loopQ n 1) * fix e.1)
  let ff := q16 (fix (s.loopQ n 5) * fix rr)
  ((e.1, p.1, ff.1), e.2 || p.2 || ff.2)

/-- The computation of R319 for a feedback y; `sig` is added to the ramped set-point (R336). -/
def State.loopCalc (s : State) (n : Nat) (target y sig : Int) : LoopCalc :=
  let l := s.loop n
  let t := s.tickSeconds
  let kdT := fix (s.loopQ n 3) / (fix (s.loopQ n 4) + t)
  let aT := fix (s.loopQ n 4) / (fix (s.loopQ n 4) + t)
  let ramp := s.loopRamp n target
  let rr := q16 (fix48 (wide (used ramp.1)) + fix sig)
  let parts := s.loopParts n rr.1 y
  let e := parts.1.1
  let p := parts.1.2.1
  let ff := parts.1.2.2
  let yPrev := if l.fresh then y else l.yPrev
  let d := q16 (aT * fix l.d - kdT * (s.loopSgn n : Rat) * (fix y - fix yPrev))
  let ki := fix (s.loopQ n 2) * t * fix e
  let raw := q16 (fix p + fix (used l.i) + ki + fix d.1 + fix ff)
  let lo := s.loopQ n 6
  let hi := s.loopQ n 7
  let wnd := decide ((hi < raw.1 ∧ 0 < e) ∨ (raw.1 < lo ∧ e < 0))
  let i := if wnd then (l.i, false) else q48 (fix48 l.i + ki)
  let u := q16 (fix p + fix (used i.1) + fix d.1 + fix ff)
  let c := clampI lo hi u.1
  { e := e, rr := ramp.1, i := i.1, d := d.1, p := p, ff := ff, u := c, wnd := wnd, rlim := ramp.2
    sat := rr.2 || parts.2 || d.2 || raw.2 || i.2 || u.2 || decide (c ≠ u.1) }

/-- The transfer tick (R323). -/
def State.loopTransfer (s : State) (n : Nat) (target y : Int) : LoopCalc :=
  let l := s.loop n
  let rr := if 0 < s.loopQ n 8 then y else target
  let parts := s.loopParts n rr y
  let e := parts.1.1
  let p := parts.1.2.1
  let ff := parts.1.2.2
  let i := q48 (fix l.uLast - fix p - fix ff)
  let u := q16 (fix p + fix (used i.1) + fix ff)
  { e := e, rr := wide rr, i := i.1, d := 0, p := p, ff := ff, u := u.1, wnd := false, rlim := false
    sat := parts.2 || i.2 || u.2 }

/-- The slot takes up what a tick computed. -/
def LoopSlot.take (l : LoopSlot) (c : LoopCalc) (y : Int) : LoopSlot :=
  { l with
    rr := c.rr, i := c.i, d := c.d, yPrev := y, fresh := false, e := c.e, uLast := c.u, transfer := false
    sat := l.sat || c.sat, wnd := l.wnd || c.wnd, rlim := l.rlim || c.rlim }

/-! ### Tuning messages and aborts (R337, R454) -/

/-- The header of a LOOP_TUNE result (R454). -/
def tuneHeader (slot kind part flags reason npts first : Nat) : List Byte :=
  leBytes 1 slot ++ leBytes 1 kind ++ leBytes 1 part ++ leBytes 1 flags ++ leBytes 2 reason ++ leBytes 2 npts
    ++ leBytes 2 first ++ [0, 0]

/-- Sends the points captured and not yet sent (R337). -/
def State.tuneSend (s : State) (t : Tuning) (aborted final : Bool) (reason : Nat) : State :=
  let n := t.points.length
  let s := s.eventMsg t.o.host t.o.pair 0x8203 t.o.tag St.ok
    (tuneHeader (t.o.slot + 1) 0 (t.sentPts / 256) (b2n aborted + 2 * b2n final) reason n t.sentPts
      ++ t.points.reverse.flatMap (fun x => leBytes 4 (toBits 32 x.1) ++ leBytes 4 (toBits 32 x.2)))
  { s with tuning := some { t with points := [], sentPts := t.sentPts + n } }

/-- The tuning's results that are due go out, and no tuning runs any more. -/
def State.tuneClose (s : State) (t : Tuning) (reason : Nat) : State :=
  let s := if t.o.method = 1 then s else s.tuneSend t true true reason
  { s with tuning := none }

/-- The slot returns from a tuning to the mode it started from (R335, R336). -/
def State.tuneReturn (s : State) (t : Tuning) : State :=
  let s := s.modLoop t.o.slot (fun l => { l with manOut := if t.fromAuto then l.manOut else t.u0 })
  s.setLoopMode t.o.slot (if t.fromAuto then .auto else .manual)

/-- A tuning is aborted (R337); one that is no reaction under R332 raises LOOP 0x03. -/
def State.tuneAbort (s : State) (reason : Nat) : State :=
  match s.tuning with
  | none => s
  | some t =>
    let s := (s.tuneClose t reason).tuneReturn t
    let s := s.modLoop t.o.slot (fun l => { l with tune := 3, abort := reason })
    if reason ≤ 2 then s else s.raiseOpenEv 0x14 3 0 (t.o.slot + 1)

/-! ### Lost and frozen feedback (R330 to R332) -/

/-- The reaction of R332: LOOP with the slot number, and HELD or FALLBACK; answers the output of this tick. -/
def State.loopReact (s : State) (n sub : Nat) : State :=
  let s := s.raiseOpen 0x14 sub 0 (n + 1)
  if bit (s.loopWord n 0) 3 then
    (s.modLoop n (fun l => { l with uLast := s.loopQ n 13 })).setLoopMode n .fallback
  else s.setLoopMode n .held

/-- The causes that clear at a tick whose sample is `y` (R330, R331). -/
def State.loopClear (s : State) (n : Nat) (y : Option Int) : State :=
  match y with
  | none => s
  | some y =>
    let l := s.loop n
    let s := if l.fbLost then
        (s.modLoop n (fun l => { l with fbLost := false })).clear 0x14 1 0 (n + 1) else s
    if l.frozen ∧ s.loopQ n 11 < ((y - l.frozenAt).natAbs : Int) then
      (s.modLoop n (fun l => { l with frozen := false })).clear 0x14 2 0 (n + 1)
    else s

/-- The frozen detector's condition over a window (R331). -/
def State.loopFrozen (s : State) (n : Nat) (w : List (Int × Int)) : Bool :=
  let span (l : List Int) : Int := maxI (l.headD 0) l - minI (l.headD 0) l
  decide (2 ≤ s.loopFz n) && decide (w.length = s.loopFz n)
    && decide (span (w.map (·.1)) ≤ s.loopQ n 11) && decide (s.loopQ n 12 < span (w.map (·.2)))

/-- A tick of R319 under AUTO, with the frozen detector (R331, log 32). -/
def State.loopAuto (s : State) (n : Nat) (y : Int) (ySat : Bool) (sig : Int) : State :=
  let l := s.loop n
  let target := s.loopTarget n
  let c := if l.transfer then s.loopTransfer n target y else s.loopCalc n target y sig
  let w := ((y, c.u) :: l.window).take (s.loopFz n)
  if s.loopFrozen n w then
    let s := if l.mode = .tune then (s.modLoop n (fun l => { l with frozen := true })).tuneAbort 2 else s
    (s.modLoop n (fun l => { l with frozen := true, frozenAt := y, window := [] })).loopReact n 2
  else s.modLoop n (fun l => let l := l.take { c with sat := c.sat || ySat } y
    { l with window := w })

/-- A tick while the slot tracks (R327). -/
def State.loopTrack (s : State) (n : Nat) (forced : Int) (y : Option Int) : State :=
  let l := s.loop n
  let s := s.modLoop n (fun l => { l with trk := true, window := [] })
  if l.mode ≠ .auto then s
  else
    match y with
    | none => s.modLoop n (fun l => { l with d := 0, uLast := forced })
    | some y =>
      let c := if l.transfer then s.loopTransfer n (s.loopTarget n) y else s.loopCalc n (s.loopTarget n) y 0
      let rr := if 0 < s.loopQ n 8 then y else s.loopTarget n
      let parts := s.loopParts n rr y
      let i := q48 (fix forced - fix parts.1.2.1 - fix parts.1.2.2)
      s.modLoop n (fun l => { l.take c y with
        d := 0, i := i.1, rr := wide rr, uLast := forced, sat := l.sat || c.sat || i.2 })

/-! ### Tuning at a tick (R335, R336) -/

/-- The proposal of a relay tuning (R335): KU, PU, A, KP, KI, KD in Q16.16, each rounded once (log 30). -/
def State.relayResult (s : State) (t : Tuning) : List Int :=
  let l := t.cycles.take t.o.m
  let m : Rat := (t.o.m : Rat)
  let pu := q16 ((sumI (l.map (fun x => (x.1 : Int))) : Rat) * s.tickSeconds / m)
  let a := q16 ((sumI (l.map (·.2)) : Rat) / 65536 / (2 * m))
  let pi : Rat := 314159265358979323846264338328 / 100000000000000000000000000000
  let ku := if a.1 = 0 then clampI (-2147483648) 2147483647 (Config.openSample s.draws)
    else (q16 (4 * fix t.o.amp / (pi * fix a.1))).1
  [ku, pu.1, a.1, (q16 (6 / 10 * fix ku)).1,
   if pu.1 = 0 then clampI (-2147483648) 2147483647 (Config.openSample (s.draws + 1))
     else (q16 (12 / 10 * fix ku / fix pu.1)).1,
   (q16 (75 / 1000 * fix ku * fix pu.1)).1]

/-- A tick of a relay tuning with feedback y (R335). -/
def State.relayTick (s : State) (t : Tuning) (y : Int) : State :=
  let n := t.o.slot
  let r := (s.loop n).r
  let e := (q16 ((s.loopSgn n : Rat) * (fix r - fix y))).1
  if t.o.xlim < ((r - y).natAbs : Int) then s.tuneAbort 3
  else
    let high := if t.ticks = 0 then decide (0 ≤ e)
      else if t.high then !decide (e < -t.o.eps) else decide (t.o.eps < e)
    let switch := decide (0 < t.ticks) && high && !t.high
    let u := (q16 (fix t.u0 + (if high then fix t.o.amp else -fix t.o.amp))).1
    let cycles := match switch, t.cycleStart with
      | true, some c => (t.ticks - c, t.yMax - t.yMin) :: t.cycles
      | _, _ => t.cycles
    let fresh := switch || decide (t.ticks = 0)
    let t := { t with
      ticks := t.ticks + 1, high := high, cycles := cycles
      cycleStart := if switch then some t.ticks else t.cycleStart
      yMax := if fresh then y else max t.yMax y, yMin := if fresh then y else min t.yMin y }
    let s := s.modLoop n (fun l => { l with uLast := u, e := e, rr := wide r })
    if t.cycles.length = t.o.m + 1 then
      let s := s.eventMsg t.o.host t.o.pair 0x8203 t.o.tag St.ok
        (tuneHeader (n + 1) 1 0 2 0 0 0 ++ (s.relayResult t).flatMap (fun v => leBytes 4 (toBits 32 v)))
      let s := ({ s with tuning := none, draws := s.draws + 2 }).tuneReturn t
      s.modLoop n (fun l => { l with tune := 2 })
    else { s with tuning := some t }

/-- The signal of an injection tuning at its tick, and the LFSR after it (R336, log 30). -/
def State.tuneSignal (s : State) (t : Tuning) : Int × Nat :=
  let first := 64 * t.o.d
  if t.ticks < first then (0, t.lfsr)
  else
    let k := t.ticks - first
    match t.o.method with
    | 2 => (t.o.amp, t.lfsr)
    | 3 =>
      let fb := (t.lfsr / 256 + t.lfsr / 16) % 2
      let next := (2 * t.lfsr + fb) % 512
      (if 256 ≤ t.lfsr then t.o.amp else -t.o.amp, if (k + 1) % t.o.l = 0 then next else t.lfsr)
    | _ =>
      let phase : Rat := (t.o.freq : Rat) / 1000 * (k : Rat) * s.tickSeconds
      ((q16 (fix t.o.amp * ((sinPhase phase : Int) : Rat) / 4611686018427387904)).1, t.lfsr)

/-- A tick of an injection tuning with feedback y (R336). -/
def State.injectTick (s : State) (t : Tuning) (y : Int) (ySat : Bool) : State :=
  let n := t.o.slot
  let sig := s.tuneSignal t
  let s := if t.fromAuto then s.loopAuto n y ySat sig.1
    else
      let r := (s.loop n).r
      let e := (q16 ((s.loopSgn n : Rat) * (fix r - fix y))).1
      let u := q16 (fix t.u0 + fix sig.1)
      s.modLoop n (fun l => { l with uLast := u.1, e := e, rr := wide r, sat := l.sat || u.2 })
  if s.tuning.isNone then s
  else
    let take := decide (t.ticks % t.o.d = 0)
    let t := { t with
      ticks := t.ticks + 1, lfsr := sig.2
      points := if take then (y, (s.loop n).uLast) :: t.points else t.points }
    let all := t.sentPts + t.points.length
    if take ∧ all = 1024 then
      let s := (s.tuneSend t false true 0).tuneReturn t
      ({ s with tuning := none }).modLoop n (fun l => { l with tune := 2 })
    else if take ∧ all % 256 = 0 then s.tuneSend t false false 0
    else { s with tuning := some t }

/-! ### The tick -/

/-- The value that a slot gives its destination after its tick. -/
def State.loopOutput (s : State) (n : Nat) : Int := (s.loopForced n).getD (s.loop n).uLast

/-- A slot at a control tick (R319 to R337), before its output is applied. -/
def State.loopTick (s : State) (n : Nat) : State :=
  let l := s.loop n
  if l.mode = .unused then s
  else
    let code := s.loopCode n
    let y := code.map (s.loopScale n)
    match s.loopForced n with
    | some f =>
      let s := if l.mode = .tune then s.tuneAbort 6 else s
      (s.loopClear n (y.map (·.1))).loopTrack n f (y.map (·.1))
    | none =>
      let s := (s.modLoop n (fun l => { l with trk := false })).loopClear n (y.map (·.1))
      match y with
      | none =>
        let s := s.modLoop n (fun l => { l with fbLost := true, window := [] })
        if l.mode = .tune then (s.tuneAbort 1).loopReact n 1
        else if l.mode = .auto then s.loopReact n 1
        else s
      | some (y, ySat) =>
        match l.mode with
        | .auto => s.loopAuto n y ySat 0
        | .tune =>
          (match s.tuning with
            | some t => if t.o.method = 1 then s.relayTick t y else s.injectTick t y ySat
            | none => s)
        | .manual => s.modLoop n (fun l => { l with uLast := l.manOut })
        | .fallback => s.modLoop n (fun l => { l with uLast := s.loopQ n 13 })
        | _ => s

/-- In MANUAL, HELD and FALLBACK the ramped set-point equals the target, and MANUAL applies its output whatever the
feedback is (R321, R324). -/
def State.loopRest (s : State) (n : Nat) : State :=
  let l := s.loop n
  match l.mode with
  | .manual => s.modLoop n (fun l => { l with rr := wide l.r, uLast := if l.trk then l.uLast else l.manOut })
  | .held => s.modLoop n (fun l => { l with rr := wide l.r })
  | .fallback => s.modLoop n (fun l => { l with rr := wide l.r, uLast := s.loopQ n 13 })
  | _ => s

/-- The Chassis page samples of a slot (R124, R125). -/
def State.loopSamples (s : State) (n : Nat) : State :=
  let l := s.loop n
  let relay : Bool := match s.tuning with
    | some t => decide (t.o.slot = n) && decide (t.o.method = 1)
    | none => false
  let err := decide (l.mode = .auto) || (decide (l.mode = .tune) && !relay)
  ((s.chSample (40 + n) (q8 (used l.rr)) false).chSample (56 + n) (q8 (s.loopOutput n)) false).chSample
    (72 + n) (q8 l.e) (!err)

/-- One slot's computation at a tick. -/
def State.loopCompute (s : State) (n : Nat) : State := (s.loopTick n).loopRest n

/-- One slot's output is applied, and its samples are delivered (R71, R124). -/
def State.loopApplyOut (s : State) (n : Nat) : State :=
  if (s.loop n).mode = .unused then s
  else (s.drivePwm (s.loopDest n) (s.loopOutput n)).loopSamples n

/-- A tuning whose slot a fault reaction has sent to its fallback delivers what it captured (R337, log 18). -/
def State.tuneOrphan (s : State) : State :=
  match s.tuning with
  | some t => if (s.loop t.o.slot).mode = .tune then s else s.tuneClose t 6
  | none => s

/-- A KSn reading: the Chassis page, and the coil-current checks of R349. COIL 0x02 occurs at the second of a run of
readings above COIL_MAX; a longer run is the same occurrence (log 48). -/
def State.coilReading (s : State) (k v : Nat) : State :=
  let s := s.chSample (28 + k) v false
  let s := s.modChan k (fun c => { c with ks := v })
  if s.contUse k = false then s
  else
    let w := s.par Fld.contCur k / 2 ^ 32
    let lo := bits w 15 0
    let hi := bits w 31 16
    let on := (s.chan k).energised
    let s := s.modChan k (fun c => { c with
      lowAt := if on ∧ v < lo then some (c.lowAt.getD s.now) else none
      highAt := if !on ∧ lo < v then some (c.highAt.getD s.now) else none
      overCnt := if hi < v then c.overCnt + 1 else 0 })
    let s := if v ≤ lo then s.clear 0x13 3 0 (chanDetail k) else s
    if (s.chan k).overCnt = 2 then s.chanFault k 0x13 2 else s

/-- A coil loop drives the channel. -/
def State.coilLooped (s : State) (k : Nat) : Bool :=
  (List.range 16).any (fun n => s.loopUsed n && decide (s.loopChan n = some k))

/-- KLn of a channel that no coil loop drives (R343). -/
def State.fixedDuty (s : State) (k : Nat) : State :=
  if s.coilLooped k then s
  else
    let hold : Int := 65536 * (bits (s.par Fld.contCfg k) 22 16 : Nat)
    s.modChan k (fun c =>
      let v : Int := match c.phase with
        | .pull => 6553600
        | .hold => hold
        | _ => 0
      { c with duty := v, klOn := decide (0 < v) })

/-- The instant of the next tick of this sweep (R71). -/
def State.tickAt (s : State) : Nat := s.swp.boundary + s.swp.tick * (s.periodNs / tickDiv s.swp.tickdiv)

/-- A tick of this sweep is still to come. -/
def State.tickDue (s : State) : Bool := s.swp.count.isSome && decide (s.swp.tick < tickDiv s.swp.tickdiv)

/-- CONTROL_TICK: all 16 slots are computed from the samples before the tick, the KS readings of the tick come in, and 20 µs
after its start the outputs are applied (R71, R319, R329, R349). With the core halted no slot is computed and WATCHDOG 0x05 is
raised. -/
def execControlTick (ks : List Nat) (s : State) : Out :=
  onC s fun s =>
    if s.tickDue then
      let t := s.tickAt
      let s := s.until t
      let s := { s with swp := { s.swp with tick := s.swp.tick + 1 } }
      let halted := s.pw.coreReset.isSome
      let s := if halted then s.raiseOpenEv 0x1C 5 0 (openDetail 0x1C 5 0)
        else s.tuneOrphan.foldNat (List.range 16) (fun s n => s.loopCompute n)
      let s := s.foldNat (List.range 6) (fun s k => s.coilReading k (ks.getD k 0))
      if halted then s
      else
        let s := s.until (t + us 20)
        (s.foldNat (List.range 16) (fun s n => s.loopApplyOut n)).foldNat (List.range 6) (fun s k => s.fixedDuty k)
    else s

/-- TUNING_TIMEOUT: a relay tuning has not completed its cycles by its timeout (R335, R337). -/
def execTuningTimeout (s : State) : Out :=
  onCore s fun s =>
    match s.tuning with
    | some t => if t.o.method = 1 then (s.until (t.startAt + ms (1000 * t.o.timeout))).tuneAbort 4 else s
    | none => s

/-! ### Settings at a boundary (R311, R322 to R328, R334) -/

/-- A slot that comes into use starts (R326, R333, log 31). -/
def State.loopStart (s : State) (n : Nat) : State :=
  let coil := decide (s.loopUse n = 2)
  let init := s.loopQ n 14
  s.modLoop n (fun _ => { (({} : LoopSlot)) with
    mode := if coil then .auto else .manual, started := true, transfer := coil, fresh := true
    r := if coil then 0 else s.loopQ n 15, rr := if coil then 0 else wide (s.loopQ n 15)
    manOut := init, uLast := if coil then 0 else init, trk := coil
    waiting := !coil && bit (s.loopWord n 0) 2 }) |>.event Ev.loop

/-- A slot whose record leaves use stops, and its destination takes its reset level (R325). -/
def State.loopStop (s : State) (n dest : Nat) : State :=
  let s := match s.tuning with
    | some t => if t.o.slot = n then s.tuneAbort 5 else s
    | none => s
  (s.modLoop n (fun _ => {})).drivePwm dest 0 |>.event Ev.loop

/-- The slots as the active records stand at a boundary (R311, R326): `dests` are the destinations before. -/
def State.loopApply (s : State) (dests : List Nat) : State :=
  s.foldNat (List.range 16) (fun s n =>
    let old := dests.getD n 0
    let s := if old ≠ s.loopDest n ∧ (s.loop n).mode ≠ .unused then s.drivePwm old 0 else s
    if s.loopUsed n ∧ (s.loop n).mode = .unused then s.loopStart n
    else if s.loopUsed n = false ∧ (s.loop n).mode ≠ .unused then s.loopStop n old
    else s)

/-- The source's record is primed (R126, R326). -/
def State.loopPrimed (s : State) (n : Nat) : Bool :=
  let c := s.loopSrc n
  if c = 0xE0 ∨ c = 0xE1 then
    (s.sensors.filter (fun i => (s.sensorEntry i).isSome)).all (fun i =>
      decide (0 < (s.track (atlasIdx (i / 32) (144 + i % 32))).primed))
  else !(s.chassisRec c).acc.prm

/-- Waiting slots whose source is valid and primed transfer to AUTO at a boundary (R326). -/
def State.loopWaiting (s : State) : State :=
  s.foldNat (List.range 16) (fun s n =>
    if (s.loop n).waiting ∧ (s.loopCode n).isSome ∧ s.loopPrimed n then
      (s.modLoop n (fun l => { l with waiting := false, transfer := true, window := [] })).setLoopMode n .auto
    else s)

/-- A LOOP_MODE takes effect (R322 to R324). A slot in TUNE keeps its mode (log 31). -/
def State.loopOrder (s : State) (o : LoopOrder) : State :=
  let n := o.slot
  if (s.loop n).mode = .unused then s
  else
    let s := s.modLoop n (fun l => { l with
      r := o.target.getD l.r
      manOut := if l.mode = .manual then o.manOut.getD l.manOut else l.manOut
      sat := l.sat && !bit o.clear 0, wnd := l.wnd && !bit o.clear 1, rlim := l.rlim && !bit o.clear 2
      waiting := l.waiting && o.mode.isNone })
    match o.mode, (s.loop n).mode with
    | some 1, m => if m = .manual ∨ m = .tune then s
        else (s.modLoop n (fun l => { l with manOut := l.uLast, transfer := false })).setLoopMode n .manual
    | some 2, m => if m = .auto ∨ m = .tune then s
        else (s.modLoop n (fun l => { l with transfer := true, window := [] })).setLoopMode n .auto
    | _, _ => s

/-- A LOOP_TUNE takes effect (R334 to R336); method 0 ends the running tuning of its slot. -/
def State.tuneOrder (s : State) (o : TuneOrder) : State :=
  let n := o.slot
  let m := (s.loop n).mode
  if o.method = 0 then
    (match s.tuning with
      | some t => if t.o.slot = n then s.tuneAbort 5 else s
      | none => s)
  else if s.tuning.isSome ∨ ¬ (m = LoopMode.manual ∨ (m = LoopMode.auto ∧ o.method ≠ 1)) then s
  else
    let l := s.loop n
    let s := { s with tuning := some ⟨o, decide (m = LoopMode.auto), l.manOut, s.now, 0, false, none, [], 0, 0, [], 0, 0x1FF⟩ }
    (s.modLoop n (fun l => { l with tune := 1, abort := 0, waiting := false, window := [] })).setLoopMode n .tune

/-- A new PERIOD or TICKDIV at a boundary (R328). -/
def State.loopRate (s : State) : State :=
  (s.tuneAbort 7).foldNat (List.range 16) (fun s n => s.modLoop n (fun l => { l with d := 0, fresh := true, window := [] }))

/-- Every slot is cleared by a C-die reset (R329); the destinations are off. -/
def State.loopReset (s : State) : State :=
  { s with loops := List.replicate 16 {}, tuning := none, pwm := List.replicate 8 0 }

end Sys2Proof.Machine
end

