-- ==== Sys2Proof/Machine/Sounding.lean ====
section
/-!
DEFINITION. Sounding at the head (R205 to R212, R451): impedance from the correlator sums, validity, and the report.
-/

namespace Sys2Proof.Machine

/-! ### Arithmetic of R205 -/

/-- One radian-scale unit of the fixed-point arctangent: 2^62. -/
abbrev fixOne : Int := 4611686018427387904

/-- π to 30 digits. -/
def piQ : Rat := 314159265358979323846264338328 / 100000000000000000000000000000

/-- π in the fixed-point scale. -/
def piFix : Int := roundQ (piQ * (fixOne : Rat))

/-- The series of the arctangent for |x| below 0.42, in the fixed-point scale (log 30). -/
def atanSeries (x : Int) : Int :=
  ((List.range 40).foldl (fun (acc : Int × Int) k =>
    (acc.1 + acc.2 / ((2 * k + 1 : Nat) : Int), -(acc.2 * x / fixOne) * x / fixOne)) (0, x)).1

/-- The arctangent of a ratio in [0, 1], in the fixed-point scale. -/
def atanUnit (t : Rat) : Int :=
  if t ≤ 2 / 5 then atanSeries (roundQ (t * (fixOne : Rat)))
  else piFix / 4 + atanSeries (roundQ ((t - 1) / (t + 1) * (fixOne : Rat)))

/-- The size of a rational. -/
def absQ (q : Rat) : Rat := if q < 0 then -q else q

/-- atan2 in 0.001°, rounded; none at the origin (R205). -/
def atan2Deg (y x : Rat) : Option Int :=
  if x = 0 ∧ y = 0 then none
  else
    let a := absQ x
    let b := absQ y
    let first := if b ≤ a then atanUnit (b / a) else piFix / 2 - atanUnit (a / b)
    let half := if x < 0 then piFix - first else first
    let v := if y < 0 then -half else half
    some (roundQ ((v : Rat) * 180000 / (piFix : Rat)))

/-- The square root of a rational, rounded. -/
def sqrtRound (q : Rat) : Int := ((Nat.sqrt (4 * q).floor.toNat + 1) / 2 : Nat)

/-- SM and SP of a correlator result (R205): position p, cell k (0 to 23), bin b, cycles c. -/
def State.impedance (s : State) (p k b c : Nat) (a' b' vOn : Int) : Int × Int :=
  let n : Rat := ((binCycle b * c : Nat) : Rat)
  let h : Rat := ((max 1 (Config.chainGain b) : Nat) : Rat) / 1073741824
  let rb : Rat := (s.par Fld.balRb (24 * p + k) : Rat) / 10
  let rt : Rat := ((s.par Fld.convRtap (25 * p + k) + s.par Fld.convRtap (25 * p + k + 1) : Nat) : Rat) / 10000
  if vOn = 0 ∨ rb = 0 then (Config.openSample s.draws, Config.openSample (s.draws + 1))
  else
    let i1 := 2 * ((vOn : Rat) / rb) / piQ
    let re := -(2 * (a' : Rat) / n / h) / i1 - rt
    let im := -(2 * (b' : Rat) / n / h) / i1
    let sm := sqrtRound ((re * re + im * im) * 100000000000000)
    (sm, (atan2Deg im re).getD (Config.openSample (s.draws + 1)))

/-! ### The report (R208, R451) -/

/-- Key of the order in which the bins of a Sounding run (R208): odd cells first, bins from the highest. -/
def sndOrder (cell bin : Nat) : Nat := 8 * ((cell + 1) % 2) + (7 - bin)

/-- Named cells and bins of a report: cells 1 to 24, bins 0 to 7, in the order of R451. -/
def SndReport.named (r : SndReport) : List (Nat × Nat) :=
  (List.range 24).flatMap (fun k => (List.range 8).filterMap (fun b =>
    if r.cells.testBit k ∧ r.bins.testBit b then some (k + 1, b) else none))

/-- The latest result of a cell and bin. -/
def SndReport.result (r : SndReport) (x : Nat × Nat) : Option SndCell :=
  r.results.find? (fun c => decide (c.cell = x.1 ∧ c.bin = x.2))

/-- A result that will be repeated (R210). -/
def SndCell.repeats (c : SndCell) : Bool := decide ((c.result = 1 ∨ c.result = 2) ∧ c.tries = 1)

/-- Holds a result. -/
def SndReport.put (r : SndReport) (c : SndCell) : SndReport :=
  { r with results := r.results.filter (fun x => !decide (x.cell = c.cell ∧ x.bin = c.bin)) ++ [c] }

/-- A result without an integration. -/
def sndNone (x : Nat × Nat) (result : Nat) : SndCell := ⟨x.1, x.2, result, 0, -2147483648, -2147483648, 0⟩

/-- Every named bin of every named cell has a result that stands (R208). -/
def SndReport.complete (r : SndReport) : Bool :=
  r.named.all (fun x => match r.result x with
    | some c => !c.repeats
    | none => false)

/-- Bytes of a result record (R451). -/
def SndCell.bytes (c : SndCell) : List Byte :=
  let lim (v : Int) : Nat := toBits 32 (clampI (-2147483648) 2147483647 v)
  leBytes 1 c.cell ++ leBytes 1 c.bin ++ leBytes 1 c.result ++ leBytes 1 c.tries ++ leBytes 4 (lim c.sm)
    ++ leBytes 4 (lim c.sp) ++ leBytes 4 c.sweep

/-- The finished report goes to its host, with the SOUND flag (R208, R451). -/
def State.sndDeliver (s : State) (r : SndReport) : State :=
  let recs := r.named.map (fun x => (r.result x).getD (sndNone x 4))
  let s := s.eventMsg r.host r.pair 0x810A r.tag St.ok
    (leBytes 1 r.pos ++ leBytes 1 r.bins ++ [0, 0] ++ leBytes 4 r.cells ++ leBytes 2 recs.length ++ [0, 0]
      ++ recs.flatMap SndCell.bytes)
  let s := { s with der := { s.der with reports := s.der.reports.filter (fun x => decide (x.pos ≠ r.pos)) } }
  s.eventOn r.host Ev.sound

/-- Holds a report, or delivers it when it is complete. -/
def State.sndKeep (s : State) (r : SndReport) : State :=
  if r.complete then s.sndDeliver r
  else
    let l := s.der.reports.map (fun (x : SndReport) => if x.pos = r.pos then r else x)
    { s with der := { s.der with reports := l } }

/-- A repeat that the head orders at a device for a disturbed bin (R210): cell k (0 to 23) and bin b. -/
def Dev.repeatBin (d : Dev) (k b : Nat) (cycles : List Nat) : Dev :=
  match d.snd with
  | some x => { d with snd := some { x with
      done := x.done.filter (fun y => decide (y ≠ (k, b))), redo := x.redo ++ [(k, b)] } }
  | none => { d with snd := some ⟨2 ^ k, 2 ^ b, cycles, 0, none, 0, 0, 1, [], [], [(k, b)]⟩ }

/-- Sweeps from the boundary of a bin to the running one, where the integration completed in the sweep before it (R204,
R206): keying, and the sample that completes after it. -/
def State.binSweeps (s : State) (b c : Nat) : Nat :=
  ((s.par Fld.sndSettle 0 + c) * binCycle b * 62500 + 62500 + s.periodNs - 1) / s.periodNs

/-- The shunt spread over the integration that ended in the sweep before the running one exceeds SND_IQUIET (R209). The samples
of the integration represent its instants 124.0 µs before they complete (R78, R204), so that they complete from the second
sample period of each end on. -/
def State.sndDisturbed (s : State) (b c : Nat) : Bool :=
  let settle := s.par Fld.sndSettle 0 * binCycle b * 62500
  let keyed := settle + c * binCycle b * 62500
  let from' := s.swp.boundary - s.binSweeps b c * s.periodNs + 62500
  decide (100 * s.par Fld.sndIquiet 0 < spreadOf (s.shuntIn (from' + settle) (from' + keyed)))

/-- The CV record of cell k at position p carried INV at some time of the integration that ended in the sweep before the
running one, or BENCH 0x02 stands (R209). Before the record is primed the Sounding is not armed, and gives no pass (R128; log
158, DEDUCED). -/
def State.sndInvalid (s : State) (p k b c : Nat) : Bool :=
  let i := atlasIdx p k
  let from' := s.sweep - s.binSweeps b c
  (s.posTrack p).bench.contains 2 || (s.atlasGet i).flags.inv || decide ((s.track i).primed = 0)
    || s.written.any (fun x => decide (x.index = i ∧ from' < x.close) && x.entry.flags.inv)

/-- A correlator result reaches the head from position p (R205 to R210). -/
def State.sndItem (s : State) (p tag : Nat) (a b vOn : Int) (status : Nat) : State :=
  match s.der.reports.find? (fun r => decide (r.pos = p)) with
  | none => s
  | some r =>
    let k := tag % 32 - 1
    let bin := tag / 32
    let x := (k + 1, bin)
    if r.named.contains x = false then s
    else
      -- bins that should have come before and did not are lost
      let r := r.named.foldl (fun (r : SndReport) y =>
        if sndOrder y.1 y.2 < sndOrder x.1 x.2 ∧ (r.result y).isNone then r.put (sndNone y 4) else r) r
      let old := (r.result x).getD (sndNone x 4)
      if status = 2 then s.sndKeep (r.put { old with result := 5 })
      else
        let c := binCycles r.cycles bin
        let z := s.impedance p k bin c a b vOn
        let res := if s.sndDisturbed bin c then 1 else if status = 1 then 2
          else if s.sndInvalid p k bin c then 3 else 0
        let new : SndCell := ⟨k + 1, bin, res, old.tries + 1, z.1, z.2, (s.sweep - 1) % 2 ^ 32⟩
        let s := { s with draws := s.draws + 2 }
        let s := if res = 0 ∧ bin = s.par Fld.sndRbin 0 then
            (s.headSample p (72 + k) z.1).headSample p (96 + k) z.2 else s
        let s := if res = 1 ∧ status = 0 ∧ new.repeats then
            (match s.slotOf p with
              | some d => s.modDev d (fun (x : Dev) => x.repeatBin k bin r.cycles)
              | none => s)
          else s
        s.sndKeep (r.put new)

/-- At a boundary a report whose device neither sounds any more nor holds a result is closed: what is missing is lost, or
halted where the position is no longer adopted (R209, R212). -/
def State.sndSettle (s : State) : State :=
  s.der.reports.foldl (fun s r =>
    let gone := !s.adopted r.pos
    let idle : Bool := match s.slotOf r.pos with
      | some d => (s.dev d).snd.isNone && (s.dev d).sndItems.isEmpty && decide (r.startSweep < s.sweep)
      | none => true
    if gone || idle then
      s.sndDeliver (r.named.foldl (fun (r : SndReport) x =>
        if (r.result x).isNone then r.put (sndNone x (if gone then 5 else 4)) else r) r)
    else s) s

end Sys2Proof.Machine
end

