-- ==== Sys2Proof/Machine/Ring.lean ====
section
/-!
DEFINITION. Ring ports, link state and the forwarding path of the S-dies (R236 to R259, R265, R285, R288), and the start
and stop of an S-die (R37, R485, R499, R500).
-/

namespace Sys2Proof.Machine

/-! ### Topology (R6) -/

/-- Slots whose S-die has left its power-on reset; a slot that never does is empty (R3). -/
def State.present (s : State) : List Nat := s.slots.filter (fun d => decide ((s.dev d).power ≠ .por))

/-- The slot to which port p of slot d is cabled: E leads to the next slot present, and from the last one back to the head
(R6). -/
def State.peer (s : State) (d : Nat) (p : RPort) : Nat :=
  match p with
  | .E => ((s.present.filter (fun x => decide (d < x))).head?).getD 0
  | .W => ((s.present.filter (fun x => decide (x < d))).getLast?).getD ((s.present.getLast?).getD 0)

/-- Number of a port in details (R269): 0 E, 1 W. -/
def portNum : RPort → Nat
  | .E => 0
  | .W => 1

/-- The ring holds the head alone (R5): no RING_LINK sub-code is raised. -/
def State.alone (s : State) : Bool := decide (s.trv.n = 1)

/-- The device beyond port p of slot d has applied a committed DORMANT order in this sweep or the one before it (R259). -/
def State.dormantBeyond (s : State) (d : Nat) (p : RPort) : Bool :=
  match (s.dev (s.peer d p)).dormantAt with
  | some t => decide (s.now ≤ t)
  | none => false

/-- A port of slot d that leaves UP raises no sub-code: the ring is the head alone, or its neighbour has gone DORMANT by order
(R5, R259). -/
def State.quietLoss (s : State) (d : Nat) (p : RPort) : Bool := s.alone || s.dormantBeyond d p

/-- Second character of the idle sets that a port transmits (R242): it names the port, and whether its receiver is good. -/
def PortSt.idleChar (q : PortSt) (p : RPort) : Byte :=
  match p, q.rxGood with
  | .E, true => 0x50#8
  | .E, false => 0xC5#8
  | .W, true => 0xB5#8
  | .W, false => 0x42#8

/-! ### Reports and transmission -/

/-- A RING_LINK report of a port: its own link word, then the other port's (R269). -/
def Dev.ringLink (d : Dev) (up : Bool) (sub : Nat) (p : RPort) : Dev :=
  d.report2 up 0x0A sub (portNum p) (word (d.port p).word) (word (d.port (rportOther p)).word)

/-- Own frames of the device that have not begun at `now`, newest first: a forwarded frame precedes them (R255). -/
def PortSt.unbegun (q : PortSt) (now : Nat) : List TxFrame := q.tx.filter (fun x => x.own && decide (now < x.at'))

/-- The instant at which a forwarded frame that arrives at `now` can begin on the transmitter: after the frame in passage and
the forwarded frames before it (R255). -/
def PortSt.startFor (q : PortSt) (now : Nat) : Nat :=
  match (q.unbegun now).getLast? with
  | some x => x.at'
  | none => max q.busyUntil now

/-- The transmitter of a port takes a frame at `now` (R254, R255): an own frame comes last; a forwarded one before the own
frames that have not begun, which it postpones (log 162). -/
def PortSt.transmit (q : PortSt) (now : Nat) (own : Bool) (f : Frame) : PortSt :=
  let wait := if own then [] else q.unbegun now
  let t := if own then max q.busyUntil now else q.startFor now
  let moved := wait.map (fun (x : TxFrame) => { x with at' := x.at' + frameNs f })
  { q with tx := moved ++ ⟨f, t, own⟩ :: q.tx.filter (fun x => !wait.contains x), busyUntil := max q.busyUntil now + frameNs f }

/-- A held port carries only TOKEN, PROBE, PROBE_REPLY and ADOPT (R288). -/
def heldType (f : Frame) : Bool := decide (frameType f.payload ≤ 4)

/-- The port passes the frame: UP, and not held against it (R251, R288). -/
def PortSt.carries (q : PortSt) (f : Frame) : Bool := decide (q.st = .up) && (!q.held || heldType f)

/-- A frame, the device's own or a forwarded one, leaves the device by port p at `now` (R254, R285): where the port does not
carry it, traffic to the head turns back on the other port with WRAP, once, and a downstream frame is discarded. -/
def Dev.emit (d : Dev) (p : RPort) (now : Nat) (own : Bool) (f : Frame) : Dev :=
  let o := rportOther p
  if (d.port p).carries f ∧ ¬ ((d.port p).wrapped ∧ heldType f = false) then d.modPort p (·.transmit now own f)
  else if f.dest = 0 ∧ f.wrap = false ∧ (d.port p).wrapped ∧ (d.port o).carries f then
    d.modPort o (·.transmit now own (frameRelay f f.hops true))
  else d

/-- A valid downstream frame from position 0 reaches the S-die: the bleed-silence timer reloads (R233, R499). -/
def Dev.heard (d : Dev) (now : Nat) : Dev := { d with silence := some now, lastFrame := now }

/-- The frame is one of the head's downstream frames (R263). -/
def downstream (f : Frame) : Bool :=
  match f.payload with
  | .adopt _ => true
  | .header _ => true
  | .keepalive _ _ => true
  | .commit _ => true
  | .reaction _ => true
  | .command _ => true
  | .stage _ => true
  | _ => false

/-- The frame reloads the bleed-silence timer (R233). -/
def reloads (f : Frame) : Bool := frameValid f && downstream f && decide (f.src = 0)

/-! ### Leaving UP (R247, R251, R285) -/

/-- The clock source after the receiver of port p has left good (R247). -/
def Dev.moveClock (d : Dev) (p : RPort) : Dev :=
  let was := (d.port p).clkSrc
  let d := d.modPort p (fun q => { q with clkSrc := false })
  if was ∧ (d.port (rportOther p)).rxGood then d.modPort (rportOther p) (fun q => { q with clkSrc := true }) else d

/-- The device takes the head role: its clock comes from the barrier, not from a ring port (R37, R246, R253). -/
def Dev.becomeHead (d : Dev) : Dev :=
  { d with
    role := .head
    portE := { d.portE with clkSrc := false }, portW := { d.portW with clkSrc := false } }

/-- The device works as a member: it takes its clock from a good receiver (R37, R38, R247). DESIGN CHOICE (log 161): of two
receivers that are already good, that of port E. -/
def Dev.becomeMember (d : Dev) : Dev :=
  let none' := !d.portE.clkSrc && !d.portW.clkSrc
  let e := none' && d.portE.rxGood
  let w := none' && !d.portE.rxGood && d.portW.rxGood
  { d with
    role := .member
    portE := { d.portE with clkSrc := d.portE.clkSrc || e }, portW := { d.portW with clkSrc := d.portW.clkSrc || w } }

/-- What stands at the transmitter of a port that leaves UP at `now`: the frame in passage is closed by K30.7 and K29.7, those
not begun leave it (R251, R285). -/
def PortSt.cut (q : PortSt) (now : Nat) : PortSt :=
  { q with
    busyUntil := min q.busyUntil now
    tx := (q.tx.filter (fun x => decide (x.at' ≤ now))).map (fun x =>
      if now < x.ends then { x with frame := { x.frame with hasError := true } } else x) }

/-- Port p leaves UP for state `st` at `now` (R251, R252, R285, R288); `quiet`: no sub-code is raised (R5, R259). Frames that
stood buffered or queued for the port turn back, or are discarded, as any frame that would be sent there. -/
def Dev.leaveUp (d : Dev) (p : RPort) (now : Nat) (st : PortState) (quiet : Bool) : Dev :=
  let q := d.port p
  let d := if q.degraded then (d.modPort p (fun q => { q with degraded := false })).ringLink false 2 p else d
  let raise := q.everUp && !q.held && !quiet
  let d := d.modPort p (fun q => { q with
    st := st, peerOk := false, okSets := 0, losses := q.losses + 1, leftUp := true, held := false, downAt := now
    upAll := false, lost := q.lost || raise, wrapped := q.wrapped || (d.adopted && !d.isHead && q.everUp) }.cut now)
  let d := (q.tx.filter (fun x => decide (now < x.at'))).reverse.foldl (fun (d : Dev) x => d.emit p now x.own x.frame) d
  if raise then d.ringLink true 1 p else d

/-! ### Link events (R249 to R252) -/

/-- CHARACTER_ALIGNMENT: clock recovery has locked and alignment is established; the port enters ACQUIRE (R249, R239). -/
def execCharacterAlignment (d : Nat) (p : RPort) (inverted : Bool) (s : State) : Out :=
  onS s d fun s =>
    let q := (s.dev d).port p
    if q.st = .down ∨ (q.st = .wake ∧ q.wakeAt = none) then
      s.modDev d (·.modPort p (fun q => { q with st := .acquire, invPol := inverted, okSets := 0, badSets := 0 }))
    else s

/-- RX_GOOD: 64 consecutive good idle-set periods (R249 item 3); a member's first good receiver is its clock source
(R247). -/
def execRxGood (d : Nat) (p : RPort) (s : State) : Out :=
  onS s d fun s =>
    let x := s.dev d
    if (x.port p).st = .acquire then
      let take := !x.isHead && !x.portE.clkSrc && !x.portW.clkSrc
      s.modDev d (·.modPort p (fun q => { q with rxGood := true, clkSrc := q.clkSrc || take }))
    else s

/-- LINK_UP: the peer is accepted after 16 sets (R249 item 4). The port is held where it had left UP since the last
adoption, is still wrapped, or leads to a device without a position (R288, log 36); a held port sends one link notice, and
the head's own triggers a Traverse (R277). -/
def execLinkUp (d : Nat) (p : RPort) (s : State) : Out :=
  onS s d fun s =>
    let x := s.dev d
    let q := x.port p
    if q.st ≠ .acquire ∨ q.rxGood = false ∨ q.okSets < 16 then s
    else
      let held := x.adopted && (q.leftUp || q.wrapped || (s.dev (s.peer d p)).pos.isNone)
      let fwd := 13500 + Config.forwardLatency d s.draws % 1501
      let s := { s with draws := s.draws + 1 }.modDev d (fun x =>
        let x := if q.lost then (x.modPort p (fun q => { q with lost := false })).ringLink false 1 p else x
        let x := x.modPort p (fun q => { q with st := .up, peerOk := true, held := held, everUp := true, fwd := fwd })
        if held then x.notice else x)
      if held ∧ d = 0 ∧ x.isHead then
        { s with trv := { s.trv with trigger := true, trigAt := s.now } }
      else s

/-- IDLE_SET: an idle set names the sending port and reports whether the peer's receiver is good (R242, R249 to R251). -/
def execIdleSet (d : Nat) (p : RPort) (peer : RPort) (good : Bool) (s : State) : Out :=
  onS s d fun s =>
    let q := (s.dev d).port p
    if q.st = .down ∨ q.st = .wake then s
    else
      let ok := decide (peer = rportOther p) && good
      let s := s.modDev d (fun x =>
        let x := if q.miswired ∧ peer ≠ p then
            (x.modPort p (fun q => { q with miswired := false })).ringLink false 3 p else x
        x.modPort p (fun q => { q with
          okSets := if ok then min (q.okSets + 1) 255 else 0, badSets := if good then 0 else min (q.badSets + 1) 255
          peerOk := ok && decide (1 ≤ q.okSets)
          miswiredAt := if peer = p then some (q.miswiredAt.getD s.now) else none }))
      if q.st = .up ∧ good = false ∧ 1 ≤ q.badSets then
        s.modDev d (·.leaveUp p s.now .acquire (s.quietLoss d p))
      else s

/-- RX_LOSS: 8 consecutive missed periods: RX is no longer good, and the port leaves UP (R250, R251). -/
def execRxLoss (d : Nat) (p : RPort) (s : State) : Out :=
  onS s d fun s =>
    let q := (s.dev d).port p
    if q.st = .up then
      s.modDev d (fun x => ((x.modPort p (fun q => { q with rxGood := false })).moveClock p).leaveUp p s.now .down
        (s.quietLoss d p))
    else if q.st = .acquire then
      s.modDev d (fun x => (x.modPort p (fun q => { q with
        rxGood := false, st := .down, downAt := s.now, okSets := 0, peerOk := false, miswiredAt := none })).moveClock p)
    else s

/-- MISWIRE_TIMEOUT: the peer has named the same port for 10 ms: RING_LINK 0x03 (R249, R252). -/
def execMiswireTimeout (d : Nat) (p : RPort) (s : State) : Out :=
  onS s d fun s =>
    let q := (s.dev d).port p
    match q.miswiredAt with
    | some t =>
      if q.miswired ∨ s.alone then s
      else (s.until (t + ms 10)).modDev d (fun x => (x.modPort p (fun q => { q with miswired := true })).ringLink true 3 p)
    | none => s

/-- LINK_DEGRADED: a rolling second ends with a number of missed periods: RING_LINK 0x02 is raised or cleared (R252,
R253). -/
def execLinkDegraded (d : Nat) (p : RPort) (missed : Nat) (s : State) : Out :=
  onS s d fun s =>
    let q := (s.dev d).port p
    let bad := decide (64 ≤ missed) && decide (q.st = .up) && q.upAll && !s.alone
    s.modDev d (fun x =>
      let x := x.modPort p (fun q => { q with
        missed := missed, kerr := q.kerrRun, kerrRun := 0, degraded := bad, upAll := decide (q.st = .up) })
      if bad = q.degraded then x else x.ringLink bad 2 p)

/-! ### Cut-through forwarding (R243, R244, R254, R255, R265, R285) -/

/-- The forwarded copy of a frame: a code error met here and a lost EOF are closed by K30.7 (R244). -/
def relayed (f : Frame) : Frame :=
  { f with hasError := f.hasError || decide (codeErrors f ≠ 0) || !f.framed, groups := [], framed := true }

/-- The copy of a frame that the device forwards, if it forwards it (R265). -/
def Dev.forwardCopy (d : Dev) (f : Frame) : Option Frame :=
  let f := relayed f
  if d.isHead ∨ f.dest = 0xFE then none
  else if f.dest = 0 then some f
  else if d.pos = some f.dest ∨ f.hops ≤ 1 then none
  else some (frameRelay f (f.hops - 1) f.wrap)

/-- Characters that a forwarded frame which arrives at `now` finds before it at the transmitter of a port (R255). -/
def PortSt.waits (q : PortSt) (now : Nat) : Nat := (q.startFor now - now) / 32

/-- FRAME_FORWARD: a frame arrives on a port and passes to the opposite one by cut-through, turns back where that port is
wrapped, or is taken in (R254, R265, R285). More than 2,080 characters waiting overflow the buffer (R255, log 37). -/
def execFrameForward (d : Nat) (p : RPort) (f : Frame) (s : State) : Out :=
  onS s d fun s =>
    let x := s.dev d
    if (x.port p).carries f = false then s
    else
      let x := x.modPort p (fun q => { q with kerrRun := q.kerrRun + codeErrors f })
      let x := if reloads f then x.heard s.now else x
      let y := rportOther p
      let full := decide (2080 < (x.port y).waits s.now)
      match x.forwardCopy f with
      | none => s.modDev d (fun _ => x)
      | some g =>
        let g := if full then { g with hasError := true } else g
        let x := x.emit y s.now false g
        s.modDev d (fun _ => if full ∧ s.alone = false then x.ringLink true 4 y else x)

/-! ### Start and stop of an S-die (R37, R485, R499, R500) -/

/-- An S-die starts at `now`: self-calibration begins, and both ports begin to acquire (R153, R249, R485). A stored Survey
table that fails its CRC is reported, and the default table runs (R133, R543). -/
def Dev.start (d : Dev) (now : Nat) (intact : Bool) : Dev :=
  let ok := d.sv.stored.isNone || (d.sv.storedOk && intact)
  let d := { d.afterReset with
    power := .awake, startAt := now, lastFrame := now
    portE := { downAt := now : PortSt }, portW := { downAt := now : PortSt } }
  if ok then d else (d.modSv (fun v => { v with storedOk := false })).report true 0x1A 2 0 0

/-- The S-die of slot d starts (R485, R500); whether its stored table is intact is a free value (log 163). -/
def State.startDev (s : State) (d : Nat) : State :=
  { s with draws := s.draws + 1 }.modDev d (·.start s.now (Config.tableIntact s.draws))

/-- Port p sends the wake pattern from `now` on (R258): a port that is UP leaves UP; acquisition starts anew afterwards. -/
def Dev.wakePort (d : Dev) (p : RPort) (now : Nat) (quiet : Bool) : Dev :=
  let d := if (d.port p).st = .up then d.leaveUp p now .wake quiet else d
  (d.modPort p (fun q => { q with
    st := .wake, wakeAt := some now, rxGood := false, peerOk := false, okSets := 0, badSets := 0, miswiredAt := none })).moveClock p

/-- Both ports send the wake pattern from `now` on (R258). -/
def Dev.sendWake (d : Dev) (now : Nat) (quiet : RPort → Bool) : Dev :=
  (d.wakePort .E now (quiet .E)).wakePort .W now (quiet .W)

/-- S_DIE_START: the stack rises above the start threshold (R485). -/
def execSDieStart (d : Nat) (s : State) : Out :=
  done s (if (s.dev d).power = .por then
    s.startDev d else s)

/-- S_DIE_STOP: the stack falls below the stop threshold; both ports leave UP (R256, R485). -/
def execSDieStop (d : Nat) (s : State) : Out :=
  done s (if (s.dev d).power = .por then s else s.modDev d (·.afterReset))

/-- ROLE_AT_POWER_UP: 20 ms after the S-die's reset it is the head where the reference clock and D1 are there (R37). -/
def execRoleAtPowerUp (d : Nat) (s : State) : Out :=
  onS s d fun s =>
    if (s.dev d).role ≠ .undetermined then s
    else
      let s := s.until ((s.dev d).startAt + ms 20)
      s.modDev d (fun x => if d = 0 ∧ x.d1 ∧ s.pw.refClock then x.becomeHead else x.becomeMember)

/-- WAKE_PATTERN_DETECTED: a DORMANT S-die starts and sends the pattern on both ports; an awake one that sends none itself
shows it on a port that is not UP (R257, R258). -/
def execWakePatternDetected (d : Nat) (p : RPort) (s : State) : Out :=
  let x := s.dev d
  done s (match x.power with
    | .dormant => (s.startDev d).modDev d (·.sendWake s.now (fun _ => true))
    | .awake => if ((x.port p).st = .down ∨ (x.port p).st = .acquire) ∧ x.portE.wakeAt = none ∧ x.portW.wakeAt = none then
        s.modDev d (fun x => (x.modPort p (fun q => { q with
          st := .wake, wakeAt := none, rxGood := false, peerOk := false, okSets := 0, miswiredAt := none })).moveClock p)
      else s
    | .por => s)

/-- WAKE_PATTERN_END: the pattern has been sent for 2.0 ms, or a pattern that an awake device detected ends; link acquisition
starts (R258). -/
def execWakePatternEnd (d : Nat) (s : State) : Out :=
  onS s d fun s =>
    let x := s.dev d
    match x.portE.wakeAt.or x.portW.wakeAt with
    | none =>
      let f (q : PortSt) : PortSt := if q.st = .wake then { q with st := .down, downAt := s.now } else q
      s.modDev d (fun x => { x with portE := f x.portE, portW := f x.portW })
    | some t =>
      let s := s.until (t + ms 2)
      let f (q : PortSt) : PortSt := match q.wakeAt with
        | some w => if w + ms 2 ≤ s.now then { q with st := .down, wakeAt := none, downAt := w } else q
        | none => q
      s.modDev d (fun x => { x with portE := f x.portE, portW := f x.portW })

/-- PORT_DOWN_WAKE: a port has stood DOWN for 1 s and sends the wake pattern (R500). -/
def execPortDownWake (d : Nat) (p : RPort) (s : State) : Out :=
  onS s d fun s =>
    let q := (s.dev d).port p
    if q.st = .down then
      let s := s.until (q.downAt + ms 1000)
      s.modDev d (·.modPort p (fun q => { q with st := .wake, wakeAt := some s.now }))
    else s

/-- S_DIE_SILENCE_DORMANT: no valid downstream frame for 60 s (R499). -/
def execSDieSilenceDormant (d : Nat) (s : State) : Out :=
  onS s d fun s =>
    let s := s.until ((s.dev d).lastFrame + ms 60000)
    s.modDev d (fun x => { x.goDormant s.now with dormantAt := none })

end Sys2Proof.Machine
end

