-- ==== Sys2Proof/Machine/Traverse.lean ====
section
/-!
DEFINITION. Traverse (R277 to R284): tokens, probes, passes, retries and the decision to adopt, and the training of D1.
-/

namespace Sys2Proof.Machine

/-! ### What the head originates (R32, R265) -/

/-- What the C-die sends over D1 reaches the S-die in slot 0 (R32, R34). -/
def State.d1Works (s : State) : Bool :=
  s.pw.running && s.pw.d1 && (s.dev 0).awake && (s.dev 0).d1 && !s.pw.lostLanes.contains .D1

/-- The C-die has a head S-die whose frames reach the ring (R2, R37). -/
def State.ringHead (s : State) : Bool := s.d1Works && (s.dev 0).isHead

/-- An adopted device is wrapped (R285, R286); the head never is. -/
def State.wrapped (s : State) : Bool :=
  (List.range s.trv.n).any (fun p => decide (p ≠ 0) && ((s.posTrack p).downE || (s.posTrack p).downW))

/-- Priority of a downstream frame (R266): COMMIT first. Tokens leave at once (log 50). -/
def downRank (f : Frame) : Nat :=
  match f.payload with
  | .commit _ => 0
  | .reaction _ => 1
  | .header _ => 2
  | .adopt _ => 3
  | .keepalive _ _ => 4
  | .command _ => 5
  | _ => 6

/-- Character periods of a sweep that downstream frames may take on a port: a quarter of the upstream window, or 320 while
the ring is wrapped (R72, R266). -/
def State.downBudget (s : State) : Nat := if s.wrapped then 320 else (s.periodNs - us 125) / 128

/-- A frame leaves the head on both ports (R265 item 3). -/
def State.sendDown (s : State) (f : Frame) : State := s.modDev 0 (fun x => (x.emit .E s.now true f).emit .W s.now true f)

/-- Puts a frame behind the waiting ones of its priority (R266). -/
def queueDown (f : Frame) : List Frame → List Frame
  | [] => [f]
  | g :: l => if downRank g ≤ downRank f then g :: queueDown f l else f :: g :: l

/-- The waiting frames that still fit into `room` character periods, in order, and the rest (R266). -/
def fitDown : Nat → List Frame → List Frame × List Frame
  | _, [] => ([], [])
  | room, f :: l =>
    let k := frameNs f / 32
    if k ≤ room then ((f :: (fitDown (room - k) l).1), (fitDown (room - k) l).2) else ([], f :: l)

/-- The waiting frames that fit into this sweep leave; the others wait for the next (R266; log 50). -/
def State.drainDown (s : State) : State :=
  if s.ringHead then
    let r := fitDown (s.downBudget - s.swp.downUsed) s.swp.downWait
    let k := (r.1.map (fun f => frameNs f / 32)).foldl (· + ·) 0
    r.1.foldl (fun s f => s.sendDown f) { s with swp := { s.swp with downWait := r.2, downUsed := s.swp.downUsed + k } }
  else { s with swp := { s.swp with downWait := [] } }

/-- A downstream frame of the head, with the next SEQ (R260): a COMMIT, a REACTION or a SWEEP_HEADER leaves at once, any
other within the share of R266. -/
def State.downFrame (s : State) (dest : Nat) (p : Payload) : State :=
  if s.ringHead then
    let hops := if s.trv.n = 0 then 31 else s.trv.n - 1
    let f := mkFrame dest 0 hops s.swp.seq p
    let s := { s with swp := { s.swp with seq := (s.swp.seq + 1) % 65536 } }
    if downRank f ≤ 2 then s.sendDown f
    else { s with swp := { s.swp with downWait := queueDown f s.swp.downWait } }.drainDown
  else s

/-- A frame over D1 reaches the head S-die: like every valid D1 frame it reloads the bleed-silence timer in hardware, and has
its effect where the core runs (R32, R233, R234). -/
def State.overD1 (s : State) (act : Dev → Dev) : State :=
  if s.d1Works then
    s.modDev 0 (fun d =>
      let d := d.heard s.now
      if d.coreReset.isNone then act d else d)
  else s

/-- SRC of a hop-local frame (R260). -/
def Dev.src (d : Dev) : Nat := d.pos.getD 0xFE

/-- A hop-local frame leaves the device by port p (R260, R263). -/
def Dev.hopFrame (d : Dev) (p : RPort) (now : Nat) (q : Payload) : Dev := d.emit p now true (mkFrame 0xFE d.src 0 0 q)

/-! ### Triggers (R277) -/

/-- A trigger of a Traverse (R277). -/
def State.triggerTraverse (s : State) : State := { s with trv := { s.trv with trigger := true, trigAt := s.now } }

/-- A Traverse ends with a RESULT (R441); a trigger that came before both final passes is served by it (R277). -/
def State.traverseEnd (s : State) (result : Nat) (retry : Bool) : State :=
  { s with trv := { s.trv with
      running := false, passOpen := false, due := false, result := result
      retryAt := if retry then some s.now else none
      trigger := s.trv.trigger && !decide (s.trv.trigAt < s.trv.prevAt ∧ 2 ≤ s.trv.pass) } }.event Ev.trav

/-- D1_TRAINED: the C-die orders the ring awake and triggers a Traverse (R258, R277 item 1, R496 item 5). An S-die that still
listens, within 20 ms of its start, takes the head role; a member keeps its role until its C-die originates a Traverse (R37,
R38, R487). -/
def execD1Trained (s : State) : Out :=
  onC s fun s =>
    let x := s.dev 0
    if x.awake = false ∨ (s.pw.d1 ∧ x.d1) then s
    else
      let head := decide (x.role = .undetermined) && s.pw.refClock && decide (s.now ≤ x.startAt + ms 20)
      let s := { s with pw := { s.pw with d1 := true, woken := true } }
      let s := s.modDev 0 (fun (x : Dev) =>
        let x := if head then x.becomeHead else x
        { x with d1 := true }.sendWake s.now (s.quietLoss 0))
      s.triggerTraverse

/-- D1_TRAINS_LATE: D1 trains after a member S-die has taken a position: it keeps the member role, and its position is
known to the C-die, which takes no head role until it originates a Traverse (R38). -/
def execD1TrainsLate (d : Nat) (s : State) : Out :=
  onC s fun s =>
    let x := s.dev d
    if d ≠ 0 ∨ x.awake = false ∨ x.role ≠ .member ∨ x.pos = none then s
    else ({ s with pw := { s.pw with d1 := true } }.modDev 0 (fun (x : Dev) => { x with d1 := true })).triggerTraverse

/-- TRAVERSE_RETRY_TIMER: 1 s after a Traverse ended unsettled or with two heads (R277 item 4). -/
def execTraverseRetryTimer (s : State) : Out :=
  onC s fun s =>
    match s.trv.retryAt with
    | some t =>
      let s := s.until (t + ms 1000)
      { s with trv := { s.trv with retryAt := none } }.triggerTraverse
    | none => s

/-! ### A pass (R278 to R280) -/

/-- Sends the token of the running pass out of a port that is UP (R278). -/
def State.sendToken (s : State) (p : RPort) : State :=
  let x := s.dev 0
  if (x.port p).st = .up then
    let t : Token := ⟨s.trv.trav, s.trv.pass, decide (p = .W), false, false, 0, Config.factoryId 0, 0, (x.port p).fwd, []⟩
    s.modDev 0 (·.hopFrame p s.now (.token t))
  else s

/-- TRAVERSE_START: at a boundary a Traverse, or its next pass, starts with tokens on both ports (R277, R278, R282). -/
def execTraverseStart (s : State) : Out :=
  onCore s fun s =>
    let r := s.trv
    if s.d1Works = false ∨ (s.dev 0).role = .undetermined ∨ r.due = false ∨ r.passOpen ∨ (r.running = false ∧ r.trigger = false)
    then s
    else
      let s := s.modDev 0 (·.becomeHead)
      let up (p : RPort) : Bool := decide (((s.dev 0).port p).st = .up)
      let r := { r with due := false, passOpen := true, sentE := up .E, sentW := up .W, backE := none, backW := none }
      let r := if r.running then { r with pass := r.pass + 1, prevAt := r.passAt, passAt := s.now }
        else { r with
          running := true, trigger := false, trav := (r.trav + 1) % 256, pass := 1, prev := none, retries := 0, result := 4
          retryAt := none, settled := false, prevAt := s.now, passAt := s.now }
      (({ s with trv := r }).sendToken .E).sendToken .W

/-- A token of another head reaches a device with a powered C-die: a Traverse in progress, and an adoption that has been
decided and has not taken effect, are abandoned; no device adopts a position (R4, R284 0x01; log 160). -/
def State.alienToken (s : State) : State :=
  let s := s.raiseOpenEv 0x0B 1 0 (openDetail 0x0B 1 0)
  if s.trv.running ∨ s.trv.adopting.isSome then
    ({ s with
      trv := { s.trv with adopting := none }
      devs := s.devs.map (fun (x : Dev) => { x with adoptMsg := none }) }).traverseEnd 2 true
  else s

/-- One of the head's own tokens returns on a port (R278). -/
def State.tokenBack (s : State) (t : Token) (p : RPort) : State :=
  let r := s.trv
  if r.passOpen ∧ t.trav = r.trav ∧ t.pass = r.pass then
    { s with trv := if t.dirW then { r with backW := r.backW.or (some (t, p)) }
        else { r with backE := r.backE.or (some (t, p)) } }
  else s

/-- A device takes a token on a port: the measurement of the hop begins with 16 probes (R278 item 1, R280). -/
def Dev.takeToken (d : Dev) (p : RPort) (now : Nat) (t : Token) : Dev :=
  let d := if d.tokPass = some (t.trav, t.pass) then d
    else { d with tokPass := some (t.trav, t.pass), hops := (none, none), lat := (none, none) }
  let d := d.modPort p (fun q => { q with waiting := some t, probes := [] })
  (List.range 16).foldl (fun (d : Dev) n => d.hopFrame p now (.probe n)) d

/-- TOKEN: a TOKEN arrives (R4, R38, R278). A member takes it; the head takes its own back. -/
def execToken (d : Nat) (p : RPort) (f : Frame) (s : State) : Out :=
  onS s d fun s =>
    match f.payload with
    | .token t =>
      let x := s.dev d
      let own := decide (t.headId = Config.factoryId 0)
      if frameValid f = false ∨ (x.port p).st ≠ .up then s
      else if d = 0 ∧ own = false ∧ s.pw.running then s.alienToken
      else if d = 0 ∧ own then (if s.upWorks then s.tokenBack t p else s)
      else if f.dest ≠ 0xFE then s
      else s.modDev d (fun (x : Dev) => x.becomeMember.takeToken p s.now t)
    | _ => s

/-- PROBE: the peer replies on the same hop and reports its turnaround, in 10 ps (R280). -/
def execProbe (d : Nat) (p : RPort) (f : Frame) (turnaround : Nat) (s : State) : Out :=
  onS s d fun s =>
    match f.payload with
    | .probe n =>
      if frameValid f = false ∨ ((s.dev d).port p).st ≠ .up ∨ f.dest ≠ 0xFE then s
      else s.modDev d (·.hopFrame p s.now (.probeReply n turnaround))
    | _ => s

/-- The latency of a hop in the direction of the token, in 10 ps (R280). -/
def hopLambda (l : List (Nat × Nat)) (fwd : Nat) : Nat :=
  (divRound (sumI (l.map (fun x => (x.1 : Int) - (x.2 : Int)))) 32 + (fwd : Int)).toNat

/-- The device record of slot d (R279). Only the head of this combination has a powered C-die (R3). -/
def State.tokenRec (s : State) (d h lambda : Nat) : TokenRec :=
  let x := s.dev d
  ⟨Config.factoryId d, h, decide (d = 0) && s.pw.vsup, x.coreReset.isSome, lambda, word x.portE.word, word x.portW.word⟩

/-- The measured token goes on: by the opposite port, or back with ENDED or OVER (R278 items 2 to 4). -/
def State.passToken (s : State) (d : Nat) (p : RPort) (t : Token) : State :=
  let x := s.dev d
  let y := rportOther p
  let lam := hopLambda (x.port p).probes t.fwd
  let h := t.h + 1
  let l := t.lsum + lam
  let x := { x.modPort p (fun q => { q with waiting := none, probes := [] }) with
    hops := if t.dirW then (x.hops.1, some h) else (some h, x.hops.2)
    lat := if t.dirW then (x.lat.1, some l) else (some l, x.lat.2) }
  let t := { t with h := h, lsum := l, recs := t.recs ++ [s.tokenRec d h lam] }
  let s := s.modDev d (fun _ => x)
  if (x.port y).st ≠ .up then
    s.modDev d (fun x => x.emit p s.now true (mkFrame 0 x.src 0 0 (.token { t with ended := true })))
  else if h = 31 ∧ s.peer d y ≠ 0 then
    s.modDev d (fun x => x.emit p s.now true (mkFrame 0 x.src 0 0 (.token { t with ovl := true })))
  else s.modDev d (·.hopFrame y s.now (.token { t with fwd := (x.port p).fwd }))

/-- PROBE_REPLY: a reply arrives; after the sixteenth the hop latency is computed and the token passed on (R278, R280). -/
def execProbeReply (d : Nat) (p : RPort) (f : Frame) (roundTrip : Nat) (s : State) : Out :=
  onS s d fun s =>
    match f.payload, ((s.dev d).port p).waiting with
    | .probeReply _ ta, some t =>
      if frameValid f = false ∨ ((s.dev d).port p).st ≠ .up ∨ f.dest ≠ 0xFE then s
      else
        let s := s.modDev d (·.modPort p (fun q => { q with probes := q.probes ++ [(roundTrip, ta)] }))
        if ((s.dev d).port p).probes.length < 16 then s else s.passToken d p t
    | _, _ => s

/-! ### The result of a pass (R281, R282) -/

/-- The records of a returned token carry the hop counts of their order. -/
def hopsInOrder (l : List TokenRec) : Bool := decide (l.map (·.dh) = (List.range l.length).map (· + 1))

/-- A token that ended returned on the port it left by, one that went round on the opposite port. -/
def backAs (x : Option (Token × RPort)) (p : RPort) (ended : Bool) : Bool :=
  match x with
  | some (t, q) => decide (t.ended = ended) && decide (q = p)
  | none => false

/-- The result of the running pass (R281). -/
def State.passResult (s : State) : PassResult :=
  let r := s.trv
  let recs (x : Option (Token × RPort)) : List TokenRec := match x with
    | some (t, _) => t.recs
    | none => []
  let le := recs r.backE
  let lw := recs r.backW
  let ovl := [r.backE, r.backW].any (fun x => match x with
    | some (t, _) => t.ovl
    | none => false)
  let ordered := hopsInOrder le && hopsInOrder lw
  let closed := backAs r.backE .W false && backAs r.backW .E false
    && decide (le.map (·.id) = (lw.map (·.id)).reverse) && ordered
  let opened := (!r.sentE || backAs r.backE .E true) && (!r.sentW || backAs r.backW .W true)
    && !(le.any (fun a => lw.any (fun b => decide (a.id = b.id)))) && ordered
  let n := if closed then 1 + le.length else 1 + le.length + lw.length
  let at' (p : Nat) : Option TokenRec × Option TokenRec :=
    if p = 0 ∨ n ≤ p then (none, none) else (le[p - 1]?, lw[n - p - 1]?)
  let ps := List.range n
  let sum (l : List TokenRec) (k : Nat) : Nat := (l.take k).foldl (fun a x => a + x.lambda) 0
  let one (p : Nat) : Option TokenRec := (at' p).1.or (at' p).2
  let self : TokenRec := s.tokenRec 0 0 0
  { valid := closed || opened, ovl := ovl, n := n, closed := closed
    ids := ps.map (fun p => ((one p).getD self).id)
    hopsE := ps.map (fun p => if (at' p).1.isSome then p else 0)
    hopsW := ps.map (fun p => if (at' p).2.isSome then n - p else 0)
    lambdas := ps.map (fun p => (((at' p).1.map (·.lambda)).getD 0, ((at' p).2.map (·.lambda)).getD 0))
    latE := ps.map (fun p => if (at' p).1.isSome then sum le p else 0)
    latW := ps.map (fun p => if (at' p).2.isSome then sum lw (n - p) else 0)
    dflags := ps.map (fun p => let x := (one p).getD self; b2n x.cPowered + 2 * b2n x.coreHalted)
    links := ps.map (fun p => let x := (one p).getD self; (x.linkE, x.linkW)) }

/-- Two latencies within 0.20 ns (R282). -/
def within20 (a b : Nat) : Bool := decide (a ≤ b + 20 ∧ b ≤ a + 20)

/-- `same` of R282. -/
def PassResult.same (x y : PassResult) : Bool :=
  decide (x.n = y.n ∧ x.closed = y.closed ∧ x.ids = y.ids ∧ x.hopsE = y.hopsE ∧ x.hopsW = y.hopsW)
    && (x.lambdas.zip y.lambdas).all (fun z => within20 z.1.1 z.2.1 && within20 z.1.2 z.2.2)

/-- An ADOPT waits for the next sweep (R266). -/
def State.adoptWaits (s : State) : Bool := s.swp.downWait.any (fun f => decide (frameType f.payload = 4))

/-- The Traverse settles: ADOPT for the last pass goes out, with s_a two sweeps after the one in which it is sent: one more
where it does not fit into this one (R266, R282, R283). -/
def State.settle (s : State) (cur : PassResult) : State :=
  let ids := (List.range 32).map (fun i => cur.ids.getD i 0)
  let adopt (sa : Nat) : AdoptMsg := ⟨s.trv.trav, cur.n, cur.closed, sa, ids⟩
  let send (sa : Nat) : State := s.downFrame 0xFF (.adopt (adopt (sa % 2 ^ 32)))
  let sa := if (send (s.sweep + 2)).adoptWaits then s.sweep + 3 else s.sweep + 2
  let s := (send sa).modDev 0 (fun (x : Dev) => { x with adoptMsg := some (adopt sa) })
  { s with trv := { s.trv with adopting := some (adopt sa, cur) } }.traverseEnd 0 false

/-- TRAVERSE_PASS_END: both tokens have returned, or 20 ms have passed (R278): the result is formed and compared, and the
Traverse goes on, settles or ends unsettled (R281, R282, R284). -/
def execTraversePassEnd (s : State) : Out :=
  onCore s fun s =>
    let r := s.trv
    if r.passOpen = false then s
    else
      let whole := (!r.sentE || r.backE.isSome) && (!r.sentW || r.backW.isSome)
      let s := if whole then s else s.until (r.passAt + ms 20)
      let cur := s.passResult
      let cur := { cur with valid := cur.valid && whole }
      let s := { s with trv := { r with passOpen := false, prev := some cur } }
      if cur.ovl ∨ (cur.valid ∧ 32 < cur.n) then
        (s.traverseEnd 3 false).raiseOpenEv 0x0B 3 0 (openDetail 0x0B 3 0)
      else
        match r.prev with
        | none => s
        | some prev =>
          if prev.valid ∧ cur.valid ∧ prev.same cur then s.settle cur
          else
            let s := { s with trv := { s.trv with retries := r.retries + 1 } }
            if r.retries + 1 = 8 then (s.traverseEnd 1 true).raiseOpenEv 0x0B 2 0 (openDetail 0x0B 2 0) else s

end Sys2Proof.Machine
end

