-- ==== Sys2Proof/Machine/Downstream.lean ====
section
/-!
DEFINITION. Downstream frames at the devices (R233, R264, R265): ADOPT, SWEEP_HEADER, KEEPALIVE, COMMIT, REACTION, COMMAND
and STAGE, and what each does at an S-die, by the ring or over D1.
-/

namespace Sys2Proof.Machine

/-! ### Reception (R262, R265 item 3) -/

/-- The frame is a downstream frame that the device at this port acts on: valid, carried by the port, from position 0,
addressed to it, the first copy of its SEQ (the other copy may arrive after the boundary), and the core runs. -/
def Dev.actsOn (d : Dev) (p : RPort) (f : Frame) : Bool :=
  frameValid f && (d.port p).carries f && !d.isHead && decide (f.src = 0)
    && (decide (f.dest = 0xFF) || decide (d.pos = some f.dest)) && !(d.seen ++ d.seenLast).contains f.seq && d.coreReset.isNone

/-- A downstream frame arrives: it reloads the silence timer with the core halted or not (R233), and the first valid copy
that addresses the device has its effect. -/
def Dev.receive (d : Dev) (p : RPort) (f : Frame) (now : Nat) (act : Dev → Dev) : Dev :=
  let acts := d.actsOn p f
  let d := if reloads f ∧ (d.port p).carries f then d.heard now else d
  if acts then act { d with seen := f.seq :: d.seen } else d

/-! ### What each frame does at a device -/

/-- ADOPT: the adoption is held for its sweep s_a (R283). -/
def Dev.getAdopt (d : Dev) (a : AdoptMsg) : Dev :=
  { d with adoptMsg := some { a with sa := unwrap d.sweep (2 ^ 32) a.sa } }

/-- The epoch that the device will run once the records it holds are applied. -/
def Dev.epochDue (d : Dev) : Nat :=
  d.commitPend.foldl (fun e c => if epochNewer c.epoch e then c.epoch else e) d.epoch

/-- Epochs after `a` up to `b` under the wrap of 16 bits. -/
def epochsAfter (a b : Nat) : List Nat := (List.range ((b + 65536 - a) % 65536)).map (fun i => (a + 1 + i) % 65536)

/-- SWEEP_HEADER: it is held for the boundary it announces. A device with a position that holds no record for an epoch it
names is late, and reports CONFIG 0x01 with that epoch (R68, R543); one without a position takes epoch and period from it.
A header that names an earlier sweep is that of a C-die that has started anew: its epoch is taken as it stands (log 40). -/
def Dev.getHeader (d : Dev) (h : HeaderMsg) : Dev :=
  let back := decide (unwrap (d.sweep + 1) (2 ^ 32) h.sweep ≤ d.sweep)
  let d := { d with header := some h }
  let d := if back then { d with recount := true, epoch := h.epoch, late := [], commitPend := [] } else d
  if d.pos.isNone then { (d.setPeriod (d.sweep + 1) (h.period % 8)) with epoch := h.epoch }
  else
    let e := d.epochDue
    if epochNewer h.epoch e then
      ((epochsAfter e h.epoch).filter (fun x => !d.late.contains x)).foldl (fun (d : Dev) x =>
        { d.report true 0x1A 1 0 (word x) with late := d.late ++ [x] }) d
    else d

/-- COMMIT: the record is held for its sweep; one that is already applied or held is ignored (R66, R68). -/
def Dev.getCommit (d : Dev) (c : CommitMsg) : Dev :=
  if d.commitPend.any (fun x => decide (x.epoch = c.epoch)) then d
  else if d.late.contains c.epoch || decide (c.epoch ≠ d.epoch) then
    { d with commitPend := d.commitPend ++ [{ c with sweep := unwrap d.sweep (2 ^ 32) c.sweep }] }
  else d

/-- REACTION: the record is held for the next boundary (R69). -/
def Dev.getReaction (d : Dev) (c : CommitMsg) : Dev := { d with reactPend := d.reactPend ++ [c] }

/-- COMMAND: a spot reading joins those that wait (R148). -/
def Dev.getCommand (d : Dev) (c : CommandMsg) : Dev :=
  match c with
  | .spot slot e => d.modSv (fun v => { v with spots := v.spots ++ [⟨slot, e⟩] })
  | .other _ _ => d

/-- Every byte of the object has arrived. -/
def StageBuf.whole (b : StageBuf) : Bool := (List.range b.total).all (fun i => b.got.any (fun g => decide (g.1 ≤ i ∧ i < g.1 + g.2)))

/-- STAGE bytes join a buffer; a new object of the kind replaces the old one. -/
def Dev.stageInto (d : Dev) (m : StageMsg) : StageBuf :=
  let fresh : StageBuf := ⟨m.object, m.total, m.crc, [], [], false⟩
  let b := match d.staging.find? (fun b => decide (b.object = m.object)) with
    | some b => if b.total = m.total ∧ b.crc = m.crc ∧ b.verified = false then b else fresh
    | none => fresh
  { b with
    mem := m.data.zipIdx.foldl (fun c x => smapPut 0#8 c (m.offset + x.2) x.1) b.mem
    got := (m.offset, m.data.length) :: b.got }

/-- Bytes of an S-die firmware slot (R480). -/
abbrev slotBytes : Nat := 114688

/-- STAGE: object bytes; the whole object is verified by CRC and acknowledged: 0x01 verified, 0x02 failed; an object that
no slot holds is refused, 0x03 (R67, R143, R269, R480). Answers the device and the acknowledgement. -/
def Dev.getStage (d : Dev) (m : StageMsg) : Dev × Option (Nat × Word) :=
  if slotBytes < m.total ∨ m.total < m.offset + m.data.length then (d, some (3, 0))
  else
    let b := d.stageInto m
    let rest := d.staging.filter (fun x => decide (x.object ≠ m.object))
    if b.whole = false then ({ d with staging := rest ++ [b] }, none)
    else
      let crc := word (crc32c b.bytes)
      if crc ≠ m.crc then ({ d with staging := rest }, some (2, crc))
      else if m.object = 3 then ({ d with staging := rest, newSlot := some crc }, some (1, crc))
      else ({ d with staging := rest ++ [{ b with verified := true }] }, some (1, crc))

/-- STAGE at a member: the acknowledgement waits for upstream transmission (R268). -/
def Dev.stageFrame (d : Dev) (seq : Nat) (m : StageMsg) : Dev :=
  let r := d.getStage m
  match r.2 with
  | some (st, crc) => r.1.ack seq 0x15 st crc
  | none => r.1

/-! ### The commands -/

/-- ADOPT: an ADOPT frame arrives (R283). -/
def execAdopt (d : Nat) (p : RPort) (f : Frame) (s : State) : Out :=
  onS s d fun s =>
    match f.payload with
    | .adopt a => s.modDev d (fun x => x.receive p f s.now (·.getAdopt a))
    | _ => s

/-- SWEEP_HEADER: the number of the sweep and the epoch that begin at the next boundary (R55, R68, R264). -/
def execSweepHeader (d : Nat) (p : RPort) (f : Frame) (s : State) : Out :=
  onS s d fun s =>
    match f.payload with
    | .header h => s.modDev d (fun x => x.receive p f s.now (·.getHeader h))
    | _ => s

/-- KEEPALIVE: it reloads the bleed-silence timer (R233). -/
def execKeepalive (d : Nat) (p : RPort) (f : Frame) (s : State) : Out :=
  onS s d fun s =>
    match f.payload with
    | .keepalive _ _ => s.modDev d (fun x => x.receive p f s.now id)
    | _ => s

/-- COMMIT: a commit record arrives (R66). -/
def execCommit (d : Nat) (p : RPort) (f : Frame) (s : State) : Out :=
  onS s d fun s =>
    match f.payload with
    | .commit c => s.modDev d (fun x => x.receive p f s.now (·.getCommit c))
    | _ => s

/-- REACTION: reaction records arrive (R69). -/
def execReaction (d : Nat) (p : RPort) (f : Frame) (s : State) : Out :=
  onS s d fun s =>
    match f.payload with
    | .reaction c => s.modDev d (fun x => x.receive p f s.now (·.getReaction c))
    | _ => s

/-- COMMAND: a command frame arrives at its device, and is acted on once per SEQ (R265). -/
def execCommand (d : Nat) (p : RPort) (f : Frame) (s : State) : Out :=
  onS s d fun s =>
    match f.payload with
    | .command c => s.modDev d (fun x => x.receive p f s.now (·.getCommand c))
    | _ => s

/-- STAGE: object bytes arrive; the complete object is verified and acknowledged (R67). -/
def execStage (d : Nat) (p : RPort) (f : Frame) (s : State) : Out :=
  onS s d fun s =>
    match f.payload with
    | .stage m => s.modDev d (fun x => x.receive p f s.now (·.stageFrame f.seq m))
    | _ => s

/-- KEEPALIVE_SEND: every 10.000 ms of crystal time, on both ports and over D1 (R234, R267). -/
def execKeepaliveSend (s : State) : Out :=
  onC s fun s =>
    let s := s.until (s.pw.startAt + (s.now - s.pw.startAt + ms 10 - 1) / ms 10 * ms 10)
    let s := s.downFrame 0xFF (.keepalive (s.sweep % 2 ^ 32) ((s.now - s.swp.boundary) / 1000))
    s.overD1 id

end Sys2Proof.Machine
end

