-- ==== Sys2Proof/Machine/Staging.lean ====
section
/-!
DEFINITION. Staging at the head (R67, R143, R264, R283 item 6, R474, R480): bulk objects sent to the devices they address,
their acknowledgements, and what lands once every device has verified.
-/

namespace Sys2Proof.Machine

/-! ### Paths to a position (R276, R285, R286) -/

/-- The path from the head's port E to position p holds a port reported down. -/
def State.cutE (s : State) (p : Nat) : Bool :=
  (List.range p).any (fun q => (s.posTrack q).downE || (s.posTrack (q + 1)).downW)

/-- The path from the head's port W to position p holds a port reported down. -/
def State.cutW (s : State) (p : Nat) : Bool :=
  (s.posTrack 0).downW
    || (List.range (s.trv.n - p)).any (fun i => (s.posTrack (p + i)).downE)
    || (List.range (s.trv.n - p - 1)).any (fun i => (s.posTrack (p + 1 + i)).downW)

/-- The reports place the position beyond a down port in both directions (R276). -/
def State.cutOff (s : State) (p : Nat) : Bool := decide (p ≠ 0) && s.cutE p && s.cutW p

/-- The head cannot reach the position: it is silent, or cut off in both directions (R276, R287). -/
def State.unreachable (s : State) (p : Nat) : Bool := decide (p ≠ 0) && ((s.posTrack p).silent || s.cutOff p)

/-! ### Objects (R264) -/

/-- Position to which an index of a position field belongs (R81, R112, R216, R290); none for the Chassis groups. -/
def fieldPos (fid idx : Nat) : Option Nat :=
  if fid = Fld.convRtap then some (idx / 25)
  else if fid = Fld.win then (if idx < 288 then some (idx / 9) else none)
  else if fid = Fld.balRb then some (idx / 24)
  else if fid = Fld.thCfg then some (idx / 32)
  else none

/-- The position fields of position p in a change. -/
def fieldsOfPos (m : SMap Nat) (p : Nat) : SMap Nat := m.filter (fun e => decide (fieldPos (e.1 / 65536) (e.1 % 65536) = some p))

/-- Every position field of position p as the active image holds it (R283 item 6); a WIN value carries the s0 that the head
holds for the group above its 16 bits (R113). -/
def State.positionFields (s : State) (p : Nat) : SMap Nat :=
  ([(Fld.convRtap, 25), (Fld.win, 9), (Fld.balRb, 24), (Fld.thCfg, 32)].flatMap (fun x =>
    (List.range x.2).map (fun i => (x.1, x.2 * p + i)))).foldl
    (fun m x =>
      let s0 := if x.1 = Fld.win then 65536 * ((s.posWin p (x.2 % 9)).s0 % 2 ^ 32) else 0
      smapSet m (fieldKey x.1 x.2) (s.par x.1 x.2 + s0)) []

/-- Groups of position p whose window length a change holds. -/
def winGroups (m : SMap Nat) (p : Nat) : List Nat :=
  ((fieldsOfPos m p).filter (fun e => decide (e.1 / 65536 = Fld.win))).map (fun e => e.1 % 65536 % 9)

/-- The bytes of a bulk object for position p: a Survey table, the position fields as field records (a WIN record of the
head's own staging with its s0, log 14), or a firmware image. -/
def Bulk.objectBytes (b : Bulk) (p : Nat) : List Byte :=
  if b.object = 1 then wordsToBytes b.table
  else if b.object = 2 then
    (fieldsOfPos b.change p ++ (bif b.own then b.change.filter (fun e => deviceField (e.1 / 65536)) else [])).flatMap (fun e =>
      let fid := e.1 / 65536
      let idx := e.1 % 65536
      if fid = Fld.win ∧ b.own then recOf fid idx 6 e.2 else recOf fid idx (fieldWidth fid) e.2)
      ++ [0, 0]
  else b.bytes

/-- An object cut into STAGE payloads (R260, R264), short enough for the 320 character periods of a wrapped ring (R266;
log 50). -/
def stageMsgs (object : Nat) (b : List Byte) : List StageMsg :=
  let crc := word (crc32c b)
  (List.range ((b.length + 255) / 256)).map (fun i =>
    StageMsg.mk object (256 * i) b.length crc ((b.drop (256 * i)).take 256))

/-! ### Sending and acknowledgement -/

/-- Changes bulk operation i. -/
def State.modBulk (s : State) (i : Nat) (f : Bulk → Bulk) : State := { s with leg := { s.leg with bulk := modAt s.leg.bulk i f } }

/-- A position has answered for a staged object (R269): verified, or failed once more. -/
def Bulk.answered (b : Bulk) (p status : Nat) : Bulk :=
  let b := { b with sent := b.sent.filter (fun x => decide (x.1 ≠ p)) }
  if status = 1 then { b with need := b.need.filter (· ≠ p), ok := b.ok ++ [p] } else { b with fails := p :: b.fails }

/-- Bulk operation i is sent to position p where p still needs it, can be reached, and takes no other object of the kind. Over D1
its frames reload the bleed-silence timer as every valid frame does (R233). -/
def State.stageTo (s : State) (i p : Nat) : State :=
  match s.leg.bulk[i]? with
  | none => s
  | some b =>
    let busy := s.leg.bulk.any (fun x => decide (x.object = b.object) && x.sent.any (fun y => decide (y.1 = p)))
    if b.need.contains p = false ∨ busy ∨ s.adopted p = false ∨ s.unreachable p then s
    else
      let msgs := stageMsgs b.object (b.objectBytes p)
      if p = 0 then
        (if s.d1Works ∧ (s.dev 0).coreReset.isNone then
          let r := msgs.foldl (fun (x : Dev × Nat) m =>
            let y := x.1.getStage m
            (y.1, (y.2.map (·.1)).getD x.2)) ((s.dev 0).heard s.now, 2)
          (s.modDev 0 (fun _ => r.1)).modBulk i (fun (b : Bulk) => b.answered 0 r.2)
        else s)
      else if s.ringHead then
        let q := s.swp.seq
        let s := msgs.foldl (fun s m => s.downFrame p (.stage m)) s
        s.modBulk i (fun (b : Bulk) => { b with
          sent := b.sent ++ (List.range msgs.length).map (fun j => (p, (q + j) % 65536)) })
      else s

/-- What lands when a bulk operation has verified everywhere: activations by position (R67, R143, R474). -/
def Bulk.landing (b : Bulk) : List Landed :=
  match b.object with
  | 1 => [.survey b.ok]
  | 2 => b.ok.map (fun p => Landed.position p (if b.own then [] else winGroups b.change p))
  | _ => []

/-- A commit that fails leaves staged what it had taken, where its host still holds the LEGEND semaphore (R435, R462,
R474); what was staged meanwhile stands over it. -/
def State.restoreStaged (s : State) (b : Bulk) : State :=
  if s.sems.getD 0 none = some b.host then
    { s with leg := { s.leg with staged := overFields b.staged s.leg.staged, loaded := s.leg.loaded.or b.loaded } }
  else s

/-- A position's third failed staging ends a bulk operation: "CRC" naming the position, and nothing is activated (R444,
R474); a firmware update has failed. -/
def State.bulkFail (s : State) (b : Bulk) (p : Nat) : State :=
  if b.object = 3 then
    ({ s with leg := { s.leg with fw := s.leg.fw.map (fun (f : FwUpdate) => { f with step := 6 }) } }).event Ev.fwupd
  else if b.own then s
  else
    let s := if b.object = 2 then s.restoreStaged b else s
    s.refuse b.host b.pair (if b.object = 1 then 0x0105 else 0x0304) b.tag St.crc p 0

/-- The CRC of the image copy that is not active. -/
def State.otherCrc (s : State) : Nat := if s.leg.useB then s.leg.copyA.crc else s.leg.copyB.crc

/-- A bulk operation lands (R67, R143, R473, R474, R480). -/
def State.bulkLand (s : State) (b : Bulk) : State :=
  let eff := s.effect
  if b.object = 3 then
    ({ s with leg := { s.leg with fw := s.leg.fw.map (fun (f : FwUpdate) => { f with step := 4 }) } }).event Ev.fwupd
  else if b.object = 1 then
    let s := s.land (.survey b.ok)
    if b.own then s
    else
      let s := { s with leg := { s.leg with tables := b.ok.foldl (fun m p => smapSet m p b.table) s.leg.tables } }
      s.respond b.host b.pair 0x0105 b.tag St.ok (leBytes 4 eff)
  else
    let v := s.nextVersion
    let s := if b.own then s else s.landChange b.change (hostNum b.host) (s.levelOf b.host) true b.drop
    let s := b.landing.foldl (fun s x => s.land x) s
    if b.own then s
    else s.respond b.host b.pair 0x0304 b.tag St.ok (leBytes 4 eff ++ leBytes 2 v ++ [0, 0] ++ leBytes 4 s.otherCrc)

/-- The settings of a bulk operation fit into the commit record that is forming (R67). -/
def State.bulkFits (s : State) (b : Bulk) : Bool :=
  let own : List Landed := if b.own || decide (b.object ≠ 2) then [] else [.legend ⟨b.change, 0, 0, 0, true, []⟩]
  decide (settingsSize (s.recordWith ((own ++ b.landing).flatMap (landedSettings s.effect))) ≤ 1008)

/-- Settles one bulk operation: failed, landed, or still under way. Answers what is kept. -/
def State.settleBulk (s : State) (b : Bulk) : State × List Bulk :=
  let s := if b.object = 3 then
      { s with leg := { s.leg with fw := s.leg.fw.map (fun (f : FwUpdate) => { f with posOk := maskOf b.ok }) } }
    else s
  match b.fails.find? (fun p => decide (3 ≤ b.fails.count p)) with
  | some p => (s.bulkFail b p, [])
  | none => if b.need = [] ∧ s.bulkFits b then (s.bulkLand b, []) else (s, [b])

/-- Every bulk operation is settled as it stands. -/
def State.settleBulks (s : State) : State :=
  let l := s.leg.bulk
  let r := l.foldl (fun (x : State × List Bulk) b =>
    let y := x.1.settleBulk b
    (y.1, x.2 ++ y.2)) (s, [])
  { r.1 with leg := { r.1.leg with bulk := r.2 } }

/-- Staging goes on wherever it can: objects lost beyond a break are sent again, and what is complete lands. -/
def State.stageDue (s : State) : State :=
  let l := s.leg.bulk.map (fun (b : Bulk) => { b with
    need := b.need.filter s.adopted, sent := b.sent.filter (fun x => !s.unreachable x.1 && s.adopted x.1) })
  let s := { s with leg := { s.leg with bulk := l } }
  ((List.range l.length).foldl (fun s i => (List.range 32).foldl (fun s p => s.stageTo i p) s) s).settleBulks

/-- An acknowledgement of a staged object reaches the head from position p (R269). -/
def State.stageAck (s : State) (p seq status : Nat) : State :=
  let l := s.leg.bulk.map (fun (b : Bulk) => if b.sent.contains (p, seq) then b.answered p status else b)
  if l = s.leg.bulk then s else { s with leg := { s.leg with bulk := l } }.stageDue

/-- A new bulk operation begins (R67). -/
def State.startBulk (s : State) (b : Bulk) : State := ({ s with leg := { s.leg with bulk := s.leg.bulk ++ [b] } }).stageDue

/-- A host's bulk operation of this kind is under way. -/
def State.staging (s : State) (object : Nat) : Bool := s.leg.bulk.any (fun b => decide (b.object = object) && !b.own)

/-- The head stages what a newly adopted identity needs: the position fields, the device fields that the active image
holds, and the Survey table that it holds for the position (R283 item 6, log 38, log 39). -/
def State.stageOwn (s : State) (p : Nat) : State :=
  let own := s.leg.active.fields.filter (fun e => deviceField (e.1 / 65536) && decide (e.1 / 65536 ≠ Fld.regSwp))
  let f : Bulk := ⟨2, .A, 0, 0, [p], [], [], [], true, [], [], overFields (s.positionFields p) own, [], [], none⟩
  let t := match smapGet s.leg.tables p with
    | some t => [({ f with object := 1, table := t, change := [] } : Bulk)]
    | none => []
  { s with leg := { s.leg with bulk := s.leg.bulk ++ (f :: t) } }

end Sys2Proof.Machine
end

