-- ==== Sys2Proof/Machine/Upstream.lean ====
section
/-!
DEFINITION. Upstream items (R268 to R276): what a member sends in a sweep, and what the head does with each item and with
frames that are missing.
-/

namespace Sys2Proof.Machine

/-! ### Sending (R268, R270, R271) -/

/-- The entry item of a backlog element (R268). -/
def Backlog.item (b : Backlog) : Item := Item.mk b.record (b.close % 256) (.entry b.entry)

/-- Spot results that may go out: those of an earlier sweep (R151). -/
def Dev.spotReady (d : Dev) : List Item := d.spotItems.filter (fun i => decide (i.tag ≠ d.sweep % 256))

/-- The report of a bleed-silence expiry, which goes out until a frame with it has reached a head (R235; log 34). -/
def Dev.silenceItems (d : Dev) : List Item :=
  match d.silenceRep with
  | some n => [Item.mk 0xC2 1 (.event 0x0C 2 0 n 0 0)]
  | none => []

/-- Every item that waits, in the order of R270. -/
def Dev.outItems (d : Dev) : List Item :=
  d.acks ++ d.events ++ d.silenceItems ++ d.notices ++ d.spotReady ++ d.sndItems ++ d.backlog.map (·.item)

/-- Entries whose CLOSE lies 200 or more sweeps back are discarded (R271). -/
def Dev.dropOld (d : Dev) : Dev := { d with backlog := d.backlog.filter (fun b => decide (d.sweep < b.close + 200)) }

/-- The first k waiting items have been sent. -/
def Dev.dropSent (d : Dev) (k : Nat) : Dev :=
  let k1 := k - d.acks.length
  let k2 := k1 - d.events.length - d.silenceItems.length
  let k3 := k2 - d.notices.length
  let k4 := k3 - d.spotReady.length
  let k5 := k4 - d.sndItems.length
  { d with
    acks := d.acks.drop k, events := d.events.drop k1, notices := d.notices.drop k2
    spotItems := d.spotItems.drop (min k3 d.spotReady.length), sndItems := d.sndItems.drop k4, backlog := d.backlog.drop k5 }

/-- The port on which the Meridian in use arrives (R61, R268): that of the head's port W comes in by port E. -/
def Dev.itemPort (d : Dev) : RPort := if d.useW then .E else .W

/-- A list cut into pieces of 56 items (R268). -/
def pieces (l : List Item) : List (List Item) := (List.range ((l.length + 55) / 56)).map (fun i => (l.drop (56 * i)).take 56)

/-- Sends frames of items from `now` on; a frame that would not end by B + P - 100 µs is not started, nor is one after it
(R270). Answers the device and the number of items sent. -/
def Dev.sendFrames (d : Dev) (now pos : Nat) : List (List Item) → Dev × Nat
  | [] => (d, 0)
  | l :: rest =>
    let f := mkFrame 0 pos 0 d.itemSeq (.items l)
    let begin' := max now (d.port d.itemPort).busyUntil
    if d.lastB + d.periodNs' - us 100 < begin' + frameNs f then (d, 0)
    else
      let d := { d.emit d.itemPort now true f with itemSeq := (d.itemSeq + 1) % 65536 }
      let r := d.sendFrames now pos rest
      (r.1, l.length + r.2)

/-- The items of a sweep leave a member of position `pos`; with nothing to send, one alive item (R270). -/
def Dev.sendItems (d : Dev) (now pos : Nat) : Dev :=
  let out := d.outItems
  if out = [] then (d.sendFrames now pos [[Item.mk 0xC5 0 .alive]]).1
  else
    let r := d.sendFrames now pos (pieces (out.take d.quota))
    r.1.dropSent r.2

/-! ### Items at the head -/

/-- CLOSE of an entry item: the latest sweep, not later than the running one, whose low 8 bits match (R268). -/
def fullClose (n tag : Nat) : Nat := n - (n + 256 - tag % 256) % 256

/-- The answer to a pending spot reading is on its way to the response queue: the event message of R445. The reading is
pending until its message is placed (R147); a message that is discarded ends it too. -/
def State.spotAnswer (s : State) (x : SpotSlot) (slot status sweep instant : Nat) (e : List Byte) : State :=
  let n := (s.port x.host).staged.length
  let s := s.eventMsg x.host x.pair 0x8106 x.tag status
    (leBytes 1 x.pos ++ leBytes 1 slot ++ leBytes 1 (eChan x.entry) ++ [0] ++ leBytes 4 sweep ++ leBytes 4 instant ++ e)
  { s with der := { s.der with spots := modAt s.der.spots slot (fun _ =>
      if (s.port x.host).staged.length = n then none else some { x with answered := true }) } }

/-- A spot result that completed in sweep `close`, `instant` µs after its boundary, reaches the head from position p (R151):
the result of a reading that was reported lost before is discarded (log 159). -/
def State.spotArrived (s : State) (p slot close instant : Nat) (e : List Byte) : State :=
  match (s.der.spots.getD slot none) with
  | none => s
  | some x =>
    if x.pos ≠ p ∨ x.answered ∨ s.boundaryAt close + us (instant + 1) ≤ x.acceptAt then s
    else if 0 < x.stale then
      { s with der := { s.der with spots := modAt s.der.spots slot (fun _ => some { x with stale := x.stale - 1 }) } }
    else s.spotAnswer x slot St.ok (close % 2 ^ 32) instant e

/-- A late device asks for a commit record by its epoch: the record goes out again, a COMMIT frame after the upstream window
(R68, R266). -/
def State.resend (s : State) (p epoch : Nat) : State :=
  match s.swp.sentRecords.find? (fun c => decide (c.epoch = epoch)) with
  | some c => { s with swp := { s.swp with resends := s.swp.resends ++ [(p, c)] } }
  | none => s

/-- An event item of position p (R269, R392). -/
def State.eventItem (s : State) (p : Nat) (up : Bool) (cls sub detail sweep : Nat) (value value2 : Word) : State :=
  let s := s.takeEvent p up cls sub detail sweep value value2
  if up ∧ cls = 0x1A ∧ sub = 1 then s.resend p value.toNat else s

/-- STATE of a link status word is UP (R253). -/
def linkUpWord (w : Word) : Bool := decide (bits w.toNat 1 0 = 2)

/-- One item of position p reaches the head C-die (R268, R269, R277 item 3). -/
def State.item (s : State) (p : Nat) (i : Item) : State :=
  match i.body with
  | .entry e => if i.kind < 192 then s.writeEntry p i.kind (fullClose s.sweep i.tag) e else s
  | .spot sum mn mx count flags instant slot =>
    s.spotArrived p slot (fullClose s.sweep i.tag) instant (entryBytes ⟨sum, mn, mx, count, flags⟩)
  | .sounding a b v st => s.sndItem p i.tag a b v st
  | .event cls sub detail sweep v v2 => s.eventItem p (decide (i.tag % 2 = 1)) cls sub detail sweep v v2
  | .ack seq type st _ => if type = 0x15 then s.stageAck p seq st else s
  | .notice e w =>
    (s.modPos p (fun (t : PosTrack) => { t with
      linkE := e, linkW := w, downE := t.downE || !linkUpWord e, downW := t.downW || !linkUpWord w })).triggerTraverse
  | .alive => s

/-- The key (CLOSE, record) of the first entry item of a frame. -/
def firstEntry (n : Nat) (l : List Item) : Option (Nat × Nat) :=
  (l.find? (fun i => decide (i.kind < 192))).map (fun i => (fullClose n i.tag, i.kind))

/-- A frame of position p is processed: an open loss is settled by its first entry item (R275), then its items act in
order. -/
def State.processItems (s : State) (p : Nat) (l : List Item) : State :=
  let s := if (s.posTrack p).openLoss then
      (match firstEntry s.sweep l with
        | some k => (s.loseBelow p k.1 k.2).modPos p (fun (t : PosTrack) => { t with openLoss := false })
        | none => s)
    else s
  l.foldl (fun s i => s.item p i) s

/-! ### SEQ order and loss (R274) -/

/-- Held frames of position p that are next in order are processed; the fuel bounds them. -/
def State.drain (s : State) (p : Nat) : Nat → State
  | 0 => s
  | fuel + 1 =>
    let t := s.posTrack p
    match t.nextSeq with
    | none => s
    | some n =>
      match t.heldF.find? (fun x => decide (x.1 = n)) with
      | none => s
      | some x =>
        ((s.modPos p (fun (t : PosTrack) => { t with
          heldF := t.heldF.filter (fun y => decide (y.1 ≠ n)), nextSeq := some ((n + 1) % 65536) })).processItems p x.2).drain p fuel

/-- How far a SEQ lies ahead of the next one expected. -/
def seqAhead (next seq : Nat) : Nat := (seq + 65536 - next) % 65536

/-- The held SEQ that lies least far ahead. -/
def PosTrack.lowest (t : PosTrack) : Option Nat :=
  match t.nextSeq with
  | none => none
  | some n => t.heldF.foldl (fun m x => match m with
      | none => some x.1
      | some y => if seqAhead n x.1 < seqAhead n y then some x.1 else some y) none

/-- Frames missing before held ones are declared lost, and the held ones are processed in order (R274, R275). -/
def State.flushHeld (s : State) (p : Nat) : Nat → State
  | 0 => s
  | fuel + 1 =>
    match (s.posTrack p).lowest with
    | none => s
    | some q =>
      ((s.modPos p (fun (t : PosTrack) => { t with openLoss := true, nextSeq := some q })).drain p 66).flushHeld p fuel

/-- A held frame beside a break: its missing predecessor is declared lost at once (R274). -/
def State.linkBroken (s : State) : Bool :=
  s.poss.any (fun t => match t.linkAt with
    | some n => decide (s.sweep ≤ n + 1)
    | none => false)

/-- Items of a frame that report RING_LINK 0x01. -/
def reportsBreak (l : List Item) : Bool :=
  l.any (fun i => match i.body with
    | .event cls sub _ _ _ _ => decide (cls = 0x0A ∧ sub = 1 ∧ i.tag % 2 = 1)
    | _ => false)

/-- An ITEMS frame of position p with SEQ `seq` arrives (R274). -/
def State.itemsArrive (s : State) (p seq : Nat) (wrap : Bool) (l : List Item) : State :=
  let s := s.modPos p (fun (t : PosTrack) => { t with
    lastSweep := s.sweep, silent := false, linkAt := if reportsBreak l then some s.sweep else t.linkAt })
  let next := (s.posTrack p).nextSeq.getD seq
  let ahead := seqAhead next seq
  let s := if 32768 ≤ ahead ∨ (s.posTrack p).heldF.any (fun x => decide (x.1 = seq)) then s
    else
      let s := (s.modPos p (fun (t : PosTrack) => { t with
        nextSeq := some next, heldF := t.heldF ++ [(seq, l)] })).drain p 66
      if 64 < ahead ∨ wrap then s.flushHeld p 66 else s
  if s.linkBroken then (List.range 32).foldl (fun s q => s.flushHeld q 66) s else s

/-- A frame of slot d with its report of a bleed-silence expiry has reached a head (R235). -/
def State.silenceHeard (s : State) (d : Option Nat) (l : List Item) : State :=
  match d with
  | some d => if (s.dev d).silenceItems.all l.contains then s.modDev d (fun (x : Dev) => { x with silenceRep := none }) else s
  | none => s

/-! ### The commands -/

/-- ITEMS_SEND: at B + 25 µs the device sends its items of the sweep (R268, R270); the head S-die's own go to the C-die
over U1 and U2 (R33, R45). -/
def execItemsSend (d : Nat) (s : State) : Out :=
  onS s d fun s =>
    let x := s.dev d
    match x.pos with
    | none => s
    | some p =>
      if x.coreReset.isSome ∨ x.unsync ∨ x.nextB.isNone then s
      else
        let s := s.until (x.lastB + us 25)
        let x := x.dropOld
        if x.isHead then
          (if s.upWorks ∧ d = 0 then
            let out := x.outItems
            let s := s.modDev 0 (fun _ => { x.dropSent out.length with silenceRep := none })
            (out.foldl (fun s i => s.item 0 i) s).modPos 0 (fun (t : PosTrack) => { t with lastSweep := s.sweep })
          else s)
        else s.modDev d (fun _ => x.sendItems s.now p)

/-- ITEMS_FRAME: an ITEMS frame arrives at the head on port p (R262, R274 to R276). -/
def execItemsFrame (p : RPort) (f : Frame) (s : State) : Out :=
  onC s fun s =>
    match f.payload with
    | .items l =>
      if s.upWorks ∧ frameValid f ∧ f.dest = 0 ∧ ((s.dev 0).port p).carries f ∧ f.src ≠ 0 ∧ s.adopted f.src
          ∧ 1 ≤ l.length ∧ l.length ≤ 56 then
        (s.silenceHeard (s.slotOf f.src) l).itemsArrive f.src f.seq f.wrap l
      else s
    | _ => s

/-- SEQ_LOSS_TIMEOUT: at B + P - 70 µs of the arrival sweep a missing frame is declared lost (R274, R275). -/
def execSeqLossTimeout (pos : Nat) (s : State) : Out :=
  onC s fun s =>
    if (s.posTrack pos).heldF = [] then s else (s.until (s.swp.nextB - us 70)).flushHeld pos 66

/-- POSITION_SILENT: no ITEMS frame for 8 consecutive sweeps, or cut off in both directions (R276): its sensors are stale
(R295). -/
def execPositionSilent (pos : Nat) (s : State) : Out :=
  onC s fun s =>
    let t := s.posTrack pos
    if pos = 0 ∨ s.adopted pos = false ∨ t.silent ∨ ¬ (t.lastSweep + 8 ≤ s.sweep ∨ s.cutOff pos) then s
    else
      let s := s.modPos pos (fun (t : PosTrack) => { t with silent := true })
      (List.range 32).foldl (fun s n =>
        if s.thRole pos n = 0 then s
        else
          (s.modTrack (atlasIdx pos (144 + n)) (fun (t : RecTrack) => { t with miss := max t.miss (s.par Fld.thAge 0) })).raiseOpen
            0x05 3 pos (n + 1)) s

/-- SPOT_RESULT_LOST: the later of 8 sweep periods and 100 ms after acceptance: the reading is lost (R151, R445). -/
def execSpotResultLost (slot : Nat) (s : State) : Out :=
  onC s fun s =>
    match s.der.spots.getD slot none with
    | some x =>
      if x.answered then s
      else (s.until (max (x.acceptAt + 8 * s.periodNs) (x.acceptAt + ms 100))).spotAnswer x slot St.lost 0 0 (leBytes 16 0)
    | none => s

end Sys2Proof.Machine
end

