-- ==== Sys2Proof/Machine/Semaphores.lean ====
section
/-!
DEFINITION. Semaphores and what their release ends (R428, R429), freezing and releasing a port (R430, R431), port reset
(R414), login levels (R478).
-/

namespace Sys2Proof.Machine

/-! ### Semaphores (R428, R429) -/

/-- Semaphore numbers (R428). -/
abbrev Sem.legend : Nat := 0
abbrev Sem.balance : Nat := 1
abbrev Sem.sound : Nat := 2
abbrev Sem.contact : Nat := 3
abbrev Sem.loops : Nat := 4
abbrev Sem.survey : Nat := 5
abbrev Sem.firmware : Nat := 6
abbrev Sem.calib : Nat := 7
abbrev Sem.ring : Nat := 8
abbrev Sem.session : Nat := 9
abbrev Sem.fault : Nat := 10
abbrev Sem.power : Nat := 11
abbrev Sem.passwd : Nat := 12

/-- A port holds semaphore k. -/
def State.holds (s : State) (h : HostId) (k : Nat) : Bool := decide (s.sems.getD k none = some h)

/-- A port holds at least one semaphore (R415 SEMHELD). -/
def State.holdsAny (s : State) (h : HostId) : Bool := s.sems.any (fun o => decide (o = some h))

/-- Staged Legend fields, a loaded image and a build in progress are discarded (R462, R472). -/
def State.dropStaged (s : State) : State := { s with leg := { s.leg with staged := [], loaded := none, build := none } }

/-- A firmware update that has not been activated is abandoned (R480). -/
def State.fwAbandon (s : State) : State :=
  match s.leg.fw with
  | some f =>
    if f.step = 5 then s
    else { s with leg := { s.leg with
        fw := none, newSlot := none, bulk := s.leg.bulk.filter (fun b => decide (b.object ≠ 3)) } }
  | none => s

/-- The Soundings of a host halt: the order lands, and the keying stops at its boundary (R212, R429). -/
def State.haltSoundings (s : State) (h : HostId) : State :=
  (s.der.reports.filter (fun r => decide (r.host = h))).foldl (fun s r => s.land (.device ⟨r.pos, .soundHalt⟩)) s

/-- What the release of semaphore k by its holder ends (R212, R337, R429, R462, R480). -/
def State.semLost (s : State) (h : HostId) (k : Nat) : State :=
  if k = Sem.legend then s.dropStaged
  else if k = Sem.sound then s.haltSoundings h
  else if k = Sem.loops then s.tuneAbort 5
  else if k = Sem.firmware then s.fwAbandon
  else s

/-- The port releases each semaphore of a mask that it holds (R428); the other port sees SEMFREE (R433). -/
def State.semRelease (s : State) (h : HostId) (mask : Nat) : State :=
  let l := (List.range 16).filter (fun k => mask.testBit k && s.holds h k)
  let s := { s with sems := s.sems.zipIdx.map (fun (x : Option HostId × Nat) => if l.contains x.2 then none else x.1) }
  let s := l.foldl (fun s k => s.semLost h k) s
  if l = [] then s else s.eventOn (hostOther h) Ev.semfree

/-- The port takes each free semaphore of a mask (R428). -/
def State.semGrab (s : State) (h : HostId) (mask : Nat) : State :=
  { s with sems := s.sems.zipIdx.map (fun (x : Option HostId × Nat) =>
      if mask.testBit x.2 ∧ x.1 = none then some h else x.1) }

/-- SEM_OWNER (R428). -/
def State.semOwner (s : State) : Nat :=
  (s.sems.zipIdx.map (fun (x : Option HostId × Nat) => match x.1 with
    | none => 0
    | some .A => 4 ^ x.2
    | some .B => 2 * 4 ^ x.2)).foldl (· + ·) 0

/-! ### Ports (R414, R430, R431, R478) -/

/-- The login level of a port changes (R433, R478). -/
def State.setLevel (s : State) (h : HostId) (v : Nat) : State :=
  if (s.port h).level = v then s else (s.modPort h (fun p => { p with level := v })).eventOn h Ev.login

/-- An emptied queue (R432): its size stays. -/
def Queue.emptied (q : Queue) : Queue := { q with words := [], opened := false, msgs := [] }

/-- The 32 queues, the staging areas and the request area of a port are emptied (R430 item 3). -/
def State.emptyPort (s : State) (h : HostId) : State :=
  let s := { s with queues := s.queues.zipIdx.map (fun (x : Queue × Nat) =>
      if x.2 / 32 = hostNum h then Queue.emptied x.1 else x.1) }
  let s := s.modPort h (fun p => { p with request := none, staged := [], safeOut := none })
  { s with der := { s.der with spots := s.der.spots.map (fun x => match x with
      | some y => if y.host = h ∧ y.answered then none else some y
      | none => none) } }

/-- The port is frozen for a violation (R429, R430). -/
def State.freeze (s : State) (h : HostId) (reason : Nat) : State :=
  if (s.port h).frozen then s
  else
    let s := (s.emptyPort h).modPort h (fun p => { p with
      frozen := true, frzRsn := reason, lastRsn := reason, frzCount := min (p.frzCount + 1) 255 })
    let s := ((s.semRelease h 0xFFFF).setLevel h 0).eventOn (hostOther h) Ev.othfrz
    s.raiseOpenEv 0x1B reason 0 (hostNum h)

/-- The port stands as after a release from freeze (R431). -/
def State.releasePort (s : State) (h : HostId) : State :=
  let was := (s.port h).frozen
  let s := ((s.emptyPort h).semRelease h 0xFFFF).modPort h (fun p => { p with
    frozen := false, level := 0, pwFail := 0, flag0 := 0, flag1 := 0 })
  if was then s.eventOn (hostOther h) Ev.othfrz else s

/-- Malformed messages at the head of a pair's command queue freeze the port; what Zardo handles by itself is handled
(R421, R422, R435). -/
def State.digestPair (s : State) (h : HostId) (pair : Nat) : State :=
  if s.pw.running ∧ s.pw.coreReset.isNone ∧ (s.port h).frozen = false then
    let r := State.digest ((s.queue (cmdQ h pair)).words.length + 1) s h pair
    if r.2 then r.1 else r.1.freeze h 2
  else s

/-- Every command queue of a port is looked at: what waits after the port's core was halted, or for room. -/
def State.digestAll (s : State) (h : HostId) : State := (List.range 16).foldl (fun s i => s.digestPair h i) s

/-! ### The commands -/

/-- PORT_RESET: CS_N has stayed low without an SCK edge for 10 ms (R414). -/
def execPortReset (h : HostId) (s : State) : Out :=
  onC s fun s =>
    let was := (s.port h).frozen
    let s := s.releasePort h
    if was then s else s.raiseOpenEv 0x1B 7 0 (hostNum h)

/-- LOGIN_TIMEOUT: the port has executed no command for LOGIN_TMO minutes (R478). -/
def execLoginTimeout (h : HostId) (s : State) : Out :=
  onC s fun s =>
    let t := s.par Fld.loginTmo 0
    if t = 0 ∨ (s.port h).level = 0 then s
    else (s.until ((s.port h).lastCmd + ms (60000 * t))).setLevel h 0

end Sys2Proof.Machine
end

