-- ==== Sys2Proof/Machine/Power.lean ====
section
/-!
DEFINITION. Supplies, reset and starts of the C-die (R485 to R502), the barrier (R32 to R36, R389, R401), watchdogs and
core resets (R390, R482, R516), over-temperature (R308), memory errors (R388), ERR_OUT timers (R402 to R404), the end of a
masking interval (R400).
-/

namespace Sys2Proof.Machine

/-! ### The C-die stops (R486, R502) -/

/-- What C-die flash and the Legend block keep through a reset of the C-die (R468 to R482). -/
def LegendSt.kept (l : LegendSt) : LegendSt :=
  { l with
    fallback := false, staged := [], loaded := none, build := none, gazPend := [], donePend := false, substBy := []
    bulk := [], fw := none, newSlot := none }

/-- The C-die is in reset: only its flash and its always-on domain keep anything (R25, R486, R393, R406). Every drive is
off, and D1, the sweep mark and the reference clock are not driven (R339, R502). -/
def State.cDieDown (s : State) (op : OpState) : State :=
  { (({} : State)) with
    now := s.now, pending := s.pending, draws := s.draws, leg := s.leg.kept, chassis := []
    flt := { lowSince := s.now }
    pw := { (({} : PowerSt)) with
      vsup := s.pw.vsup, vsupFell := s.pw.vsupFell, resetN := s.pw.resetN, readyAt := s.pw.readyAt
      locked := s.pw.locked, prevSession := s.pw.prevSession, running := false, op := op }
    devs := modAt s.devs 0 (fun (d : Dev) => { d with d1 := false }) }

/-- VSUP_RISE: VSUP rises above the power-on-reset threshold (R486). -/
def execVsupRise (s : State) : Out :=
  guarded (!s.pw.vsup) s fun s =>
    { s with pw := { s.pw with vsup := true, vsupFell := none, readyAt := s.now, op := .wake } }

/-- VSUP_FALL: the C-die enters reset (R486); the stack side lives on. -/
def execVsupFall (s : State) : Out :=
  guarded s.pw.vsup s fun s => { s with pw := { s.pw with vsup := false, vsupFell := some s.now } }.cDieDown .off

/-- LOCKED_LATCH_CLEAR: VSUP has been low long enough, 0.5 s at least, and the always-on domain is lost (R310, R486). -/
def execLockedLatchClear (s : State) : Out :=
  done s (match s.pw.vsup, s.pw.vsupFell with
    | false, some t =>
      let s := s.until (t + ms 500)
      { s with pw := { s.pw with locked := false, prevSession := 0 } }
    | _, _ => s)

/-- RESET_N_ASSERT: RESET_N is low for 1 µs or longer; the C-die resets (R502). -/
def execResetNAssert (s : State) : Out :=
  guarded s.pw.resetN s fun s =>
    { s with pw := { s.pw with resetN := false } }.cDieDown (if s.pw.vsup then .wake else .off)

/-- RESET_N_RELEASE: RESET_N goes high (R486, R502). -/
def execResetNRelease (s : State) : Out :=
  guarded (!s.pw.resetN) s fun s => { s with pw := { s.pw with resetN := true, readyAt := s.now } }

/-! ### The C-die starts (R475, R496) -/

/-- A copy that may be used at a start: its CRC is correct and DONE is set (R475). -/
def Image.usable (i : Image) : Bool := !i.erased && i.valid && i.done

/-- VERSION `a` is reached from `b` in 1 to 32,767 increments under the wrap to 1 (R475). -/
def versionNewer (a b : Nat) : Bool := decide (1 ≤ (a + 65535 - b) % 65535 ∧ (a + 65535 - b) % 65535 ≤ 32767)

/-- The image that a failed choice of both copies leaves: reset values, VERSION 0 (R475, R476). -/
def emptyImage : Image := ⟨0, 0, 2, 0, false, false, false, []⟩

/-- The Legend copy chosen at a C-die start (R475): the newer of those whose DONE is set; a failing choice raises
MEMORY 0x03 and leaves an image-fallback entry, whose CRCs are those of the copy that failed and of the image in use. -/
def State.chooseLegend (s : State) : State :=
  let a := s.leg.copyA
  let b := s.leg.copyB
  let cand (i : Image) : Bool := !i.erased && i.done
  let bFirst := cand b && (!cand a || versionNewer b.version a.version)
  let first := bif bFirst then b else a
  let second := bif bFirst then a else b
  if first.usable then { s with leg := { s.leg with useB := bFirst, active := first, fallback := false } }
  else
    let img := bif second.usable then second else emptyImage
    let s := { s with leg := { s.leg with useB := bFirst != second.usable, active := img, fallback := !second.usable } }
    (s.raiseOpenEv 0x1E 3 0 (openDetail 0x1E 3 0)).gazAdd 0 2 0 0x0000 first.crc img.crc

/-- The sizes of the queues become those of the active Legend (R417). -/
def State.sizeQueues (s : State) : State :=
  { s with queues := s.queues.zipIdx.map (fun (x : Queue × Nat) => { x.1 with size := s.par Fld.qsize x.2 }) }

/-- The inputs at a start: an equivalent one stands safe, an antivalent one disagrees from the start instant (R358). -/
def State.startInputs (s : State) : State :=
  { s with saf := { s.saf with inputs := (List.range 5).map (fun i =>
      if s.siAnti i then ({ discAt := some s.now } : SafeIn)
      else if i = 4 then { safeAt := some s.now } else {}) } }

/-- A C-die start at the present instant (R496): trip latch set, ERR_OUT low, the Legend copy chosen, WAKE, and the first
sweep boundary 50 ms later. -/
def State.cDieUp (s : State) : State :=
  let s := s.cDieDown .wake
  let s := { s with
    pw := { s.pw with running := true, startAt := s.now }
    swp := { s.swp with nextB := s.now + ms 50 }
    flt := { s.flt with lowSince := s.now, heartbeat := s.now }
    portA := { s.portA with lastCmd := s.now }, portB := { s.portB with lastCmd := s.now } }
  let s := (s.chooseLegend.sizeQueues).startInputs
  let s := chIndices.foldl (fun s i => s.chStart i 0) s
  s.sentApply.evalTrip

/-- C_DIE_START: 2.0 ms after the later of VSUP rising and RESET_N going high (R486, R496). -/
def execCDieStart (s : State) : Out :=
  guarded (s.pw.vsup && s.pw.resetN && !s.pw.running && decide (s.pw.op ≠ .dormant)) s fun s =>
    (s.until (s.pw.readyAt + ms 2)).cDieUp

/-- C_DIE_WAKE: a wake input ends DORMANT; the wake is a C-die start, and the waking transaction is lost (R501). -/
def execCDieWake (w : WakeCause) (s : State) : Out :=
  match w with
  | .csnA => guarded (decide (s.pw.op = .dormant)) s State.cDieUp
  | .csnB => guarded (decide (s.pw.op = .dormant)) s State.cDieUp
  | .coupledA => guarded (decide (s.pw.op = .dormant)) s State.cDieUp

/-- WAKE_TIMEOUT: 2 s after a C-die start WAKE is left for CONFIG, or for LOCKED with the latch set (R490, R492). -/
def execWakeTimeout (s : State) : Out :=
  onC s fun s =>
    if s.pw.op = .wake then
      ((s.until (s.pw.startAt + ms 2000)).enter (if s.pw.locked then .locked else .config)).event Ev.wake
    else s

/-! ### The barrier (R32 to R36, R401) -/

/-- BARRIER sub-code of a lane (R401). -/
def laneSub : Lane → Nat
  | .U1 => 1
  | .U2 => 2
  | .D1 => 3

/-- Raises BARRIER. -/
def State.barrier (s : State) (sub : Nat) : State := s.raiseOpenEv 0x16 sub 0 (openDetail 0x16 sub 0)

/-- Entries in flight on an up lane at its loss are lost (R33, R121); which those are is a free value (log 72). -/
def State.loseInFlight (s : State) : State :=
  let n := s.draws
  let crosses (i : Nat) : Bool := s.recPresent (i / 192) (i % 192)
    && !(headRecords (i / 192) (groupOf (i % 192))).contains (i % 192) && Config.inFlight n i
  ((List.range (192 * s.trv.n)).filter crosses).foldl (fun s i => s.markLost i) { s with draws := n + 1 }

/-- BARRIER_LANE_LOSS: 400 ns without a valid symbol; the other up lane takes all traffic (R33, R34). -/
def execBarrierLaneLoss (l : Lane) (s : State) : Out :=
  onC s fun s =>
    if s.pw.lostLanes.contains l then s
    else
      let s := if l = .D1 then s else s.loseInFlight
      { s with pw := { s.pw with lostLanes := l :: s.pw.lostLanes } }.barrier (laneSub l)

/-- BARRIER_LANE_RETRAIN: once per second while a lane is lost; the retrain opens a masking interval (R399). -/
def execBarrierLaneRetrain (l : Lane) (ok : Bool) (s : State) : Out :=
  onC s fun s =>
    if s.pw.lostLanes.contains l then
      let s := s.openMask (.lane l) (ms 1)
      if ok then { s with pw := { s.pw with lostLanes := s.pw.lostLanes.filter (fun x => decide (x ≠ l)) } } else s
    else s

/-- SWEEP_MARK_LOSS: no sweep mark within 1 µs of the expected instant: BARRIER 0x04, and the head S-die flywheels (R34,
R62). -/
def execSweepMarkLoss (s : State) : Out :=
  onC s fun s =>
    if (s.dev 0).awake ∧ (s.dev 0).isHead ∧ s.pw.markLost = false then
      let s := s.until (s.swp.nextB - 16000 + 1000)
      ({ s with pw := { s.pw with markLost := true } }).barrier 4
    else s

/-- REFERENCE_CLOCK_LOSS: 40 ns without an edge: CLOCK 0x02; the head S-die holds its line clock (R34, R246, R389). -/
def execReferenceClockLoss (s : State) : Out :=
  onC s fun s =>
    if s.pw.refClock then
      let s := { s with pw := { s.pw with refClock := false, refAt := none } }
      if (s.dev 0).awake ∧ (s.dev 0).isHead then s.raise 0x19 2 0 0 0 else s
    else s

/-- REFERENCE_CLOCK_RETURN: the clock runs at the barrier; a DORMANT head S-die wakes on it (R246, R496, R500). -/
def execReferenceClockReturn (s : State) : Out :=
  onC s fun s =>
    if s.pw.refClock then s
    else
      let s := { s with pw := { s.pw with refClock := true, refAt := some s.now } }
      if (s.dev 0).power = .dormant then s.startDev 0 else s

/-- REFERENCE_CLOCK_STABLE: the returned clock has run for 1 ms: CLOCK 0x02 clears (R389). -/
def execReferenceClockStable (s : State) : Out :=
  onC s fun s =>
    match s.pw.refAt with
    | some t =>
      let s := s.until (t + ms 1)
      ({ s with pw := { s.pw with refAt := none } }).clear 0x19 2 0 0
    | none => s

/-- SL_PAIR_EQUAL: a pair of levels is equal for 5 samples: BARRIER 0x06, and the receiving die treats it as asserted (R35,
R36, R401); with `equal` false it differs again, and what its levels say counts (log 70). The S-die sees its pair equal with
the C-die in reset as well (R502). -/
def execSlPairEqual (p : SlLevels) (s : State) : Out :=
  match p.pair with
  | .sErr => onC s fun s =>
      let s := { s with saf := { s.saf with slEqual := (p.equal, s.saf.slEqual.2) } }
      (cond p.equal (s.barrier 6) s).evalTrip
  | .cErr => onS s 0 fun s =>
      let s := { s with saf := { s.saf with slEqual := (s.saf.slEqual.1, p.equal) } }
      if p.equal then (if s.pw.running then s.cErrOn.barrier 6 else s.cErrOn)
      else if s.pw.running ∧ s.saf.lastSrc = 0 then s.modDev 0 (fun d => { d with cErr := false })
      else s

/-- S_ERR_UNEXPLAINED: S_ERR has been asserted for 1 ms without a report of OVERCURR or DIE_OT: BARRIER 0x05 (R401). -/
def execSErrUnexplained (s : State) : Out :=
  onC s fun s =>
    let told := s.flt.causes.any (fun c =>
      decide (c.src.cls = 0x0E ∧ c.src.detail = 0) || decide (c.src.cls = 0x17 ∧ c.src.sub = 1 ∧ c.src.pos = 0))
    match s.saf.sErr, s.saf.sErrAt with
    | true, some t =>
      if told then s
      else
        let s := s.until (t + ms 1)
        ({ s with saf := { s.saf with sErrAt := none } }).barrier 5
    | _, _ => s

/-- CRYSTAL_FAILURE: the C-die runs on its internal oscillator: CLOCK 0x01 until the next start (R389, R528). -/
def execCrystalFailure (s : State) : Out :=
  onC s fun s => ({ s with pw := { s.pw with crystal := false } }).raise 0x19 1 0 0 0

/-! ### Over-temperature and memory (R308, R388) -/

/-- DIE_OT for an S-die: over U2 from the head's, in an event item from a member's; a halted core reports nothing (R308). -/
def State.sDieOt (s : State) (d : Nat) (on : Bool) : State :=
  let x := s.dev d
  if x.coreReset.isSome then s
  else if d = 0 ∧ x.isHead then
    (if s.pw.running then s.judge on 0x17 1 0 0 0 else s)
  else s.modDev d (fun x => x.report on 0x17 1 0 0)

/-- DIE_OVERTEMP_TRIP: a die's comparator trips (R308). -/
def execDieOvertempTrip (d : Nat) (die : Die) (s : State) : Out :=
  match die with
  | .S => onS s d fun s =>
      if (s.dev d).overTemp then s
      else
        let s := (s.modDev d (fun x => { x.cutBleed s.now with overTemp := true, bleedOff := true })).sDieOt d true
        if d = 0 then s.sErrUpdate else s
  | .C => onC s fun s =>
      if d ≠ 0 ∨ s.saf.overTemp then s
      else
        let s := { s with saf := { s.saf with overTemp := true }, pwm := List.replicate 8 0 }
        ((s.sentApply).raise 0x17 2 0 0 0).evalTrip

/-- DIE_OVERTEMP_RELEASE: the junction has fallen below 150 °C; the trip source and S_ERR end, LOCKED stays (R308). -/
def execDieOvertempRelease (d : Nat) (die : Die) (s : State) : Out :=
  match die with
  | .S => onS s d fun s =>
      if (s.dev d).overTemp then
        let s := (s.modDev d (fun x => { x with overTemp := false })).sDieOt d false
        if d = 0 then s.sErrUpdate else s
      else s
  | .C => onC s fun s =>
      if d ≠ 0 ∨ s.saf.overTemp = false then s
      else
        let s := { s with saf := { s.saf with overTemp := false } }
        ((s.sentApply).clear 0x17 2 0 0).evalTrip

/-- MEMORY_ECC_ERROR: MEMORY 0x01 for a corrected error, 0x02 for an uncorrectable one (R388). -/
def execMemoryEccError (k : EccKind) (s : State) : Out :=
  onC s fun s =>
    match k with
    | .corrected => s.raiseOpenEv 0x1E 1 0 (openDetail 0x1E 1 0)
    | .uncorrectable => s.raiseOpenEv 0x1E 2 0 (openDetail 0x1E 2 0)

/-! ### The supervisor core (R390, R482, R516) -/

/-- CRC-32C of a firmware image (R479): that of the image of delivery is free (log 10). Die kind 0 C-die, 1 S-dies. -/
def fwCrc (kind : Nat) (c : Option Word) : Nat := (c.getD (Config.firmwareCrc kind)).toNat

/-- A new C-die image that meets a watchdog expiry within 10 s of its first start is marked failed: the previous slot
runs, MEMORY 0x03, and a Gazetteer entry by the device (R479, R482). -/
def State.fwFailed (s : State) : State :=
  match s.leg.firstStart with
  | some t =>
    if s.now ≤ t + ms 10000 then
      let old := fwCrc 0 s.leg.runCrc.1
      let s := { s with leg := { s.leg with
        release := s.leg.prevRelease, firstStart := none, runCrc := (s.leg.prevCrc.1, s.leg.runCrc.2) } }
      (s.raiseOpenEv 0x1E 3 0 0).gazAdd s.sweep 2 0 0xFF10 old (fwCrc 0 s.leg.runCrc.1)
    else s
  | none => s

/-- Every semaphore is free; fields staged under LEGEND and an update not activated are lost (R429, R480, R516). -/
def State.semsFree (s : State) : State :=
  let a := s.holdsAny .A
  let b := s.holdsAny .B
  let s := ({ s with sems := List.replicate 16 none }).dropStaged.fwAbandon
  let s := if a then s.eventOn .B Ev.semfree else s
  if b then s.eventOn .A Ev.semfree else s

/-- What the supervisor watchdog reset does to ports, queues, staging and the Legend work in progress (R429, R432, R478,
R516). -/
def State.mailboxReset (s : State) : State :=
  let s := (((s.emptyPort .A).emptyPort .B).sizeQueues).semsFree
  let s := (s.setLevel .A 0).setLevel .B 0
  let s := { s with portA := { s.portA with lastErr := 0 }, portB := { s.portB with lastErr := 0 } }
  { s with leg := { s.leg with bulk := s.leg.bulk.filter (·.own) } }

/-- Channels, session, loops and inputs through a supervisor watchdog reset (R329, R354, R355, R363, R375, R379 item 6). -/
def State.controlReset (s : State) : State :=
  let any := s.saf.ch.any (fun c => decide (c.phase ≠ .opened))
  let was := s.ses.st
  let s := { s with
    saf := { s.saf with
      ch := s.saf.ch.map (fun (c : Channel) => { (({} : Channel)) with kf := c.kf, ks := c.ks })
      tripLatch := true, armed := false, watchdog := true, weldDue := true, coupled := false, cplAt := none }
    ses := {} }
  let s := s.modInput 4 (fun x => { x with safeAt := none, idle := false })
  ((s.eventIf any Ev.cont).eventIf (decide (was ≠ .idle)) Ev.session).loopReset

/-- SUPERVISOR_WATCHDOG_EXPIRY: the trip source and ERR_OUT assert, and the core resets for at most 5 ms; latches, log and
LOCKED are kept (R390, R516). -/
def execSupervisorWatchdogExpiry (s : State) : Out :=
  onC s fun s =>
    let s := { s with
      pw := { s.pw with coreReset := some (s.now, ms 5), coreWd := true }
      flt := { s.flt with fwdog := true } }
    let s := ((s.openMask .supervisor (ms 5)).mailboxReset.controlReset.event Ev.wdog).fwFailed
    s.errDrop.evalTrip

/-- SUPERVISOR_CORE_RESTART: the trip source ends; after a watchdog reset WATCHDOG 0x11 is latched, the COUPLED input is
judged afresh, and RESTART counts its 100 ms anew (R363, R379, R390). -/
def execSupervisorCoreRestart (s : State) : Out :=
  onC s fun s =>
    if s.pw.coreReset.isNone then s
    else
      let wd := s.pw.coreWd
      let s := { s with
        pw := { s.pw with coreReset := none, coreWd := false }, saf := { s.saf with watchdog := false } }.serviced
      if wd then
        let s := s.modInput 4 (fun x => { x with safeAt := if s.siNone 4 then some s.now else none, idle := false })
        let cpl := (List.range 4).any (fun i => decide (s.siRole i = 2) && (s.input i).act)
        let s := if cpl then { s with saf := { s.saf with cplAt := some s.now } } else s
        (s.raiseOpenEv 0x1C 0x11 0 (openDetail 0x1C 0x11 0)).evalTrip
      else (s.evalTrip.digestAll .A).digestAll .B

/-! ### S-die cores (R219, R390, R482) -/

/-- A new S-die image that meets a watchdog expiry within 10 s of its first start is marked failed (R482). -/
def State.sFwFailed (s : State) (d : Nat) : State :=
  let x := s.dev d
  match x.firstStart with
  | some t =>
    if s.now ≤ t + ms 10000 then
      let s := s.modDev d (fun x => { x with release := x.prevRelease, firstStart := none })
      if s.pw.running then
        (s.raiseOpenEv 0x1E 3 x.posIx 1).gazAdd s.sweep 2 0 0xFF11 (fwCrc 1 s.leg.runCrc.2) (fwCrc 1 s.leg.prevCrc.2)
      else s
    else s
  | none => s

/-- S_DIE_WATCHDOG_EXPIRY: the core of the S-die in slot d resets for at most 5 ms; bleed ends and the timers clear (R219,
R390), and the head opens the masking interval of its position (R399). -/
def execSDieWatchdogExpiry (d : Nat) (s : State) : Out :=
  onS s d fun s =>
    let x := s.dev d
    if x.coreReset.isSome then s
    else
      let s := (s.modDev d (fun x => x.coreStop s.now true)).sFwFailed d
      match x.pos with
      | some p => if s.pw.running then s.openMask (.sDieCore p) (ms 5) else s
      | none => s

/-- S_DIE_CORE_RESTART: the core runs again; after a watchdog reset WATCHDOG 0x10 goes out in its first ITEMS frame (R390),
and an over-temperature that stands is reported (R308). -/
def execSDieCoreRestart (d : Nat) (s : State) : Out :=
  onS s d fun s =>
    let x := s.dev d
    if x.coreReset.isNone then s
    else
      let s := s.modDev d (fun x =>
        let y := { x with coreReset := none, wdReport := false }
        if x.wdReport then y.report true 0x1C 0x10 (openDetail 0x1C 0x10 x.posIx) x.openValue else y)
      if x.overTemp then s.sDieOt d true else s

/-! ### ERR_OUT and masking (R400, R402 to R404) -/

/-- ERR_CTRL.MODE in force: compatibility mode (R405). -/
def State.errCompat (s : State) : Bool := bit s.flt.ctrl.toNat 0

/-- TMIN in force, ns; 0 acts as 1 ms (R405). -/
def State.errTmin (s : State) : Nat := ms (max 1 (bits s.flt.ctrl.toNat 15 8))

/-- HEARTBEAT_TIMEOUT: 10 ms without a heartbeat service: the compatibility wave stops (R403, R404). -/
def execHeartbeatTimeout (s : State) : Out :=
  onC s fun s =>
    let s := s.until (s.flt.heartbeat + ms 10)
    let s := { s with flt := { s.flt with stalled := true } }
    if s.errCompat then s.errDrop else s

/-- ERR_OUT_RELEASE: ERR_OUT has been low for TMIN and nothing holds it low (R402); in compatibility mode the wave starts
(R403). -/
def execErrOutRelease (s : State) : Out :=
  onC s fun s =>
    if s.flt.errLow ∧ s.errCond = false ∧ ¬ (s.errCompat ∧ s.flt.stalled) then
      let s := s.until (s.flt.lowSince + s.errTmin)
      { s with flt := { s.flt with errLow := false, wave := s.errCompat } }
    else s

/-- MASKING_INTERVAL_END: masked causes that are still present become occurrences (R400). -/
def execMaskingIntervalEnd (k : MaskKind) (s : State) : Out :=
  onC s fun s =>
    match s.flt.masks.find? (fun m => decide (m.kind = k)) with
    | some m => (s.until m.untilNs).endMask k
    | none => s

end Sys2Proof.Machine
end

