-- ==== Sys2Proof/Machine/Sweep.lean ====
section
/-!
DEFINITION. The head's sweep and commit (R52 to R74, R476, R489 to R498, R509, R511): direct writes landing, the commit and
reaction records, the Meridian, and what takes effect at the head's sweep boundary.
-/

namespace Sys2Proof.Machine

/-! ### Direct writes landing (R57, R405, R494, R509) -/

/-- Bits of SWP_CTRL that are not reserved. -/
def swpBits (v : Nat) : Nat := v % 8 + 16 * bits v 6 4

/-- A value of SWP_CTRL that R57 refuses: a reserved TICKDIV code, or a control tick faster than 10 kHz. -/
def swpRefused (v : Nat) : Bool :=
  decide (5 ≤ bits v 6 4) || decide (periodUs (v % 8) < 100 * tickDiv (bits v 6 4))

/-- Bits of ERR_CTRL that are not reserved. -/
def errBits (v : Nat) : Nat := v % 2 + 256 * bits v 15 8 + 65536 * bits v 18 16

/-- A write to SWP_CTRL lands, or is refused as a whole (R57). -/
def State.landSwp (s : State) (h : HostId) (v : Nat) : State :=
  if swpRefused v then ({ s with swp := { s.swp with rej := true } }).eventOn h Ev.rej
  else
    let w := word (swpBits v)
    { s with swp := { s.swp with shadow := w, landed := s.swp.landed ++ [Landed.swpCtrl w] } }

/-- A write to ERR_CTRL lands; one with SEVMIN 0b101 to 0b111 is ignored as a whole (R405). -/
def State.landErr (s : State) (h : HostId) (v : Nat) : State :=
  if 5 ≤ bits v 18 16 then s.eventOn h Ev.rej
  else
    let w := word (errBits v)
    { s with swp := { s.swp with errShadow := w, landed := s.swp.landed ++ [Landed.errCtrl w] } }

/-- Every contactor channel is OPEN or BLOCKED (R494, R497). -/
def State.allSafe (s : State) : Bool := s.saf.ch.all (·.safe)

/-- A write to SWP_STATE.REQ is refused (R494). -/
def State.rejState (s : State) (h : HostId) : State :=
  ({ s with pw := { s.pw with stRej := true } }).eventOn h Ev.rej

/-- A write to SWP_STATE.REQ lands, or is refused (R494). -/
def State.landReq (s : State) (h : HostId) (req : Nat) : State :=
  let put (x : Landed) : State := { s with swp := { s.swp with landed := s.swp.landed ++ [x] } }
  match req with
  | 0 => s
  | 1 => if s.pw.op = .locked ∨ s.allSafe = false then s.rejState h else put .requestConfig
  | 2 => put .withdrawConfig
  | _ => s.rejState h

/-- A held write lands as the first event of the sweep (R64, R509). -/
def State.landHeld (s : State) (w : HeldWrite) : State :=
  if w.addr = 0x30 then s.landSwp w.host w.value.toNat
  else if w.addr = 0x40 then s.landErr w.host w.value.toNat
  else s.landReq w.host (bits w.value.toNat 5 4)

/-- A direct write of a field that acts at the boundary: it lands, or is held after the cut-off (R64, R509). Of two that
end in one cycle of the C-die clock the queue of commands holds that of HOST A first (R65, R415; DESIGN CHOICE, log 164). -/
def State.directWrite (s : State) (h : HostId) (addr : Nat) (v : Word) : State :=
  if s.swp.hold then { s with swp := { s.swp with held := s.swp.held ++ [⟨h, addr, v⟩] } }
  else s.landHeld ⟨h, addr, v⟩

/-! ### What takes effect at the next boundary (R476, R511) -/

/-- Change sets that take effect at the next boundary. -/
def State.dueSets (s : State) : List ChangeSet :=
  s.swp.landed.filterMap (fun (x : Landed) => match x with
    | .legend c => some c
    | _ => none)

/-- The fields of the active image from the next boundary on. -/
def State.dueFields (s : State) : SMap Nat := s.dueSets.foldl overSet s.leg.active.fields

/-- REG_SWP or REG_ERR as the image of the next boundary gives it; none where no image takes effect there or it holds
none (R476). -/
def State.dueReg (s : State) (fid : Nat) : Option Nat :=
  if s.dueSets ≠ [] ∨ s.flt.beforeFirst then smapGet s.dueFields (fieldKey fid 0) else none

/-- SWP_CTRL in force (R510). -/
def State.swpNow (s : State) : Nat := s.swp.period + 16 * s.swp.tickdiv

/-- SWP_CTRL in force from the next boundary on (R511). -/
def State.swpNext (s : State) : Nat :=
  (s.dueReg Fld.regSwp).getD (((s.swp.landed.filterMap (fun (x : Landed) => match x with
    | .swpCtrl v => some v.toNat
    | _ => none)).getLast?).getD s.swpNow)

/-- ERR_CTRL in force from the next boundary on (R511). -/
def State.errNext (s : State) : Nat :=
  (s.dueReg Fld.regErr).getD (((s.swp.landed.filterMap (fun (x : Landed) => match x with
    | .errCtrl v => some v.toNat
    | _ => none)).getLast?).getD s.flt.ctrl.toNat)

/-- The number of the sweep that the next boundary begins (R55). -/
def State.nextCount (s : State) : Nat := match s.swp.count with
  | some n => n + 1
  | none => 0

/-! ### The commit and reaction records (R66 to R69) -/

/-- Members that send their items through the head's port E, and through its port W (R61, R268, R286). -/
def State.sendersOf (s : State) : Nat × Nat :=
  let west := (List.range s.trv.n).filter (fun p => decide (p ≠ 0)
    && (((s.posTrack p).prefW && !s.cutW p) || s.cutE p))
  (s.trv.n - 1 - west.length, west.length)

/-- The quota that the next boundary commits (R272): 20 where the head has learned of a wrap that loads one of its ports with
more than 26 members at 0.5 ms, 24 again at the adoption that closes the ring. -/
def State.quotaDue (s : State) : State :=
  let k := s.sendersOf
  let closes : Bool := match s.trv.adopting with
    | some (a, _) => a.closed && decide (a.sa ≤ s.nextCount) && s.pw.coreReset.isNone
    | none => false
  if s.swp.reduced ∧ closes then
    { s.land (.device ⟨255, .quota (periodQuota s.swp.period)⟩) with swp.reduced := false }
  else if s.swp.period = 0 ∧ s.swp.reduced = false ∧ !closes ∧ s.wrapped ∧ (26 < k.1 ∨ 26 < k.2) then
    { s.land (.device ⟨255, .quota 20⟩) with swp.reduced := true }
  else s

/-- The cut-off: the shadow changes of the sweep, with a change of the quota, are frozen into a commit record, and host writes
are held (R64, R66, R272). -/
def State.freezeRecord (s : State) : State :=
  let s := s.quotaDue
  let l := s.pendingSettings
    ++ (if s.swpNext = s.swpNow then [] else [Setting.mk 255 (.field Fld.regSwp 0 s.swpNext)])
  let r : Option CommitMsg :=
    if l = [] then none else some ⟨(s.swp.epoch + 1) % 65536, s.nextCount, l⟩
  { s with swp := { s.swp with hold := true, record := r } }

/-- Records that late devices have asked for leave again (R68, R266). -/
def State.sendAgain (s : State) : State :=
  s.swp.resends.foldl (fun (s : State) x =>
    if x.1 = 0 then s.overD1 (·.getCommit x.2) else s.downFrame x.1 (.commit x.2)) { s with swp := { s.swp with resends := [] } }

/-- The frozen record leaves for the head S-die and the ring, and those asked for leave again (R66, R68, R266); it is kept to be
sent again. -/
def State.sendRecord (s : State) : State :=
  let s := s.sendAgain
  match s.swp.record with
  | some c =>
    if (s.swp.sentRecords.head?.map (·.epoch)) = some c.epoch then s
    else
      let m : CommitMsg := { c with sweep := c.sweep % 2 ^ 32 }
      let s := { s with swp := { s.swp with sentRecords := m :: s.swp.sentRecords } }.downFrame 0xFF (.commit m)
      s.overD1 (·.getCommit m)
  | none => s

/-- The first setting records that fit into a REACTION frame of at most 64 bytes, and the rest (R69). -/
def splitReactions (n : Nat) : List Setting → List Setting × List Setting
  | [] => ([], [])
  | x :: l =>
    let k := (recordBytes x).length
    if n < k then ([], x :: l)
    else
      let r := splitReactions (n - k) l
      (x :: r.1, r.2)

/-- The reaction cut-off: the reaction records leave in one priority frame; what does not fit waits (R69). -/
def State.cutReactions (s : State) : State :=
  let r := splitReactions 56 s.swp.reactions
  let s := { s with swp := { s.swp with reactCut := true, reactions := [], reactNext := r.2 ++ s.swp.reactNext } }
  if r.1 = [] then s
  else
    let m : CommitMsg := ⟨0, s.nextCount % 2 ^ 32, r.1⟩
    let s := s.downFrame 0xFF (.reaction m)
    s.overD1 (·.getReaction m)

/-- COMMIT_CUT_OFF: at B + P - 120 µs (R64, R66). -/
def execCommitCutOff (s : State) : Out :=
  onC s fun s => if s.swp.hold then s else (s.until (s.swp.nextB - us 120)).freezeRecord

/-- COMMIT_RECORD_SEND: at B + P - 100 µs (R66). -/
def execCommitRecordSend (s : State) : Out :=
  onC s fun s => if s.swp.hold then (s.until (s.swp.nextB - us 100)).sendRecord else s

/-- REACTION_CUT_OFF: at B + P - 30 µs (R69). -/
def execReactionCutOff (s : State) : Out :=
  onC s fun s => if s.swp.reactCut then s else (s.until (s.swp.nextB - us 30)).cutReactions

/-! ### The Meridian and its header (R58, R264) -/

/-- The lowest adopted position for which a predicate holds, 0xFF for none. -/
def State.lowestPos (s : State) (f : PosTrack → Bool) : Nat :=
  ((List.range s.trv.n).find? (fun p => f (s.posTrack p))).getD 0xFF

/-- The SWEEP_HEADER of the next boundary (R264). -/
def State.headerMsg (s : State) : HeaderMsg :=
  let v := s.swpNext
  { sweep := s.nextCount % 2 ^ 32
    epoch := match s.swp.record with
      | some c => c.epoch
      | none => s.swp.epoch
    period := v % 8, tickdiv := v / 16, wrapped := s.wrapped, traverse := s.trv.running, unsettled := decide (s.trv.result = 1)
    n := s.trv.n, quota := if s.swp.reduced then 20 else periodQuota (v % 8)
    brkE := s.lowestPos (·.downE), brkW := s.lowestPos (·.downW), trav := s.trv.adoptedTrav }

/-- SWEEP_HEADER.RING (R264). -/
def ringByteOf (h : HeaderMsg) : Nat := b2n h.wrapped + 2 * b2n h.traverse + 4 * b2n h.unsettled

/-- K28.1 leaves the head S-die on both ports, each with the launch delay of its port (R58, R248, R254). -/
def Dev.launchMark (d : Dev) (t : Nat) : Dev :=
  let send (q : PortSt) : PortSt := q.sendMark (t + latNs (some q.fwd))
  { d with sawE := some t, portE := send d.portE, portW := send d.portW }

/-- MERIDIAN_SEND: 16 µs before the boundary the sweep mark reaches the head S-die, which sends K28.1 on both ports;
SWEEP_HEADER follows (R58, R264). -/
def execMeridianSend (s : State) : Out :=
  onC s fun s =>
    if (s.dev 0).awake = false ∨ (s.dev 0).isHead = false then s
    else
      let s := s.until (s.swp.nextB - us 16)
      let h := s.headerMsg
      let b := ringByteOf h
      let s := { s with pw := { s.pw with markLost := false } }.modDev 0 (·.launchMark (s.swp.nextB - us 16))
      let s := (s.eventIf (decide (b ≠ s.swp.ringByte)) Ev.ring).downFrame 0xFF (.header h)
      let s := { s with swp := { s.swp with ringByte := b } }
      s.overD1 (·.getHeader h)

/-! ### Settings of the head at a boundary -/

/-- The window of a position's group at the head: an adopted position's records follow it, any other keeps it for later;
before the first adoption the Legend alone holds the length (R113). -/
def State.headWindow (s : State) (n p g : Nat) (w : Window) : State :=
  if p < s.trv.n then s.setPosWin n p g w
  else if (smapGet s.posWins (9 * p + g)).isSome then s.pushWin p g w
  else s

/-- SWP_CTRL takes a value at the boundary of sweep n (R56, R328). -/
def State.setSwp (s : State) (n v : Nat) : State :=
  let p := v % 8
  let t := v / 16
  let newP := decide (p ≠ s.swp.period)
  let newT := decide (t ≠ s.swp.tickdiv)
  let s := { s with swp := { s.swp with period := p, tickdiv := t } }
  let s := if newP then
      let s := (List.range 288).foldl (fun s i => s.headWindow n (i / 9) (i % 9) ⟨(s.posWin (i / 9) (i % 9)).w, n⟩) s
      let s := (List.range 8).foldl (fun s g => s.chSetWindow n g ⟨(s.chWin g).w, n⟩) s
      { s with swp := { s.swp with reduced := false }, der := { s.der with plFrom := n, drFrom := n } }
    else s
  if newP || newT then (if s.pw.coreReset.isNone then s.loopRate else s) else s

/-- ERR_CTRL takes a value at a boundary (R403, R405). -/
def State.setErr (s : State) (v : Nat) : State :=
  let was := s.errCompat
  let s := { s with flt := { s.flt with ctrl := word v } }
  let s := if s.errCompat && !was && !s.flt.errLow then
      (if s.flt.stalled then s.errDrop else { s with flt := { s.flt with wave := true } })
    else if was && !s.errCompat then { s with flt := { s.flt with wave := false } }
    else s
  s.errEval

/-- An input at a change of its configuration word (R357 to R361). -/
def State.siRefit (s : State) (i : Nat) : State :=
  let x := s.input i
  let agree := s.siBoth i || s.siNone i
  let s := if i < 4 ∧ s.siRole i = 0 then (s.clear 0x10 1 0 (i + 1)).clear 0x10 2 0 (i + 1) else s
  if x.act ∧ s.siBoth i = false then
    let s := (s.modInput i (fun (y : SafeIn) => { y with
      discAt := if agree then none else some s.now, wasActive := true, accepted := false, rwait := false })).siSafe i
    if i < 4 ∧ s.siRole i = 1 then s.raiseOpen 0x10 2 0 (i + 1) else s
  else if x.act ∧ s.siRole i = 2 ∧ s.saf.coupled = false ∧ s.saf.cplAt = none then
    { s with saf := { s.saf with cplAt := some s.now } }
  else if agree then s.modInput i (fun (y : SafeIn) => { y with discAt := none })
  else if x.discAt = none ∧ x.disc = false then
    s.modInput i (fun (y : SafeIn) => { y with discAt := some s.now, wasActive := false, rwait := false, accepted := false })
  else s

/-- A channel that the Legend takes out of use has its drives off, and its contact is not judged (R340). -/
def State.chanRefit (s : State) (n : Nat) : State :=
  if s.contUse n ∨ (s.chan n).phase = .opened then s
  else (s.modChan n (fun (c : Channel) => { (({} : Channel)) with kf := c.kf, ks := c.ks, lastRef := c.lastRef })).event Ev.cont

/-- Record 189 at a commit that makes it present or not present (R119, R193). -/
def State.sentRecord (s : State) (was : Bool) (n : Nat) : State :=
  if s.sentCurrent = was ∨ s.trv.n = 0 then s
  else
    let i := atlasIdx 0 189
    let s := { s with tracks := smapErase s.tracks i }
    if was then s.atlasPut i notPresent else (s.atlasPut i awaiting).headStart 0 189 n

/-- The DR records at a commit that makes those of a position present or not present (R119, R201); `was` are the positions
that had them. -/
def State.drRecords (s : State) (was : List Nat) (n : Nat) : State :=
  (List.range s.trv.n).foldl (fun s p =>
    if s.drPresent p = was.contains p then s
    else
      (groupRecords 2).foldl (fun (s : State) r =>
        let i := atlasIdx p r
        let s := { s with tracks := smapErase s.tracks i }
        if s.drPresent p then (s.atlasPut i awaiting).headStart p r n else s.atlasPut i notPresent) s) s

/-- One field of a change set takes effect at the head at the boundary of sweep n. -/
def State.fieldEffect (s : State) (n : Nat) (bulk : Bool) (fid idx v : Nat) : State :=
  if fid = Fld.win then
    (if 288 ≤ idx then s.chSetWindow n (idx - 288) ⟨v, n⟩
     else if bulk then s
     else s.headWindow n (idx / 9) (idx % 9) ⟨v, n⟩)
  else if fid = Fld.thCfg ∧ v % 4 = 0 then
    let p := idx / 32
    let k := idx % 32 + 1
    let s := ((s.clear 0x03 1 p k).clear 0x04 1 p k).clear 0x05 3 p k
    s.modTrack (atlasIdx p (144 + idx % 32)) (fun (t : RecTrack) => { t with miss := 0, usable := none, hi := 0 })
  else if Fld.plSpan ≤ fid ∧ fid ≤ Fld.plN then
    { s with der := { s.der with plFrom := n, plFail := 0, plPass := 0 } }
  else if fid = Fld.drSpan then { s with der := { s.der with drFrom := n } }
  else if fid = Fld.siCfg then s.siRefit idx
  else if fid = Fld.rstCfg then s.siRefit 4
  else if fid = Fld.contCfg then s.chanRefit idx
  else s

/-- Gazetteer entries of a change set: one per field identity changed (R479). -/
def State.gazChange (s : State) (n : Nat) (old new : SMap Nat) (c : ChangeSet) : State :=
  (fidsOf c.fields).foldl (fun s fid =>
    let a := fieldAll old fid
    let b := fieldAll new fid
    if a = b then s else s.gazAdd n c.host c.level fid (crc32c a) (crc32c b)) s

/-- The change sets of a boundary become active (R473, R475, R476): one after the other in working memory; the copy that
holds them becomes the active one. A change set that waits for a later boundary stands in the other copy. -/
def State.activateSets (s : State) (n : Nat) (sets : List ChangeSet) : State :=
  match sets.getLast? with
  | none => s
  | some last =>
    let present := s.chUsed
    let current := s.sentCurrent
    let dr := (List.range s.trv.n).filter s.drPresent
    let fs := sets.foldl overSet s.leg.active.fields
    let s := (sets.foldl (fun (x : State × SMap Nat) c =>
      let m := overSet x.2 c
      (x.1.gazChange n x.2 m c, m)) (s, s.leg.active.fields)).1
    let img : Image := ⟨last.version, n % 2 ^ 32, last.host, last.level, false, true, false, fs⟩
    let l := { s.leg with active := img, useB := !s.leg.useB, donePend := true, fallback := false }
    let l := if l.useB then { l with copyB := img } else { l with copyA := img }
    let s := { s with leg := l }
    let s := sets.foldl (fun s c => c.fields.foldl (fun s e => s.fieldEffect n c.bulk (e.1 / 65536) (e.1 % 65536) e.2) s) s
    (((((s.sentRecord current n).drRecords dr n).chRefresh present n).sentApply).event Ev.legend)

/-- The image of a change set that has landed for the boundary after this one stands in the copy that is not active. -/
def State.restage (s : State) : State :=
  match s.pendingSets.getLast? with
  | none => s
  | some c =>
    let img : Image := ⟨c.version, s.effect % 2 ^ 32, c.host, c.level, false, true, false, s.pendingFields⟩
    { s with leg := if s.leg.useB then { s.leg with copyA := img } else { s.leg with copyB := img } }

/-- A firmware activation at its boundary (R481): the core restarts into its new slot. -/
def State.activateFw (s : State) (n : Nat) (sDies : Bool) (positions : List Nat) (host : HostId) (level : Nat) : State :=
  let l := s.leg
  let crc := match l.fw with
    | some f => f.crc
    | none => 0
  if sDies then
    let s := positions.foldl (fun s p => s.openMask (.sDieCore p) (ms 20)) s
    let s := s.gazAdd n (hostNum host) level 0xFF11 (fwCrc 1 l.runCrc.2) crc.toNat
    { s with leg := { s.leg with runCrc := (l.runCrc.1, some crc), prevCrc := (l.prevCrc.1, l.runCrc.2), fw := none } }.event Ev.fwupd
  else
    let s := s.gazAdd n (hostNum host) level 0xFF10 (fwCrc 0 l.runCrc.1) crc.toNat
    let s := { s with
      leg := { s.leg with
        release := Config.firmwareRelease crc, prevRelease := l.release, newSlot := none, firstStart := some s.now
        runCrc := (some crc, l.runCrc.2), prevCrc := (l.runCrc.1, l.prevCrc.2), fw := none }
      pw := { s.pw with coreReset := some (s.now, ms 50), coreWd := false } }
    (s.openMask .supervisor (ms 50)).event Ev.fwupd

/-- A landed setting takes effect at the boundary of sweep n, but for change sets, direct writes, state orders, loops and
channels, which have their own place in the order of the boundary (R495, R511). -/
def State.landedEffect (s : State) (n : Nat) (x : Landed) : State :=
  match x with
  | .traverse => s.triggerTraverse
  | .password level pw host hostLevel =>
    let old := if level = 2 then s.leg.pwService else s.leg.pwOperator
    let dig (b : List Byte) : Nat := crc32c (Config.passwordDigest level b)
    let s := s.gazAdd n (hostNum host) hostLevel (if level = 2 then 0xFF02 else 0xFF01) (dig old) (dig pw)
    { s with leg := if level = 2 then { s.leg with pwService := pw, pwDefault := (s.leg.pwDefault.1, false) }
        else { s.leg with pwOperator := pw, pwDefault := (false, s.leg.pwDefault.2) } }
  | .firmware sDies positions host hostLevel => s.activateFw n sDies positions host hostLevel
  | .position p groups => groups.foldl (fun s g => s.headWindow n p g ⟨s.par Fld.win (9 * p + g), n⟩) s
  | .supplyRestart c => s.sentRestart (c - 1)
  | .device _ => s
  | .swpCtrl _ => s
  | .errCtrl _ => s
  | .requestConfig => s
  | .withdrawConfig => s
  | .legend _ => s
  | .loopMode _ => s
  | .loopTune _ => s
  | .channel _ _ => s
  | .survey _ => s
  | .dormant => s

/-! ### Adoption at the head (R119, R283, R482) -/

/-- The slot k hops from the head through port E or W. -/
def State.hopSlot (s : State) (p : RPort) : Nat → Nat
  | 0 => 0
  | k + 1 => s.peer (s.hopSlot p k) p

/-- The slot of position p by the pass that was adopted. -/
def State.passSlot (s : State) (r : PassResult) (p : Nat) : Nat :=
  if r.hopsE.getD p 0 ≠ 0 then s.hopSlot .E (r.hopsE.getD p 0)
  else if r.hopsW.getD p 0 ≠ 0 then s.hopSlot .W (r.hopsW.getD p 0)
  else 0

/-- The special entry that an index of an adopted position takes (R119, R201). -/
def State.freshEntry (s : State) (i : Nat) : Entry :=
  if s.recPresent (i / 192) (i % 192) then awaiting else notPresent

/-- The Atlas as an adoption of n devices leaves it (R119). -/
def State.freshAtlas (s : State) (n : Nat) : SMap Entry := (List.range (192 * n)).map (fun i => (i, s.freshEntry i))

/-- What the head tracks of a position at an adoption (R59, R274, R276, R283, R286); the Atlas follows a `renewed` position's
records from here (R119, R275). -/
def State.adoptPosition (s : State) (n : Nat) (r : PassResult) (changed renewed : Bool) (p : Nat) : State :=
  let l := r.links.getD p (0, 0)
  let e := r.hopsE.getD p 0
  let w := r.hopsW.getD p 0
  s.modPos p (fun (t : PosTrack) =>
    let t := if changed then { (({} : PosTrack)) with since := n } else t
    { t with
      trackFrom := if renewed then n else t.trackFrom, id := r.ids.getD p 0, nextSeq := none, heldF := [], lastSweep := n, silent := false
      linkE := l.1, linkW := l.2
      downE := !linkUpWord l.1 || s.hasCause ⟨0x0A, 1, p, 0⟩, downW := !linkUpWord l.2 || s.hasCause ⟨0x0A, 1, p, 1⟩
      dflags := r.dflags.getD p 0, latE := r.latE.getD p 0, latW := r.latW.getD p 0
      prefW := decide (p ≠ 0) && decide (w ≠ 0) && (decide (e = 0) || decide (w < e)) })

/-- A position that is no longer adopted: its causes clear, and the clearing is logged (R392). -/
def State.dropPosition (s : State) (p : Nat) : State :=
  let s := (s.flt.causes.filter (fun c => decide (c.src.pos = p))).foldl (fun s c => s.clearAt c.src s.sweep) s
  s.modPos p (fun _ => {})

/-- The adoption takes effect at the head at the boundary of sweep n (R113, R119, R283, R284, R482). -/
def State.adoptNow (s : State) (n : Nat) (a : AdoptMsg) (r : PassResult) : State :=
  let first := decide (s.trv.n = 0)
  let old := s.trv.n
  let changed := (List.range a.n).filter (fun p => first || decide ((s.posTrack p).id ≠ r.ids.getD p 0))
  let s := { s with trv := { s.trv with
    n := a.n, closed := a.closed, sa := a.sa, adoptedTrav := a.trav, settled := !s.trv.running, adopting := none } }
  -- windows
  let s := (List.range 288).foldl (fun s i =>
    if (smapGet s.posWins i).isNone then { s with posWins := smapSet s.posWins i ⟨s.par Fld.win i, a.sa⟩ } else s) s
  -- the Atlas
  let keep (i : Nat) : Bool := !decide (a.n ≠ old) && !changed.contains (i / 192)
  let s := { s with
    atlas := if a.n = old then s.atlas else s.freshAtlas a.n
    tracks := s.tracks.filter (fun x => keep x.1), written := s.written.filter (fun x => keep x.index)
    headAccs := s.headAccs.filter (fun x => keep x.1)
    der := { s.der with
      headDue := s.der.headDue.filter (fun x => keep x.index), lateIn := s.der.lateIn.filter (fun x => keep x.index)
      evalWait := s.der.evalWait.filter (fun x => keep x.index) } }
  let s := (List.range a.n).foldl (fun s p =>
    if a.n ≠ old ∨ changed.contains p then
      [2, 3, 4, 8].foldl (fun s g => (headRecords p g).foldl (fun s r => s.headStart p r n) s) s
    else s) s
  -- positions
  let s := (List.range a.n).foldl (fun s p => s.adoptPosition n r (changed.contains p) (decide (a.n ≠ old) || changed.contains p) p) s
  let s := (List.range (old - a.n)).foldl (fun s i => s.dropPosition (a.n + i)) s
  let s := if first then s else changed.foldl (fun s p => s.raiseOpenEv 0x0B 4 p (openDetail 0x0B 4 p)) s
  let ringN : Nat := s.par Fld.ringN 0
  let s : State := if ringN = 0 ∨ ringN = a.n then s else s.raiseOpenEv 0x0B 5 0 (openDetail 0x0B 5 0)
  let s : State := changed.foldl (fun (s : State) p =>
    let rel := (s.dev (s.passSlot r p)).release
    if p ≠ 0 ∧ rel ≠ (s.dev 0).release then s.raiseEv 0x1A 6 p 0 (word rel) else s) s
  -- settings
  changed.foldl (fun (s : State) p => s.stageOwn p) s

/-- The adoption that is decided takes effect once its sweep has come. -/
def State.adoptDue (s : State) (n : Nat) : State :=
  match s.trv.adopting with
  | some (a, r) => if a.sa ≤ n ∧ s.pw.coreReset.isNone then s.adoptNow n a r else s
  | none => s

/-! ### Operating state at a boundary (R489 to R498) -/

/-- Item 3 of R489 holds: no CV record of an adopted position awaits its first entry. -/
def State.cvPresent (s : State) : Bool :=
  (List.range s.trv.n).all (fun p => (List.range 24).all (fun k => decide (s.atlasGet (atlasIdx p k) ≠ awaiting)))

/-- SWP_STATE.HOLD: the first failing item of R489 (R494). -/
def State.holdCode (s : State) : Nat :=
  if s.leg.fallback then 1 else if s.trv.settled = false then 2 else if s.cvPresent = false then 3
  else if s.pw.cfgReq then 4 else 0

/-- The run conditions hold (R489). -/
def State.runConditions (s : State) : Bool := decide (s.holdCode = 0) && !s.pw.locked

/-- RUN, or SAFE while the collector's trip request is asserted (R489). -/
def State.runOrSafe (s : State) : OpState := if s.sevAtLeast 3 then .safe else .run

/-- State orders at a boundary (R494). -/
def State.stateOrders (s : State) (l : List Landed) : State :=
  let last := (l.filterMap (fun (x : Landed) => match x with
    | .requestConfig => some true
    | .withdrawConfig => some false
    | _ => none)).getLast?
  match last with
  | none => s
  | some false => { s with pw := { s.pw with cfgReq := false } }
  | some true =>
    let drop (s : State) : State := { s with pw := { s.pw with drop := 2 } }
    match s.pw.op with
    | .run => if s.allSafe then { s with pw := { s.pw with cfgReq := true } }.enter .config else drop s
    | .safe => if s.allSafe then { s with pw := { s.pw with cfgReq := true } }.enter .config else drop s
    | .wake => { s with pw := { s.pw with cfgReq := true } }
    | .config => { s with pw := { s.pw with cfgReq := true } }
    | _ => drop s

/-- Transitions of the operating state at a boundary (R489 to R492). -/
def State.transitions (s : State) : State :=
  match s.pw.op with
  | .wake =>
    if s.pw.locked then (s.enter .locked).event Ev.wake
    else if s.runConditions then (s.enter s.runOrSafe).event Ev.wake
    else if s.pw.startAt + ms 2000 ≤ s.now then (s.enter .config).event Ev.wake
    else s
  | .config => if s.runConditions then s.enter s.runOrSafe else s
  | .safe => if s.sevAtLeast 3 = false ∧ s.pw.cfgReq = false then s.enter .run else s
  | _ => s

/-- A DORMANT order may act (R497). -/
def State.dormantFit (s : State) : Bool :=
  decide (s.pw.op = .config ∨ s.pw.op = .run ∨ s.pw.op = .safe ∨ s.pw.op = .locked) && s.allSafe

/-! ### Channels, inputs and loops at a boundary -/

/-- Contactor commands that have landed: the last for each channel; opens before closes (R65, R346, R347). -/
def State.channelOrders (s : State) (l : List Landed) : State :=
  let order (n : Nat) : Option Bool := (l.filterMap (fun (x : Landed) => match x with
    | .channel k c => if k = n then some c else none
    | _ => none)).getLast?
  let s := (List.range 6).foldl (fun s n => if order n = some false then s.chanOpen n else s) s
  (List.range 6).foldl (fun s n => if order n = some true then s.chanClose n else s) s

/-- Inputs with manual restart at the first boundary after a start (R358). -/
def State.firstInputs (s : State) : State :=
  (List.range 4).foldl (fun s i =>
    let x := s.input i
    if s.siAuto i ∨ x.act ∨ x.disc ∨ s.siBoth i = false then s
    else (if x.accepted then s.siMakeActive i else s.modInput i (fun (y : SafeIn) => { y with rwait := true })).event Ev.sin) s

/-- The check for WELD 0x02 begins: a contact that stands closed on a channel that is OPEN or BLOCKED (R355). -/
def State.weldCheck (s : State) : State :=
  if s.saf.weldDue ∧ s.pw.coreReset.isNone then
    let s := { s with saf := { s.saf with weldDue := false } }
    (List.range 6).foldl (fun s n =>
      if s.contUse n ∧ (s.chan n).kf ∧ (s.chan n).safe then s.raiseOpenEv 0x12 2 0 (chanDetail n) else s) s
  else s

/-- Loop slots at a boundary (R311, R322, R326, R334): `dests` are the destinations before the boundary. -/
def State.loopBoundary (s : State) (dests : List Nat) (l : List Landed) : State :=
  if s.pw.coreReset.isSome then s
  else
    let s := s.loopApply dests
    let s := l.foldl (fun s (x : Landed) => match x with
      | .loopMode o => s.loopOrder o
      | .loopTune o => s.tuneOrder o
      | _ => s) s
    s.loopWaiting

/-! ### What the head derives at a boundary -/

/-- Caps on the published steps, and the steps published (R305, R381). -/
def State.applyCaps (s : State) : State :=
  let loose := decide (s.ses.st ≠ .accepted)
  let cap (unc drt : Nat) : Nat :=
    let c := if loose then min 15 (s.par unc 0) else 15
    let c := if s.sevAtLeast 2 then min c (s.par drt 0) else c
    if s.sevAtLeast 3 ∨ s.pw.op = .locked then 0 else c
  let c := cap Fld.ctUncC Fld.drtC
  let d := cap Fld.ctUncD Fld.drtD
  { s with ctr := { s.ctr with
    capC := c, capD := d, outC := min s.ctr.pubC c, outD := min s.ctr.pubD d
    lowered := decide (c < s.ctr.pubC) || decide (d < s.ctr.pubD) } }

/-- SWP_ALIGN from the sweep-health of the adopted devices (R57, R63). -/
def State.alignCounts (s : State) : State :=
  let ds := (List.range s.trv.n).filterMap (fun p => (s.slotOf p).map s.dev)
  { s with swp := { s.swp with
    flywheel := min 255 (ds.filter (fun d => decide (d.health = 2))).length
    otherDir := min 255 (ds.filter (fun d => decide (d.useW ≠ d.prefW))).length
    unsync := min 255 (ds.filter (·.unsync)).length } }

/-- System calibration sequences that are over close at the boundary at which their factors take effect, not before (R183). -/
def State.closeCal (s : State) : State :=
  let waits (c : SysCal) : Bool := (s.swp.landed ++ s.swp.landNext).any (fun x => match x with
    | .legend l => (smapGet l.fields (fieldKey Fld.scOfs (scIndex c.chan))).isSome
    | _ => false)
  { s with der := { s.der with
    sysCal := s.der.sysCal.filter (fun c => c.zero.isSome || c.measuring.isSome || waits c) } }

/-! ### SWEEP_BOUNDARY -/

/-- Windows of the head close, and sweep n begins (R53, R55, R113, R391). -/
def State.closeHead (s : State) (n : Nat) (r : ChassisReadings) : State :=
  let first := s.swp.count.isNone
  let s := s.lapseEvents
  let s := if first then s else ((s.chReadings r).chBoundary n).headBoundary n
  let s := { s with swp := { s.swp with
    count := some n, boundary := s.now, tick := 0, deadline := false, reactCut := false
    derivedLate := false, evalLate := false, lateIdx := [] } }
  if first then
    s.chUsed.foldl (fun s i =>
      let w := s.chWin (chGroup i)
      s.modCh i (fun (c : ChassisRec) => { c with acc := openAcc { prm := true } (w.opens n) (meanModeOf s.swp.period w.w) n })) s
  else s

/-- Everything that landed takes effect at the boundary of sweep n, in the order of R495 and R511. -/
def State.applyLanded (s : State) (n : Nat) (l : List Landed) : State :=
  let first := decide (n = 0)
  let dests := (List.range 16).map s.loopDest
  let sets := s.dueSets
  let swp := s.swpNext
  let err := s.errNext
  let regS := s.dueReg Fld.regSwp
  let regE := s.dueReg Fld.regErr
  let s := { s with swp := { s.swp with
    landed := [], hold := false
    shadow := (regS.map word).getD s.swp.shadow, errShadow := (regE.map word).getD s.swp.errShadow
    epoch := (s.swp.record.map CommitMsg.epoch).getD s.swp.epoch, record := none } }.eventIf s.swp.record.isSome Ev.epoch
  let s := (s.setSwp n swp).setErr err
  let s := s.activateSets n sets
  let s := l.foldl (fun s x => s.landedEffect n x) s
  let s := s.adoptDue n
  let s := (s.stateOrders l).transitions
  let s := s.channelOrders l
  let s := { s with flt := { s.flt with beforeFirst := false } }
  let s := if first then s.firstInputs else s
  (s.weldCheck.coupleByState).loopBoundary dests l

/-- The next sweep's own beginnings: caps, reactions, Traverse, held writes, waiting frames (R64, R69, R266, R277, R509). -/
def State.beginSweep (s : State) : State :=
  let s := (s.applyCaps.alignCounts).closeCal
  let s := { s with
    swp := { s.swp with reactions := s.swp.reactNext ++ s.swp.reactions, reactNext := [], nextB := s.swp.boundary + s.periodNs }
    trv := { s.trv with due := s.trv.trigger || (s.trv.running && !s.trv.passOpen) } }
  let s := s.holdReactions
  let held := s.swp.held
  let late := s.swp.landNext
  let s := { s with swp := { s.swp with held := [], landNext := [] } }
  let s := held.foldl (fun s w => s.landHeld w) s
  let s := { s with swp := { s.swp with landed := s.swp.landed ++ late } }
  let s := s.restage.sndSettle
  let s := { s with swp := { s.swp with downUsed := 0 } }.drainDown
  let s := if s.pw.coreReset.isNone then s.stageDue else s
  let s := s.catchUp
  (s.event Ev.sweep).evalTrip.errEval

/-- SWEEP_BOUNDARY: the head's sweep boundary (R55, R70, R476, R495). Commit engine steps of the ending sweep that have not
come are made first (log 41). -/
def execSweepBoundary (r : ChassisReadings) (s : State) : Out :=
  onC s fun s =>
    let s := if s.swp.hold then s else s.freezeRecord
    let s := s.sendRecord
    let s := if s.swp.reactCut then s else s.cutReactions
    let s := s.until s.swp.nextB
    let n := s.nextCount
    let l := s.swp.landed
    let s := s.closeHead n r
    if l.contains .dormant ∧ s.dormantFit then s.cDieDown .dormant
    else
      let s := if l.contains .dormant then { s with pw := { s.pw with drop := 1 } } else s
      (s.applyLanded n l).beginSweep

/-! ### Overruns (R74, R138, R169) -/

/-- A Survey entry of the device overran at t: its result is discarded, its open-wire current ends, and a third in a row
declares the converter failed (R138, R139, R169). -/
def Dev.surveyLate (d : Dev) (t : Nat) : Dev :=
  let d := match d.sv.running with
    | some r => if r.spotSlot.isSome then d else (d.owCurrentEnd r.entry t).modSv (fun v => { v with running := none })
    | none => d
  let d := d.modSv (fun v => { v with slotAt := none, lateCnt := v.lateCnt + 1, timelyCnt := 0 })
  if 3 ≤ d.sv.lateCnt then d.setBench 5 true else d

/-- The consequence of an overrun of the head, sub-codes 0x02 to 0x05 (R74; log 157): 0x02 delays the writes of an Atlas index
(below 6,144) or of a Chassis index (from 6,144 on) into the next sweep, 0x03 the derived records, 0x04 the evaluation of
entries still to be judged; 0x05 passes over a control tick. DESIGN CHOICE (log 157): in a sweep with 0x03 the ATLAS event,
which says that the derived records are complete, is not raised (R123). -/
def State.overrunEffect (s : State) (sub index : Nat) : State :=
  match sub with
  | 2 => if index < 6144 then { s with swp := { s.swp with lateIdx := index :: s.swp.lateIdx } }
      else s.modCh (index - 6144) (·.delay)
  | 3 => { s with swp := { s.swp with derivedLate := true } }
  | 4 => { s with swp := { s.swp with evalLate := true } }
  | 5 => if s.tickDue then { s with swp := { s.swp with tick := s.swp.tick + 1 } } else s
  | _ => s

/-- SWEEP_OVERRUN: a block misses its window (R74). Sub-codes 0x02 to 0x05 are the head's; 0x01 and 0x06 are a device's, which
reports them with its items. -/
def execSweepOverrun (d sub index : Nat) (s : State) : Out :=
  if 2 ≤ sub ∧ sub ≤ 5 then
    onC s fun s =>
      if d ≠ 0 ∨ s.swp.count.isNone then s else (s.raiseOpenEv 0x1C sub 0 index).overrunEffect sub index
  else
    onS s d fun s =>
      if sub = 1 ∨ sub = 6 then
        s.modDev d (fun (x : Dev) =>
          let x := x.report true 0x1C sub index x.openValue
          if sub = 6 then x.surveyLate s.now else x)
      else s

end Sys2Proof.Machine
end

