-- ==== Sys2Proof/Machine/HostPorts.lean ====
section
/-!
DEFINITION. The host ports (R408 to R415, R505 to R515): transactions and their errors, the direct registers, the windows of
the queues, and the placement of responses (R425).
-/

namespace Sys2Proof.Machine

/-! ### The end of a transaction (R412, R413) -/

/-- IRQ_N of a port is asserted (R433). -/
def HostPort.irq (p : HostPort) : Bool :=
  p.frozen || decide (p.flag0 &&& p.mask0 ≠ 0) || decide (p.flag1 &&& p.mask1 ≠ 0)

/-- The status byte (R412). -/
def State.statusByte (s : State) (h : HostId) : Byte :=
  let p := s.port h
  BitVec.ofNat 8 (1 + 4 * b2n s.pw.locked + 8 * (p.level % 4) + 32 * b2n (decide (p.lastErr ≠ 0)) + 64 * b2n p.irq
    + 128 * b2n p.frozen)

/-- A transaction ends with a code of R413. Errors 0x01 to 0x03 are counted, and sixteen within a second raise HOST 0x05. -/
def State.endTransfer (s : State) (h : HostId) (code : Nat) : State :=
  let s := s.modPort h (fun p => { p with lastErr := code })
  let s := if code = 0 then s else s.eventOn h Ev.xerr
  if 1 ≤ code ∧ code ≤ 3 then
    let s := s.modPort h (fun p => { p with
      errCnt := min (p.errCnt + 1) 255
      errTimes := s.now :: p.errTimes.filter (fun t => decide (s.now < t + ms 1000)) })
    if 16 ≤ (s.port h).errTimes.length then s.raiseOpenEv 0x1B 5 0 (hostNum h) else s
  else s

/-- The port shifts out bytes, as far as the transaction goes (R409). -/
def State.shiftOut (s : State) (h : HostId) (n : Nat) (b : List Byte) : State :=
  s.modPort h (fun p => { p with miso := b.take n })

/-! ### The address space (R505, R506, R513) -/

/-- The direct register exists (R506). -/
def regMapped (a : Nat) : Bool :=
  decide (a < 0x03) || decide (0x10 ≤ a ∧ a < 0x14) || decide (0x20 ≤ a ∧ a < 0x23) || decide (0x30 ≤ a ∧ a < 0x36)
    || decide (0x40 ≤ a ∧ a < 0x44) || decide (a = 0x50) || decide (a = 0x60) || decide (0x80 ≤ a ∧ a < 0xC0)

/-- The address lies in a queue window (R513). -/
def inWindow (a : Nat) : Bool := decide (0x1000 ≤ a ∧ a < 0x2000)

/-- The queue of a window address. -/
def windowQueue (a : Nat) : Nat := (a - 0x1000) / 0x40

/-- The offset in its window. -/
def windowOffset (a : Nat) : Nat := (a - 0x1000) % 0x40

/-- The queue belongs to the port (R416). -/
def ownQueue (h : HostId) (q : Nat) : Bool := decide (q / 32 = hostNum h)

/-- The queue is a command queue (R416). -/
def isCommandQueue (q : Nat) : Bool := decide (q % 32 < 16)

/-- The error of an address range, 0 for none (R413 codes 0x05 and 0x06, R505, R514, R515). -/
def rangeError (h : HostId) (write : Bool) (a n : Nat) : Nat :=
  if inWindow a then
    let q := windowQueue a
    if 64 < windowOffset a + n then 5
    else if ownQueue h q = false ∨ (write = false ∧ isCommandQueue q) then 6
    else if write ∧ windowOffset a ≠ 0 then 5
    else if write ∧ isCommandQueue q = false ∧ n ≠ 1 then 5
    else 0
  else if (List.range n).all (fun i => regMapped (a + i)) then 0 else 5

/-! ### Reads (R413, R415, R506) -/

/-- Complete messages or fragments at the head of a command queue, and whether an incomplete one follows (R418, R432). -/
def countMsgs : Nat → List Word → Nat × Bool
  | 0, ws => (0, !ws.isEmpty)
  | fuel + 1, ws =>
    match ws with
    | [] => (0, false)
    | w :: rest =>
      let n := (w.toNat % 8192 + 3) / 4
      if rest.length < n then (0, true)
      else
        let r := countMsgs fuel (rest.drop n)
        (r.1 + 1, r.2)

/-- MBX_QSTAT (R432). -/
def State.qstat (s : State) (q : Nat) : Nat :=
  let x := s.queue q
  let c := countMsgs (x.words.length + 1) x.words
  let h := if q / 32 = 0 then HostId.A else HostId.B
  let opened := if isCommandQueue q then c.2 || ((s.port h).reqOf (q % 16)).isSome else x.opened
  let n := if isCommandQueue q then c.1 else x.msgs.length
  4 * x.words.length + 2 ^ 14 * x.size + 2 ^ 22 * b2n opened + 2 ^ 24 * min n 255

/-- The value that a read of a field that acts at the boundary returns: the last held value, or the shadow (R509). -/
def State.heldValue (s : State) (addr : Nat) : Option Nat :=
  ((s.swp.held.filter (fun w => decide (w.addr = addr))).getLast?).map (fun w => w.value.toNat)

/-- A write to SWP_CTRL is held, or has landed and is not in force (R510). -/
def State.swpPend (s : State) : Bool :=
  s.swp.held.any (fun w => decide (w.addr = 0x30)) || s.swp.landed.any (fun (x : Landed) => match x with
    | .swpCtrl _ => true
    | _ => false)

/-- SWP_STATE (R494). -/
def State.swpState (s : State) : Nat :=
  let hold := if (s.pw.op = .wake ∨ s.pw.op = .config) ∧ s.flt.beforeFirst = false then s.holdCode else 0
  opCode s.pw.op + 64 * b2n s.pw.cfgReq + 128 * b2n s.pw.stRej + 256 * hold + 2048 * s.pw.drop

/-- LEG_STAT (R476). -/
def State.legStat (s : State) : Nat :=
  let l := s.leg
  let v := if l.fallback then 0 else l.active.version
  v + 2 ^ 16 * b2n (decide (l.staged ≠ []) || l.loaded.isSome) + 2 ^ 17 * b2n (decide (s.pendingSets ≠ []) || s.staging 2)
    + 2 ^ 18 * b2n (decide (s.par Fld.lockReg 0 = 1)) + 2 ^ 19 * b2n (l.pwDefault.1 || l.pwDefault.2) + 2 ^ 20 * b2n l.fallback
    + 2 ^ 24 * min 255 (Config.spareSectors - l.retired)

/-- FRZ_STAT (R431). -/
def State.frzStat (s : State) : Nat :=
  let one (p : HostPort) : Nat := b2n p.frozen + 2 * p.lastRsn
  one s.portA + 2 ^ 8 * one s.portB + 2 ^ 16 * s.portA.frzCount + 2 ^ 24 * s.portB.frzCount

/-- HST_STAT of a port (R415). -/
def State.hstStat (s : State) (h : HostId) : Nat :=
  let p := s.port h
  b2n p.frozen + 2 * p.frzRsn + 16 * p.level + 64 * b2n (s.holdsAny h) + 2 ^ 8 * p.lastErr + 2 ^ 16 * p.errCnt
    + 2 ^ 24 * p.pwFail

/-- What a direct register reads on a port (R506). Fields that can only be written read as 0. -/
def State.readReg (s : State) (h : HostId) (a : Nat) : Nat :=
  let p := s.port h
  if 0x80 ≤ a ∧ a < 0xC0 then s.qstat (a - 0x80)
  else
    match a with
    | 0x00 => 0x012448 + 2 ^ 24 * hostNum h
    | 0x01 => s.hstStat h
    | 0x02 => p.scratch.toNat
    | 0x10 => p.flag0.toNat
    | 0x11 => p.flag1.toNat
    | 0x12 => p.mask0.toNat
    | 0x13 => p.mask1.toNat
    | 0x20 => s.semOwner
    | 0x30 => swpBits ((s.heldValue 0x30).getD s.swp.shadow.toNat)
    | 0x31 => b2n s.swp.rej + 2 * b2n s.swp.hold + 4 * b2n s.swp.ovr + 2 ^ 8 * s.swp.lastSub + 2 ^ 16 * s.swp.epoch
    | 0x32 => s.sweep % 2 ^ 32
    | 0x33 => s.swp.flywheel + 2 ^ 8 * s.swp.otherDir + 2 ^ 16 * s.swp.unsync
    | 0x34 => s.swpState
    | 0x35 => s.swpNow + 128 * b2n s.swpPend
    | 0x40 => errBits ((s.heldValue 0x40).getD s.swp.errShadow.toNat)
    | 0x41 => s.errCause
    | 0x42 => s.errLatch
    | 0x43 => s.errStat
    | 0x50 => s.frzStat
    | 0x60 => s.legStat
    | _ => 0

/-- The words of a read without an error of its range, and its code: 0x07 past the content of a response queue (R515). -/
def State.readWords (s : State) (h : HostId) (a n : Nat) : List Word × Nat :=
  if inWindow a then
    let ws := (s.queue (windowQueue a)).words
    let j := windowOffset a
    ((List.range n).map (fun i => ws.getD (j + i) 0), if ws.length < j + n then 7 else 0)
  else ((List.range n).map (fun i => word (s.readReg h (a + i))), 0)

/-- A read of n words at an address whose header passed or failed its CRC, of which the host clocks `len` bytes (R409,
R413). -/
def State.hostRead (s : State) (h : HostId) (op hi lo n len : Nat) (crcOk : Bool) : State :=
  let a := 256 * hi + lo
  let code := if (s.port h).frozen then 9 else if crcOk = false then 1 else if bit op 6 then 4
    else rangeError h false a n
  let r := if code = 0 then s.readWords h a n else (List.replicate n 0, code)
  let data := wordsToBytes r.1
  let c := crc8 ([BitVec.ofNat 8 op, BitVec.ofNat 8 hi, BitVec.ofNat 8 lo] ++ data)
  let c := if code = 0 then c else 255 - c
  let out := s.statusByte h :: ([0, 0, 0] ++ data ++ [BitVec.ofNat 8 c])
  (s.shiftOut h len out).endTransfer h r.2

/-! ### Writes (R507 to R509, R514, R515) -/

/-- A write to SWP_CTRL or ERR_CTRL acts: the semaphore, the level, then the lock (R476, R508). Answers the code. -/
def State.writeLocked (s : State) (h : HostId) (a : Nat) (v : Word) : Nat × State :=
  if s.holds h Sem.legend = false then (0, s.freeze h 1)
  else if (s.port h).level < 2 then
    (0, (if a = 0x30 then { s with swp := { s.swp with rej := true } } else s).eventOn h Ev.rej)
  else if s.par Fld.lockReg 0 = 1 then (8, s)
  else (0, s.directWrite h a v)

/-- A write to SWP_STATE: the clear of REJ acts at once; REQ other than 0b00 needs SERVICE (R494, R508). -/
def State.writeState (s : State) (h : HostId) (v : Word) : State :=
  let s := if bit v.toNat 7 then { s with pw := { s.pw with stRej := false } } else s
  if bits v.toNat 5 4 = 0 then s
  else if (s.port h).level < 2 then s.rejState h
  else s.directWrite h 0x34 v

/-- One word is written to a direct register (R506, R508). Read-only fields ignore their bits (R23). Answers the code. -/
def State.writeReg (s : State) (h : HostId) (a : Nat) (v : Word) : Nat × State :=
  match a with
  | 0x01 => (0, if bits v.toNat 23 16 = 0 then s else s.modPort h (fun p => { p with errCnt := 0 }))
  | 0x02 => (0, s.modPort h (fun p => { p with scratch := v }))
  | 0x10 => (0, s.modPort h (fun p => { p with flag0 := p.flag0 &&& ~~~v }))
  | 0x11 => (0, s.modPort h (fun p => { p with flag1 := p.flag1 &&& ~~~v }))
  | 0x12 => (0, s.modPort h (fun p => { p with mask0 := v }))
  | 0x13 => (0, s.modPort h (fun p => { p with mask1 := v }))
  | 0x21 => (0, s.semGrab h (v.toNat % 65536))
  | 0x22 => (0, s.semRelease h (v.toNat % 65536))
  | 0x30 => s.writeLocked h 0x30 v
  | 0x31 => (0, { s with swp := { s.swp with rej := s.swp.rej && !bit v.toNat 0, ovr := s.swp.ovr && !bit v.toNat 2 } })
  | 0x34 => (0, s.writeState h v)
  | 0x40 => s.writeLocked h 0x40 v
  | 0x43 => (0, if bit v.toNat 6 then { s with flt := { s.flt with fwdog := false } } else s)
  | _ => (0, s)

/-- Words written to consecutive direct registers, in ascending order (R507). Answers the code. -/
def State.writeRegs (s : State) (h : HostId) : Nat → List Word → Nat × State
  | _, [] => (0, s)
  | a, v :: vs =>
    let x := s.writeReg h a v
    let y := x.2.writeRegs h (a + 1) vs
    (max x.1 y.1, y.2)

/-- A push: the words join the command queue, or overflow it and freeze the port (R419, R514). -/
def State.pushWords (s : State) (h : HostId) (q : Nat) (ws : List Word) : State :=
  let x := s.queue q
  if 64 * x.size < 4 * (x.words.length + ws.length) then s.freeze h 4
  else (s.modQueue q (fun y => { y with words := y.words ++ ws })).digestPair h (q % 16)

/-- Messages or fragments left of a response queue when words are released (R432). -/
def dropMsgs : Nat → List Nat → List Nat
  | _, [] => []
  | n, m :: l => if m ≤ n then dropMsgs (n - m) l else (m - n) :: l

/-- A release: n words leave the head of a response queue (R515). Answers the code. -/
def State.releaseWords (s : State) (q n : Nat) : Nat × State :=
  if (s.queue q).words.length < n then (7, s)
  else (0, s.modQueue q (fun y => { y with words := y.words.drop n, msgs := dropMsgs n y.msgs }))

/-- A write transaction of words at an address, its CRC and length correct (R507, R508, R513). -/
def State.hostWrite (s : State) (h : HostId) (a : Nat) (ws : List Word) : State :=
  let s := s.shiftOut h (4 * ws.length + 4) (s.statusByte h :: List.replicate (4 * ws.length + 3) 0)
  if (s.port h).frozen then s.endTransfer h 9
  else
    let code := rangeError h true a ws.length
    if code ≠ 0 then s.endTransfer h code
    else
      -- the transaction's own result stands before what its words do
      let s := s.endTransfer h 0
      let r := if inWindow a then
          (if isCommandQueue (windowQueue a) then (0, s.pushWords h (windowQueue a) ws)
           else s.releaseWords (windowQueue a) (ws.headD 0).toNat)
        else s.writeRegs h a ws
      if r.1 = 0 then r.2 else r.2.endTransfer h r.1

/-- A write transaction as the bytes that the port received (R409, R413). -/
def State.hostWriteBytes (s : State) (h : HostId) (b : List Byte) : State :=
  let op := (b.headD 0).toNat
  let n := op % 64 + 1
  let fail (code : Nat) : State :=
    (s.shiftOut h b.length (s.statusByte h :: List.replicate (b.length - 1) 0)).endTransfer h code
  if (s.port h).frozen then fail 9
  else if b.length ≠ 4 * n + 4 then fail 3
  else if crc8 (b.take (4 * n + 3)) ≠ field b (4 * n + 3) 1 then fail 2
  else if bit op 6 then fail 4
  else s.hostWrite h (256 * field b 1 1 + field b 2 1) ((List.range n).map (fun i => word (field b (3 + 4 * i) 4)))

/-! ### The commands -/

/-- SEM_TAKE: a write to SEM_TAKE takes each free semaphore that it names (R428). -/
def execSemTake (h : HostId) (v : Word) (s : State) : Out := onC s fun s => s.hostWrite h 0x21 [v]

/-- SEM_GIVE: a write to SEM_GIVE releases each semaphore named that the port holds (R428, R429). -/
def execSemGive (h : HostId) (v : Word) (s : State) : Out := onC s fun s => s.hostWrite h 0x22 [v]

/-- SWP_CTRL_WRITE: a write to SWP_CTRL (R57, R508, R509). -/
def execSwpCtrlWrite (h : HostId) (v : Word) (s : State) : Out := onC s fun s => s.hostWrite h 0x30 [v]

/-- ERR_CTRL_WRITE: a write to ERR_CTRL (R405, R508, R509). -/
def execErrCtrlWrite (h : HostId) (v : Word) (s : State) : Out := onC s fun s => s.hostWrite h 0x40 [v]

/-- REQUEST_CONFIG: a write of REQ = 0b01 to SWP_STATE (R494). -/
def execRequestConfig (h : HostId) (s : State) : Out := onC s fun s => s.hostWrite h 0x34 [0x10]

/-- WITHDRAW_CONFIG: a write of REQ = 0b10 to SWP_STATE (R494). -/
def execWithdrawConfig (h : HostId) (s : State) : Out := onC s fun s => s.hostWrite h 0x34 [0x20]

/-- REGISTER_WRITE: a write transaction, byte for byte (R409, R413, R508). -/
def execRegisterWrite (h : HostId) (mosi : List Byte) (s : State) : Out :=
  onC s fun s => if 128 ≤ (mosi.headD 0).toNat then s.hostWriteBytes h mosi else s

/-- READ_TRANSACTION: a read transaction, byte for byte; one that ends before its header's CRC is no error and returns no
data (R409, R413). -/
def execReadTransaction (h : HostId) (mosi : List Byte) (s : State) : Out :=
  onC s fun s =>
    let op := (mosi.headD 0).toNat
    if mosi = [] ∨ 128 ≤ op then s
    else if mosi.length < 4 then
      (s.shiftOut h mosi.length (s.statusByte h :: [0, 0])).endTransfer h (if (s.port h).frozen then 9 else 0)
    else s.hostRead h op (field mosi 1 1) (field mosi 2 1) (op % 64 + 1) mosi.length
      (decide (crc8 (mosi.take 3) = field mosi 3 1))

/-- COMMAND_WINDOW_PUSH: a write at a command window (R514). -/
def execCommandWindowPush (h : HostId) (addr : Nat) (ws : List Word) (s : State) : Out :=
  onC s fun s =>
    if inWindow addr ∧ isCommandQueue (windowQueue addr) ∧ ws ≠ [] ∧ ws.length ≤ 64 then s.hostWrite h addr ws else s

/-- RESPONSE_WINDOW_RELEASE: a write at a response window (R515). -/
def execResponseWindowRelease (h : HostId) (addr : Nat) (ws : List Word) (s : State) : Out :=
  onC s fun s =>
    if inWindow addr ∧ isCommandQueue (windowQueue addr) = false ∧ ws ≠ [] ∧ ws.length ≤ 64 then s.hostWrite h addr ws
    else s

/-- RESPONSE_WINDOW_PEEK: a read of n words at a window (R515). -/
def execResponseWindowPeek (h : HostId) (addr n : Nat) (s : State) : Out :=
  onC s fun s =>
    if inWindow addr ∧ 1 ≤ n ∧ n ≤ 64 then s.hostRead h (n - 1) (addr / 256) (addr % 256) n (4 * n + 5) true else s

/-- RESPONSE_PLACEMENT: the next staged message or fragment of a pair is placed where its queue has room (R425, R426). -/
def execResponsePlacement (h : HostId) (pair : Nat) (s : State) : Out :=
  onCore s fun s => if pair < 16 ∧ (s.port h).frozen = false then s.placeNext h pair else s

end Sys2Proof.Machine
end

