-- ==== Sys2Proof/Machine/Commands.lean ====
section
/-!
DEFINITION. What every Zardo command shares (R434 to R440): taking the message from its queue, the order of the checks,
the response, positions, settings that land.
-/

namespace Sys2Proof.Machine

/-- A command as Zardo takes it (R418, R434). -/
structure Req where
  h : HostId
  pair : Nat
  code : Nat
  tag : Nat
  body : List Byte
  deriving DecidableEq, Repr

/-- `n` bytes of the body at offset `o` as a number. -/
def Req.get (r : Req) (o n : Nat) : Nat := field r.body o n

/-- LEN. -/
def Req.len (r : Req) : Nat := r.body.length

/-- What guards an operation (R435 items 2 to 4): its LEN matches, its semaphore, its level (0 none, 1 OPERATOR, 2 SERVICE). -/
structure Guard where
  fits : Bool
  sem : Option Nat
  level : Nat
  deriving DecidableEq, Repr

/-- The response to a command that is executed: STATUS ok and the result (R434). -/
def State.answer (s : State) (r : Req) (result : List Byte) : State := s.respond r.h r.pair r.code r.tag St.ok result

/-- The response to a refused command with DETAIL (R439). -/
def State.deny (s : State) (r : Req) (status idx fid : Nat) : State := s.refuse r.h r.pair r.code r.tag status idx fid

/-- The checks of R435 items 2 to 4, then the command itself; an operation that no layout names is "invalid" (log 42). -/
def State.checked (s : State) (r : Req) (g : Option Guard) (act : State → State) : State :=
  match g with
  | none => s.deny r St.invalid 0 0
  | some g =>
    if g.fits = false then s.deny r St.length 0 0
    else if g.sem.all (fun k => s.holds r.h k) = false then s.freeze r.h 1
    else if s.levelOf r.h < g.level then s.deny r St.level 0 0
    else act s

/-- Zardo takes the command of this CODE that a pair offers, where it is the pair's turn, checks it and executes it (R423,
R434, R435); then what it can handle by itself behind it. Any other state is left as it is (log 2). -/
def serve (s : State) (h : HostId) (pair code : Nat) (guard : Req → Option Guard) (act : Req → State → State) : Out :=
  onCore s fun s =>
    match s.offer h pair with
    | some (c, body) =>
      if s.pick = some (h, pair) ∧ c = code then
        let r : Req := ⟨h, pair, code, field body 0 2, body⟩
        ((s.takeMsg h pair).checked r (guard r) (act r)).digestPair h pair
      else s
    | none => s

/-- 0 where a position is adopted, else the STATUS of R438. -/
def State.posStatus (s : State) (p : Nat) : Nat :=
  if 32 ≤ p then St.invalid else if s.adopted p then 0 else St.notAdopted

/-- A setting of a command lands, unless the commit record has no room for it (R67); the response carries EFFECT (R437). -/
def State.settle' (s : State) (r : Req) (x : Landed) (more : List Byte) : State :=
  if s.commitFull x then s.deny r St.commitFull 0 0
  else (s.land x).answer r (leBytes 4 s.effect ++ more)

/-- A Legend change set of a command lands, unless the commit record has no room for it (R67, R473). -/
def State.settleChange (s : State) (r : Req) (fields : SMap Nat) (more : List Byte) : State :=
  if s.commitFull (.legend ⟨fields, 0, 0, 0, false, []⟩) then s.deny r St.commitFull 0 0
  else (s.landChange fields (hostNum r.h) (s.levelOf r.h) false []).answer r (leBytes 4 s.effect ++ more)

/-- The positions named by a mask, ascending. -/
def positionsOf (mask : Nat) : List Nat := (List.range 32).filter (fun p => mask.testBit p)

/-- The awake device that holds an adopted position, with the STATUS where there is none (R438, log 43). -/
def State.deviceAt (s : State) (p : Nat) : Nat × Option Dev :=
  if s.posStatus p ≠ 0 then (s.posStatus p, none)
  else match s.slotOf p with
    | some d => (0, some (s.dev d))
    | none => (St.unreachable, none)

end Sys2Proof.Machine
end

