-- ==== Sys2Proof/Machine/Detectors.lean ====
section
/-!
DEFINITION. The statuses of the detectors (R398) as FAULT_READ delivers them (R458). No rule lists the sources of a class
at a position: the list here holds the sources that a clearing rule names, and every further source whose cause is present
(log 45).
-/

namespace Sys2Proof.Machine

/-- Sub-codes and details of the sources of a class at a position that its rules judge and clear, ascending. -/
def State.sourceList (s : State) (c p : Nat) : List (Nat × Nat) :=
  let at' (subs details : List Nat) : List (Nat × Nat) := subs.flatMap (fun x => details.map (fun y => (x, y)))
  let from1 (n : Nat) : List Nat := (List.range n).map (· + 1)
  let head (l : List (Nat × Nat)) : List (Nat × Nat) := if p = 0 then l else []
  match c with
  | 0x01 => at' [1] (from1 24)
  | 0x02 => at' [1] (from1 24)
  | 0x03 => at' [1] (from1 32)
  | 0x04 => at' [1] (from1 32)
  | 0x05 => at' [1, 2, 3, 4] (from1 32)
  | 0x06 => at' [1] (List.range 25)
  | 0x07 => (from1 6).map (fun x => (x, openDetail 0x07 x p)) ++ at' [8, 9] (from1 24)
  | 0x08 => (from1 5).map (fun x => (x, openDetail 0x08 x p))
  | 0x09 => at' [2, 3] (List.range 48)
  | 0x0A => at' [1, 2, 3] [0, 1]
  | 0x0D => head [(1, s.par Fld.isentCh 0), (2, openDetail 0x0D 2 0)]
  | 0x0E => head (at' [1, 2] [0, 1])
  | 0x0F => head (at' [1, 2, 3, 4] (from1 8))
  | 0x10 => head (at' [1, 2] (from1 4) ++ [(1, 5)])
  | 0x13 => head (at' [3] (from1 6))
  | 0x14 => head (at' [1, 2] (from1 16))
  | 0x17 => (if p = 0 then [(1, 0), (2, 0)] else [(1, 0)])
  | 0x18 => head [(1, openDetail 0x18 1 0), (2, openDetail 0x18 2 0)] ++ [(3, openDetail 0x18 3 p), (4, openDetail 0x18 4 p)]
  | 0x19 => head [(1, 0), (2, 0)] ++ [(3, p)]
  | 0x1F => head [(1, openDetail 0x1F 1 0)]
  | _ => []

/-- The latest entry that judges cell k (0 to 23): CV, or BV where the CV record carries INV (R385). -/
def State.judgedEntry (s : State) (p k : Nat) : Entry :=
  let e := s.atlasGet (atlasIdx p k)
  if e.flags.inv then s.atlasGet (atlasIdx p (24 + k)) else e

/-- A BENCH cause under which cell checks and open-wire evaluation are not judged (R170, R188). -/
def State.benchBlind (s : State) (p : Nat) : Bool := [1, 4, 5, 0x11, 0x12, 0x13].any (fun x => (s.posTrack p).bench.contains x)

/-- The device at a position, an empty one where the head has none. -/
def State.devAt (s : State) (p : Nat) : Dev := ((s.slotOf p).map s.dev).getD {}

/-- Status of a BENCH source that has no cause: the reference check needs both its channels in the table (R167); a cell check
is judged with the latest span (R170, R171). -/
def State.benchIdle (s : State) (p sub detail : Nat) : Nat :=
  if 1 ≤ sub ∧ sub ≤ 3 then
    let t := (s.devAt p).table
    b2n (t.any (fun w => decide (eChan w = 0x3B)) && t.any (fun w => decide (eChan w = 0x3C)))
  else if 8 ≤ sub then
    (if s.benchBlind p ∨ ((smapGet s.der.chkMask p).getD 0).testBit (detail - 1) = false then 3 else 1)
  else 1

/-- Status of the open-wire evaluation of a tap that is not declared open (R170, R179). -/
def State.tapIdle (s : State) (p tap : Nat) : Nat :=
  if s.benchBlind p ∨ (s.devAt p).sv.owLast.contains tap = false then 3 else 1

/-- Triangulation is armed: its 49 records are primed since their last start (R128). -/
def State.triArmed (s : State) (p : Nat) : Bool :=
  (List.range 48 ++ [176]).all (fun r => decide (1 ≤ (s.track (atlasIdx p r)).primed))

/-- Status of a source whose cause is absent: 0 not armed, 1 pass, 3 not judged (R398). -/
def State.idleStatus (s : State) (c p sub detail : Nat) : Nat :=
  let armed (b : Bool) : Nat := b2n b
  match c with
  | 0x01 => if (s.judgedEntry p (detail - 1)).count = 0 then 3 else 1
  | 0x02 => if (s.judgedEntry p (detail - 1)).count = 0 then 3 else 1
  | 0x03 => if s.thRole p (detail - 1) = 0 then 0
      else if usableEntry (s.atlasGet (atlasIdx p (144 + (detail - 1)))) then 1 else 3
  | 0x04 => if s.thRole p (detail - 1) = 0 then 0
      else if usableEntry (s.atlasGet (atlasIdx p (144 + (detail - 1)))) then 1 else 3
  | 0x05 => armed (decide (s.thRole p (detail - 1) ≠ 0))
  | 0x06 => s.tapIdle p detail
  | 0x07 => s.benchIdle p sub detail
  | 0x08 => if s.triArmed p = false then 0 else (match (smapGet s.der.triStat p).getD 0 with
      | 2 => 1
      | v => v)
  | 0x09 => armed (decide (s.par (if sub = 2 then Fld.stkWin else Fld.frzWin) 0 ≤ (s.track (atlasIdx p detail)).primed)
      && (decide (sub = 2) || decide (s.par Fld.frzWin 0 ≤ (s.track (atlasIdx 0 188)).primed)))
  | 0x0D =>
    if sub = 1 then
      armed (decide (s.par Fld.isentCh 0 ≠ 0xFF ∧ s.par Fld.plN 0 ≠ 0
        ∧ 0 < (s.track (atlasIdx 0 188)).primed ∧ 0 < (s.track (atlasIdx 0 189)).primed) && !s.calOpen)
    else armed (decide (s.par Fld.stkWin 0 ≤ (s.track (atlasIdx 0 188)).primed))
  | 0x0E => if detail = 1 then armed (decide (s.par Fld.isentCh 0 ≠ 0xFF)) else 1
  | 0x0F => armed (s.sentUse (detail - 1))
  | 0x10 => if detail = 5 then 1
      else armed (decide (s.siRole (detail - 1) ≠ 0) && (decide (sub = 1) || (s.input (detail - 1)).wasAct))
  | 0x13 => armed (s.contUse (detail - 1))
  | 0x14 => armed (s.loopUsed (detail - 1) && (decide (sub = 1) || decide (s.loopFz (detail - 1) ≠ 0)))
  | _ => 1

/-- Status of a source (R398). -/
def State.sourceStatus (s : State) (c p : Nat) (x : Nat × Nat) : Nat :=
  let y : Source := ⟨c, x.1, p, x.2⟩
  if s.consequential y then 4 else if s.hasCause y then 2 else s.idleStatus c p x.1 x.2

/-- The sources of a class at a position: those that are listed, then the others whose cause is present. -/
def State.detectorList (s : State) (c p : Nat) : List (Nat × Nat) :=
  let l := s.sourceList c p
  let present := (s.flt.causes.filter (fun x => decide (x.src.cls = c ∧ x.src.pos = p))).map (fun x => (x.src.sub, x.src.detail))
  l ++ present.filter (fun x => !l.contains x)

/-- FAULT_READ, detectors (R458). -/
def State.detectorBytes (s : State) (c p : Nat) : List Byte :=
  let l := s.detectorList c p
  leBytes 1 c ++ leBytes 1 p ++ leBytes 2 l.length
    ++ l.flatMap (fun x => leBytes 1 x.1 ++ leBytes 1 (s.sourceStatus c p x) ++ leBytes 2 x.2)

end Sys2Proof.Machine
end

