-- ==== Sys2Proof/Machine/CommandsControl.lean ====
section
/-!
DEFINITION. The commands of the control plane (R452 to R459): LOOP_CONFIG, LOOP_MODE, LOOP_TUNE, CONTACTOR_CMD,
SAFE_SESSION, FAULT_READ, FAULT_ACK.
-/

namespace Sys2Proof.Machine

/-! ### LOOP_CONFIG (R312 to R316, R452) -/

/-- Word w of a slot record. -/
def recWord (v w : Nat) : Nat := (v >>> (32 * w)) % 2 ^ 32

/-- Signed word w of a slot record, Q16.16. -/
def recQ (v w : Nat) : Int := sext 32 (recWord v w)

/-- USE, SRC, DEST and FZ_N of a slot record (R313). -/
def recUse (v : Nat) : Nat := bits (recWord v 0) 1 0
def recSrc (v : Nat) : Nat := bits (recWord v 0) 15 8
def recDest (v : Nat) : Nat := bits (recWord v 0) 23 16
def recFz (v : Nat) : Nat := bits (recWord v 0) 31 24

/-- Source codes of R314. -/
def srcListed (c : Nat) : Bool := decide (c < 0x22) || [0x58, 0x59, 0xE0, 0xE1, 0xFF].contains c

/-- Destination codes of R315. -/
def destListed (d : Nat) : Bool := decide (d ≤ 8) || (decide (0x11 ≤ d) && decide (d ≤ 0x16))

/-- A record breaks R316 item 2: a reserved bit or code, a range of R312 or R313, or a used slot without a source. -/
def recBroken (v : Nat) : Bool :=
  let lo := recQ v 6
  let hi := recQ v 7
  let inside (x : Int) : Bool := decide (lo ≤ x ∧ x ≤ hi)
  decide (bits (recWord v 0) 7 5 ≠ 0) || decide (recUse v = 3) || !srcListed (recSrc v) || !destListed (recDest v)
    || decide (recFz v = 1) || decide (recQ v 2 < 0) || decide (recQ v 3 < 0) || decide (recQ v 4 < 0) || decide (hi ≤ lo)
    || decide (recQ v 8 < 0) || decide (recQ v 11 < 0) || decide (recQ v 12 < 0) || !inside (recQ v 13) || !inside (recQ v 14)
    || (decide (recUse v ≠ 0) && decide (recSrc v = 0xFF))

/-- A record breaks R316 item 3: output limits outside 0 to 100 % for a PWM or coil destination. -/
def recOutside (v : Nat) : Bool := decide (recDest v ≠ 0) && (decide (recQ v 6 < 0) || decide (6553600 < recQ v 7))

/-- A record uses its destination. -/
def recDrives (v d : Nat) : Bool := decide (recUse v = 1 ∨ recUse v = 2) && decide (recDest v = d)

/-- A coil loop breaks R333: its destination is a coil, and its source the KS sample of the same channel. -/
def recCoilBroken (v : Nat) : Bool :=
  decide (recUse v = 2) && !(decide (0x11 ≤ recDest v) && decide (recSrc v = recDest v - 0x11 + 0x1C))

/-- The shadow mode of a slot: its mode as the orders that have landed will leave it (R316, R322). -/
def State.loopShadow (s : State) (n : Nat) : LoopMode :=
  (s.swp.landed ++ s.swp.landNext).foldl (fun (m : LoopMode) (x : Landed) => match x with
    | .loopMode o => if o.slot = n then (match o.mode with
        | some 1 => .manual
        | some 2 => .auto
        | _ => m) else m
    | .loopTune o => if o.slot = n then (if o.method = 0 then .manual else .tune) else m
    | _ => m) (s.loop n).mode

/-- A mode in which coefficients may change (R316 item 1). -/
def modeOpen (m : LoopMode) : Bool := decide (m = .unused ∨ m = .manual)

/-- The refusal of a record for slot n: 0 none (R316). -/
def State.loopRefusal (s : State) (n v : Nat) : Nat :=
  let other (d : Nat) : Bool := (List.range 16).any (fun m => decide (m ≠ n)
    && (recDrives (s.par Fld.loopRec m) d || recDrives (Machine.par s.pendingFields Fld.loopRec m) d))
  if modeOpen (s.loop n).mode = false ∨ modeOpen (s.loopShadow n) = false then St.loopClosed
  else if recBroken v ∨ recOutside v then St.invalid
  else if recDest v ≠ 0 ∧ other (recDest v) then St.destInUse
  else if recCoilBroken v then St.invalid
  else 0

/-- Guards of LOOP_CONFIG (R440, R452). -/
def guardLoopConfig (r : Req) : Option Guard :=
  match r.get 3 1 with
  | 0 => some ⟨decide (r.len = 68), some Sem.loops, 2⟩
  | 1 => some ⟨decide (r.len = 4), none, 0⟩
  | 2 => some ⟨decide (r.len = 4), none, 0⟩
  | _ => none

/-- The slot (0 to 15) that a body names as 1 to 16 at offset 2. -/
def Req.slot (r : Req) : Option Nat := if 1 ≤ r.get 2 1 ∧ r.get 2 1 ≤ 16 then some (r.get 2 1 - 1) else none

/-- LOOP_CONFIG (R452). -/
def doLoopConfig (r : Req) (s : State) : State :=
  match r.slot with
  | none => s.deny r St.invalid (r.get 2 1) 0
  | some n =>
    if r.get 3 1 = 1 then s.answer r (leBytes 64 (s.par Fld.loopRec n))
    else if r.get 3 1 = 2 then s.answer r (leBytes 64 (Machine.par s.pendingFields Fld.loopRec n))
    else
      let v := r.get 4 64
      let st := s.loopRefusal n v
      if st ≠ 0 then s.deny r st (n + 1) Fld.loopRec
      else s.settleChange r [(fieldKey Fld.loopRec n, v)] []

/-- LOOP_CONFIG (R452). -/
def execLoopConfig (h : HostId) (pair : Nat) (s : State) : Out := serve s h pair 0x0201 guardLoopConfig doLoopConfig

/-! ### LOOP_MODE (R320 to R324, R453) -/

/-- ITEMS of LOOP_MODE; reserved bits are ignored (R24, R453). -/
def Req.items (r : Req) : Nat := r.get 3 1 % 16

/-- Guards of LOOP_MODE: without an item it reads (R440, R453). -/
def guardLoopMode (r : Req) : Option Guard :=
  if r.items = 0 then some ⟨decide (r.len = 16), none, 0⟩ else some ⟨decide (r.len = 16), some Sem.loops, 1⟩

/-- The refusal of a LOOP_MODE for slot n: 0 none (R322, R333, R453). -/
def State.modeRefusal (s : State) (r : Req) (n : Nat) : Nat :=
  let i := r.items
  let l := s.loop n
  let mode := r.get 4 1
  let out := sext 32 (r.get 12 4)
  let inside := decide (s.loopQ n 6 ≤ out ∧ out ≤ s.loopQ n 7)
  if l.mode = .unused then St.invalid
  else if bit i 0 ∧ mode ≠ 1 ∧ mode ≠ 2 then St.invalid
  else if l.mode = .tune then St.busy
  else if bit i 0 ∧ mode = 2 ∧ (l.fbLost || l.frozen || (s.loopCode n).isNone) then St.causePresent
  else if bit i 2 ∧ bit i 0 then St.bump
  else if bit i 2 ∧ (inside = false ∨ l.mode ≠ .manual ∨ s.loopShadow n ≠ .manual) then St.invalid
  else if bit i 1 ∧ s.loopUse n = 2 then St.invalid
  else 0

/-- The result of LOOP_MODE for slot n (R453). -/
def State.modeResult (s : State) (effect n : Nat) : List Byte :=
  let l := s.loop n
  leBytes 4 effect ++ leBytes 4 (s.loopWordStat n) ++ leBytes 4 (toBits 32 l.r) ++ leBytes 4 (toBits 32 (used l.rr))
    ++ leBytes 4 (toBits 32 l.uLast)

/-- LOOP_MODE (R322, R453). -/
def doLoopMode (r : Req) (s : State) : State :=
  match r.slot with
  | none => s.deny r St.invalid (r.get 2 1) 0
  | some n =>
    let i := r.items
    if i = 0 then s.answer r (s.modeResult 0 n)
    else
      let st := s.modeRefusal r n
      if st ≠ 0 then s.deny r st (n + 1) 0
      else
        let o : LoopOrder := ⟨n, if bit i 0 then some (r.get 4 1) else none, if bit i 1 then some (sext 32 (r.get 8 4)) else none,
          if bit i 2 then some (sext 32 (r.get 12 4)) else none, if bit i 3 then r.get 5 1 else 0⟩
        (s.land (.loopMode o)).answer r (s.modeResult s.effect n)

/-- LOOP_MODE (R453). -/
def execLoopMode (h : HostId) (pair : Nat) (s : State) : Out := serve s h pair 0x0202 guardLoopMode doLoopMode

/-! ### LOOP_TUNE (R334 to R337, R454) -/

/-- The order that a LOOP_TUNE request gives for slot n (R454). -/
def Req.tune (r : Req) (n : Nat) : TuneOrder :=
  ⟨n, r.get 3 1, sext 32 (r.get 4 4), sext 32 (r.get 8 4), sext 32 (r.get 12 4), r.get 16 4, r.get 20 2, r.get 22 1, r.get 23 1,
    r.get 24 1, r.h, r.pair, r.tag⟩

/-- A field that the method does not use is 0 (R454). -/
def TuneOrder.plain (o : TuneOrder) : Bool :=
  let relay := decide (o.method = 1)
  let inject := decide (2 ≤ o.method)
  (relay || inject || decide (o.amp = 0)) && (relay || (decide (o.eps = 0) && decide (o.xlim = 0) && decide (o.timeout = 0)
    && decide (o.m = 0))) && (inject || decide (o.d = 0)) && (decide (o.method = 4) || decide (o.freq = 0))
    && (decide (o.method = 3) || decide (o.l = 0))

/-- The parameters keep R335 and R336, and the outputs they imply lie within the limits (R334 item 4). -/
def State.tuneFits (s : State) (o : TuneOrder) : Bool :=
  let n := o.slot
  let u0 := (s.loop n).manOut
  let lo := s.loopQ n 6
  let hi := s.loopQ n 7
  let both := decide (lo ≤ u0 - o.amp ∧ u0 + o.amp ≤ hi)
  let manual := decide ((s.loop n).mode = .manual)
  match o.method with
  | 1 => decide (0 < o.amp ∧ 0 ≤ o.eps ∧ 0 < o.xlim ∧ 2 ≤ o.m ∧ o.m ≤ 16 ∧ 1 ≤ o.timeout ∧ o.timeout ≤ 3600) && both
  | 2 => decide (0 < o.amp ∧ 1 ≤ o.d) && (!manual || decide (u0 + o.amp ≤ hi))
  | 3 => decide (0 < o.amp ∧ 1 ≤ o.d ∧ 1 ≤ o.l) && (!manual || both)
  | _ => decide (0 < o.amp ∧ 1 ≤ o.d) && decide ((o.freq : Rat) * 8 * (o.d : Rat) * s.tickSeconds ≤ 1000) && (!manual || both)

/-- Another slot is tuning, or is to begin at the next boundary (R334 item 1). -/
def State.otherTuning (s : State) (n : Nat) : Bool :=
  (match s.tuning with
    | some t => decide (t.o.slot ≠ n)
    | none => false)
  || (s.swp.landed ++ s.swp.landNext).any (fun x => match x with
    | .loopTune o => decide (o.slot ≠ n ∧ o.method ≠ 0)
    | _ => false)

/-- The refusal of a LOOP_TUNE: 0 none (R334, R454). An end needs a slot in TUNE. -/
def State.tuneRefusal (s : State) (o : TuneOrder) : Nat :=
  let l := s.loop o.slot
  if 5 ≤ o.method ∨ o.plain = false then St.invalid
  else if o.method = 0 then (if l.mode = .tune then 0 else St.wrongState)
  else if s.otherTuning o.slot then St.busy
  else if s.loopUse o.slot = 2 ∨ l.trk ∨ ¬ (l.mode = .manual ∨ (l.mode = .auto ∧ o.method ≠ 1)) then St.wrongState
  else if (s.loopCode o.slot).isNone then St.causePresent
  else if s.tuneFits o = false then St.invalid
  else 0

/-- Guard of LOOP_TUNE (R440, R454). -/
def guardLoopTune (r : Req) : Option Guard := some ⟨decide (r.len = 28), some Sem.loops, 2⟩

/-- LOOP_TUNE (R334, R454). -/
def doLoopTune (r : Req) (s : State) : State :=
  match r.slot with
  | none => s.deny r St.invalid (r.get 2 1) 0
  | some n =>
    let st := s.tuneRefusal (r.tune n)
    if st ≠ 0 then s.deny r st (n + 1) 0 else s.settle' r (.loopTune (r.tune n)) []

/-- LOOP_TUNE (R454). -/
def execLoopTune (h : HostId) (pair : Nat) (s : State) : Out := serve s h pair 0x0203 guardLoopTune doLoopTune

/-! ### CONTACTOR_CMD (R346, R352, R455) -/

/-- Guards of CONTACTOR_CMD (R440, R455). -/
def guardContactorCmd (r : Req) : Option Guard :=
  match r.get 2 1 with
  | 0 => some ⟨decide (r.len = 6), some Sem.contact, 1⟩
  | 1 => some ⟨decide (r.len = 6), none, 0⟩
  | _ => none

/-- Refusal codes of the channels K1 to K6 for a close and an open mask: 0 accepted or not named (R346, R455). A command
that names an unused channel, or one channel twice, is refused for every channel it names. -/
def State.contactCodes (s : State) (close opn : Nat) : List Nat :=
  let whole := (List.range 6).any (fun n => (close.testBit n && opn.testBit n)
    || ((close.testBit n || opn.testBit n) && !s.contUse n))
  (List.range 6).map (fun n =>
    if whole then (if close.testBit n || opn.testBit n then St.invalid else 0)
    else if close.testBit n then s.closeCheck n else 0)

/-- The full result of CONTACTOR_CMD (R455). -/
def State.contactResult (s : State) (effect : Nat) (codes : List Nat) : List Byte :=
  leBytes 4 effect ++ codes.flatMap (fun c => leBytes 1 c) ++ [0, 0] ++ (List.range 6).flatMap (fun n => leBytes 4 (s.chanWord n))

/-- CONTACTOR_CMD: the opens and the accepted closes land (R346, R455). -/
def doContactorCmd (r : Req) (s : State) : State :=
  if r.get 2 1 = 1 then s.answer r (s.contactResult 0 (List.replicate 6 0))
  else
    let close := r.get 4 1 % 64
    let opn := r.get 5 1 % 64
    let codes := s.contactCodes close opn
    let lands := (List.range 6).filter (fun n => (close.testBit n || opn.testBit n) && decide (codes.getD n 0 = 0))
    let status := (codes.find? (fun c => decide (c ≠ 0))).getD St.ok
    let e := if lands = [] then 0 else s.effect
    let s := lands.foldl (fun s n => s.land (.channel n (close.testBit n))) s
    s.respond r.h r.pair r.code r.tag status (s.contactResult e codes)

/-- CONTACTOR_CMD (R455). -/
def execContactorCmd (h : HostId) (pair : Nat) (s : State) : Out := serve s h pair 0x0204 guardContactorCmd doContactorCmd

/-! ### SAFE_SESSION (R371, R375, R456) -/

/-- SSTATE (R456). -/
def sstate : SState → Nat
  | .idle => 0
  | .connecting => 1
  | .accepted => 2
  | .failed => 3

/-- Guards of SAFE_SESSION (R440, R456). -/
def guardSafeSession (r : Req) : Option Guard :=
  match r.get 2 1 with
  | 0 => some ⟨decide (r.len = 28), none, 0⟩
  | 1 => some ⟨decide (r.len = 4), none, 0⟩
  | 2 => some ⟨decide (r.len = 4), some Sem.session, 1⟩
  | _ => none

/-- PAYLOAD of a delivery: of an accepted PARTNER its 10 bytes, of an accepted ACCEPT its bytes 17 to 19 (R456). -/
def deliveredPayload (chk : Nat) (f : List Byte) : List Byte :=
  if chk ≠ 0 then List.replicate 10 0
  else if field f 0 1 = 0x54 then (f.drop 10).take 10
  else if field f 0 1 = 0x52 then (f.drop 17).take 3 ++ List.replicate 7 0
  else List.replicate 10 0

/-- The state result (R456). -/
def State.sessionResult (s : State) : List Byte :=
  let x := s.ses
  leBytes 1 (sstate x.st) ++ leBytes 1 (b2n s.saf.coupled) ++ leBytes 2 (if x.st = .idle then 0 else x.number)
    ++ leBytes 2 x.ownSeq ++ leBytes 2 x.partSeq ++ leBytes 1 x.failCnt ++ leBytes 1 x.lastFail ++ [0, 0]
    ++ x.partner ++ x.accOpaque ++ [0, 0, 0]

/-- One DISCONNECT out of ACCEPTED, then IDLE; while coupled a new session follows 1 s later (R456). -/
def State.disconnect (s : State) : State :=
  let s := s.formFrame 0x55 (List.replicate 10 0)
  ({ s with ses := { s.ses with reconnectAt := if s.saf.coupled then some s.now else none } }).setSession .idle

/-- SAFE_SESSION (R456). -/
def doSafeSession (r : Req) (s : State) : State :=
  match r.get 2 1 with
  | 0 =>
    let f := (r.body.drop 4).take 24
    let x := s.deliverFrame r.h f
    x.2.answer r (leBytes 1 x.1 ++ leBytes 1 (sstate x.2.ses.st) ++ leBytes 1 (field f 0 1) ++ [0]
      ++ deliveredPayload x.1 f ++ [0, 0])
  | 1 => s.answer r s.sessionResult
  | _ => if s.ses.st = .accepted then s.disconnect.answer r [] else s.deny r St.wrongState 0 0

/-- SAFE_SESSION (R456). -/
def execSafeSession (h : HostId) (pair : Nat) (s : State) : Out := serve s h pair 0x0205 guardSafeSession doSafeSession

/-! ### FAULT_READ (R393, R398, R458) -/

/-- Guards of FAULT_READ (R440, R458). -/
def guardFaultRead (r : Req) : Option Guard := if r.get 2 1 < 3 then some ⟨decide (r.len = 8), none, 0⟩ else none

/-- The record of a class in the latches result; a latch that is not set reads its configured severity (R458). -/
def State.latchBytes (s : State) (c : Nat) : List Byte :=
  let l := s.latch c
  let cause := s.causeOf c
  if l.latched then
    leBytes 1 c ++ leBytes 1 (1 + 2 * b2n cause + 4 * b2n l.acked + 8 * b2n l.ovf) ++ leBytes 1 l.sev ++ leBytes 1 l.occ
      ++ leBytes 1 l.sub ++ leBytes 1 l.pos ++ leBytes 2 l.detail ++ leBytes 4 l.sweep ++ leBytes 4 l.value.toNat
  else leBytes 1 c ++ leBytes 1 (2 * b2n cause) ++ leBytes 1 (s.sevCfg c) ++ List.replicate 13 0

/-- The latches result (R458). -/
def State.latchesResult (s : State) : List Byte :=
  leBytes 4 s.errStat ++ leBytes 4 s.errCause ++ (List.range 31).flatMap (fun i => s.latchBytes (i + 1))

/-- The inputs result (R366, R458). -/
def State.inputsResult (s : State) : List Byte :=
  (List.range 5).flatMap (fun i => leBytes 4 (s.inputWord i)) ++ leBytes 4 s.tripMask
    ++ leBytes 4 (b2n s.saf.armed + 2 * b2n s.saf.tripLatch)

/-- FAULT_READ (R458). -/
def doFaultRead (r : Req) (s : State) : State :=
  let c := r.get 3 1
  let p := r.get 4 1
  match r.get 2 1 with
  | 0 => s.answer r s.latchesResult
  | 1 =>
    if c = 0 ∨ 31 < c then s.deny r St.invalid c 0
    else if p ≠ 0 ∧ s.posStatus p ≠ 0 then s.deny r (s.posStatus p) p 0
    else s.answer r (s.detectorBytes c p)
  | _ => s.answer r s.inputsResult

/-- FAULT_READ (R458). -/
def execFaultRead (h : HostId) (pair : Nat) (s : State) : Out := serve s h pair 0x0206 guardFaultRead doFaultRead

/-! ### FAULT_ACK (R395, R396, R459) -/

/-- Guards of FAULT_ACK (R440, R459). -/
def guardFaultAck (r : Req) : Option Guard :=
  match r.get 2 1 with
  | 0 => some ⟨decide (r.len = 8), none, 1⟩
  | 1 => some ⟨decide (r.len = 8), some Sem.fault, 1⟩
  | _ => none

/-- Classes 1 to 31 of a mask. -/
def classesOf (mask : Nat) : List Nat := ((List.range 31).map (· + 1)).filter (fun c => mask.testBit c)

/-- Log records of an operation on classes (R406, R464): the detail is the port. -/
def State.logClasses (s : State) (kind : Nat) (h : HostId) (l : List Nat) : State :=
  l.foldl (fun s c => s.logAt kind c 0 0 (hostNum h) s.sweep 0) s

/-- ACK: sets ACKED on each named latch that is set (R395 item 1). -/
def State.ackLatches (s : State) (l : List Nat) : State := l.foldl (fun s c => s.modLatch c (fun (x : Latch) => { x with acked := true })) s

/-- CLEAR: the latches are cleared; with none left set FIRST and OCC return to 0, and the trip request is released (R395
item 2, R396). -/
def State.clearLatches (s : State) (l : List Nat) : State :=
  let s := l.foldl (fun s c => s.modLatch c (fun _ => {})) s
  let s := if s.anyLatch then s else { s with flt := { s.flt with first := 0, occ := 0 } }
  s.evalTrip

/-- FAULT_ACK (R395, R459). -/
def doFaultAck (r : Req) (s : State) : State :=
  let named := classesOf (r.get 4 4)
  let bytes (acted refused : List Nat) : List Byte := leBytes 4 (maskOf acted) ++ leBytes 4 (maskOf refused)
  if r.get 2 1 = 0 then
    let acted := named.filter (fun c => (s.latch c).latched)
    ((s.ackLatches acted).logClasses 3 r.h acted).answer r (bytes acted [])
  else
    let refused := named.filter (fun c => (s.latch c).latched && s.causeOf c)
    let acted := named.filter (fun c => (s.latch c).latched && !s.causeOf c)
    let s := ((s.clearLatches acted).logClasses 4 r.h acted).logClasses 5 r.h refused
    s.respond r.h r.pair r.code r.tag (if refused = [] then St.ok else St.causePresent) (bytes acted refused)

/-- FAULT_ACK (R459). -/
def execFaultAck (h : HostId) (pair : Nat) (s : State) : Out := serve s h pair 0x0207 guardFaultAck doFaultAck

end Sys2Proof.Machine
end

