-- ==== Sys2Proof/Machine/CommandsData.lean ====
section
/-!
DEFINITION. The commands of the data plane (R441 to R451): TRAVERSE, WINDOW_SET, ATLAS_READ, CHASSIS_READ, SURVEY_LOAD,
SPOT_READ, CALIBRATE, SYS_CAL, BALANCE_SET, SOUND_START.
-/

namespace Sys2Proof.Machine

/-! ### TRAVERSE (R441) -/

/-- The record of a position in the TRAVERSE result (R441). -/
def State.traverseRecord (s : State) (p : Nat) : List Byte :=
  if s.adopted p = false then List.replicate 24 0
  else
    let t := s.posTrack p
    leBytes 4 t.id.toNat ++ leBytes 1 t.dflags ++ leBytes 1 (b2n t.prefW) ++ [0, 0] ++ leBytes 4 t.latE ++ leBytes 4 t.latW
      ++ leBytes 4 t.linkE.toNat ++ leBytes 4 t.linkW.toNat

/-- The TRAVERSE result (R441). -/
def State.traverseResult (s : State) : List Byte :=
  let t := s.trv
  leBytes 1 t.trav ++ leBytes 1 t.result ++ leBytes 1 t.n ++ leBytes 1 (b2n t.closed) ++ leBytes 4 t.sa
    ++ leBytes 1 t.retries ++ [0, 0, 0] ++ (List.range 32).flatMap s.traverseRecord

/-- Guards of TRAVERSE (R440, R441). -/
def guardTraverse (r : Req) : Option Guard :=
  match r.get 2 1 with
  | 0 => some ⟨decide (r.len = 4), some Sem.ring, 1⟩
  | 1 => some ⟨decide (r.len = 4), none, 0⟩
  | _ => none

/-- TRAVERSE: a start is a trigger at the boundary of its effect (R277); a result describes the latest Traverse (R441). -/
def doTraverse (r : Req) (s : State) : State :=
  if r.get 2 1 = 0 then s.settle' r .traverse [] else s.answer r s.traverseResult

/-- TRAVERSE (R441). -/
def execTraverse (h : HostId) (pair : Nat) (s : State) : Out := serve s h pair 0x0101 guardTraverse doTraverse

/-! ### WINDOW_SET (R442) -/

/-- Records of a group that a member at a position has and sends (R115, R116, R118). -/
def memberRecords (p g : Nat) : Nat :=
  if [2, 3, 4].contains g then 0 else ((groupRecords g).filter (fun r => !absentRecord p r)).length

/-- The load of R115 of position p under the window lengths of an image, entries per sweep. -/
def memberLoad (fs : SMap Nat) (p : Nat) : Rat :=
  ((List.range 9).map (fun g => (memberRecords p g : Rat) / (max 1 (par fs Fld.win (9 * p + g)) : Nat))).foldl (· + ·) 0

/-- LOAD: the largest load of any member, 0.01 entries per sweep, to nearest (R442, log 44). -/
def State.loadOf (s : State) (fs : SMap Nat) : Nat :=
  ((List.range s.trv.n).filter (fun p => decide (p ≠ 0))).foldl
    (fun m p => max m (roundQ (100 * memberLoad fs p)).toNat) 0

/-- The upstream quota in force (R52, R272). -/
def State.quotaNow (s : State) : Nat := if s.swp.reduced then 20 else periodQuota s.swp.period

/-- WIN index of a group at a position, or of a Chassis group (R470). -/
def winIndex (p g : Nat) : Nat := if 16 ≤ g then 288 + (g - 16) else 9 * p + g

/-- Guard of WINDOW_SET (R440, R442). -/
def guardWindowSet (r : Req) : Option Guard := some ⟨decide (r.len = 8), some Sem.legend, 1⟩

/-- WINDOW_SET: a change set of WIN (R442, R473). -/
def doWindowSet (r : Req) (s : State) : State :=
  let p := r.get 2 1
  let g := r.get 3 1
  let w := r.get 4 2
  if w = 0 ∨ ¬ (g < 9 ∨ (16 ≤ g ∧ g < 24)) then s.deny r St.invalid g 0
  else if g < 9 ∧ p ≠ 0xFF ∧ s.posStatus p ≠ 0 then s.deny r (s.posStatus p) p 0
  else
    let ps := if 16 ≤ g then [0] else if p = 0xFF then List.range s.trv.n else [p]
    let fs : SMap Nat := ps.map (fun q => (fieldKey Fld.win (winIndex q g), w))
    let load := s.loadOf (overFields s.pendingFields fs)
    s.settleChange r fs (leBytes 2 (min load 65535) ++ leBytes 1 (b2n (decide (100 * s.quotaNow < load))) ++ [0])

/-- WINDOW_SET (R442). -/
def execWindowSet (h : HostId) (pair : Nat) (s : State) : Out := serve s h pair 0x0102 guardWindowSet doWindowSet

/-! ### ATLAS_READ, CHASSIS_READ (R443) -/

/-- Guard of the two page reads (R440, R443). -/
def guardPageRead (r : Req) : Option Guard := some ⟨decide (r.len = 6), none, 0⟩

/-- Entries FIRST to FIRST + COUNT - 1 of a page of `size` indices, with the current sweep (R443). -/
def pageRead (r : Req) (size most : Nat) (entry : Nat → Entry) (s : State) : State :=
  let first := r.get 2 2
  let count := r.get 4 2
  if count = 0 ∨ most < count ∨ size < first + count then s.deny r St.invalid first 0
  else s.answer r (leBytes 4 s.sweep ++ (List.range count).flatMap (fun i => entryBytes (entry (first + i))))

/-- ATLAS_READ (R443). -/
def execAtlasRead (h : HostId) (pair : Nat) (s : State) : Out :=
  serve s h pair 0x0103 guardPageRead (fun r s => pageRead r 6144 255 s.atlasGet s)

/-- CHASSIS_READ (R443). -/
def execChassisRead (h : HostId) (pair : Nat) (s : State) : Out :=
  serve s h pair 0x0104 guardPageRead (fun r s => pageRead r 128 128 (fun i => (s.chassisRec i).entry) s)

/-! ### SURVEY_LOAD (R142, R143, R444) -/

/-- Entry j of the table of a request. -/
def Req.entry (r : Req) (j : Nat) : Word := word (r.get (12 + 4 * j) 4)

/-- The index of the first entry of a table that R142 items 2 to 5 refuse, or that stands after the first END (R444). -/
def badEntry (table : List Word) (mask periodUs' : Nat) : Option Nat :=
  let n := (tableOf table).length
  (List.range table.length).find? (fun j =>
    let w := table.getD j 0
    decide (n ≤ j) || !entryAllowed w periodUs' || (entryHeadOnly w && decide (mask ≠ 1)))

/-- Guards of SURVEY_LOAD (R440, R444). -/
def guardSurveyLoad (r : Req) : Option Guard :=
  let fits := decide (r.len = 12 + 4 * r.get 8 2)
  match r.get 2 1 with
  | 0 => some ⟨fits, some Sem.survey, 2⟩
  | 1 => some ⟨fits, none, 0⟩
  | _ => none

/-- Bytes of the active table of a device (R444). -/
def tableBytes (t : List Word) : List Byte :=
  let b := wordsToBytes t
  leBytes 2 t.length ++ [0, 0] ++ leBytes 4 (crc32c b) ++ b

/-- SURVEY_LOAD: a load is staged to every addressed device (R143), a read gives the active table of one (R444). -/
def doSurveyLoad (r : Req) (s : State) : State :=
  let mask := r.get 4 4
  let count := r.get 8 2
  let ps := positionsOf mask
  if r.get 2 1 = 0 then
    let table := (List.range count).map r.entry
    if s.staging 1 then s.deny r St.busy 0 0
    else if count = 0 ∨ 256 < count ∨ ps = [] then s.deny r St.invalid 0 0
    else if table.all (fun w => !eEnd w) then s.deny r St.invalid (count - 1) 0
    else match badEntry table mask (periodUs s.swp.period) with
      | some j => s.deny r St.invalid j 0
      | none =>
        match ps.find? (fun p => !s.adopted p) with
        | some p => s.deny r St.notAdopted p 0
        | none => s.startBulk ⟨1, r.h, r.pair, r.tag, ps, [], [], [], false, [], table, [], [], [], none⟩
  else match ps with
    | [p] =>
      if count ≠ 0 then s.deny r St.invalid 0 0
      else match s.deviceAt p with
        | (_, some d) => s.answer r (tableBytes d.table)
        | (st, none) => s.deny r st p 0
    | _ => s.deny r St.invalid 0 0

/-- SURVEY_LOAD (R444). -/
def execSurveyLoad (h : HostId) (pair : Nat) (s : State) : Out := serve s h pair 0x0105 guardSurveyLoad doSurveyLoad

/-! ### SPOT_READ (R147, R148, R165, R445) -/

/-- The first free pending slot of the ring (R147 item 1). -/
def State.freeSpot (s : State) : Option Nat := (List.range 4).find? (fun i => (s.der.spots.getD i none).isNone)

/-- An entry word that SPOT_READ admits (R147). -/
def spotAllowed (w : Word) (p periodUs' : Nat) : Bool :=
  entryAllowed w periodUs' && decide (eChan w ≠ 0x3F) && !eEnd w && !eOwPass w && !ePassEnd w && decide (ePassDiv w = 1)
    && (!entryHeadOnly w || decide (p = 0))

/-- The command frame of a spot reading leaves; at position 0 over D1 (R148). -/
def State.sendSpot (s : State) (p slot : Nat) (w : Word) : State :=
  if p = 0 then s.overD1 (·.getCommand (.spot slot w))
  else s.downFrame p (.command (.spot slot w))

/-- Readings of a slot that the device still holds: those that were reported lost before they ran (R151). -/
def Dev.spotsOf (d : Dev) (slot : Nat) : Nat := (d.sv.spots.filter (fun x => decide (x.slot = slot))).length

/-- Guard of SPOT_READ (R440, R445). -/
def guardSpotRead (r : Req) : Option Guard := some ⟨decide (r.len = 8), none, 1⟩

/-- SPOT_READ: a pending slot is taken and the device is told (R147, R148, R445). -/
def doSpotRead (r : Req) (s : State) : State :=
  let p := r.get 2 1
  let w := word (r.get 4 4)
  match s.freeSpot with
  | none => s.deny r St.spotFull p 0
  | some i =>
    if s.posStatus p ≠ 0 then s.deny r (s.posStatus p) p 0
    else if s.unreachable p then s.deny r St.unreachable p 0
    else if spotAllowed w p (periodUs s.swp.period) = false then s.deny r St.invalid 0 0
    else match s.slotOf p with
      | none => s.deny r St.unreachable p 0
      | some d =>
        if (s.dev d).calibrated = false then s.deny r St.notReady p 0
        else if 64 ≤ (s.dev d).sv.recalWaited ∨ 64 ≤ (s.dev d).sv.testWaited then s.deny r St.calDue p 0
        else
          let spots := modAt s.der.spots i (fun _ => some ⟨r.h, r.pair, r.tag, p, w, s.sweep, s.now, (s.dev d).spotsOf i, false⟩)
          let s := ({ s with der := { s.der with spots := spots } }).sendSpot p i w
          s.answer r (leBytes 1 i ++ leBytes 1 (spots.filter (·.isSome)).length ++ [0, 0] ++ leBytes 4 s.sweep)

/-- SPOT_READ (R445). -/
def execSpotRead (h : HostId) (pair : Nat) (s : State) : Out := serve s h pair 0x0106 guardSpotRead doSpotRead

/-! ### CALIBRATE (R446) -/

/-- The three words of a modulator's calibration record (R157). -/
def Modulator.record (m : Modulator) (now : Nat) : List Byte :=
  let age := match m.writtenAt with
    | some t => min 65535 ((now - t) / 1000000000)
    | none => 65535
  leBytes 4 (toBits 24 m.ofs) ++ leBytes 4 m.gain
    ++ leBytes 4 (age + 65536 * toBits 8 m.temp + 2 ^ 24 * (m.src % 4) + 2 ^ 26 * b2n m.failed)

/-- The record of a modulator that was never written (R157, R446). -/
def neverWritten : Modulator := { src := 3 }

/-- State code of a relief modulator (R446). -/
def reliefCode : Relief → Nat
  | .free => 0
  | .covering _ => 1
  | .substituting _ => 2
  | .arbitrating _ => 3
  | .retired => 4

/-- A relief modulator serves a permanent substitution or is retired: no substitution can have it (R95, R96). -/
def reliefTaken : Relief → Bool
  | .substituting _ => true
  | .retired => true
  | _ => false

/-- MAP of a cell: the substitution map, 0xFF where the cell has no source (R97, R446). -/
def Cell.mapCode (c : Cell) : Nat :=
  if c.source.isNone then 0xFF
  else match c.subst with
    | some 24 => 1
    | some 25 => 2
    | _ => 0

/-- The CALIBRATE read result of a device (R446). -/
def Dev.calResult (d : Dev) (now : Nat) : List Byte :=
  let shunt := if d.pos = some 0 then d.mod 26 else neverWritten
  let roll := if d.rollHalt.isSome then 1 else if reliefTaken d.rm1 && reliefTaken d.rm2 then 2 else 0
  (List.range 26).flatMap (fun i => (d.mod i).record now) ++ shunt.record now
    ++ d.cells.flatMap (fun c => leBytes 1 c.mapCode)
    ++ leBytes 1 (reliefCode d.rm1) ++ leBytes 1 (reliefCode d.rm2) ++ leBytes 1 roll ++ [0]

/-- Guards of CALIBRATE (R440, R446). -/
def guardCalibrate (r : Req) : Option Guard :=
  let fits := decide (r.len = 8)
  match r.get 2 1 with
  | 0 => some ⟨fits, none, 0⟩
  | 1 => some ⟨fits, some Sem.calib, 2⟩
  | 2 => some ⟨fits, some Sem.calib, 2⟩
  | 3 => some ⟨fits, some Sem.calib, 2⟩
  | 4 => some ⟨fits, some Sem.calib, 2⟩
  | 5 => some ⟨fits, some Sem.calib, 2⟩
  | 6 => some ⟨fits, some Sem.calib, 2⟩
  | _ => none

/-- Who ordered the substitution or revert of cell k (0 to 23) at a position, for its Gazetteer entry (R479). -/
def State.orderSubst (s : State) (r : Req) (p k : Nat) : State :=
  { s with leg := { s.leg with substBy := smapSet s.leg.substBy (24 * p + k) (hostNum r.h, s.levelOf r.h) } }

/-- CALIBRATE on one device, operations 3 to 6 (R446). -/
def calOrder (r : Req) (s : State) (p : Nat) (d : Dev) : State :=
  let cell := r.get 4 1
  let k := cell - 1
  let op := r.get 2 1
  let landSubst (v : SettingVal) : State :=
    if s.commitFull (.device ⟨p, v⟩) then s.deny r St.commitFull 0 0
    else ((s.orderSubst r p k).land (.device ⟨p, v⟩)).answer r (leBytes 4 s.effect)
  if op = 6 then
    if s.pw.op = .run ∨ s.pw.op = .safe ∨ s.pw.op = .config then
      (if d.sv.test.isSome ∨ (smapGet s.der.tests p).isSome then s.deny r St.busy p 0
      else
        let full := decide (s.pw.op = .config)
        if s.commitFull (.device ⟨p, .selfTest full⟩) then s.deny r St.commitFull 0 0
        else
          let s := { s with der := { s.der with tests := smapSet s.der.tests p ⟨r.h, r.pair, r.tag⟩ } }
          s.settle' r (.device ⟨p, .selfTest full⟩) [])
    else s.deny r St.wrongState p 0
  else if cell = 0 ∨ 24 < cell then s.deny r St.invalid cell 0
  else if op = 3 then
    if bit (s.par Fld.convCfg 0) 7 ∨ (d.mod k).failed = false ∨ (d.cell k).subst.isSome then s.deny r St.invalid cell 0
    else if reliefTaken d.rm1 && reliefTaken d.rm2 then s.deny r St.busy cell 0
    else landSubst (.substitute cell)
  else if op = 4 then
    if (d.cell k).subst.isNone then s.deny r St.invalid cell 0 else landSubst (.revert cell)
  else (s.react ⟨p, .arbitrate cell true⟩).answer r (leBytes 4 s.effect)

/-- CALIBRATE (R446). -/
def doCalibrate (r : Req) (s : State) : State :=
  let p := r.get 3 1
  let op := r.get 2 1
  if (op = 1 ∨ op = 2) ∧ (p = 0xFF ∨ s.posStatus p = 0) then
    s.settle' r (.device ⟨p, if op = 1 then .calHalt else .calResume⟩) []
  else match s.deviceAt p with
    | (st, none) => s.deny r st p 0
    | (_, some d) => if op = 0 then s.answer r (d.calResult s.now) else calOrder r s p d

/-- CALIBRATE (R446). -/
def execCalibrate (h : HostId) (pair : Nat) (s : State) : Out := serve s h pair 0x0107 guardCalibrate doCalibrate

/-! ### SYS_CAL (R181 to R183, R448) -/

/-- Guards of SYS_CAL (R440, R448). -/
def guardSysCal (r : Req) : Option Guard :=
  if r.get 2 1 < 3 then some ⟨decide (r.len = 8), some Sem.calib, 2⟩ else none

/-- The channel is the shunt, or the SENT fast channel that the Legend configures as a current (R181, R448, R537). -/
def State.calChannel (s : State) (c : Nat) : Bool := decide (c = 0xFF) || (decide (c < 16) && decide (s.par Fld.isentCh 0 = c))

/-- The sequence of a channel, a fresh one where none is open. -/
def State.calOf (s : State) (c : Nat) : SysCal :=
  (s.der.sysCal.find? (fun x => decide (x.chan = c))).getD ⟨c, none, none, {}, .A, 0, 0⟩

/-- SYS_CAL: ZERO and SPAN begin a measurement of 1,000 ms, whose end answers; ABORT closes the sequence (R448). -/
def doSysCal (r : Req) (s : State) : State :=
  let step := r.get 2 1
  let chan := r.get 3 1
  let c := s.calOf chan
  let rest := s.der.sysCal.filter (fun x => decide (x.chan ≠ chan))
  let recent : Bool := match c.zero with
    | some z => decide (s.now ≤ z.2 + ms 600000)
    | none => false
  if s.calChannel chan = false then s.deny r St.invalid chan 0
  else if c.measuring.isSome then s.deny r St.busy chan 0
  else if step = 2 then ({ s with der := { s.der with sysCal := rest } }).answer r []
  else if step = 1 ∧ recent = false then s.deny r St.sequence chan 0
  else
    let c := { c with
      zero := if step = 0 then none else c.zero
      measuring := some (step, s.now, sext 32 (r.get 4 4)), acc := {}, host := r.h, pair := r.pair, tag := r.tag }
    { s with der := { s.der with sysCal := rest ++ [c] } }

/-- SYS_CAL (R448). -/
def execSysCal (h : HostId) (pair : Nat) (s : State) : Out := serve s h pair 0x0108 guardSysCal doSysCal

/-! ### BALANCE_SET (R217, R449) -/

/-- Guards of BALANCE_SET (R440, R449). -/
def guardBalanceSet (r : Req) : Option Guard :=
  let fits := decide (r.len = 12)
  match r.get 2 1 with
  | 0 => some ⟨fits, some Sem.balance, 1⟩
  | 1 => some ⟨fits, none, 0⟩
  | _ => none

/-- The device is in RUN or SAFE (R207, R217). -/
def State.active (s : State) : Bool := decide (s.pw.op = .run ∨ s.pw.op = .safe)

/-- The lowest cell (0 to 23) of a mask without a bleed resistor at position p (R216). -/
def State.noBleed (s : State) (p mask : Nat) : Option Nat :=
  (List.range 24).find? (fun k => mask.testBit k && decide (s.par Fld.balRb (24 * p + k) = 0))

/-- BALANCE_SET (R217, R220, R449). -/
def doBalanceSet (r : Req) (s : State) : State :=
  let p := r.get 3 1
  let mask := r.get 6 4 % 2 ^ 24
  let t := r.get 10 2
  if r.get 2 1 = 1 then
    match s.deviceAt p with
    | (st, none) => s.deny r st p 0
    | (_, some d) => s.answer r (leBytes 4 (s.sweep - 1) ++ d.cells.flatMap (fun c => leBytes 4 c.word))
  else if s.active = false then s.deny r St.wrongState 0 0
  else if s.posStatus p ≠ 0 then s.deny r (s.posStatus p) p 0
  else if 3840 < t then s.deny r St.invalid 0 0
  else match (if t = 0 then none else s.noBleed p mask) with
    | some k => s.deny r St.invalid (k + 1) Fld.balRb
    | none => s.settle' r (.device ⟨p, .balance mask t⟩) []

/-- BALANCE_SET (R449). -/
def execBalanceSet (h : HostId) (pair : Nat) (s : State) : Out := serve s h pair 0x0109 guardBalanceSet doBalanceSet

/-! ### SOUND_START (R207, R208, R450) -/

/-- Guard of SOUND_START (R440, R450). -/
def guardSoundStart (r : Req) : Option Guard := some ⟨decide (r.len = 24), some Sem.sound, 1⟩

/-- A cell (0 to 23) has a declared open tap, or a CELL_UV cause present (R207 item 3). -/
def State.soundBlocked (s : State) (p k : Nat) : Bool :=
  s.hasCause ⟨0x06, 1, p, k⟩ || s.hasCause ⟨0x06, 1, p, k + 1⟩ || s.hasCause ⟨0x02, 1, p, k + 1⟩

/-- The latest CV mean of a cell lies below SND_VMIN (R207). -/
def State.soundLow (s : State) (p k : Nat) : Bool :=
  let e := s.atlasGet (atlasIdx p k)
  decide (e.count ≠ 0) && decide (meanQ e < 1000 * (s.par Fld.sndVmin 0 : Rat))

/-- A cycle count of bin b that R450 admits: the default, or 2 to 65,535 with an integration of at most 600 s. -/
def cyclesFit (b n : Nat) : Bool := decide (n = 0) || (decide (2 ≤ n) && decide (n * binCycle b * 125 ≤ 1200000000))

/-- A Sounding runs, or is to begin, at a position (R207 item 2). -/
def State.soundBusy (s : State) (p : Nat) : Bool :=
  s.der.reports.any (fun x => decide (x.pos = p)) || (match (s.deviceAt p).2 with
    | some d => d.snd.isSome || d.sndNext.isSome
    | none => false)

/-- SOUND_START (R207, R208, R450). -/
def doSoundStart (r : Req) (s : State) : State :=
  let p := r.get 2 1
  let bins := r.get 3 1
  let cells := r.get 4 4 % 2 ^ 24
  let cycles := (List.range 8).map (fun b => r.get (8 + 2 * b) 2)
  let named := (List.range 24).filter (fun k => cells.testBit k)
  if s.active = false then s.deny r St.wrongState 0 0
  else if s.soundBusy p then s.deny r St.busy p 0
  else match named.find? (fun k => s.soundBlocked p k) with
    | some k => s.deny r St.causePresent (k + 1) 0
    | none =>
      if s.posStatus p ≠ 0 then s.deny r (s.posStatus p) p 0
      else match s.noBleed p cells with
        | some k => s.deny r St.invalid (k + 1) Fld.balRb
        | none =>
          if cells = 0 ∨ bins = 0 ∨ (List.range 8).any (fun b => bins.testBit b && !cyclesFit b (cycles.getD b 0)) then
            s.deny r St.invalid 0 0
          else
            let low := maskOf (named.filter (fun k => s.soundLow p k))
            let run := cells - low
            let x : Landed := .device ⟨p, .sounding run bins cycles⟩
            if s.commitFull x then s.deny r St.commitFull 0 0
            else
              let e := s.effect
              let rep : SndReport := ⟨r.h, r.pair, r.tag, p, cells, bins, cycles, e, []⟩
              let rep := rep.named.foldl (fun (q : SndReport) y => if low.testBit (y.1 - 1) then q.put (sndNone y 6) else q) rep
              let s := { s with der := { s.der with reports := s.der.reports ++ [rep] } }
              let s := s.answer r (leBytes 4 e ++ leBytes 4 low)
              if run = 0 then s.sndKeep rep else s.land x

/-- SOUND_START (R450). -/
def execSoundStart (h : HostId) (pair : Nat) (s : State) : Out := serve s h pair 0x010A guardSoundStart doSoundStart

end Sys2Proof.Machine
end

