-- ==== Sys2Proof/Machine/LegendRules.lean ====
section
/-!
DEFINITION. What Zardo checks of a Legend image before a commit (R223, R292, R301 to R303, R342, R357, R370, R384, R417,
R469, R476, R537): each check answers the fields and indices that break it.
-/

namespace Sys2Proof.Machine

/-- Bits of a layout field that are not reserved; a 1 written to a reserved bit is ignored (R24). -/
def fieldMask (fid : Nat) : Nat :=
  if fid = Fld.convCfg then 0xFF
  else if fid = Fld.thCfg then 0x3
  else if fid = Fld.contourBand then 0xFFFFFF
  else if fid = Fld.contCfg then 0xFF7FFFF7
  else if fid = Fld.contTime then 0xFFFF01FF
  else if fid = Fld.siCfg ∨ fid = Fld.rstCfg then 0x7FFFF
  else if fid = Fld.sentCfg then 0xFF1F
  else if fid = Fld.sevCfg then 0x77
  else if fid = Fld.loopRec then 2 ^ 512 - 1 - 0xE0
  else 2 ^ 512 - 1

/-- A map of fields without reserved bits. -/
def maskFields (m : SMap Nat) : SMap Nat := m.map (fun e => (e.1, e.2 &&& fieldMask (e.1 / 65536)))

/-- Indices `i` to `i + n - 1` of a field exist (R470); classes count from 1. -/
def indicesFit (fid i n : Nat) : Bool := decide (i + n ≤ fieldCount fid) && (decide (fid ≠ Fld.sevCfg) || decide (1 ≤ i))

/-- The value lies in the range of its parameter table; BAL_RB and ISENT_CH have a gap, ISENT_MAPC leaves out 0 (R190, R216,
log 46). -/
def inRange (fid v : Nat) : Bool :=
  match fieldSpec fid with
  | none => false
  | some r =>
    let x : Int := if r.signed then sext (8 * r.width) v else v
    decide (r.lo ≤ x ∧ x ≤ r.hi)
      && (decide (fid ≠ Fld.balRb) || decide (v = 0) || decide (10 ≤ v))
      && (decide (fid ≠ Fld.isentCh) || decide (v ≤ 15) || decide (v = 255))
      && (decide (fid ≠ Fld.isentMapc) || decide (v ≠ 0))

/-- Fields outside their range. -/
def breaksRange (fs : SMap Nat) : List (Nat × Nat) :=
  (fs.filter (fun e => !inRange (e.1 / 65536) e.2)).map (fun e => (e.1 / 65536, e.1 % 65536))

/-- REG_SWP and REG_ERR values that R476 refuses, where the image holds them. -/
def breaksRegs (fs : SMap Nat) : List (Nat × Nat) :=
  (match smapGet fs (fieldKey Fld.regSwp 0) with
    | some v => if swpRefused v ∨ v ≠ swpBits v then [(Fld.regSwp, 0)] else []
    | none => [])
  ++ (match smapGet fs (fieldKey Fld.regErr 0) with
    | some v => if 5 ≤ bits v 18 16 ∨ v ≠ errBits v then [(Fld.regErr, 0)] else []
    | none => [])

/-- Continuous bleed together with gated samples (R223). -/
def breaksBleed (fs : SMap Nat) : List (Nat × Nat) :=
  if par fs Fld.balQuiet 0 = 0 ∧ bit (par fs Fld.convCfg 0) 2 = false then [(Fld.balQuiet, 0)] else []

/-- X values that do not ascend strictly (R292). -/
def breaksLut (fs : SMap Nat) : List (Nat × Nat) :=
  ((List.range 63).filter (fun i =>
    decide (bits (par fs Fld.ntcLut (i + 1)) 15 0 ≤ bits (par fs Fld.ntcLut i) 15 0))).map (fun i => (Fld.ntcLut, i + 1))

/-- T_UT < T_OT < T_LOCK does not hold (R301). -/
def breaksTemps (fs : SMap Nat) : List (Nat × Nat) :=
  let t (f : Nat) : Int := parI fs f 0 16
  if t Fld.tUt < t Fld.tOt ∧ t Fld.tOt < t Fld.tLock then [] else [(Fld.tOt, 0)]

/-- Step 0 is not 0 A, or a current falls from one step to the next (R302). -/
def breaksSteps (fs : SMap Nat) : List (Nat × Nat) :=
  let w (i : Nat) : Nat := par fs Fld.contourStep i
  (if w 0 = 0 then [] else [(Fld.contourStep, 0)])
    ++ ((List.range 15).filter (fun i => decide (bits (w (i + 1)) 15 0 < bits (w i) 15 0)
      || decide (bits (w (i + 1)) 31 16 < bits (w i) 31 16))).map (fun i => (Fld.contourStep, i + 1))

/-- EDGE values of bands 0 to CT_NBAND - 2 that do not ascend strictly (R303). -/
def breaksBands (fs : SMap Nat) : List (Nat × Nat) :=
  let e (i : Nat) : Int := sext 16 (par fs Fld.contourBand i)
  ((List.range (par fs Fld.ctNband 0 - 2)).filter (fun i => decide (e (i + 1) ≤ e i))).map (fun i => (Fld.contourBand, i + 1))

/-- Channels that channel n needs in HOLD, directly or through others (R342 item 2). -/
def reqReach (fs : SMap Nat) (n : Nat) : Nat :=
  let req (k : Nat) : Nat := bits (par fs Fld.contCfg k) 9 4
  (List.range 6).foldl (fun (m : Nat) _ =>
    (List.range 6).foldl (fun (m : Nat) k => if m.testBit k then m ||| req k else m) m) (req n)

/-- A channel in use breaks R342. -/
def breaksChannel (fs : SMap Nat) (n : Nat) : Bool :=
  let c := par fs Fld.contCfg n
  let t := par fs Fld.contTime n
  let i := par fs Fld.contCur n
  let req := bits c 9 4
  let excl := bits c 15 10
  let use (k : Nat) : Bool := bit (par fs Fld.contCfg k) 0
  let iPi := bits i 15 0
  let iHold := bits i 31 16
  let cMin := bits i 47 32
  let cMax := bits i 63 48
  let coil := (List.range 16).any (fun m =>
    let w := par fs Fld.loopRec m
    decide (bits w 1 0 = 2) && decide (bits w 23 16 = 0x11 + n))
  bit c 0 && (req.testBit n || excl.testBit n || decide (req &&& excl ≠ 0)
    || (List.range 6).any (fun k => req.testBit k && !use k) || (reqReach fs n).testBit n
    || decide (cMax ≤ cMin)
    || (coil && !(decide (cMin < iHold) && decide (iHold ≤ iPi) && decide (iPi < cMax)))
    || decide (bits c 22 16 < 1 ∨ 100 < bits c 22 16) || decide (bits c 31 24 < 1)
    || decide (bits t 8 0 < 10 ∨ 500 < bits t 8 0) || decide (bits t 23 16 < 10 ∨ 200 < bits t 23 16))

/-- Channels that break R342. -/
def breaksChannels (fs : SMap Nat) : List (Nat × Nat) :=
  ((List.range 6).filter (breaksChannel fs)).map (fun n => (Fld.contCfg, n))

/-- FILT 0, or T_D outside 1 to 2,000 (R357). -/
def siBroken (v : Nat) : Bool := decide (bits v 7 4 = 0) || decide (bits v 18 8 = 0) || decide (2000 < bits v 18 8)

/-- Input words that break R357. -/
def breaksInputs (fs : SMap Nat) : List (Nat × Nat) :=
  let coupled := (List.range 4).filter (fun i => decide (bits (par fs Fld.siCfg i) 2 1 = 2))
  (((List.range 4).filter (fun i => siBroken (par fs Fld.siCfg i))) ++ coupled.drop 1).map (fun i => (Fld.siCfg, i))
    ++ (if siBroken (par fs Fld.rstCfg 0) then [(Fld.rstCfg, 0)] else [])

/-- Safe frame parameters that break R370. -/
def breaksSession (fs : SMap Nat) : List (Nat × Nat) :=
  (if par fs Fld.sfIdOwn 0 = par fs Fld.sfIdPart 0 then [(Fld.sfIdOwn, 0)] else [])
    ++ (if par fs Fld.sfTexp 0 < 2 * par fs Fld.sfTper 0 then [(Fld.sfTper, 0)] else [])

/-- Severities that break R384. -/
def breaksSeverity (fs : SMap Nat) : List (Nat × Nat) :=
  ((List.range 31).filter (fun i =>
    let c := i + 1
    let v := par fs Fld.sevCfg c
    let sev := bits v 2 0
    let esc := bits v 6 4
    decide (sev < sevLowest.getD i 0) || decide (esc < sev) || decide (4 < esc)
      || (sevFixed c && decide (v ≠ fieldReset Fld.sevCfg c)))).map (fun i => (Fld.sevCfg, i + 1))

/-- Queue sizes that sum to more than 1,024 units (R417). -/
def breaksQueues (fs : SMap Nat) : List (Nat × Nat) :=
  if 1024 < ((List.range 64).map (par fs Fld.qsize)).foldl (· + ·) 0 then [(Fld.qsize, 0)] else []

/-- TICK outside 6 to 180 (R537). -/
def breaksSent (fs : SMap Nat) : List (Nat × Nat) :=
  ((List.range 8).filter (fun n =>
    let t := bits (par fs Fld.sentCfg n) 15 8
    decide (t < 6 ∨ 180 < t))).map (fun n => (Fld.sentCfg, n))

/-- DR_NMIN exceeds DR_SPAN (R198). -/
def breaksDr (fs : SMap Nat) : List (Nat × Nat) :=
  if par fs Fld.drSpan 0 < par fs Fld.drNmin 0 then [(Fld.drNmin, 0)] else []

/-- Everything in an image that a rule refuses at a commit (R463, R473). -/
def breaksAny (fs : SMap Nat) : List (Nat × Nat) :=
  breaksRange fs ++ breaksRegs fs ++ breaksBleed fs ++ breaksLut fs ++ breaksTemps fs ++ breaksSteps fs ++ breaksBands fs
    ++ breaksChannels fs ++ breaksInputs fs ++ breaksSession fs ++ breaksSeverity fs ++ breaksQueues fs ++ breaksSent fs
    ++ breaksDr fs

/-- The first breaking field and index, in the order of identities (R463). -/
def firstBreak (fs : SMap Nat) : Option (Nat × Nat) :=
  (breaksAny fs).foldl (fun (m : Option (Nat × Nat)) x => match m with
    | none => some x
    | some y => if x.1 < y.1 ∨ (x.1 = y.1 ∧ x.2 < y.2) then some x else m) none

end Sys2Proof.Machine
end

