-- ==== Sys2Proof/Machine/CommandsManagement.lean ====
section
/-!
DEFINITION. The commands of the management plane (R460 to R467): IDENTIFY, LOGIN, LEGEND_WRITE, LEGEND_COMMIT, LOG_READ,
FW_UPDATE, UNFREEZE, DORMANT.
-/

namespace Sys2Proof.Machine

/-! ### IDENTIFY (R460) -/

/-- Guard of IDENTIFY (R440, R460). -/
def guardIdentify (r : Req) : Option Guard := some ⟨decide (r.len = 2), none, 0⟩

/-- VERSION of the active image, 0 in fallback (R476). -/
def State.legVersion (s : State) : Nat := if s.leg.fallback then 0 else s.leg.active.version

/-- The IDENTIFY result (R460). -/
def State.identity (s : State) : List Byte :=
  leBytes 2 0x2448 ++ leBytes 1 1 ++ leBytes 1 (opCode s.pw.op) ++ leBytes 2 s.leg.release ++ leBytes 2 (s.dev 0).release
    ++ leBytes 4 Config.chassisId.toNat ++ leBytes 4 (Config.factoryId 0).toNat ++ leBytes 2 s.legVersion ++ [0, 0]
    ++ leBytes 4 s.leg.active.crc ++ leBytes 4 s.sweep

/-- IDENTIFY (R460). -/
def execIdentify (h : HostId) (pair : Nat) (s : State) : Out :=
  serve s h pair 0x0301 guardIdentify (fun r s => s.answer r s.identity)

/-! ### LOGIN (R461, R477, R478) -/

/-- Guards of LOGIN (R440, R461). -/
def guardLogin (r : Req) : Option Guard :=
  let fits := decide (r.len = 38)
  match r.get 2 1 with
  | 0 => some ⟨fits, none, 0⟩
  | 1 => some ⟨fits, none, 0⟩
  | 2 => some ⟨fits, some Sem.passwd, 2⟩
  | _ => none

/-- The password of a level in force (R477). -/
def State.passwordOf (s : State) (level : Nat) : List Byte := if level = 2 then s.leg.pwService else s.leg.pwOperator

/-- A length of 8 to 16 (R461). -/
def pwLength (n : Nat) : Bool := decide (8 ≤ n ∧ n ≤ 16)

/-- Every character of a password lies between 0x21 and 0x7E (R477). -/
def pwChars (b : List Byte) : Bool := b.all (fun c => decide (0x21 ≤ c.toNat ∧ c.toNat ≤ 0x7E))

/-- The LOGIN result (R461). -/
def State.loginResult (s : State) (h : HostId) (effect : Nat) : List Byte :=
  leBytes 1 (s.port h).level ++ leBytes 1 (s.port h).pwFail ++ [0, 0] ++ leBytes 4 effect

/-- A wrong password at a login: PWFAIL rises, and the fifth in a row freezes the port without a response (R461). -/
def State.wrongPassword (s : State) (r : Req) : State :=
  let n := (s.port r.h).pwFail + 1
  let s := s.modPort r.h (fun p => { p with pwFail := n })
  if 5 ≤ n then s.freeze r.h 3 else s.deny r St.password 0 0

/-- LOGIN (R461). -/
def doLogin (r : Req) (s : State) : State :=
  let op := r.get 2 1
  let level := r.get 3 1
  let pwLen := r.get 4 1
  let newLen := r.get 5 1
  let pw := (r.body.drop 6).take pwLen
  let new := (r.body.drop 22).take newLen
  if op = 1 then
    let s := s.setLevel r.h 0
    s.answer r (s.loginResult r.h 0)
  else if ¬ (level = 1 ∨ level = 2) ∨ pwLength pwLen = false then s.deny r St.invalid 0 0
  else if op = 0 then
    if pw = s.passwordOf level then
      let s := (s.modPort r.h (fun p => { p with pwFail := 0 })).setLevel r.h level
      s.answer r (s.loginResult r.h 0)
    else s.wrongPassword r
  else if pwLength newLen = false ∨ pwChars new = false then s.deny r St.invalid 0 0
  else if pw ≠ s.passwordOf level then s.deny r St.password 0 0
  else
    let e := s.effect
    let s := s.land (.password level new r.h (s.levelOf r.h))
    s.answer r (s.loginResult r.h e)

/-- LOGIN (R461). -/
def execLogin (h : HostId) (pair : Nat) (s : State) : Out := serve s h pair 0x0302 guardLogin doLogin

/-! ### LEGEND_WRITE (R462, R471, R472) -/

/-- The fields of the staged image (R471): the loaded image, or else the active one, with the staged fields. -/
def State.stagedFields (s : State) : SMap Nat := overFields (s.leg.loaded.getD s.leg.active.fields) s.leg.staged

/-- SCRC: the CRC-32C of the staged image, with the header of the active one (R471, R472 item 5, log 47). -/
def State.stagedCrc (s : State) : Nat := ({ s.leg.active with fields := s.stagedFields }).crc

/-- Reads `n` field records that fill the bytes exactly; none where they do not (R435 item 2). -/
def takeRecs : Nat → List Byte → Option (List FieldRec)
  | 0, b => if b = [] then some [] else none
  | n + 1, b =>
    let len := field b 4 1
    if b.length < 5 + len then none
    else (takeRecs n (b.drop (5 + len))).map (FieldRec.mk (field b 0 2) (field b 2 2) ((b.drop 5).take len) :: ·)

/-- A record names a field and indices that exist, with a VALUE of their width (R462, R469). -/
def FieldRec.fits (x : FieldRec) : Bool :=
  let w := fieldWidth x.fid
  decide (0 < w) && decide (x.value.length ≠ 0) && decide (x.value.length % w = 0)
    && indicesFit x.fid x.idx (x.value.length / w)

/-- The first record of a list that does not fit, with its number. -/
def badRec (l : List FieldRec) : Option (Nat × FieldRec) :=
  (l.zipIdx.find? (fun x => !x.1.fits)).map (fun x => (x.2, x.1))

/-- The first record of an image that does not fit, or does not stand behind the one before it (R469). -/
def badImageRec : Nat → Nat → List FieldRec → Option (Nat × FieldRec)
  | _, _, [] => none
  | i, lo, x :: l =>
    let n := x.value.length / fieldWidth x.fid
    if x.fits = false ∨ fieldKey x.fid x.idx < lo then some (i, x)
    else badImageRec (i + 1) (fieldKey x.fid x.idx + n) l

/-- Field and index pairs that a read names (R462). -/
def readNames (b : List Byte) (n : Nat) : List (Nat × Nat) := (List.range n).map (fun i => (field b (4 * i) 2, field b (4 * i + 2) 2))

/-- Image words written so far in a build (R462 BUILD). -/
def State.buildWords (s : State) : Nat := match s.leg.build with
  | some b => b.2.length
  | none => 0

/-- Guards of LEGEND_WRITE (R440, R462): the counts of the layout must give LEN. -/
def guardLegendWrite (r : Req) : Option Guard :=
  let n := r.get 4 2
  let data := r.body.drop 6
  match r.get 2 1 with
  | 0 => some ⟨decide (6 ≤ r.len) && (takeRecs n data).isSome, some Sem.legend, 2⟩
  | 1 => some ⟨decide (6 ≤ r.len) && decide (data.length % 4 = 0 ∧ data.length ≤ 4088), some Sem.legend, 2⟩
  | 2 => some ⟨decide (r.len = 6), some Sem.legend, 2⟩
  | 3 => some ⟨decide (r.len = 6 + 4 * n), none, 0⟩
  | _ => none

/-- The result of a stage or discard (R462). -/
def State.stageResult (s : State) : List Byte :=
  leBytes 2 s.leg.staged.length ++ leBytes 2 s.buildWords ++ leBytes 4 s.stagedCrc

/-- Bytes and words of a build with a block written at a byte offset (R472 item 1). -/
def buildBlock (b : List Host.Cell × List Nat) (off : Nat) (data : List Byte) : List Host.Cell × List Nat :=
  (data.zipIdx.foldl (fun m x => smapPut 0#8 m (off + x.2) x.1) b.1,
    ((List.range (data.length / 4)).map (· + off / 4)).foldl (fun l w => if l.contains w then l else l ++ [w]) b.2)

/-- The bytes of a build area. -/
def buildBytes (m : List Host.Cell) : List Byte := (List.range 16384).map (fun i => (smapGet m i).getD 0)

/-- The judgement of a complete build (R472 item 4): the loaded fields, or a STATUS with the record that breaks. -/
def judgeBuild (b : List Byte) : Except (Nat × Nat × Nat) (SMap Nat) :=
  let crc := crc32c (b.take 4 ++ [0, 0, 0, 0] ++ b.drop 8)
  if crc ≠ field b 4 4 then .error (St.crc, 0, 0)
  else if field b 0 2 ≠ 0x0041 then .error (St.invalid, 0, 0)
  else match parseRecs (b.length + 1) (b.drop 32) with
    | none => .error (St.invalid, 0, 0)
    | some l => match badImageRec 0 0 l with
      | some (i, x) => .error (St.invalid, i, x.fid)
      | none => .ok (maskFields (recsMap l []))

/-- An image block is written, and the block that completes the build is judged (R472). -/
def State.imageBlock (s : State) (r : Req) : State :=
  let off := 4 * r.get 4 2
  let data := r.body.drop 6
  if 16384 < off + data.length then s.deny r St.invalid (r.get 4 2) 0
  else
    let b := buildBlock (s.leg.build.getD ([], [])) off data
    if b.2.length < 4096 then
      let s := { s with leg := { s.leg with build := some b } }
      s.answer r s.stageResult
    else match judgeBuild (buildBytes b.1) with
      | .error (st, i, fid) => ({ s with leg := { s.leg with build := none } }).deny r st i fid
      | .ok m =>
        let s := { s with leg := { s.leg with build := none, loaded := some m, staged := [] } }
        s.answer r s.stageResult

/-- The read result: one record for each field and index named (R462). -/
def readResult (fs : SMap Nat) (l : List (Nat × Nat)) : List Byte :=
  l.flatMap (fun x => recOf x.1 x.2 (fieldWidth x.1) (par fs x.1 x.2))

/-- LEGEND_WRITE (R462). -/
def doLegendWrite (r : Req) (s : State) : State :=
  let n := r.get 4 2
  let data := r.body.drop 6
  match r.get 2 1 with
  | 0 =>
    let l := (takeRecs n data).getD []
    (match badRec l with
      | some (i, x) => s.deny r St.invalid i x.fid
      | none =>
        let s := { s with leg := { s.leg with build := none, staged := overFields s.leg.staged (maskFields (recsMap l [])) } }
        s.answer r s.stageResult)
  | 1 => s.imageBlock r
  | 2 =>
    let s := s.dropStaged
    s.answer r s.stageResult
  | _ =>
    let l := readNames data n
    let fs := if r.get 3 1 = 0 then s.leg.active.fields else s.stagedFields
    if 1 < r.get 3 1 then s.deny r St.invalid 0 0
    else match l.zipIdx.find? (fun x => !indicesFit x.1.1 x.1.2 1) with
      | some x => s.deny r St.invalid x.2 x.1.1
      | none =>
        let b := readResult fs l
        if 4092 < b.length then s.deny r St.invalid 0 0 else s.answer r b

/-- LEGEND_WRITE (R462). -/
def execLegendWrite (h : HostId) (pair : Nat) (s : State) : Out := serve s h pair 0x0303 guardLegendWrite doLegendWrite

/-! ### LEGEND_COMMIT (R463, R473, R474) -/

/-- Guards of LEGEND_COMMIT (R440, R463). -/
def guardLegendCommit (r : Req) : Option Guard :=
  match r.get 2 1 with
  | 0 => some ⟨decide (r.len = 8), some Sem.legend, 2⟩
  | 1 => some ⟨decide (r.len = 8), none, 0⟩
  | _ => none

/-- Keys that the active image holds and the staged image does not: they return to their reset values (R469, R472). -/
def State.droppedKeys (s : State) : List Nat :=
  ((s.leg.active.fields.filter (fun e => (smapGet s.stagedFields e.1).isNone)).map (·.1))

/-- The change set of a commit (R473): every staged field that differs from the active image. -/
def State.commitFields (s : State) : SMap Nat :=
  overFields (s.changesOf s.stagedFields) (s.droppedKeys.map (fun k => (k, fieldReset (k / 65536) (k % 65536))))

/-- A commit is accepted: what was staged leaves the Legend shadow, and the change lands once it is verified everywhere
(R67, R462, R473, R474). -/
def State.startCommit (s : State) (r : Req) (fs : SMap Nat) (need : List Nat) : State :=
  let b : Bulk := ⟨2, r.h, r.pair, r.tag, need, [], [], [], false, [], [], fs, s.droppedKeys, s.leg.staged, s.leg.loaded⟩
  (s.dropStaged).startBulk b

/-- LEGEND_COMMIT (R463). -/
def doLegendCommit (r : Req) (s : State) : State :=
  if r.get 2 1 = 1 then
    s.answer r (leBytes 2 s.legVersion ++ leBytes 2 s.leg.staged.length ++ leBytes 4 s.leg.active.crc ++ leBytes 4 s.stagedCrc)
  else if s.staging 2 then s.deny r St.busy 0 0
  else if r.get 4 4 ≠ s.stagedCrc then s.deny r St.crc 0 0
  else if s.leg.staged = [] ∧ s.leg.loaded = none then s.deny r St.invalid 0 0
  else if recordsFit s.stagedFields = false then s.deny r St.invalid 0 0
  else match firstBreak s.stagedFields with
    | some (fid, i) => s.deny r St.invalid i fid
    | none =>
      let fs := s.commitFields
      let need := (List.range s.trv.n).filter (fun p => decide (fieldsOfPos fs p ≠ []))
      let x : Landed := .legend ⟨fs, 0, 0, 0, true, []⟩
      if (need = [] ∧ s.commitFull x) ∨ 1008 < settingsSize (recordPart (landedSettings s.effect x)) then s.deny r St.commitFull 0 0
      else s.startCommit r fs need

/-- LEGEND_COMMIT (R463). -/
def execLegendCommit (h : HostId) (pair : Nat) (s : State) : Out := serve s h pair 0x0304 guardLegendCommit doLegendCommit

/-! ### LOG_READ (R464) -/

/-- Guard of LOG_READ (R440, R464). -/
def guardLogRead (r : Req) : Option Guard := some ⟨decide (r.len = 10), none, 0⟩

/-- Bytes of a fault log record (R464). -/
def LogRec.bytes (x : LogRec) : List Byte :=
  leBytes 2 x.seq ++ leBytes 1 x.kind ++ leBytes 1 x.cls ++ leBytes 1 x.sub ++ leBytes 1 x.pos ++ leBytes 2 x.detail
    ++ leBytes 4 x.sweep ++ leBytes 4 x.value.toNat

/-- Bytes of a Gazetteer entry (R464). -/
def GazRec.bytes (x : GazRec) : List Byte :=
  leBytes 4 x.seq ++ leBytes 4 x.sweep ++ leBytes 1 x.host ++ leBytes 1 x.level ++ leBytes 2 x.field
    ++ leBytes 4 x.oldCrc.toNat ++ leBytes 4 x.newCrc.toNat

/-- Records of a log from sequence number FIRST on, at most COUNT, oldest first, with the header (R464). -/
def logResult {α : Type} (log : Nat) (l : List α) (seq : α → Nat) (bytes : α → List Byte) (first count : Nat) : List Byte :=
  let old := l.reverse
  let recs := (old.filter (fun x => decide (first ≤ seq x))).take count
  leBytes 1 log ++ [0] ++ leBytes 2 recs.length ++ leBytes 4 ((old.head?.map seq).getD 0) ++ leBytes 4 ((l.head?.map seq).getD 0)
    ++ recs.flatMap bytes

/-- LOG_READ (R464). -/
def doLogRead (r : Req) (s : State) : State :=
  let log := r.get 2 1
  let first := r.get 4 4
  let count := r.get 8 2
  if log = 0 ∧ 1 ≤ count ∧ count ≤ 255 then s.answer r (logResult 0 s.flt.log (·.seq) LogRec.bytes first count)
  else if log = 1 ∧ 1 ≤ count ∧ count ≤ 204 then s.answer r (logResult 1 s.leg.gaz (·.seq) GazRec.bytes first count)
  else s.deny r St.invalid 0 0

/-- LOG_READ (R464). -/
def execLogRead (h : HostId) (pair : Nat) (s : State) : Out := serve s h pair 0x0305 guardLogRead doLogRead

/-! ### FW_UPDATE (R465, R480, R481) -/

/-- Guards of FW_UPDATE (R440, R465). -/
def guardFwUpdate (r : Req) : Option Guard :=
  let fw (b : Bool) : Option Guard := some ⟨b, some Sem.firmware, 2⟩
  match r.get 2 1 with
  | 0 => fw (decide (r.len = if r.get 3 1 = 1 then 16 else 12))
  | 1 => fw (decide (8 ≤ r.len ∧ r.len ≤ 4096))
  | 2 => fw (decide (r.len = 4))
  | 3 => fw (decide (r.len = 4))
  | 4 => some ⟨decide (r.len = 4), none, 0⟩
  | 5 => fw (decide (r.len = 4))
  | _ => none

/-- Bytes of a firmware slot of a target (R480). -/
def fwSlot (target : Nat) : Nat := if target = 0 then 229376 else slotBytes

/-- The update of a target that is under way. -/
def State.fwOf (s : State) (target : Nat) : Option FwUpdate := s.leg.fw.filter (fun f => decide (f.target = target))

/-- begin: a new update of a target; one that is being activated stands in its way (R465, R480). -/
def State.fwBegin (s : State) (r : Req) : State :=
  let target := r.get 3 1
  let size := r.get 4 4
  let mask := if target = 1 then r.get 12 4 else 0
  let busy : Bool := match s.leg.fw with
    | some f => decide (f.step = 5)
    | none => false
  if busy then s.deny r St.wrongState 0 0
  else if fwSlot target < size ∨ (target = 1 ∧ mask = 0) then s.deny r St.invalid 0 0
  else match (positionsOf mask).find? (fun p => !s.adopted p) with
    | some p => s.deny r St.notAdopted p 0
    | none =>
      let s := s.fwAbandon
      let s := { s with leg := { s.leg with fw := some ⟨target, 1, size, word (r.get 8 4), mask, [], 0, 0⟩ } }
      s.answer r (leBytes 4 0)

/-- block: bytes that follow those already received (R465). -/
def State.fwBlock (s : State) (r : Req) : State :=
  let data := r.body.drop 8
  match s.fwOf (r.get 3 1) with
  | none => s.deny r St.sequence 0 0
  | some f =>
    if f.step ≠ 1 ∨ r.get 4 4 ≠ f.done then s.deny r St.sequence 0 0
    else if f.size < f.done + data.length then s.deny r St.invalid 0 0
    else
      let f := { f with data := f.data ++ data, done := f.done + data.length }
      ({ s with leg := { s.leg with fw := some f } }).answer r (leBytes 4 f.done)

/-- verify: the image against its CRC-32C; an image for the S-dies is then staged to every position of POSMASK (R465,
R480). -/
def State.fwVerify (s : State) (r : Req) : State :=
  match s.fwOf (r.get 3 1) with
  | none => s.deny r St.wrongState 0 0
  | some f =>
    if f.step ≠ 1 then s.deny r St.wrongState 0 0
    else if f.done ≠ f.size ∨ word (crc32c f.data) ≠ f.crc then s.deny r St.crc 0 0
    else
      let put (step : Nat) (slot : Option Word) : State :=
        ({ s with leg := { s.leg with fw := some { f with step := step }, newSlot := slot } }).event Ev.fwupd
      if f.target = 0 then (put 2 (some f.crc)).answer r (leBytes 4 f.done)
      else
        ((put 3 s.leg.newSlot).answer r (leBytes 4 f.done)).startBulk
          ⟨3, r.h, r.pair, r.tag, positionsOf f.positions, [], [], [], false, f.data, [], [], [], [], none⟩

/-- activate: a setting, in CONFIG, or in SAFE with every channel OPEN or BLOCKED (R465, R481). -/
def State.fwActivate (s : State) (r : Req) : State :=
  let state := decide (s.pw.op = .config) || (decide (s.pw.op = .safe) && s.allSafe)
  match s.fwOf (r.get 3 1) with
  | none => s.deny r St.wrongState 0 0
  | some f =>
    if f.step ≠ (if f.target = 0 then 2 else 4) ∨ state = false then s.deny r St.wrongState 0 0
    else
      let x : Landed := .firmware (decide (f.target = 1)) (positionsOf f.positions) r.h (s.levelOf r.h)
      if s.commitFull x then s.deny r St.commitFull 0 0
      else
        let s := { s with leg := { s.leg with fw := some { f with step := 5 } } }
        s.settle' r x []

/-- status of the update of a target (R465). -/
def State.fwStatus (s : State) (target : Nat) : List Byte :=
  let f := (s.fwOf target).getD ⟨target, 0, 0, 0, 0, [], 0, 0⟩
  leBytes 1 f.step ++ [0, 0, 0] ++ leBytes 4 f.size ++ leBytes 4 f.done ++ leBytes 4 f.posOk ++ [0, 0, 0, 0]

/-- FW_UPDATE (R465). -/
def doFwUpdate (r : Req) (s : State) : State :=
  if 1 < r.get 3 1 then s.deny r St.invalid 0 0
  else match r.get 2 1 with
    | 0 => s.fwBegin r
    | 1 => s.fwBlock r
    | 2 => s.fwVerify r
    | 3 => s.fwActivate r
    | 4 => s.answer r (s.fwStatus (r.get 3 1))
    | _ => (if (s.fwOf (r.get 3 1)).isSome then s.fwAbandon else s).answer r []

/-- FW_UPDATE (R465). -/
def execFwUpdate (h : HostId) (pair : Nat) (s : State) : Out := serve s h pair 0x0306 guardFwUpdate doFwUpdate

/-! ### UNFREEZE (R431, R466) -/

/-- Guard of UNFREEZE (R440, R466). -/
def guardUnfreeze (r : Req) : Option Guard := some ⟨decide (r.len = 4), none, 1⟩

/-- UNFREEZE releases the other port (R431, R466). -/
def doUnfreeze (r : Req) (s : State) : State :=
  let n := r.get 2 1
  if 1 < n ∨ n = hostNum r.h then s.deny r St.invalid n 0
  else if (s.port (hostOther r.h)).frozen = false then s.deny r St.notFrozen n 0
  else (s.releasePort (hostOther r.h)).answer r []

/-- UNFREEZE (R466). -/
def execUnfreeze (h : HostId) (pair : Nat) (s : State) : Out := serve s h pair 0x0307 guardUnfreeze doUnfreeze

/-! ### DORMANT (R467, R497) -/

/-- Guard of DORMANT (R440, R467). -/
def guardDormant (r : Req) : Option Guard := some ⟨decide (r.len = 8), some Sem.power, 1⟩

/-- DORMANT orders the ring into DORMANT (R467, R497). -/
def doDormant (r : Req) (s : State) : State :=
  if r.get 4 4 ≠ 0x444F524D then s.deny r St.invalid 0 0
  else if s.dormantFit = false then s.deny r St.wrongState 0 0
  else s.settle' r .dormant []

/-- DORMANT (R467). -/
def execDormant (h : HostId) (pair : Nat) (s : State) : Out := serve s h pair 0x0308 guardDormant doDormant

end Sys2Proof.Machine
end

