-- ==== Sys2Proof/Machine/Dispatch.lean ====
section
/-!
DEFINITION. One arm per command of the table: each is one direct call of the meaning of its command.
-/

namespace Sys2Proof.Machine

def exec (i : Instr) (s : State) : Host.Outcome State Fault Refusal :=
  match i with
  | .vsupRise => Sys2Proof.Machine.execVsupRise s
  | .vsupFall => Sys2Proof.Machine.execVsupFall s
  | .lockedLatchClear => Sys2Proof.Machine.execLockedLatchClear s
  | .resetNAssert => Sys2Proof.Machine.execResetNAssert s
  | .resetNRelease => Sys2Proof.Machine.execResetNRelease s
  | .cDieStart => Sys2Proof.Machine.execCDieStart s
  | .cDieWake w => Sys2Proof.Machine.execCDieWake w s
  | .sDieStart d => Sys2Proof.Machine.execSDieStart d s
  | .sDieStop d => Sys2Proof.Machine.execSDieStop d s
  | .roleAtPowerUp d => Sys2Proof.Machine.execRoleAtPowerUp d s
  | .d1TrainsLate d => Sys2Proof.Machine.execD1TrainsLate d s
  | .selfCalibrationComplete d cal => Sys2Proof.Machine.execSelfCalibrationComplete d cal s
  | .sweepBoundary r => Sys2Proof.Machine.execSweepBoundary r s
  | .localBoundary d r => Sys2Proof.Machine.execLocalBoundary d r s
  | .balanceTimerExpiry d cell => Sys2Proof.Machine.execBalanceTimerExpiry d cell s
  | .declareUnsynchronised d => Sys2Proof.Machine.execDeclareUnsynchronised d s
  | .returnToPreferredDirection d => Sys2Proof.Machine.execReturnToPreferredDirection d s
  | .meridianArrival d p => Sys2Proof.Machine.execMeridianArrival d p s
  | .meridianSend => Sys2Proof.Machine.execMeridianSend s
  | .sweepMarkLoss => Sys2Proof.Machine.execSweepMarkLoss s
  | .commitCutOff => Sys2Proof.Machine.execCommitCutOff s
  | .commitRecordSend => Sys2Proof.Machine.execCommitRecordSend s
  | .reactionCutOff => Sys2Proof.Machine.execReactionCutOff s
  | .controlTick ks => Sys2Proof.Machine.execControlTick ks s
  | .tuningTimeout => Sys2Proof.Machine.execTuningTimeout s
  | .sweepOverrun d sub index => Sys2Proof.Machine.execSweepOverrun d sub index s
  | .sampleComplete d raw => Sys2Proof.Machine.execSampleComplete d raw s
  | .itemsSend d => Sys2Proof.Machine.execItemsSend d s
  | .itemsFrame p f => Sys2Proof.Machine.execItemsFrame p f s
  | .seqLossTimeout pos => Sys2Proof.Machine.execSeqLossTimeout pos s
  | .atlasDeadline => Sys2Proof.Machine.execAtlasDeadline s
  | .contourStepDown dir => Sys2Proof.Machine.execContourStepDown dir s
  | .contourStepUp dir => Sys2Proof.Machine.execContourStepUp dir s
  | .contourFailsafeDwell => Sys2Proof.Machine.execContourFailsafeDwell s
  | .positionSilent pos => Sys2Proof.Machine.execPositionSilent pos s
  | .spotReadingStart d => Sys2Proof.Machine.execSpotReadingStart d s
  | .spotReadingComplete d results => Sys2Proof.Machine.execSpotReadingComplete d results s
  | .spotResultLost slot => Sys2Proof.Machine.execSpotResultLost slot s
  | .surveyEntryEnd d results => Sys2Proof.Machine.execSurveyEntryEnd d results s
  | .benchmarkRecalDue d => Sys2Proof.Machine.execBenchmarkRecalDue d s
  | .benchmarkOccupationEnd d => Sys2Proof.Machine.execBenchmarkOccupationEnd d s
  | .maintenanceSweep d r => Sys2Proof.Machine.execMaintenanceSweep d r s
  | .fullSelfTestEnd d r => Sys2Proof.Machine.execFullSelfTestEnd d r s
  | .rollingCalPhaseEnd d cal temp => Sys2Proof.Machine.execRollingCalPhaseEnd d cal temp s
  | .rollingCalHaltExpiry d => Sys2Proof.Machine.execRollingCalHaltExpiry d s
  | .shuntOvercurrent dir => Sys2Proof.Machine.execShuntOvercurrent dir s
  | .sentMessage n m => Sys2Proof.Machine.execSentMessage n m s
  | .sentTimeout n => Sys2Proof.Machine.execSentTimeout n s
  | .sentSupplyLimit n => Sys2Proof.Machine.execSentSupplyLimit n s
  | .sentSupplyOn n => Sys2Proof.Machine.execSentSupplyOn n s
  | .sysCalMeasurementEnd chan => Sys2Proof.Machine.execSysCalMeasurementEnd chan s
  | .soundingKeyingEdge d => Sys2Proof.Machine.execSoundingKeyingEdge d s
  | .soundingIntegrationEnd d sums => Sys2Proof.Machine.execSoundingIntegrationEnd d sums s
  | .bleedOnEdge d => Sys2Proof.Machine.execBleedOnEdge d s
  | .bleedOffEdge d => Sys2Proof.Machine.execBleedOffEdge d s
  | .gateFault d cell p => Sys2Proof.Machine.execGateFault d cell p s
  | .bleedSilenceExpiry d => Sys2Proof.Machine.execBleedSilenceExpiry d s
  | .cErrAssert => Sys2Proof.Machine.execCErrAssert s
  | .barrierLaneLoss l => Sys2Proof.Machine.execBarrierLaneLoss l s
  | .barrierLaneRetrain l ok => Sys2Proof.Machine.execBarrierLaneRetrain l ok s
  | .referenceClockLoss => Sys2Proof.Machine.execReferenceClockLoss s
  | .referenceClockReturn => Sys2Proof.Machine.execReferenceClockReturn s
  | .slPairEqual p => Sys2Proof.Machine.execSlPairEqual p s
  | .sErrUnexplained => Sys2Proof.Machine.execSErrUnexplained s
  | .crystalFailure => Sys2Proof.Machine.execCrystalFailure s
  | .dieOvertempTrip d die => Sys2Proof.Machine.execDieOvertempTrip d die s
  | .dieOvertempRelease d die => Sys2Proof.Machine.execDieOvertempRelease d die s
  | .memoryEccError k => Sys2Proof.Machine.execMemoryEccError k s
  | .supervisorWatchdogExpiry => Sys2Proof.Machine.execSupervisorWatchdogExpiry s
  | .supervisorCoreRestart => Sys2Proof.Machine.execSupervisorCoreRestart s
  | .sDieWatchdogExpiry d => Sys2Proof.Machine.execSDieWatchdogExpiry d s
  | .heartbeatTimeout => Sys2Proof.Machine.execHeartbeatTimeout s
  | .errOutRelease => Sys2Proof.Machine.execErrOutRelease s
  | .maskingIntervalEnd k => Sys2Proof.Machine.execMaskingIntervalEnd k s
  | .kfRecognised n level => Sys2Proof.Machine.execKfRecognised n level s
  | .pullInTimeout n => Sys2Proof.Machine.execPullInTimeout n s
  | .holdDelayEnd n => Sys2Proof.Machine.execHoldDelayEnd n s
  | .dropOutTimeout n => Sys2Proof.Machine.execDropOutTimeout n s
  | .coilCurrentTimeout n => Sys2Proof.Machine.execCoilCurrentTimeout n s
  | .coilPinMismatch n differs => Sys2Proof.Machine.execCoilPinMismatch n differs s
  | .tripSourceAssert src => Sys2Proof.Machine.execTripSourceAssert src s
  | .safetyChannelRecognised inp c level => Sys2Proof.Machine.execSafetyChannelRecognised inp c level s
  | .safeinDiscrepancyTimeout inp => Sys2Proof.Machine.execSafeinDiscrepancyTimeout inp s
  | .restartIdleTimer => Sys2Proof.Machine.execRestartIdleTimer s
  | .restartStuck => Sys2Proof.Machine.execRestartStuck s
  | .couplingTimer => Sys2Proof.Machine.execCouplingTimer s
  | .safeFrameSendTimer => Sys2Proof.Machine.execSafeFrameSendTimer s
  | .safeFrameTimeExpectation => Sys2Proof.Machine.execSafeFrameTimeExpectation s
  | .safeFrameConnectLimit => Sys2Proof.Machine.execSafeFrameConnectLimit s
  | .sessionReconnectDelay => Sys2Proof.Machine.execSessionReconnectDelay s
  | .linkUp d p => Sys2Proof.Machine.execLinkUp d p s
  | .rxLoss d p => Sys2Proof.Machine.execRxLoss d p s
  | .idleSet d p peer good => Sys2Proof.Machine.execIdleSet d p peer good s
  | .miswireTimeout d p => Sys2Proof.Machine.execMiswireTimeout d p s
  | .linkDegraded d p missed => Sys2Proof.Machine.execLinkDegraded d p missed s
  | .frameForward d p f => Sys2Proof.Machine.execFrameForward d p f s
  | .wakePatternDetected d p => Sys2Proof.Machine.execWakePatternDetected d p s
  | .wakePatternEnd d => Sys2Proof.Machine.execWakePatternEnd d s
  | .portDownWake d p => Sys2Proof.Machine.execPortDownWake d p s
  | .sDieSilenceDormant d => Sys2Proof.Machine.execSDieSilenceDormant d s
  | .token d p f => Sys2Proof.Machine.execToken d p f s
  | .probe d p f turnaround => Sys2Proof.Machine.execProbe d p f turnaround s
  | .probeReply d p f roundTrip => Sys2Proof.Machine.execProbeReply d p f roundTrip s
  | .adopt d p f => Sys2Proof.Machine.execAdopt d p f s
  | .sweepHeader d p f => Sys2Proof.Machine.execSweepHeader d p f s
  | .keepalive d p f => Sys2Proof.Machine.execKeepalive d p f s
  | .keepaliveSend => Sys2Proof.Machine.execKeepaliveSend s
  | .commit d p f => Sys2Proof.Machine.execCommit d p f s
  | .reaction d p f => Sys2Proof.Machine.execReaction d p f s
  | .command d p f => Sys2Proof.Machine.execCommand d p f s
  | .stage d p f => Sys2Proof.Machine.execStage d p f s
  | .traverseStart => Sys2Proof.Machine.execTraverseStart s
  | .traversePassEnd => Sys2Proof.Machine.execTraversePassEnd s
  | .traverseRetryTimer => Sys2Proof.Machine.execTraverseRetryTimer s
  | .wakeTimeout => Sys2Proof.Machine.execWakeTimeout s
  | .loginTimeout h => Sys2Proof.Machine.execLoginTimeout h s
  | .gazetteerWrite => Sys2Proof.Machine.execGazetteerWrite s
  | .portReset h => Sys2Proof.Machine.execPortReset h s
  | .commandWindowPush h addr ws => Sys2Proof.Machine.execCommandWindowPush h addr ws s
  | .responseWindowRelease h addr ws => Sys2Proof.Machine.execResponseWindowRelease h addr ws s
  | .responseWindowPeek h addr n => Sys2Proof.Machine.execResponseWindowPeek h addr n s
  | .responsePlacement h pair => Sys2Proof.Machine.execResponsePlacement h pair s
  | .semTake h v => Sys2Proof.Machine.execSemTake h v s
  | .semGive h v => Sys2Proof.Machine.execSemGive h v s
  | .swpCtrlWrite h v => Sys2Proof.Machine.execSwpCtrlWrite h v s
  | .errCtrlWrite h v => Sys2Proof.Machine.execErrCtrlWrite h v s
  | .requestConfig h => Sys2Proof.Machine.execRequestConfig h s
  | .withdrawConfig h => Sys2Proof.Machine.execWithdrawConfig h s
  | .registerWrite h mosi => Sys2Proof.Machine.execRegisterWrite h mosi s
  | .traverse h pair => Sys2Proof.Machine.execTraverse h pair s
  | .windowSet h pair => Sys2Proof.Machine.execWindowSet h pair s
  | .atlasRead h pair => Sys2Proof.Machine.execAtlasRead h pair s
  | .chassisRead h pair => Sys2Proof.Machine.execChassisRead h pair s
  | .surveyLoad h pair => Sys2Proof.Machine.execSurveyLoad h pair s
  | .spotRead h pair => Sys2Proof.Machine.execSpotRead h pair s
  | .calibrate h pair => Sys2Proof.Machine.execCalibrate h pair s
  | .sysCal h pair => Sys2Proof.Machine.execSysCal h pair s
  | .balanceSet h pair => Sys2Proof.Machine.execBalanceSet h pair s
  | .soundStart h pair => Sys2Proof.Machine.execSoundStart h pair s
  | .loopConfig h pair => Sys2Proof.Machine.execLoopConfig h pair s
  | .loopMode h pair => Sys2Proof.Machine.execLoopMode h pair s
  | .loopTune h pair => Sys2Proof.Machine.execLoopTune h pair s
  | .contactorCmd h pair => Sys2Proof.Machine.execContactorCmd h pair s
  | .safeSession h pair => Sys2Proof.Machine.execSafeSession h pair s
  | .faultRead h pair => Sys2Proof.Machine.execFaultRead h pair s
  | .faultAck h pair => Sys2Proof.Machine.execFaultAck h pair s
  | .identify h pair => Sys2Proof.Machine.execIdentify h pair s
  | .login h pair => Sys2Proof.Machine.execLogin h pair s
  | .legendWrite h pair => Sys2Proof.Machine.execLegendWrite h pair s
  | .legendCommit h pair => Sys2Proof.Machine.execLegendCommit h pair s
  | .logRead h pair => Sys2Proof.Machine.execLogRead h pair s
  | .fwUpdate h pair => Sys2Proof.Machine.execFwUpdate h pair s
  | .unfreeze h pair => Sys2Proof.Machine.execUnfreeze h pair s
  | .dormant h pair => Sys2Proof.Machine.execDormant h pair s
  | .characterAlignment d p inverted => Sys2Proof.Machine.execCharacterAlignment d p inverted s
  | .rxGood d p => Sys2Proof.Machine.execRxGood d p s
  | .sDieCoreRestart d => Sys2Proof.Machine.execSDieCoreRestart d s
  | .sentSupplyRunTimer n => Sys2Proof.Machine.execSentSupplyRunTimer n s
  | .referenceClockStable => Sys2Proof.Machine.execReferenceClockStable s
  | .d1Trained => Sys2Proof.Machine.execD1Trained s
  | .sentvsUndervoltage low => Sys2Proof.Machine.execSentvsUndervoltage low s
  | .readTransaction h mosi => Sys2Proof.Machine.execReadTransaction h mosi s

end Sys2Proof.Machine
end

