-- ==== Sys2Proof/Safety.lean ====
section
/-!
DEFINITION. The terms in which statements speak of a run: what a command answers, what it leaves alone, and what is safe.
-/

namespace Sys2Proof.Machine

/-- The command answers a next state, and that state satisfies `P`. -/
def answers (c : Instr) (s : State) (P : State → Prop) : Prop := ∃ t, exec c s = .next t ∧ P t

/-! ### The trip path -/

/-- The trip path has followed its sources (R353, R354): the sources it has seen are the sources that stand; while one
stands the trip latch is set, ARMED is clear and no contactor channel is in PULL or HOLD; with none, C_ERR is asserted
only where its pair of levels is equal (R35). -/
def State.atRest (s : State) : Prop :=
  s.saf.lastSrc = s.tripMask
    ∧ (s.tripMask ≠ 0 → s.saf.tripLatch = true ∧ s.saf.armed = false ∧ s.saf.ch.all (fun c => !c.energised) = true)
    ∧ (s.tripMask = 0 → (s.dev 0).cErr = true → s.saf.slEqual.2 = true)

/-! ### What a command leaves alone -/

/-- All that a device holds but the two things that another device's command can touch at the head: the reports that wait
for the collector, and the level of C_ERR. -/
def Dev.body (d : Dev) : Dev := { d with events := [], cErr := false }

/-- Every device but the one in slot `d` is as it was. -/
def othersKept (s t : State) (d : Nat) : Prop := ∀ e, e ≠ d → (t.dev e).body = (s.dev e).body

/-- The command at the device in slot `d` makes `x` of it, no earlier than the instant `n`, and touches no other device; at
a member that is all it does. At the head's own S-die a report that waits may reach the collector at once (log 49). -/
def deviceBecomes (s t : State) (d : Nat) (x : Dev) (n : Nat) : Prop :=
  (t.dev d).body = x.body ∧ othersKept s t d ∧
    (d ≠ 0 → s.atRest → t = { s with devs := modAt s.devs d (fun _ => x), now := max s.now n })

/-- The parts of the state that a frame can name. -/
inductive Part where
  | draws | power | sweep | legend | host (h : HostId) | flags | turn | queues | semaphores | collector | errOut | channels
  | inputs | session | loops | tuning | pwm | contour | atlas | chassis | windows | accumulators | tracks | positions
  | traverse | derived | sent | devices
  deriving DecidableEq, Repr

/-- A host port without its interrupt flags. -/
def HostPort.body (p : HostPort) : HostPort := { p with flag0 := 0, flag1 := 0 }

/-- The collector without ERR_OUT. -/
def Collector.body (c : Collector) : Collector := { c with errLow := false, lowSince := 0, wave := false }

/-- The safety inputs and the levels beside them: all that is no contactor channel and no latch of the trip path. -/
def SafetySt.body (x : SafetySt) : SafetySt := { x with ch := [], tripLatch := false, armed := false, lastSrc := 0 }

/-- A part of the state is the same. -/
def Part.same (p : Part) (s t : State) : Prop :=
  match p with
  | .draws => t.draws = s.draws
  | .power => t.pw = s.pw
  | .sweep => t.swp = s.swp
  | .legend => t.leg = s.leg
  | .host h => (t.port h).body = (s.port h).body
  | .flags => t.portA.flag0 = s.portA.flag0 ∧ t.portA.flag1 = s.portA.flag1 ∧ t.portB.flag0 = s.portB.flag0
      ∧ t.portB.flag1 = s.portB.flag1
  | .turn => t.lastA = s.lastA
  | .queues => t.queues = s.queues
  | .semaphores => t.sems = s.sems
  | .collector => t.flt.body = s.flt.body
  | .errOut => t.flt.errLow = s.flt.errLow ∧ t.flt.lowSince = s.flt.lowSince ∧ t.flt.wave = s.flt.wave
  | .channels => t.saf.ch = s.saf.ch ∧ t.saf.tripLatch = s.saf.tripLatch ∧ t.saf.armed = s.saf.armed
      ∧ t.saf.lastSrc = s.saf.lastSrc
  | .inputs => t.saf.body = s.saf.body
  | .session => t.ses = s.ses
  | .loops => t.loops = s.loops
  | .tuning => t.tuning = s.tuning
  | .pwm => t.pwm = s.pwm
  | .contour => t.ctr = s.ctr
  | .atlas => t.atlas = s.atlas
  | .chassis => t.chassis = s.chassis
  | .windows => t.chWins = s.chWins ∧ t.posWins = s.posWins
  | .accumulators => t.headAccs = s.headAccs
  | .tracks => t.tracks = s.tracks ∧ t.written = s.written
  | .positions => t.poss = s.poss
  | .traverse => t.trv = s.trv
  | .derived => t.der = s.der
  | .sent => t.sent = s.sent
  | .devices => ∀ e, (t.dev e).body = (s.dev e).body

/-- Every part of the state but those named is as it was. -/
def kept (but : List Part) (s t : State) : Prop := ∀ p, p ∉ but → p.same s t

/-- What the trip path alone may change at the end of a command (R353, R354, R402). -/
def tripParts : List Part := [.flags, .errOut, .channels]

/-- What an occurrence of a fault may touch beside the cause itself (R381, R382, R394): the collector, ERR_OUT, the
contactors, the operating state and LOCKED, the settings that wait, loops, pending self-tests, the interrupt flags. -/
def faultParts : List Part := [.draws, .power, .sweep, .flags, .collector, .errOut, .channels, .loops, .derived]

/-- A fault has occurred: the cause of the source is present, and beside what an occurrence may touch nothing changes but
the parts named. -/
def faulted (but : List Part) (s t : State) (x : Source) : Prop := t.hasCause x = true ∧ kept (but ++ faultParts) s t

/-! ### Direct registers -/

/-- A write transaction of `n` words was taken (R409, R412, R413): the port holds the status byte that it shifted out, LASTERR is 0,
and nothing else of the port changes. -/
def acked (s t : State) (h : HostId) (n : Nat) : Prop :=
  (t.port h).body = { (s.port h).body with lastErr := 0, miso := s.statusByte h :: List.replicate (4 * n + 3) 0 }

/-- The bytes of a write of one word to a register, CRC included (R409, R410). -/
def writeBytes (a : Nat) (v : Word) : List Byte :=
  let b := [0x80#8, BitVec.ofNat 8 (a / 256), BitVec.ofNat 8 a] ++ leBytes 4 v.toNat
  b ++ [BitVec.ofNat 8 (crc8 b)]

/-! ### The commit record -/

/-- The commit record of a sweep (R66): what is frozen at the cut-off, or would be, with the quota that the next boundary
commits (R272). -/
def State.frozenRecord (s : State) : Option CommitMsg :=
  let s := s.quotaDue
  let l := s.pendingSettings ++ (if s.swpNext = s.swpNow then [] else [Setting.mk 255 (.field Fld.regSwp 0 s.swpNext)])
  if l = [] then none else some ⟨(s.swp.epoch + 1) % 65536, s.nextCount, l⟩

/-! ### Host commands -/

/-- The supervisor core runs, so that Zardo can act. -/
def State.coreUp (s : State) : Prop := s.pw.running = true ∧ s.pw.coreReset = none

/-- Zardo takes the command `body` of this CODE from the pair now, and nothing stands behind it in its queue (R423). -/
structure Taken (s : State) (h : HostId) (pair code : Nat) (body : List Byte) : Prop where
  up : s.coreUp
  rest : s.atRest
  thawed : (s.port h).frozen = false
  offered : s.offer h pair = some (code, body)
  turn : s.pick = some (h, pair)
  last : ((s.takeMsg h pair).queue (cmdQ h pair)).words = []

/-- The request as Zardo reads it (R418, R434). -/
def request (h : HostId) (pair code : Nat) (body : List Byte) : Req := ⟨h, pair, code, field body 0 2, body⟩

/-- The port holds the semaphore, where the operation needs one, and has the level (R435 items 3 and 4, R440). -/
def State.may (s : State) (h : HostId) (sem : Option Nat) (level : Nat) : Prop :=
  sem.all (fun k => s.holds h k) = true ∧ level ≤ s.levelOf h

/-- A response to the request: CODE, TAG, STATUS and the result (R418, R434). -/
def reply (r : Req) (status : Nat) (result : List Byte) : Staged :=
  ⟨r.pair, r.code, false, leBytes 2 r.tag ++ leBytes 2 status ++ result, 0⟩

/-- The parts of the state that serving any command of a host touches: its port, its queues, whose turn it is, and the
interrupt flags, since the emptied queue sets one (R423). -/
def hostParts (h : HostId) : List Part := [.host h, .queues, .turn, .flags]

/-- Zardo has served the request: its message has left its queue, no other queue has changed, the port has been served last,
and the messages `l` are staged behind those that wait (R423, R424). Nothing else of the port changes. -/
def served (s t : State) (r : Req) (l : List Staged) : Prop :=
  (t.port r.h).body = { (s.port r.h).body with
      request := none, lastPair := r.pair, lastCmd := s.now, staged := (s.port r.h).staged ++ l }
    ∧ (t.queue (cmdQ r.h r.pair)).words = [] ∧ (∀ q, q ≠ cmdQ r.h r.pair → t.queue q = s.queue q)
    ∧ t.lastA = decide (r.h = .A)

/-- The request is answered with STATUS ok and the result, and beside its port nothing changes but the parts named. -/
def answered (but : List Part) (s t : State) (r : Req) (result : List Byte) : Prop :=
  served s t r [reply r St.ok result] ∧ kept (but ++ hostParts r.h) s t

/-- The request is answered from what it reads: a response with STATUS ok, and nothing else changes. -/
def readsOut (s t : State) (r : Req) (result : List Byte) : Prop :=
  served s t r [reply r St.ok result] ∧ kept (hostParts r.h) s t

/-- The request is refused with a STATUS and DETAIL (R439), and nothing else changes. -/
def refused (s t : State) (r : Req) (status detail : Nat) : Prop :=
  served s t r [reply r status (leBytes 2 detail ++ leBytes 2 0)] ∧ kept (hostParts r.h) s t

/-- The request is a setting that lands (R64, R437): its response carries EFFECT, and the sweep block holds it. -/
def lands (s t : State) (r : Req) (x : Landed) (more : List Byte) : Prop :=
  t.swp = (s.land x).swp ∧ served s t r [reply r St.ok (leBytes 4 s.effect ++ more)]
    ∧ kept (.sweep :: hostParts r.h) s t

/-- The request is a Legend change set that lands (R473): it is written to the copy that is not active. -/
def changesLegend (s t : State) (r : Req) (fields : SMap Nat) (more : List Byte) : Prop :=
  t.swp = (s.landChange fields (hostNum r.h) (s.levelOf r.h) false []).swp
    ∧ t.leg = (s.landChange fields (hostNum r.h) (s.levelOf r.h) false []).leg
    ∧ served s t r [reply r St.ok (leBytes 4 s.effect ++ more)]
    ∧ kept (.sweep :: .legend :: hostParts r.h) s t

end Sys2Proof.Machine
end

