-- ==== Sys2Proof/Certificates/Slice0/Obligations.lean ====
section
/-!
DEFINITION. The statements about the model: what a step does, what every command answers, what it changes and what it leaves
alone, and what holds in every state.
-/

open Sys2Proof Sys2Proof.Machine

/-! ### The block as a whole -/

/-- A step of the block is the command at the front of its queue, run on the state with the rest of the queue. -/
def Obligations.StepRunsTheFrontCommand : Prop :=
  ∀ (s : State) (c : Instr) (rest : List Instr), step { s with pending := c :: rest } = exec c { s with pending := rest }

/-- Every command answers a next state, in every state: none faults and none is refused. It leaves the queue to the step, and
time does not run back. On an empty queue 40 ns pass and nothing else changes (the model's choice, log 1). -/
def Obligations.EveryStepAnswers : Prop :=
  (∀ (c : Instr) (s : State), answers c s fun t => t.pending = s.pending ∧ s.now ≤ t.now) ∧
  (∀ s : State, s.pending = [] → step s = .next { s with now := s.now + 40 })

/-- The trip path (R353, R354, R35), whatever runs: after every step from a state that it has followed, it has followed its
sources: while one stands the trip latch is set, ARMED is clear and no contactor channel is in PULL or HOLD; with none,
C_ERR is asserted at the head S-die only where its pair of levels is equal. -/
def Obligations.TripPathFollowsItsSources : Prop :=
  ∀ s t : State, (s.pw.running = true → s.atRest) → step s = .next t → t.pw.running = true → t.atRest

/-- Reset (R57, R354, R405, R415, R428, R431, R432, R433, R510): the direct registers read their reset values, the trip latch is set,
ARMED is clear, no channel is closed, nothing waits, and the trip path is at rest. -/
def Obligations.ResetValues : Prop :=
  State.reset.pending = [] ∧ State.reset.pw.running = true ∧ State.reset.atRest ∧ State.reset.saf.tripLatch = true ∧
  State.reset.saf.armed = false ∧ (∀ n, State.reset.chan n = {}) ∧
  (∀ h, State.reset.readReg h 0x00 = 0x012448 + 0x1000000 * hostNum h) ∧
  (∀ h, ∀ x ∈ [(0x01, 0), (0x02, 0), (0x10, 0), (0x11, 0), (0x12, 0), (0x13, 0), (0x20, 0), (0x30, 1), (0x31, 0), (0x32, 0), (0x33, 0),
    (0x35, 1), (0x40, 0x10A00), (0x41, 0), (0x42, 0), (0x43, 0xF), (0x50, 0)], State.reset.readReg h x.1 = x.2) ∧
  (∀ h, ∀ q, q < 64 → State.reset.readReg h (0x80 + q) = 0x40000)

/-- The Atlas and the Chassis page: an entry that is written reads back whole, every other location reads as before, and the
page keeps its canonical form (R44, R119, R124). -/
def Obligations.PagesHoldWhatIsWritten : Prop :=
  (∀ (s : State) (i j : Nat) (e : Entry), smapWf unpopulated s.atlas = true →
    (s.atlasPut i e).atlasGet j = (if j = i then e else s.atlasGet j) ∧ smapWf unpopulated (s.atlasPut i e).atlas = true ∧
    kept [.atlas] s (s.atlasPut i e)) ∧
  (∀ (s : State) (i j : Nat) (r : ChassisRec), smapWf noChassis s.chassis = true →
    (s.chassisPut i r).chassisRec j = (if j = i then r else s.chassisRec j) ∧
    smapWf noChassis (s.chassisPut i r).chassis = true ∧ kept [.chassis] s (s.chassisPut i r))

/-- An entry is laid out in 16 bytes (R108): sum, min, max, count and flag word, each little-endian. -/
def Obligations.EntriesAreLaidOut : Prop :=
  ∀ e : Entry, -2 ^ 47 ≤ e.sum → e.sum < 2 ^ 47 → -2 ^ 23 ≤ e.min → e.min < 2 ^ 23 → -2 ^ 23 ≤ e.max → e.max < 2 ^ 23 →
    e.count < 2 ^ 16 →
    (entryBytes e).length = 16 ∧ sext 48 (field (entryBytes e) 0 6) = e.sum ∧ sext 24 (field (entryBytes e) 6 3) = e.min ∧
    sext 24 (field (entryBytes e) 9 3) = e.max ∧ field (entryBytes e) 12 2 = e.count ∧
    field (entryBytes e) 14 2 = flagsWord e.flags

/-! ### Host commands: what Zardo answers and what it changes (R434 to R467) -/

/-- TRAVERSE (R441): a start lands as a trigger at the boundary of its effect; a result describes the latest Traverse. -/
def Obligations.TraverseAnswers : Prop :=
  ∀ (s : State) (h : HostId) (pair : Nat) (body : List Byte),
    Taken s h pair 0x0101 body → body.length = 4 →
    (field body 2 1 = 0 → s.may h (some 8) 1 → s.commitFull .traverse = false →
      answers (.traverse h pair) s fun t => lands s t (request h pair 0x0101 body) .traverse []) ∧
    (field body 2 1 = 1 →
      answers (.traverse h pair) s fun t => readsOut s t (request h pair 0x0101 body) s.traverseResult)

/-- Commands that only read (R443, R458, R460, R464): ATLAS_READ and CHASSIS_READ give the sweep and the entries FIRST to
FIRST + COUNT - 1; IDENTIFY, LOG_READ and FAULT_READ give what they are asked for. Nothing else changes, and no semaphore is
needed (R436). -/
def Obligations.ReadsAnswer : Prop :=
  (∀ (s : State) (h : HostId) (pair : Nat) (body : List Byte), body.length = 6 → 1 ≤ field body 4 2 →
    (Taken s h pair 0x0103 body → field body 4 2 ≤ 255 → field body 2 2 + field body 4 2 ≤ 6144 →
      answers (.atlasRead h pair) s fun t => readsOut s t (request h pair 0x0103 body)
        (leBytes 4 s.sweep ++ (List.range (field body 4 2)).flatMap fun i => entryBytes (s.atlasGet (field body 2 2 + i)))) ∧
    (Taken s h pair 0x0104 body → field body 4 2 ≤ 128 → field body 2 2 + field body 4 2 ≤ 128 →
      answers (.chassisRead h pair) s fun t => readsOut s t (request h pair 0x0104 body)
        (leBytes 4 s.sweep ++ (List.range (field body 4 2)).flatMap fun i =>
          entryBytes (s.chassisRec (field body 2 2 + i)).entry))) ∧
  (∀ (s : State) (h : HostId) (pair : Nat) (body : List Byte),
    (Taken s h pair 0x0301 body → body.length = 2 →
      answers (.identify h pair) s fun t => readsOut s t (request h pair 0x0301 body) s.identity) ∧
    (Taken s h pair 0x0305 body → body.length = 10 → field body 2 1 = 0 → 1 ≤ field body 8 2 → field body 8 2 ≤ 255 →
      answers (.logRead h pair) s fun t => readsOut s t (request h pair 0x0305 body)
        (logResult 0 s.flt.log (·.seq) LogRec.bytes (field body 4 4) (field body 8 2))) ∧
    (Taken s h pair 0x0305 body → body.length = 10 → field body 2 1 = 1 → 1 ≤ field body 8 2 → field body 8 2 ≤ 204 →
      answers (.logRead h pair) s fun t => readsOut s t (request h pair 0x0305 body)
        (logResult 1 s.leg.gaz (·.seq) GazRec.bytes (field body 4 4) (field body 8 2)))) ∧
  (∀ (s : State) (h : HostId) (pair : Nat) (body : List Byte),
    Taken s h pair 0x0206 body → body.length = 8 →
    (field body 2 1 = 0 →
      answers (.faultRead h pair) s fun t => readsOut s t (request h pair 0x0206 body) s.latchesResult) ∧
    (field body 2 1 = 1 → 1 ≤ field body 3 1 → field body 3 1 ≤ 31 → (field body 4 1 = 0 ∨ s.posStatus (field body 4 1) = 0) →
      answers (.faultRead h pair) s fun t => readsOut s t (request h pair 0x0206 body)
        (s.detectorBytes (field body 3 1) (field body 4 1))) ∧
    (field body 2 1 = 2 →
      answers (.faultRead h pair) s fun t => readsOut s t (request h pair 0x0206 body) s.inputsResult))

/-- WINDOW_SET (R442): a change set of WIN lands, for one position, for every adopted one, or for a Chassis group. The
response carries the upstream load that the new lengths give, and whether it exceeds the quota. -/
def Obligations.WindowSetLands : Prop :=
  ∀ (s : State) (h : HostId) (pair : Nat) (body : List Byte) (ps : List Nat) (fs : SMap Nat),
    Taken s h pair 0x0102 body → body.length = 8 → s.may h (some 0) 1 → field body 4 2 ≠ 0 →
    (16 ≤ field body 3 1 ∧ field body 3 1 < 24 ∧ ps = [0]
      ∨ field body 3 1 < 9 ∧ field body 2 1 = 0xFF ∧ ps = List.range s.trv.n
      ∨ field body 3 1 < 9 ∧ field body 2 1 ≠ 0xFF ∧ s.posStatus (field body 2 1) = 0 ∧ ps = [field body 2 1]) →
    (fs = ps.map fun q => (fieldKey Fld.win (winIndex q (field body 3 1)), field body 4 2)) →
    s.commitFull (.legend ⟨fs, 0, 0, 0, false, []⟩) = false →
    answers (.windowSet h pair) s fun t =>
      changesLegend s t (request h pair 0x0102 body) fs
        (leBytes 2 (min (s.loadOf (overFields s.pendingFields fs)) 65535)
          ++ leBytes 1 (b2n (decide (100 * s.quotaNow < s.loadOf (overFields s.pendingFields fs)))) ++ [0])

/-- FAULT_ACK (R395, R459): ACK sets ACKED on each named latch that is set; a CLEAR of latches whose causes are
absent clears exactly these. -/
def Obligations.FaultAckActs : Prop :=
  ∀ (s : State) (h : HostId) (pair : Nat) (body : List Byte),
    Taken s h pair 0x0207 body → body.length = 8 →
    (field body 2 1 = 0 → s.may h none 1 →
      answers (.faultAck h pair) s fun t =>
        (∀ c, c < s.flt.latches.length → t.latch c =
          if (classesOf (field body 4 4)).contains c && (s.latch c).latched then { s.latch c with acked := true }
          else s.latch c) ∧
        served s t (request h pair 0x0207 body) [reply (request h pair 0x0207 body) St.ok
          (leBytes 4 (maskOf ((classesOf (field body 4 4)).filter fun c => (s.latch c).latched)) ++ leBytes 4 0)] ∧
        kept (.collector :: hostParts h) s t) ∧
    (field body 2 1 = 1 → s.may h (some 10) 1 →
      (∀ c ∈ classesOf (field body 4 4), (s.latch c).latched = true → s.causeOf c = false) →
      answers (.faultAck h pair) s fun t =>
        (∀ c, c < s.flt.latches.length → t.latch c =
          if (classesOf (field body 4 4)).contains c && (s.latch c).latched then {} else s.latch c) ∧
        served s t (request h pair 0x0207 body) [reply (request h pair 0x0207 body) St.ok
          (leBytes 4 (maskOf ((classesOf (field body 4 4)).filter fun c => (s.latch c).latched)) ++ leBytes 4 0)] ∧
        kept (.collector :: tripParts ++ hostParts h) s t)

/-- DORMANT (R467): with its KEY and its entry conditions the order lands at EFFECT, in a response of 8 bytes; any other key draws
"invalid", and the conditions failing "wrong state". -/
def Obligations.DormantLands : Prop :=
  ∀ (s : State) (h : HostId) (pair : Nat) (body : List Byte),
    Taken s h pair 0x0308 body → body.length = 8 → s.may h (some 11) 1 →
    (field body 4 4 = 0x444F524D → s.dormantFit = true → s.commitFull .dormant = false →
      answers (.dormant h pair) s fun t => lands s t (request h pair 0x0308 body) .dormant [] ∧
        (reply (request h pair 0x0308 body) St.ok (leBytes 4 s.effect)).body.length = 8) ∧
    (field body 4 4 ≠ 0x444F524D →
      answers (.dormant h pair) s fun t => refused s t (request h pair 0x0308 body) St.invalid 0) ∧
    (field body 4 4 = 0x444F524D → s.dormantFit = false →
      answers (.dormant h pair) s fun t => refused s t (request h pair 0x0308 body) St.wrongState 0)

/-- UNFREEZE (R466): OPERATOR releases the named port under R431: it is then not frozen and logged out, holds no semaphore, its
queues are empty, PWFAIL and its IRQ flags are 0, its masks kept. Where it held no semaphore nothing else changes. Naming
the own port draws "invalid", a port that is not frozen "not frozen". -/
def Obligations.UnfreezeReleasesTheOtherPort : Prop :=
  ∀ (s : State) (h : HostId) (pair : Nat) (body : List Byte),
    Taken s h pair 0x0307 body → body.length = 4 → s.may h none 1 →
    (field body 2 1 = hostNum (hostOther h) → (s.port (hostOther h)).frozen = true →
      answers (.unfreeze h pair) s fun t =>
        (t.port (hostOther h)).body = { (s.port (hostOther h)).body with
          frozen := false, level := 0, pwFail := 0, request := none, staged := [], safeOut := none } ∧
        (t.port (hostOther h)).flag0 = 0 ∧ (t.port (hostOther h)).flag1 = 0 ∧
        (∀ q, q / 32 = hostNum (hostOther h) → t.queue q = (s.queue q).emptied) ∧
        (∀ k, k < 16 → t.holds (hostOther h) k = false) ∧
        (reply (request h pair 0x0307 body) St.ok []).body.length = 4 ∧
        ((∀ k, s.holds (hostOther h) k = false) →
          (t.port h).body = { (s.port h).body with
            request := none, lastPair := pair, lastCmd := s.now
            staged := (s.port h).staged ++ [reply (request h pair 0x0307 body) St.ok []] } ∧
          (∀ q, q / 32 ≠ hostNum (hostOther h) → q ≠ cmdQ h pair → t.queue q = s.queue q) ∧
          kept (.host (hostOther h) :: hostParts h) s t)) ∧
    (field body 2 1 = hostNum h →
      answers (.unfreeze h pair) s fun t => refused s t (request h pair 0x0307 body) St.invalid (hostNum h)) ∧
    (field body 2 1 = hostNum (hostOther h) → (s.port (hostOther h)).frozen = false →
      answers (.unfreeze h pair) s fun t => refused s t (request h pair 0x0307 body) St.notFrozen (hostNum (hostOther h)))

/-- SURVEY_LOAD (R143, R444): a read gives the active table of one device; a load begins to stage its table to every
position of POSMASK. With no staging under way and every addressed member within reach, no response is due yet, and each
member has the object on its way. -/
def Obligations.SurveyLoadStages : Prop :=
  ∀ (s : State) (h : HostId) (pair : Nat) (body : List Byte),
    Taken s h pair 0x0105 body → body.length = 12 + 4 * field body 8 2 →
    (∀ (p st : Nat) (d : Dev), field body 2 1 = 1 → positionsOf (field body 4 4) = [p] → field body 8 2 = 0 →
      s.deviceAt p = (st, some d) →
      answers (.surveyLoad h pair) s fun t => readsOut s t (request h pair 0x0105 body) (tableBytes d.table)) ∧
    (∀ (table : List Word), field body 2 1 = 0 → s.may h (some 5) 2 → 1 ≤ field body 8 2 → field body 8 2 ≤ 256 →
      table = (List.range (field body 8 2)).map (request h pair 0x0105 body).entry →
      table.any (fun w => eEnd w) = true → badEntry table (field body 4 4) (periodUs s.swp.period) = none →
      positionsOf (field body 4 4) ≠ [] → (∀ p ∈ positionsOf (field body 4 4), p ≠ 0 ∧ s.adopted p = true ∧ s.unreachable p = false) →
      s.ringHead = true → s.leg.bulk = [] →
      answers (.surveyLoad h pair) s fun t =>
        (∃ b, t.leg.bulk = [b] ∧ b.object = 1 ∧ b.host = h ∧ b.table = table ∧ b.need = positionsOf (field body 4 4) ∧
          ∀ p ∈ b.need, ∃ q, (p, q) ∈ b.sent) ∧
        served s t (request h pair 0x0105 body) [] ∧
        kept (.sweep :: .legend :: .devices :: hostParts h) s t)

/-- SPOT_READ (R147, R148, R445): the reading takes the lowest free pending slot and waits there from this sweep on; at
position 0 the device has it over D1, elsewhere a command frame leaves. -/
def Obligations.SpotReadTakesASlot : Prop :=
  ∀ (s : State) (h : HostId) (pair : Nat) (body : List Byte) (i d : Nat),
    Taken s h pair 0x0106 body → body.length = 8 → s.may h none 1 →
    s.freeSpot = some i → s.posStatus (field body 2 1) = 0 → s.unreachable (field body 2 1) = false →
    spotAllowed (word (field body 4 4)) (field body 2 1) (periodUs s.swp.period) = true →
    s.slotOf (field body 2 1) = some d → (s.dev d).calibrated = true → (s.dev d).sv.recalWaited < 64 → (s.dev d).sv.testWaited < 64 →
    answers (.spotRead h pair) s fun t =>
      t.der = { s.der with spots := modAt s.der.spots i (fun _ =>
        some ⟨h, pair, field body 0 2, field body 2 1, word (field body 4 4), s.sweep, s.now, (s.dev d).spotsOf i, false⟩) } ∧
      (field body 2 1 = 0 → s.d1Works = true → (s.dev 0).coreReset = none →
        (t.dev 0).body = (((s.dev 0).heard s.now).getCommand (.spot i (word (field body 4 4)))).body ∧ othersKept s t 0 ∧ t.swp = s.swp) ∧
      (field body 2 1 ≠ 0 → s.ringHead = true → t.swp.seq = (s.swp.seq + 1) % 65536) ∧
      answered [.sweep, .derived, .devices] s t (request h pair 0x0106 body)
        (leBytes 1 i ++ leBytes 1 (t.der.spots.filter (·.isSome)).length ++ [0, 0] ++ leBytes 4 s.sweep)

/-- CALIBRATE (R446): it reads the record of one device; halts and resumes rolling calibration; orders or reverts a
substitution; arbitrates, which lands as a reaction; or orders a self-test, FULL in CONFIG. -/
def Obligations.CalibrateActs : Prop :=
  ∀ (s : State) (h : HostId) (pair : Nat) (body : List Byte),
    Taken s h pair 0x0107 body → body.length = 8 →
    (∀ (st : Nat) (d : Dev), field body 2 1 = 0 → s.deviceAt (field body 3 1) = (st, some d) →
      answers (.calibrate h pair) s fun t => readsOut s t (request h pair 0x0107 body) (d.calResult s.now)) ∧
    (∀ v, s.may h (some 7) 2 → (field body 2 1 = 1 ∧ v = .calHalt ∨ field body 2 1 = 2 ∧ v = .calResume) →
      (field body 3 1 = 0xFF ∨ s.posStatus (field body 3 1) = 0) → s.commitFull (.device ⟨field body 3 1, v⟩) = false →
      answers (.calibrate h pair) s fun t => lands s t (request h pair 0x0107 body) (.device ⟨field body 3 1, v⟩) []) ∧
    (∀ (st : Nat) (d : Dev) (v : SettingVal), s.may h (some 7) 2 → s.deviceAt (field body 3 1) = (st, some d) →
      1 ≤ field body 4 1 → field body 4 1 ≤ 24 →
      (field body 2 1 = 3 ∧ v = .substitute (field body 4 1) ∧ bit (s.par Fld.convCfg 0) 7 = false
          ∧ (d.mod (field body 4 1 - 1)).failed = true ∧ (d.cell (field body 4 1 - 1)).subst = none
          ∧ (reliefTaken d.rm1 && reliefTaken d.rm2) = false
        ∨ field body 2 1 = 4 ∧ v = .revert (field body 4 1) ∧ (d.cell (field body 4 1 - 1)).subst ≠ none) →
      s.commitFull (.device ⟨field body 3 1, v⟩) = false →
      answers (.calibrate h pair) s fun t =>
        t.swp = (s.land (.device ⟨field body 3 1, v⟩)).swp ∧
        t.leg = { s.leg with substBy := smapSet s.leg.substBy (24 * field body 3 1 + (field body 4 1 - 1)) (hostNum h, s.levelOf h) } ∧
        answered [.sweep, .legend] s t (request h pair 0x0107 body) (leBytes 4 s.effect)) ∧
    (∀ (st : Nat) (d : Dev), s.may h (some 7) 2 → s.deviceAt (field body 3 1) = (st, some d) → field body 2 1 = 5 →
      1 ≤ field body 4 1 → field body 4 1 ≤ 24 →
      answers (.calibrate h pair) s fun t =>
        t.swp = (s.react ⟨field body 3 1, .arbitrate (field body 4 1) true⟩).swp ∧
        answered [.sweep] s t (request h pair 0x0107 body) (leBytes 4 s.effect)) ∧
    (∀ (st : Nat) (d : Dev) (x : Landed), s.may h (some 7) 2 → s.deviceAt (field body 3 1) = (st, some d) → field body 2 1 = 6 →
      (s.pw.op = .run ∨ s.pw.op = .safe ∨ s.pw.op = .config) → d.sv.test = none → smapGet s.der.tests (field body 3 1) = none →
      x = .device ⟨field body 3 1, .selfTest (decide (s.pw.op = .config))⟩ → s.commitFull x = false →
      answers (.calibrate h pair) s fun t =>
        t.swp = (s.land x).swp ∧
        t.der = { s.der with tests := smapSet s.der.tests (field body 3 1) ⟨h, pair, field body 0 2⟩ } ∧
        answered [.sweep, .derived] s t (request h pair 0x0107 body) (leBytes 4 s.effect))

/-- SYS_CAL (R182, R448): ZERO, and SPAN within ten minutes of a zero, begin a measurement that answers later; ABORT closes
the sequence of the channel. -/
def Obligations.SysCalMeasures : Prop :=
  ∀ (s : State) (h : HostId) (pair : Nat) (body : List Byte),
    Taken s h pair 0x0108 body → body.length = 8 → s.may h (some 7) 2 → s.calChannel (field body 3 1) = true →
    (s.calOf (field body 3 1)).measuring = none →
    (field body 2 1 = 0 →
      answers (.sysCal h pair) s fun t =>
        t.der = { s.der with sysCal := s.der.sysCal.filter (fun x => decide (x.chan ≠ field body 3 1))
          ++ [{ s.calOf (field body 3 1) with
                zero := none, measuring := some (0, s.now, sext 32 (field body 4 4)), acc := {}
                host := h, pair := pair, tag := field body 0 2 }] } ∧
        served s t (request h pair 0x0108 body) [] ∧ kept (.derived :: hostParts h) s t) ∧
    (∀ z, field body 2 1 = 1 → (s.calOf (field body 3 1)).zero = some z → s.now ≤ z.2 + 600000000000 →
      answers (.sysCal h pair) s fun t =>
        t.der = { s.der with sysCal := s.der.sysCal.filter (fun x => decide (x.chan ≠ field body 3 1))
          ++ [{ s.calOf (field body 3 1) with
                zero := some z, measuring := some (1, s.now, sext 32 (field body 4 4)), acc := {}
                host := h, pair := pair, tag := field body 0 2 }] } ∧
        served s t (request h pair 0x0108 body) [] ∧ kept (.derived :: hostParts h) s t) ∧
    (field body 2 1 = 2 →
      answers (.sysCal h pair) s fun t =>
        t.der = { s.der with sysCal := s.der.sysCal.filter (fun x => decide (x.chan ≠ field body 3 1)) } ∧
        answered [.derived] s t (request h pair 0x0108 body) [])

/-- BALANCE_SET (R217, R449): in RUN or SAFE a mask and a time of at most 3,840 land for one position; a read gives the balance
words of the device at the end of the last complete sweep. -/
def Obligations.BalanceSetLands : Prop :=
  ∀ (s : State) (h : HostId) (pair : Nat) (body : List Byte),
    Taken s h pair 0x0109 body → body.length = 12 →
    (∀ (st : Nat) (d : Dev), field body 2 1 = 1 → s.deviceAt (field body 3 1) = (st, some d) →
      answers (.balanceSet h pair) s fun t =>
        readsOut s t (request h pair 0x0109 body) (leBytes 4 (s.sweep - 1) ++ d.cells.flatMap fun c => leBytes 4 c.word)) ∧
    (∀ x, field body 2 1 = 0 → s.may h (some 1) 1 → (s.pw.op = .run ∨ s.pw.op = .safe) → s.posStatus (field body 3 1) = 0 →
      field body 10 2 ≤ 3840 →
      (field body 10 2 = 0 ∨ ∀ k, k < 24 → (field body 6 4).testBit k = true → s.par Fld.balRb (24 * field body 3 1 + k) ≠ 0) →
      x = .device ⟨field body 3 1, .balance (field body 6 4 % 2 ^ 24) (field body 10 2)⟩ → s.commitFull x = false →
      answers (.balanceSet h pair) s fun t => lands s t (request h pair 0x0109 body) x [])

/-- SOUND_START (R207, R208, R450): with at least one named cell above SND_VMIN the order lands for those cells, and a report
is opened; the cells below it have their result at once. -/
def Obligations.SoundStartLands : Prop :=
  ∀ (s : State) (h : HostId) (pair : Nat) (body : List Byte) (cells low : Nat) (cycles : List Nat) (x : Landed),
    Taken s h pair 0x010A body → body.length = 24 → s.may h (some 2) 1 → (s.pw.op = .run ∨ s.pw.op = .safe) →
    s.soundBusy (field body 2 1) = false → s.posStatus (field body 2 1) = 0 →
    cells = field body 4 4 % 2 ^ 24 → cells ≠ 0 → field body 3 1 ≠ 0 →
    (∀ k, k < 24 → cells.testBit k = true →
      s.soundBlocked (field body 2 1) k = false ∧ s.par Fld.balRb (24 * field body 2 1 + k) ≠ 0) →
    cycles = (List.range 8).map (fun b => field body (8 + 2 * b) 2) →
    (∀ b, b < 8 → (field body 3 1).testBit b = true → cyclesFit b (field body (8 + 2 * b) 2) = true) →
    low = maskOf ((List.range 24).filter fun k => cells.testBit k && s.soundLow (field body 2 1) k) →
    cells - low ≠ 0 → x = .device ⟨field body 2 1, .sounding (cells - low) (field body 3 1) cycles⟩ → s.commitFull x = false →
    answers (.soundStart h pair) s fun t =>
      t.swp = (s.land x).swp ∧
      (∃ rep, t.der = { s.der with reports := s.der.reports ++ [rep] } ∧ rep.host = h ∧ rep.pair = pair ∧
        rep.tag = field body 0 2 ∧ rep.pos = field body 2 1 ∧ rep.cells = cells ∧ rep.bins = field body 3 1 ∧
        rep.cycles = cycles ∧ rep.startSweep = s.effect ∧ (low = 0 → rep.results = [])) ∧
      answered [.sweep, .derived] s t (request h pair 0x010A body) (leBytes 4 s.effect ++ leBytes 4 low)

/-- LOOP_CONFIG (R316, R452): a record that is not refused lands as a change set; the active and the shadow record are
read. -/
def Obligations.LoopConfigActs : Prop :=
  ∀ (s : State) (h : HostId) (pair : Nat) (body : List Byte) (n : Nat),
    Taken s h pair 0x0201 body → n < 16 → field body 2 1 = n + 1 →
    (∀ fs, field body 3 1 = 0 → body.length = 68 → s.may h (some 4) 2 → s.loopRefusal n (field body 4 64) = 0 →
      fs = [(fieldKey Fld.loopRec n, field body 4 64)] → s.commitFull (.legend ⟨fs, 0, 0, 0, false, []⟩) = false →
      answers (.loopConfig h pair) s fun t => changesLegend s t (request h pair 0x0201 body) fs []) ∧
    (field body 3 1 = 1 → body.length = 4 →
      answers (.loopConfig h pair) s fun t => readsOut s t (request h pair 0x0201 body) (leBytes 64 (s.par Fld.loopRec n))) ∧
    (field body 3 1 = 2 → body.length = 4 →
      answers (.loopConfig h pair) s fun t =>
        readsOut s t (request h pair 0x0201 body) (leBytes 64 (par s.pendingFields Fld.loopRec n)))

/-- LOOP_MODE and LOOP_TUNE (R322, R334, R453, R454): an order that is not refused lands; a LOOP_MODE without an item reads. -/
def Obligations.LoopOrdersLand : Prop :=
  ∀ (s : State) (h : HostId) (pair : Nat) (body : List Byte) (n : Nat), n < 16 → field body 2 1 = n + 1 →
    (∀ items more, Taken s h pair 0x0202 body → body.length = 16 → items = field body 3 1 % 16 →
      more = leBytes 4 (s.loopWordStat n) ++ leBytes 4 (toBits 32 (s.loop n).r) ++ leBytes 4 (toBits 32 (used (s.loop n).rr))
        ++ leBytes 4 (toBits 32 (s.loop n).uLast) →
      (items = 0 →
        answers (.loopMode h pair) s fun t => readsOut s t (request h pair 0x0202 body) (leBytes 4 0 ++ more)) ∧
      (items ≠ 0 → s.may h (some 4) 1 → s.modeRefusal (request h pair 0x0202 body) n = 0 →
        answers (.loopMode h pair) s fun t => lands s t (request h pair 0x0202 body)
          (.loopMode ⟨n, if bit items 0 then some (field body 4 1) else none,
            if bit items 1 then some (sext 32 (field body 8 4)) else none,
            if bit items 2 then some (sext 32 (field body 12 4)) else none, if bit items 3 then field body 5 1 else 0⟩) more)) ∧
    (∀ o, Taken s h pair 0x0203 body → body.length = 28 → s.may h (some 4) 2 → o = (request h pair 0x0203 body).tune n →
      s.tuneRefusal o = 0 → s.commitFull (.loopTune o) = false →
      answers (.loopTune h pair) s fun t => lands s t (request h pair 0x0203 body) (.loopTune o) [])

/-- CONTACTOR_CMD (R346, R352, R455): every open, and every close that is not refused, lands for its channel; each other
channel has its code, and the STATUS is the first of these. A read changes nothing. -/
def Obligations.ContactorCmdLands : Prop :=
  ∀ (s : State) (h : HostId) (pair : Nat) (body : List Byte),
    Taken s h pair 0x0204 body → body.length = 6 →
    (field body 2 1 = 1 →
      answers (.contactorCmd h pair) s fun t =>
        readsOut s t (request h pair 0x0204 body) (s.contactResult 0 (List.replicate 6 0))) ∧
    (∀ (close opn : Nat) (codes ns : List Nat) (u : State), field body 2 1 = 0 → s.may h (some 3) 1 →
      close = field body 4 1 % 64 → opn = field body 5 1 % 64 → codes = s.contactCodes close opn →
      ns = (List.range 6).filter (fun n => (close.testBit n || opn.testBit n) && decide (codes.getD n 0 = 0)) →
      u = ns.foldl (fun (s : State) n => s.land (.channel n (close.testBit n))) s →
      answers (.contactorCmd h pair) s fun t =>
        t.swp = u.swp ∧
        served s t (request h pair 0x0204 body) [reply (request h pair 0x0204 body)
          ((codes.find? fun c => decide (c ≠ 0)).getD St.ok) (u.contactResult (if ns = [] then 0 else s.effect) codes)] ∧
        kept (.sweep :: hostParts h) s t)

/-- SAFE_SESSION (R371, R373, R374, R456): the state is read; a frame that fails a check is answered with the check, and
counted where a session is in force; a PARTNER frame that passes is taken; a disconnect out of ACCEPTED ends in IDLE. -/
def Obligations.SafeSessionActs : Prop :=
  ∀ (s : State) (h : HostId) (pair : Nat) (body : List Byte), Taken s h pair 0x0205 body →
    (field body 2 1 = 1 → body.length = 4 →
      answers (.safeSession h pair) s fun t => readsOut s t (request h pair 0x0205 body) s.sessionResult) ∧
    (∀ (f : List Byte) (chk : Nat), field body 2 1 = 0 → body.length = 28 → f = body.drop 4 → chk = s.checkFrame f →
      (chk ≠ 0 → (s.ses.st = .accepted → s.ses.failCnt + 1 < s.par Fld.sfBadn 0) → s.ses.st ≠ .connecting →
        answers (.safeSession h pair) s fun t =>
          t.ses = { s.ses with lastFail := chk, failCnt := s.ses.failCnt + b2n (decide (s.ses.st = .accepted)) } ∧
          answered [.session] s t (request h pair 0x0205 body)
            (leBytes 1 chk ++ leBytes 1 (sstate s.ses.st) ++ leBytes 1 (field f 0 1) ++ [0] ++ List.replicate 10 0 ++ [0, 0])) ∧
      (chk = 0 → field f 0 1 = 0x54 → field f 10 1 % 2 = 0 →
        answers (.safeSession h pair) s fun t =>
          t.ses = { s.ses with
            failCnt := 0, partSeq := field f 4 2, partTs := field f 6 4, accAt := s.now
            partner := (f.drop 10).take 10 } ∧
          (t.port h).staged = (s.port h).staged ++ [reply (request h pair 0x0205 body) St.ok
            (leBytes 1 0 ++ leBytes 1 (sstate s.ses.st) ++ leBytes 1 0x54 ++ [0] ++ (f.drop 10).take 10 ++ [0, 0])] ∧
          kept (.session :: faultParts ++ hostParts h) s t)) ∧
    (field body 2 1 = 2 → body.length = 4 → s.may h (some 9) 1 → s.ses.st = .accepted →
      answers (.safeSession h pair) s fun t =>
        t.ses.st = .idle ∧ t.ses.ownSeq = (s.ses.ownSeq + 1) % 65536 ∧
        t.ses.reconnectAt = (if s.saf.coupled then some s.now else none) ∧
        (t.port h).staged = (s.port h).staged ++ [reply (request h pair 0x0205 body) St.ok []] ∧
        kept [.session, .host .A, .host .B, .queues, .turn, .flags] s t)

/-- LOGIN (R461, R477, R478): the right password gives the port its level, and the count of wrong ones returns to 0; a logout
takes the level; a wrong one below the fifth is counted and refused; a new password lands. -/
def Obligations.LoginActs : Prop :=
  ∀ (s : State) (h : HostId) (pair level : Nat) (body pw : List Byte),
    Taken s h pair 0x0302 body → body.length = 38 → level = field body 3 1 → pw = (body.drop 6).take (field body 4 1) →
    (field body 2 1 = 1 →
      answers (.login h pair) s fun t =>
        (t.port h).body = { (s.port h).body with
          request := none, lastPair := pair, lastCmd := s.now, level := 0
          staged := (s.port h).staged ++ [reply (request h pair 0x0302 body) St.ok
            (leBytes 1 0 ++ leBytes 1 (s.port h).pwFail ++ [0, 0] ++ leBytes 4 0)] } ∧
        kept (hostParts h) s t) ∧
    (field body 2 1 = 0 → (level = 1 ∨ level = 2) → pwLength (field body 4 1) = true → pw = s.passwordOf level →
      answers (.login h pair) s fun t =>
        (t.port h).body = { (s.port h).body with
          request := none, lastPair := pair, lastCmd := s.now, level := level, pwFail := 0
          staged := (s.port h).staged ++ [reply (request h pair 0x0302 body) St.ok
            (leBytes 1 level ++ leBytes 1 0 ++ [0, 0] ++ leBytes 4 0)] } ∧
        kept (hostParts h) s t) ∧
    (field body 2 1 = 0 → (level = 1 ∨ level = 2) → pwLength (field body 4 1) = true → pw ≠ s.passwordOf level →
      (s.port h).pwFail < 4 →
      answers (.login h pair) s fun t =>
        (t.port h).body = { (s.port h).body with
          request := none, lastPair := pair, lastCmd := s.now, pwFail := (s.port h).pwFail + 1
          staged := (s.port h).staged ++ [reply (request h pair 0x0302 body) St.password
            (leBytes 2 0 ++ leBytes 2 0)] } ∧
        kept (hostParts h) s t) ∧
    (∀ new, field body 2 1 = 2 → s.may h (some 12) 2 → (level = 1 ∨ level = 2) → pwLength (field body 4 1) = true →
      pwLength (field body 5 1) = true → new = (body.drop 22).take (field body 5 1) → pwChars new = true →
      pw = s.passwordOf level →
      answers (.login h pair) s fun t =>
        t.swp = (s.land (.password level new h (s.levelOf h))).swp ∧
        answered [.sweep] s t (request h pair 0x0302 body)
          (leBytes 1 (s.port h).level ++ leBytes 1 (s.port h).pwFail ++ [0, 0] ++ leBytes 4 s.effect))

/-- LEGEND_WRITE (R462, R471, R472): field records join the staged ones and drop a build; an image block joins the build; a
discard drops what is staged; a read gives the fields that it names. Nothing is in force before a commit. -/
def Obligations.LegendWriteStages : Prop :=
  ∀ (s : State) (h : HostId) (pair : Nat) (body : List Byte), Taken s h pair 0x0303 body →
    (∀ l, field body 2 1 = 0 → 6 ≤ body.length → takeRecs (field body 4 2) (body.drop 6) = some l → badRec l = none →
      s.may h (some 0) 2 →
      answers (.legendWrite h pair) s fun t =>
        t.leg = { s.leg with build := none, staged := overFields s.leg.staged (maskFields (recsMap l [])) } ∧
        answered [.legend] s t (request h pair 0x0303 body) t.stageResult) ∧
    (∀ b, field body 2 1 = 1 → 6 ≤ body.length → (body.drop 6).length % 4 = 0 → (body.drop 6).length ≤ 4088 → s.may h (some 0) 2 →
      4 * field body 4 2 + (body.drop 6).length ≤ 16384 →
      b = buildBlock (s.leg.build.getD ([], [])) (4 * field body 4 2) (body.drop 6) → b.2.length < 4096 →
      answers (.legendWrite h pair) s fun t =>
        t.leg = { s.leg with build := some b } ∧ answered [.legend] s t (request h pair 0x0303 body) t.stageResult) ∧
    (field body 2 1 = 2 → body.length = 6 → s.may h (some 0) 2 →
      answers (.legendWrite h pair) s fun t =>
        t.leg = { s.leg with staged := [], loaded := none, build := none } ∧
        answered [.legend] s t (request h pair 0x0303 body) t.stageResult) ∧
    (∀ fs l, field body 2 1 = 3 → body.length = 6 + 4 * field body 4 2 →
      (field body 3 1 = 0 ∧ fs = s.leg.active.fields ∨ field body 3 1 = 1 ∧ fs = s.stagedFields) →
      l = readNames (body.drop 6) (field body 4 2) → (∀ x ∈ l, indicesFit x.1 x.2 1 = true) → (readResult fs l).length ≤ 4092 →
      answers (.legendWrite h pair) s fun t => readsOut s t (request h pair 0x0303 body) (readResult fs l))

/-- LEGEND_COMMIT (R463, R473): a status is read; a commit whose SCRC matches and that no device has to hear of lands at once,
as one change set, and nothing stays staged. -/
def Obligations.LegendCommitLands : Prop :=
  ∀ (s : State) (h : HostId) (pair : Nat) (body : List Byte),
    Taken s h pair 0x0304 body → body.length = 8 →
    (field body 2 1 = 1 →
      answers (.legendCommit h pair) s fun t => readsOut s t (request h pair 0x0304 body)
        (leBytes 2 s.legVersion ++ leBytes 2 s.leg.staged.length ++ leBytes 4 s.leg.active.crc ++ leBytes 4 s.stagedCrc)) ∧
    (∀ u, field body 2 1 = 0 → s.may h (some 0) 2 → s.leg.bulk = [] → field body 4 4 = s.stagedCrc →
      ¬ (s.leg.staged = [] ∧ s.leg.loaded = none) → recordsFit s.stagedFields = true → firstBreak s.stagedFields = none →
      (∀ p, p < s.trv.n → fieldsOfPos s.commitFields p = []) →
      s.commitFull (.legend ⟨s.commitFields, 0, 0, 0, true, []⟩) = false →
      settingsSize (landedSettings s.effect (.legend ⟨s.commitFields, 0, 0, 0, true, []⟩)) ≤ 1008 →
      u = s.landChange s.commitFields (hostNum h) (s.levelOf h) true s.droppedKeys →
      answers (.legendCommit h pair) s fun t =>
        t.swp = u.swp ∧ t.leg = { u.leg with staged := [], loaded := none, build := none } ∧
        answered [.sweep, .legend] s t (request h pair 0x0304 body)
          (leBytes 4 s.effect ++ leBytes 2 s.nextVersion ++ [0, 0] ++ leBytes 4 u.otherCrc))

/-- FW_UPDATE (R465, R480, R481): begin, block, verify of the C-die image, activate, status and abandon of an update. -/
def Obligations.FwUpdateActs : Prop :=
  ∀ (s : State) (h : HostId) (pair target : Nat) (body : List Byte),
    Taken s h pair 0x0306 body → target = field body 3 1 → target ≤ 1 →
    (field body 2 1 = 0 → body.length = (if target = 1 then 16 else 12) → s.may h (some 6) 2 →
      (∀ f, s.leg.fw = some f → f.step ≠ 5) → field body 4 4 ≤ fwSlot target → (target = 1 → field body 12 4 ≠ 0) →
      (∀ p ∈ positionsOf (if target = 1 then field body 12 4 else 0), s.adopted p = true) →
      answers (.fwUpdate h pair) s fun t =>
        t.leg = { s.fwAbandon.leg with fw := some ⟨target, 1, field body 4 4, word (field body 8 4),
          if target = 1 then field body 12 4 else 0, [], 0, 0⟩ } ∧
        answered [.legend] s t (request h pair 0x0306 body) (leBytes 4 0)) ∧
    (∀ f, field body 2 1 = 1 → 8 ≤ body.length → body.length ≤ 4096 → s.may h (some 6) 2 → s.fwOf target = some f → f.step = 1 →
      field body 4 4 = f.done → f.done + (body.length - 8) ≤ f.size →
      answers (.fwUpdate h pair) s fun t =>
        t.leg = { s.leg with fw := some { f with data := f.data ++ body.drop 8, done := f.done + (body.length - 8) } } ∧
        answered [.legend] s t (request h pair 0x0306 body) (leBytes 4 (f.done + (body.length - 8)))) ∧
    (∀ f, field body 2 1 = 2 → body.length = 4 → s.may h (some 6) 2 → s.fwOf target = some f → target = 0 → f.step = 1 →
      f.done = f.size → word (crc32c f.data) = f.crc →
      answers (.fwUpdate h pair) s fun t =>
        t.leg = { s.leg with fw := some { f with step := 2 }, newSlot := some f.crc } ∧
        answered [.legend] s t (request h pair 0x0306 body) (leBytes 4 f.done)) ∧
    (∀ f x, field body 2 1 = 3 → body.length = 4 → s.may h (some 6) 2 → s.fwOf target = some f →
      f.step = (if target = 0 then 2 else 4) → (s.pw.op = .config ∨ s.pw.op = .safe ∧ s.allSafe = true) →
      x = .firmware (decide (target = 1)) (positionsOf f.positions) h (s.levelOf h) → s.commitFull x = false →
      answers (.fwUpdate h pair) s fun t =>
        t.swp = (s.land x).swp ∧ t.leg = { s.leg with fw := some { f with step := 5 } } ∧
        answered [.sweep, .legend] s t (request h pair 0x0306 body) (leBytes 4 s.effect)) ∧
    (field body 2 1 = 4 → body.length = 4 →
      answers (.fwUpdate h pair) s fun t => readsOut s t (request h pair 0x0306 body) (s.fwStatus target)) ∧
    (field body 2 1 = 5 → body.length = 4 → s.may h (some 6) 2 →
      answers (.fwUpdate h pair) s fun t =>
        t.leg = (if (s.fwOf target).isSome then s.fwAbandon else s).leg ∧
        answered [.legend] s t (request h pair 0x0306 body) [])

/-! ### Supplies, resets and starts of the C-die (R485 to R502) -/

/-- VSUP and RESET_N (R486, R502): a rise and a release only mark the instant; a fall and an assertion put the C-die into
reset, in which only flash, the LOCKED latch and the previous session number stay; the latch goes when VSUP has been low for
0.5 s. -/
def Obligations.SuppliesAct : Prop :=
  ∀ s : State,
    (s.pw.vsup = false → answers .vsupRise s fun t =>
      t.pw = { s.pw with vsup := true, vsupFell := none, readyAt := s.now, op := .wake } ∧ kept (.power :: tripParts) s t) ∧
    (s.pw.resetN = false → answers .resetNRelease s fun t =>
      t.pw = { s.pw with resetN := true, readyAt := s.now } ∧ kept (.power :: tripParts) s t) ∧
    (∀ n, s.pw.vsup = false → s.pw.vsupFell = some n → answers .lockedLatchClear s fun t =>
      t.pw = { s.pw with locked := false, prevSession := 0 } ∧ t.now = max s.now (n + 500000000) ∧
      kept (.power :: tripParts) s t) ∧
    (∀ c, (c = .vsupFall ∧ s.pw.vsup = true ∨ c = .resetNAssert ∧ s.pw.resetN = true) → answers c s fun t =>
      t.pw.running = false ∧ t.pw.locked = s.pw.locked ∧ t.pw.prevSession = s.pw.prevSession ∧
      t.pw.vsup = (s.pw.vsup && decide (c ≠ .vsupFall)) ∧ t.pw.resetN = (s.pw.resetN && decide (c ≠ .resetNAssert)) ∧
      t.leg.copyA = s.leg.copyA ∧ t.leg.copyB = s.leg.copyB ∧ t.leg.gaz = s.leg.gaz ∧ t.leg.staged = [] ∧
      t.pwm = List.replicate 8 0 ∧ (∀ n, (t.chan n).energised = false) ∧ t.saf.tripLatch = true ∧ t.saf.armed = false ∧
      t.flt.errLow = true ∧ (∀ n, (t.latch n).latched = false) ∧ t.sems = List.replicate 16 none ∧
      (t.dev 0).body = { s.dev 0 with d1 := false }.body ∧ othersKept s t 0)

/-- C_DIE_START and C_DIE_WAKE (R475, R486, R496, R501): the C-die runs, 2.0 ms after its supply and RESET_N or at the wake;
the trip latch is set, ERR_OUT low, the first boundary 50 ms later, the state WAKE, and the newer complete Legend copy
active.
WAKE ends by WAKE_TIMEOUT 2 s after the start, in CONFIG, or in LOCKED with the latch set (R490, R492). -/
def Obligations.CDieStarts : Prop :=
  (∀ (s : State) (c : Instr) (n : Nat),
    (c = .cDieStart ∧ s.pw.vsup = true ∧ s.pw.resetN = true ∧ s.pw.running = false ∧ s.pw.op ≠ .dormant
        ∧ n = max s.now (s.pw.readyAt + 2000000)
      ∨ (∃ w, c = .cDieWake w) ∧ s.pw.op = .dormant ∧ n = s.now) →
    answers c s fun t =>
      t.pw.running = true ∧ t.pw.startAt = n ∧ t.now = n ∧ t.swp.nextB = n + 50000000 ∧ t.swp.count = none ∧
      t.saf.tripLatch = true ∧ t.flt.errLow = true ∧ t.flt.beforeFirst = true ∧ t.sems = List.replicate 16 none ∧
      (s.leg.copyA.usable = true → (s.leg.copyB.usable = true → versionNewer s.leg.copyB.version s.leg.copyA.version = false) →
        (s.leg.copyB.usable = false → (s.leg.copyB.erased || !s.leg.copyB.done) = true) →
        t.pw.op = .wake ∧ t.leg.active = s.leg.copyA ∧ t.leg.fallback = false ∧ othersKept s t 0) ∧
      (s.leg.copyB.usable = true → (s.leg.copyA.usable = true → versionNewer s.leg.copyB.version s.leg.copyA.version = true) →
        (s.leg.copyA.usable = false → (s.leg.copyA.erased || !s.leg.copyA.done) = true) →
        t.pw.op = .wake ∧ t.leg.active = s.leg.copyB ∧ t.leg.fallback = false ∧ othersKept s t 0)) ∧
  (∀ s : State, s.pw.running = true → s.pw.op = .wake → answers .wakeTimeout s fun t =>
    t.pw = { s.pw with op := if s.pw.locked then .locked else .config } ∧
    t.now = max s.now (s.pw.startAt + 2000000000) ∧ kept (.power :: .sweep :: tripParts) s t)

/-! ### The barrier, the clocks, memory and temperature (R32 to R36, R308, R388, R389, R401) -/

/-- Losses at the barrier (R33, R34, R62, R401): each raises BARRIER with its sub-code; a retrain opens the masking interval
of its lane, and ends the loss where it succeeds. The entries in flight on an up lane are marked GAP; which those are is a free
value (log 72). -/
def Obligations.BarrierLossesAreReported : Prop :=
  ∀ s : State, s.pw.running = true →
    (∀ l, l ∉ s.pw.lostLanes → answers (.barrierLaneLoss l) s fun t =>
      t.pw.lostLanes = l :: s.pw.lostLanes ∧
      (∀ i, ((t.atlasGet i).flags.gap = true ∨ t.atlasGet i = s.atlasGet i) ∧
        ((t.track i).gapNext = true ∨ t.track i = s.track i) ∧ (Config.inFlight s.draws i = false → t.atlasGet i = s.atlasGet i)) ∧
      faulted [.atlas, .tracks] s t ⟨0x16, laneSub l, 0, openDetail 0x16 (laneSub l) 0⟩ ∧
      (l = .D1 → faulted [] s t ⟨0x16, laneSub l, 0, openDetail 0x16 (laneSub l) 0⟩)) ∧
    (∀ l ok, l ∈ s.pw.lostLanes → answers (.barrierLaneRetrain l ok) s fun t =>
      t.pw = { s.pw with lostLanes := if ok then s.pw.lostLanes.filter (fun x => decide (x ≠ l)) else s.pw.lostLanes } ∧
      t.flt.masks = ⟨.lane l, s.now + 1000000 + 2 * s.periodNs⟩ :: s.flt.masks.filter (fun m => decide (m.kind ≠ .lane l)) ∧
      kept (.power :: .collector :: tripParts) s t) ∧
    ((s.dev 0).awake = true → (s.dev 0).isHead = true → s.pw.markLost = false → answers .sweepMarkLoss s fun t =>
      t.pw.markLost = true ∧ t.now = max s.now (s.swp.nextB - 16000 + 1000) ∧ faulted [] s t ⟨0x16, 4, 0, openDetail 0x16 4 0⟩) ∧
    (∀ n, s.saf.sErr = true → s.saf.sErrAt = some n →
      (∀ c ∈ s.flt.causes, ¬ (c.src.cls = 0x0E ∧ c.src.detail = 0) ∧ ¬ (c.src.cls = 0x17 ∧ c.src.sub = 1 ∧ c.src.pos = 0)) →
      answers .sErrUnexplained s fun t =>
        t.saf.sErrAt = none ∧ t.now = max s.now (n + 1000000) ∧ faulted [.inputs] s t ⟨0x16, 5, 0, openDetail 0x16 5 0⟩)

/-- SL_PAIR_EQUAL and C_ERR_ASSERT (R35, R36, R229, R353): an equal pair acts as its line asserted. At the C-die that is a trip
source: the trip latch is set, no channel is energised. At the head S-die every bleed switch turns off and every timer
clears. A pair that differs again counts for what its levels say. -/
def Obligations.SeamLinesAct : Prop :=
  ∀ s : State,
    (s.pw.running = true → answers (.slPairEqual ⟨.sErr, false⟩) s fun t =>
      t.saf.slEqual = (false, s.saf.slEqual.2) ∧ (s.saf.sErr = false → t.tripBit .sErr = false) ∧ kept (.inputs :: tripParts) s t) ∧
    ((s.dev 0).awake = true → s.pw.running = true → answers (.slPairEqual ⟨.cErr, false⟩) s fun t =>
      t.saf.slEqual = (s.saf.slEqual.1, false) ∧ (s.atRest → s.tripMask = 0 → (t.dev 0).cErr = false) ∧
      kept (.inputs :: tripParts) s t) ∧
    (s.pw.running = true → answers (.slPairEqual ⟨.sErr, true⟩) s fun t =>
      t.saf.slEqual = (true, s.saf.slEqual.2) ∧ t.saf.tripLatch = true ∧ t.saf.armed = false ∧
      (∀ c ∈ t.saf.ch, c.energised = false) ∧ faulted [.inputs] s t ⟨0x16, 6, 0, openDetail 0x16 6 0⟩) ∧
    (∀ c, (s.dev 0).awake = true → (s.dev 0).isHead = true →
      (c = .slPairEqual ⟨.cErr, true⟩ ∨ c = .cErrAssert ∧ (s.saf.slEqual.2 = true ∨ s.atRest ∧ s.tripMask ≠ 0 ∨ s.pw.running = false)) →
      answers c s fun t =>
        (t.dev 0).body = ((s.dev 0).cutBleed s.now).body ∧ othersKept s t 0 ∧
        (s.pw.running = true → s.saf.slEqual.2 = true ∨ c = .slPairEqual ⟨.cErr, true⟩ → t.saf.slEqual.2 = true ∧ (t.dev 0).cErr = true) ∧
        (s.pw.running = true → c = .slPairEqual ⟨.cErr, true⟩ → (s.dev 0).events = [] → t.hasCause ⟨0x16, 6, 0, openDetail 0x16 6 0⟩ = true))

/-- The reference clock and the crystal (R34, R246, R389, R496, R500): a loss raises CLOCK 0x02 where the head S-die can see
it, a stable return clears it, and a return wakes a DORMANT head; a crystal failure raises CLOCK 0x01. -/
def Obligations.ClocksAreWatched : Prop :=
  ∀ s : State, s.pw.running = true →
    (s.pw.refClock = true → (s.dev 0).awake = true → (s.dev 0).isHead = true → answers .referenceClockLoss s fun t =>
      t.pw.refClock = false ∧ t.pw.refAt = none ∧ faulted [] s t ⟨0x19, 2, 0, 0⟩) ∧
    (s.pw.refClock = false → answers .referenceClockReturn s fun t =>
      t.pw = { s.pw with refClock := true, refAt := some s.now } ∧
      (t.dev 0).body = (if (s.dev 0).power = .dormant then (s.dev 0).start s.now (Config.tableIntact s.draws) else s.dev 0).body ∧
      othersKept s t 0 ∧ kept (.draws :: .power :: .devices :: tripParts) s t) ∧
    (∀ n, s.pw.refAt = some n → answers .referenceClockStable s fun t =>
      t.pw = { s.pw with refAt := none } ∧ t.now = max s.now (n + 1000000) ∧ t.hasCause ⟨0x19, 2, 0, 0⟩ = false ∧
      kept (.power :: .collector :: tripParts) s t) ∧
    (answers .crystalFailure s fun t => t.pw.crystal = false ∧ faulted [] s t ⟨0x19, 1, 0, 0⟩) ∧
    (∀ k, answers (.memoryEccError k) s fun t =>
      let sub := match k with | .corrected => 1 | .uncorrectable => 2
      faulted [] s t ⟨0x1E, sub, 0, openDetail 0x1E sub 0⟩)

/-- DIE_OVERTEMP_TRIP and _RELEASE (R308): a tripped S-die cuts its bleed; a tripped C-die turns its PWM and SENT supplies off
and is a trip source; both raise DIE_OT, which the release clears. -/
def Obligations.OverTemperatureActs : Prop :=
  ∀ (s : State) (d : Nat),
    ((s.dev d).awake = true → (s.dev d).overTemp = false → answers (.dieOvertempTrip d .S) s fun t =>
      (t.dev d).overTemp = true ∧ (t.dev d).bleedOff = true ∧ (∀ k, k < (s.dev d).cells.length → ((t.dev d).cell k).gate = false) ∧
      othersKept s t d ∧
      (d ≠ 0 → (s.dev d).coreReset = none → ∃ v, (t.dev d).events = (s.dev d).events ++
        [Item.mk 0xC2 1 (.event 0x17 1 0 ((s.dev d).sweep % 2 ^ 32) v 0)]) ∧
      (d = 0 → (s.dev 0).isHead = true → s.pw.running = true → t.saf.sErr = true ∧ t.saf.tripLatch = true ∧
        ((s.dev 0).coreReset = none → (s.dev 0).events = [] → t.hasCause ⟨0x17, 1, 0, 0⟩ = true))) ∧
    ((s.dev d).awake = true → (s.dev d).overTemp = true → answers (.dieOvertempRelease d .S) s fun t =>
      (t.dev d).overTemp = false ∧ othersKept s t d ∧
      (d = 0 → (s.dev 0).isHead = true → s.pw.running = true → (s.dev 0).coreReset = none → (s.dev 0).events = [] →
        t.hasCause ⟨0x17, 1, 0, 0⟩ = false)) ∧
    (s.pw.running = true → s.saf.overTemp = false → answers (.dieOvertempTrip 0 .C) s fun t =>
      t.saf.overTemp = true ∧ t.saf.tripLatch = true ∧ t.pwm = List.replicate 8 0 ∧
      (∀ n, n < 8 → n < s.sent.length → (t.sentCh n).supply = false) ∧ faulted [.inputs, .pwm, .sent] s t ⟨0x17, 2, 0, 0⟩) ∧
    (s.pw.running = true → s.saf.overTemp = true → answers (.dieOvertempRelease 0 .C) s fun t =>
      t.saf.overTemp = false ∧ t.hasCause ⟨0x17, 2, 0, 0⟩ = false ∧ kept (.inputs :: .sent :: faultParts) s t)

/-! ### Cores, watchdogs, ERR_OUT and masking (R390, R400, R402 to R404, R482, R516) -/

/-- The supervisor core (R354, R390, R516): a watchdog expiry sets the trip latch and drives ERR_OUT low, opens every channel,
frees every semaphore and ends the session, and keeps the latches, the log and LOCKED; the restart ends the trip source
and latches WATCHDOG 0x11. -/
def Obligations.SupervisorResets : Prop :=
  ∀ s : State, s.pw.running = true →
    (s.leg.firstStart = none → answers .supervisorWatchdogExpiry s fun t =>
      t.pw = { s.pw with coreReset := some (s.now, 5000000), coreWd := true } ∧
      t.saf.watchdog = true ∧ t.saf.tripLatch = true ∧ t.saf.armed = false ∧ (∀ c ∈ t.saf.ch, c.energised = false) ∧
      t.flt.errLow = true ∧ t.flt.fwdog = true ∧ t.flt.latches = s.flt.latches ∧ t.flt.log = s.flt.log ∧
      t.sems = List.replicate 16 none ∧ t.ses = {} ∧ t.leg.active = s.leg.active ∧ t.leg.staged = [] ∧
      kept ([.power, .legend, .host .A, .host .B, .queues, .semaphores, .collector, .inputs, .session, .loops, .tuning, .pwm]
        ++ tripParts) s t) ∧
    (∀ r, s.pw.coreReset = some r → s.pw.coreWd = true → answers .supervisorCoreRestart s fun t =>
      t.pw.coreReset = none ∧ t.pw.coreWd = false ∧ t.saf.watchdog = false ∧
      faulted [.inputs] s t ⟨0x1C, 0x11, 0, openDetail 0x1C 0x11 0⟩) ∧
    (∀ r, s.pw.coreReset = some r → s.pw.coreWd = false → s.portA.frozen = true → s.portB.frozen = true →
      answers .supervisorCoreRestart s fun t =>
        t.pw = { s.pw with coreReset := none } ∧ t.saf.watchdog = false ∧ t.flt.heartbeat = s.now ∧
        kept (.power :: .inputs :: .collector :: tripParts) s t)

/-- S-die cores (R219, R390): a watchdog expiry turns every bleed switch off, clears the timers and drops the records not yet
applied; the restart reports WATCHDOG 0x10. -/
def Obligations.SDieCoresReset : Prop :=
  ∀ (s : State) (d : Nat), (s.dev d).awake = true →
    ((s.dev d).coreReset = none → (s.dev d).firstStart = none → answers (.sDieWatchdogExpiry d) s fun t =>
      (t.dev d).body = { (s.dev d).cutBleed s.now with
        coreReset := some s.now, wdReport := true, commitPend := [], reactPend := [] }.body ∧ othersKept s t d ∧
      (∀ p, (s.dev d).pos = some p → s.pw.running = true → d ≠ 0 →
        t.flt.masks = ⟨.sDieCore p, s.now + 5000000 + 2 * s.periodNs⟩ ::
          s.flt.masks.filter (fun m => decide (m.kind ≠ .sDieCore p)))) ∧
    (∀ r, (s.dev d).coreReset = some r → (s.dev d).overTemp = false → answers (.sDieCoreRestart d) s fun t =>
      (t.dev d).body = { s.dev d with coreReset := none, wdReport := false }.body ∧ othersKept s t d ∧
      (d ≠ 0 → (s.dev d).wdReport = true → (t.dev d).events = (s.dev d).events ++
        [Item.mk 0xC2 1 (.event 0x1C 0x10 (openDetail 0x1C 0x10 (s.dev d).posIx) ((s.dev d).sweep % 2 ^ 32)
          (s.dev d).openValue 0)]))

/-- ERR_OUT and masking (R400, R402 to R404): a missed heartbeat stops the compatibility wave; ERR_OUT ends TMIN after it began
where nothing holds it low; a masking interval ends at its instant. -/
def Obligations.ErrOutAndMaskingEnd : Prop :=
  ∀ s : State, s.pw.running = true →
    (answers .heartbeatTimeout s fun t =>
      t.flt.stalled = true ∧ t.now = max s.now (s.flt.heartbeat + 10000000) ∧ (s.errCompat = true → t.flt.errLow = true) ∧
      kept (.collector :: tripParts) s t) ∧
    (s.flt.errLow = true → s.errCond = false → ¬ (s.errCompat = true ∧ s.flt.stalled = true) → answers .errOutRelease s fun t =>
      t.flt.errLow = false ∧ t.flt.wave = s.errCompat ∧ t.now = max s.now (s.flt.lowSince + s.errTmin) ∧
      kept tripParts s t) ∧
    (∀ k m, s.flt.masks.find? (fun x => decide (x.kind = k)) = some m → answers (.maskingIntervalEnd k) s fun t =>
      t.flt.masks = s.flt.masks.filter (fun x => decide (x.kind ≠ k)) ∧ t.now = max s.now m.untilNs ∧ kept faultParts s t ∧
      ((∀ c ∈ s.flt.causes, (c.masked && s.masks k c.src) = false) → kept (.collector :: tripParts) s t))

/-! ### S-dies, ring ports and links (R37, R249 to R259, R485, R499, R500) -/

/-- S_DIE_START, S_DIE_STOP, ROLE_AT_POWER_UP and S_DIE_SILENCE_DORMANT (R37, R133, R485, R499): an S-die starts with both ports
DOWN and no role, and reports a stored Survey table that fails its CRC, a free value (log 163); 20 ms later it is the head
where D1 and the reference clock are there, else a member; it stops as it was before its start, and goes DORMANT after 60 s
without a downstream frame. -/
def Obligations.SDiesStartAndStop : Prop :=
  ∀ (s : State) (d : Nat),
    (d < s.devs.length → (s.dev d).power = .por → answers (.sDieStart d) s fun t =>
      (t.dev d).body = ((s.dev d).start s.now (Config.tableIntact s.draws)).body ∧ othersKept s t d ∧
      ((s.dev d).sv.stored = none ∨ (s.dev d).sv.storedOk = true ∧ Config.tableIntact s.draws = true →
        (t.dev d).body = { (s.dev d).afterReset with
          power := .awake, startAt := s.now, lastFrame := s.now
          portE := { downAt := s.now : PortSt }, portW := { downAt := s.now : PortSt } }.body) ∧
      ((s.dev d).sv.stored ≠ none → Config.tableIntact s.draws = false → (t.dev d).sv.storedOk = false ∧
        (t.dev d).table = defaultTable false ∧
        (d ≠ 0 → (t.dev d).events = [Item.mk 0xC2 1 (.event 0x1A 2 0 ((t.dev d).sweep % 2 ^ 32) 0 0)])) ∧
      kept (.draws :: .devices :: tripParts) s t) ∧
    ((s.dev d).power ≠ .por → answers (.sDieStop d) s fun t =>
      deviceBecomes s t d (s.dev d).afterReset s.now ∧ (t.dev d).power = .por ∧ (t.dev d).portE.st = .down ∧
      (t.dev d).portW.st = .down) ∧
    ((s.dev d).awake = true → (s.dev d).role = .undetermined → answers (.roleAtPowerUp d) s fun t =>
      deviceBecomes s t d (if d = 0 ∧ (s.dev d).d1 = true ∧ s.pw.refClock = true then (s.dev d).becomeHead else (s.dev d).becomeMember)
        ((s.dev d).startAt + 20000000) ∧
      (t.dev d).role = (if d = 0 ∧ (s.dev d).d1 = true ∧ s.pw.refClock = true then .head else .member) ∧
      ((t.dev d).role = .head → (t.dev d).portE.clkSrc = false ∧ (t.dev d).portW.clkSrc = false)) ∧
    ((s.dev d).awake = true → answers (.sDieSilenceDormant d) s fun t =>
      deviceBecomes s t d { (s.dev d).afterReset with power := .dormant, dormantAt := none }
        ((s.dev d).lastFrame + 60000000000))

/-- The wake pattern (R257, R258, R500): it starts a DORMANT S-die, which sends it on both ports; an awake one shows it on a
port that is not UP; it is sent for 2.0 ms; a port that has stood DOWN for 1 s sends it again. -/
def Obligations.WakePatternsAct : Prop :=
  ∀ (s : State) (d : Nat) (p : RPort),
    ((s.dev d).power = .dormant → answers (.wakePatternDetected d p) s fun t =>
      (t.dev d).body = (((s.dev d).start s.now (Config.tableIntact s.draws)).sendWake s.now fun _ => true).body ∧
      othersKept s t d ∧ (t.dev d).power = .awake ∧
      (t.dev d).portE.st = .wake ∧ (t.dev d).portW.st = .wake ∧ kept (.draws :: .devices :: tripParts) s t) ∧
    ((s.dev d).awake = true → (((s.dev d).port p).st = .down ∨ ((s.dev d).port p).st = .acquire) →
      (s.dev d).portE.wakeAt = none → (s.dev d).portW.wakeAt = none →
      answers (.wakePatternDetected d p) s fun t =>
        deviceBecomes s t d (((s.dev d).modPort p fun q => { q with
          st := .wake, wakeAt := none, rxGood := false, peerOk := false, okSets := 0, miswiredAt := none }).moveClock p) s.now) ∧
    ((s.dev d).awake = true → (s.dev d).portE.wakeAt = none → (s.dev d).portW.wakeAt = none → ((s.dev d).port p).st = .wake →
      ((s.dev d).port (rportOther p)).st ≠ .wake → answers (.wakePatternEnd d) s fun t =>
        deviceBecomes s t d ((s.dev d).modPort p fun q => { q with st := .down, downAt := s.now }) s.now) ∧
    (∀ n, (s.dev d).awake = true → (s.dev d).portE.wakeAt = some n → (s.dev d).portW.wakeAt = some n →
      answers (.wakePatternEnd d) s fun t =>
        deviceBecomes s t d { s.dev d with
          portE := { (s.dev d).portE with st := .down, wakeAt := none, downAt := n }
          portW := { (s.dev d).portW with st := .down, wakeAt := none, downAt := n } } (n + 2000000)) ∧
    (∀ n, (s.dev d).awake = true → ((s.dev d).port p).wakeAt = some n → ((s.dev d).port (rportOther p)).wakeAt = none →
      answers (.wakePatternEnd d) s fun t =>
        deviceBecomes s t d ((s.dev d).modPort p fun q => { q with st := .down, wakeAt := none, downAt := n }) (n + 2000000)) ∧
    ((s.dev d).awake = true → ((s.dev d).port p).st = .down → answers (.portDownWake d p) s fun t =>
      deviceBecomes s t d ((s.dev d).modPort p fun q =>
        { q with st := .wake, wakeAt := some (max s.now (q.downAt + 1000000000)) }) (((s.dev d).port p).downAt + 1000000000))

/-- A link comes up (R247, R249, R288): ACQUIRE with alignment; RX good after 64 periods, a member's first good receiver being
its clock source; UP after 16 sets, held where the port had left UP, is wrapped, or leads to a device without a position. -/
def Obligations.LinksComeUp : Prop :=
  ∀ (s : State) (d : Nat) (p : RPort), (s.dev d).awake = true →
    (∀ inv, (((s.dev d).port p).st = .down ∨ ((s.dev d).port p).st = .wake ∧ ((s.dev d).port p).wakeAt = none) →
      answers (.characterAlignment d p inv) s fun t =>
      deviceBecomes s t d ((s.dev d).modPort p fun q => { q with st := .acquire, invPol := inv, okSets := 0, badSets := 0 }) s.now) ∧
    (((s.dev d).port p).st = .acquire → answers (.rxGood d p) s fun t =>
      deviceBecomes s t d ((s.dev d).modPort p fun q => { q with
        rxGood := true
        clkSrc := q.clkSrc || (!(s.dev d).isHead && !(s.dev d).portE.clkSrc && !(s.dev d).portW.clkSrc) }) s.now) ∧
    (∀ held, ((s.dev d).port p).st = .acquire → ((s.dev d).port p).rxGood = true → 16 ≤ ((s.dev d).port p).okSets →
      held = ((s.dev d).adopted && (((s.dev d).port p).leftUp || ((s.dev d).port p).wrapped
        || (s.dev (s.peer d p)).pos.isNone)) →
      answers (.linkUp d p) s fun t =>
        (t.dev d).port p = { (s.dev d).port p with
          lost := false, st := .up, peerOk := true, held := held, everUp := true
          fwd := 13500 + Config.forwardLatency d s.draws % 1501 } ∧
        (t.dev d).port (rportOther p) = (s.dev d).port (rportOther p) ∧ othersKept s t d ∧
        (t.dev d).notices = (s.dev d).notices ++ (if held then [Item.mk 0xC4 0 (.notice (word (t.dev d).portE.word)
          (word (t.dev d).portW.word))] else []) ∧
        (held = true → d = 0 → (s.dev 0).isHead = true → t.trv.trigger = true) ∧
        kept (.devices :: .traverse :: .positions :: faultParts) s t)

/-- Idle sets and link faults (R242, R249 to R253, R285): an idle set is counted; eight missed periods take the port out of UP;
a miswired port is reported after 10 ms; 64 missed periods in a second degrade the link. -/
def Obligations.LinksAreWatched : Prop :=
  ∀ (s : State) (d : Nat) (p : RPort), (s.dev d).awake = true →
    (∀ peer good, (((s.dev d).port p).st = .acquire ∨ ((s.dev d).port p).st = .up) →
      answers (.idleSet d p peer good) s fun t => othersKept s t d ∧
        (((s.dev d).port p).st = .acquire ∨ good = true ∨ ((s.dev d).port p).badSets = 0 →
          (t.dev d).port (rportOther p) = (s.dev d).port (rportOther p) ∧
          (t.dev d).port p = { (s.dev d).port p with
            okSets := if peer = rportOther p ∧ good = true then min (((s.dev d).port p).okSets + 1) 255 else 0
            badSets := if good then 0 else min (((s.dev d).port p).badSets + 1) 255
            peerOk := decide (peer = rportOther p) && good && decide (1 ≤ ((s.dev d).port p).okSets)
            miswired := ((s.dev d).port p).miswired && decide (peer = p)
            miswiredAt := if peer = p then some (((s.dev d).port p).miswiredAt.getD s.now) else none }) ∧
        (((s.dev d).port p).st = .up → good = false → 1 ≤ ((s.dev d).port p).badSets →
          ((t.dev d).port p).st = .acquire ∧ ((t.dev d).port p).losses = ((s.dev d).port p).losses + 1 ∧
          ((t.dev d).port p).downAt = s.now ∧ ((t.dev d).port p).held = false)) ∧
    (((s.dev d).port p).st = .acquire → answers (.rxLoss d p) s fun t =>
      deviceBecomes s t d (((s.dev d).modPort p fun q => { q with
        rxGood := false, st := .down, downAt := s.now, okSets := 0, peerOk := false, miswiredAt := none }).moveClock p) s.now) ∧
    (((s.dev d).port p).st = .up → answers (.rxLoss d p) s fun t =>
      deviceBecomes s t d ((((s.dev d).modPort p fun q => { q with rxGood := false }).moveClock p).leaveUp p s.now .down
        (s.quietLoss d p)) s.now ∧
      ((t.dev d).port p).st = .down ∧ ((t.dev d).port p).rxGood = false ∧ ((t.dev d).port p).clkSrc = false ∧
      ((t.dev d).port p).losses = ((s.dev d).port p).losses + 1 ∧
      (((s.dev d).port p).clkSrc = true → ((s.dev d).port (rportOther p)).rxGood = true →
        ((t.dev d).port (rportOther p)).clkSrc = true)) ∧
    (∀ n, ((s.dev d).port p).miswiredAt = some n → ((s.dev d).port p).miswired = false → s.alone = false →
      answers (.miswireTimeout d p) s fun t =>
        deviceBecomes s t d (((s.dev d).modPort p fun q => { q with miswired := true }).ringLink true 3 p) (n + 10000000)) ∧
    (∀ missed, answers (.linkDegraded d p missed) s fun t =>
      (t.dev d).port p = { (s.dev d).port p with
        missed := missed, kerr := ((s.dev d).port p).kerrRun, kerrRun := 0
        upAll := decide (((s.dev d).port p).st = .up)
        degraded := decide (64 ≤ missed) && decide (((s.dev d).port p).st = .up) && ((s.dev d).port p).upAll && !s.alone } ∧
      (t.dev d).port (rportOther p) = (s.dev d).port (rportOther p) ∧ othersKept s t d)

/-! ### Frames (R233, R244, R254, R255, R264, R265, R283) -/

/-- A downstream frame that a device acts on (R233, R265): the silence timer reloads, the SEQ is noted, and the frame has its
effect: an adoption, a header, a record or a command is held, object bytes join their buffer. -/
def Obligations.DownstreamFramesAct : Prop :=
  ∀ (s : State) (d : Nat) (p : RPort) (f : Frame) (x : Dev), (s.dev d).awake = true → (s.dev d).actsOn p f = true →
    x = { s.dev d with silence := some s.now, lastFrame := s.now, seen := f.seq :: (s.dev d).seen } →
    (∀ a, f.payload = .adopt a → answers (.adopt d p f) s fun t =>
      deviceBecomes s t d { x with adoptMsg := some { a with sa := unwrap (s.dev d).sweep (2 ^ 32) a.sa } } s.now) ∧
    (∀ h, f.payload = .header h → answers (.sweepHeader d p f) s fun t =>
      deviceBecomes s t d (x.getHeader h) s.now ∧ (t.dev d).header = some h) ∧
    (∀ a b, f.payload = .keepalive a b → answers (.keepalive d p f) s fun t => deviceBecomes s t d x s.now) ∧
    (∀ c, f.payload = .commit c → answers (.commit d p f) s fun t =>
      deviceBecomes s t d (if (s.dev d).commitPend.any (fun y => decide (y.epoch = c.epoch)) = false
          ∧ ((s.dev d).late.contains c.epoch = true ∨ c.epoch ≠ (s.dev d).epoch) then
        { x with commitPend := x.commitPend ++ [{ c with sweep := unwrap (s.dev d).sweep (2 ^ 32) c.sweep }] } else x) s.now) ∧
    (∀ c, f.payload = .reaction c → answers (.reaction d p f) s fun t =>
      deviceBecomes s t d { x with reactPend := x.reactPend ++ [c] } s.now) ∧
    (∀ slot e, f.payload = .command (.spot slot e) → answers (.command d p f) s fun t =>
      deviceBecomes s t d (x.modSv fun v => { v with spots := v.spots ++ [⟨slot, e⟩] }) s.now) ∧
    (∀ m, f.payload = .stage m → answers (.stage d p f) s fun t =>
      deviceBecomes s t d (x.stageFrame f.seq m) s.now ∧
      (slotBytes < m.total → (t.dev d).acks = (s.dev d).acks ++ [Item.mk 0xC3 0 (.ack f.seq 0x15 3 0)]))

/-- FRAME_FORWARD (R233, R244, R254, R255, R265, R285): a frame that the port carries leaves by the opposite one, each code
error met here being counted and closed by K30.7, ahead of the device's own frames that have not begun; behind more than
2,080 waiting characters it is closed in error, and reported; what the device does not forward is taken in.
A copy whose SEQ has been seen, or that does not address the device, only reloads its silence timer (R233). -/
def Obligations.FramesAreForwarded : Prop :=
  (∀ (s : State) (d : Nat) (p : RPort) (f : Frame) (x : Dev), (s.dev d).awake = true → ((s.dev d).port p).carries f = true →
    x = (let y := (s.dev d).modPort p (fun q => { q with kerrRun := q.kerrRun + codeErrors f })
      if reloads f then { y with silence := some s.now, lastFrame := s.now } else y) →
    (((s.dev d).isHead = true ∨ f.dest = 0xFE ∨ f.dest ≠ 0 ∧ ((s.dev d).pos = some f.dest ∨ f.hops ≤ 1)) →
      answers (.frameForward d p f) s fun t => deviceBecomes s t d x s.now) ∧
    (∀ (g : Frame) (full : Bool), (s.dev d).isHead = false →
      (f.dest = 0 ∧ g = relayed f
        ∨ f.dest ≠ 0xFE ∧ f.dest ≠ 0 ∧ (s.dev d).pos ≠ some f.dest ∧ 2 ≤ f.hops
          ∧ g = frameRelay (relayed f) (f.hops - 1) f.wrap) →
      full = decide (2080 < ((s.dev d).port (rportOther p)).waits s.now) →
      answers (.frameForward d p f) s fun t =>
        deviceBecomes s t d (let y := x.emit (rportOther p) s.now false (if full then { g with hasError := true } else g)
          if full = true ∧ s.alone = false then y.ringLink true 4 (rportOther p) else y) s.now)) ∧
  (∀ (s : State) (d : Nat) (p : RPort) (f : Frame) (c : Instr), (s.dev d).awake = true →
    reloads f = true → ((s.dev d).port p).carries f = true →
    ((s.dev d).isHead = true ∨ ((s.dev d).seen ++ (s.dev d).seenLast).contains f.seq = true ∨ f.dest ≠ 0xFF ∧ (s.dev d).pos ≠ some f.dest ∨ (s.dev d).coreReset ≠ none) →
    ((∃ a, f.payload = .adopt a ∧ c = .adopt d p f) ∨ (∃ a, f.payload = .header a ∧ c = .sweepHeader d p f)
      ∨ (∃ a b, f.payload = .keepalive a b ∧ c = .keepalive d p f) ∨ (∃ a, f.payload = .commit a ∧ c = .commit d p f)
      ∨ (∃ a, f.payload = .reaction a ∧ c = .reaction d p f) ∨ (∃ a, f.payload = .command a ∧ c = .command d p f)
      ∨ (∃ a, f.payload = .stage a ∧ c = .stage d p f)) →
    answers c s fun t => deviceBecomes s t d { s.dev d with silence := some s.now, lastFrame := s.now } s.now)

/-! ### Traverse (R4, R38, R277 to R284) -/

/-- TOKEN, PROBE and PROBE_REPLY (R4, R38, R278, R280): a member takes a token and probes the hop sixteen times; each probe is
answered with its turnaround; the sixteenth reply sends the token on with the hop's record; the head takes its own token
back, and a token of another head raises TRAVERSE 0x01. -/
def Obligations.TokensTravel : Prop :=
  ∀ (s : State) (d : Nat) (p : RPort) (f : Frame), (s.dev d).awake = true → frameValid f = true → ((s.dev d).port p).st = .up →
    (∀ k, d ≠ 0 → f.payload = .token k → f.dest = 0xFE → answers (.token d p f) s fun t =>
      deviceBecomes s t d ((s.dev d).becomeMember.takeToken p s.now k) s.now ∧
      ((t.dev d).port p).waiting = some k ∧ ((t.dev d).port p).probes = [] ∧ (t.dev d).role = .member) ∧
    (∀ k, d = 0 → f.payload = .token k → k.headId = Config.factoryId 0 → s.upWorks = true → s.trv.passOpen = true →
      k.trav = s.trv.trav → k.pass = s.trv.pass → answers (.token d p f) s fun t =>
        t.trv = (if k.dirW then { s.trv with backW := s.trv.backW.or (some (k, p)) }
          else { s.trv with backE := s.trv.backE.or (some (k, p)) }) ∧
        othersKept s t 0 ∧ (t.dev 0).body = (s.dev 0).body) ∧
    (∀ k, d = 0 → f.payload = .token k → k.headId ≠ Config.factoryId 0 → s.pw.running = true → (s.dev 0).events = [] →
      answers (.token d p f) s fun t =>
        (s.trv.running = true ∨ s.trv.adopting ≠ none → t.trv.running = false ∧ t.trv.result = 2 ∧ t.trv.retryAt = some s.now ∧
          t.trv.adopting = none ∧ ∀ e, (t.dev e).adoptMsg = none) ∧
        faulted [.traverse, .devices] s t ⟨0x0B, 1, 0, openDetail 0x0B 1 0⟩) ∧
    (∀ n turn, f.payload = .probe n → f.dest = 0xFE → answers (.probe d p f turn) s fun t =>
      deviceBecomes s t d ((s.dev d).hopFrame p s.now (.probeReply n turn)) s.now) ∧
    (∀ n ta k trip, f.payload = .probeReply n ta → f.dest = 0xFE → ((s.dev d).port p).waiting = some k →
      (((s.dev d).port p).probes.length < 15 → answers (.probeReply d p f trip) s fun t =>
        deviceBecomes s t d ((s.dev d).modPort p fun q => { q with probes := q.probes ++ [(trip, ta)] }) s.now) ∧
      (15 ≤ ((s.dev d).port p).probes.length → ((s.dev d).port (rportOther p)).st = .up →
        (k.h + 1 ≠ 31 ∨ s.peer d (rportOther p) = 0) → answers (.probeReply d p f trip) s fun t =>
          ((t.dev d).port p).waiting = none ∧ ((t.dev d).port p).probes = [] ∧ othersKept s t d ∧
          (t.dev d).hops = (if k.dirW then ((s.dev d).hops.1, some (k.h + 1)) else (some (k.h + 1), (s.dev d).hops.2)) ∧
          ∃ g rec, ((t.dev d).port (rportOther p)).tx
              = ⟨g, max ((s.dev d).port (rportOther p)).busyUntil s.now, true⟩ :: ((s.dev d).port (rportOther p)).tx ∧
            rec.id = Config.factoryId d ∧ rec.dh = k.h + 1 ∧
            rec.lambda = hopLambda (((s.dev d).port p).probes ++ [(trip, ta)]) k.fwd ∧
            g.payload = .token { k with
              h := k.h + 1, lsum := k.lsum + rec.lambda, recs := k.recs ++ [rec], fwd := ((s.dev d).port p).fwd }))

/-- D1 trains, and a Traverse starts (R37, R38, R277, R278): D1 triggers a Traverse and wakes the ring; a trigger that is due
at a boundary starts a Traverse, whose tokens leave by each port that is UP, or its next pass.
At the next multiple of 10 ms a KEEPALIVE leaves on the ring, and the head's own S-die hears it over D1 (R234, R267). -/
def Obligations.TraversesStart : Prop :=
  (∀ s : State, s.pw.running = true →
    ((s.dev 0).awake = true → ¬ (s.pw.d1 = true ∧ (s.dev 0).d1 = true) → answers .d1Trained s fun t =>
      t.pw = { s.pw with d1 := true, woken := true } ∧ t.trv = { s.trv with trigger := true, trigAt := s.now } ∧
      (t.dev 0).d1 = true ∧ (t.dev 0).portE.st = .wake ∧ (t.dev 0).portW.st = .wake ∧ ((s.dev 0).role = .head → (t.dev 0).role = .head) ∧
      ((s.dev 0).role = .member → (t.dev 0).role = .member) ∧
      ((s.dev 0).role = .undetermined → (t.dev 0).role =
        (if s.pw.refClock = true ∧ s.now ≤ (s.dev 0).startAt + 20000000 then .head else .undetermined)) ∧
      othersKept s t 0 ∧ kept (.power :: .traverse :: .devices :: tripParts) s t) ∧
    ((s.dev 0).awake = true → (s.dev 0).role = .member → (s.dev 0).pos ≠ none → answers (.d1TrainsLate 0) s fun t =>
      t.pw = { s.pw with d1 := true } ∧ t.trv = { s.trv with trigger := true, trigAt := s.now } ∧
      (t.dev 0).body = { s.dev 0 with d1 := true }.body ∧ othersKept s t 0 ∧
      kept (.power :: .traverse :: .devices :: tripParts) s t) ∧
    (∀ n, s.trv.retryAt = some n → answers .traverseRetryTimer s fun t =>
      t.trv = { s.trv with retryAt := none, trigger := true, trigAt := max s.now (n + 1000000000) } ∧
      t.now = max s.now (n + 1000000000) ∧ kept (.traverse :: tripParts) s t) ∧
    (s.pw.coreReset = none → s.d1Works = true → (s.dev 0).role ≠ .undetermined → s.trv.due = true → s.trv.passOpen = false →
      (s.trv.running = true ∨ s.trv.trigger = true) → answers .traverseStart s fun t =>
        t.trv.passOpen = true ∧ t.trv.due = false ∧ t.trv.running = true ∧
        t.trv.sentE = decide ((s.dev 0).portE.st = .up) ∧ t.trv.sentW = decide ((s.dev 0).portW.st = .up) ∧
        t.trv.pass = (if s.trv.running then s.trv.pass + 1 else 1) ∧
        t.trv.trav = (if s.trv.running then s.trv.trav else (s.trv.trav + 1) % 256) ∧
        (t.dev 0).role = .head ∧ othersKept s t 0 ∧
        (∀ p, ((s.dev 0).port p).st = .up → ∃ g, ((t.dev 0).port p).tx
            = ⟨g, max ((s.dev 0).port p).busyUntil s.now, true⟩ :: ((s.dev 0).port p).tx ∧
          g.payload = .token ⟨t.trv.trav, t.trv.pass, decide (p = .W), false, false, 0, Config.factoryId 0, 0,
            ((s.dev 0).port p).fwd, []⟩) ∧
        kept (.traverse :: .devices :: tripParts) s t)) ∧
  (∀ (s : State) (n : Nat), s.pw.running = true → s.d1Works = true →
    n = max s.now (s.pw.startAt + (s.now - s.pw.startAt + 10000000 - 1) / 10000000 * 10000000) →
    answers .keepaliveSend s fun t =>
      t.now = n ∧ (t.dev 0).silence = some n ∧ (t.dev 0).lastFrame = n ∧ othersKept s t 0 ∧
      ((s.dev 0).isHead = true → t.swp.seq = (s.swp.seq + 1) % 65536 ∧
        ∀ p, s.swp.downWait = [] → s.swp.downUsed = 0 → ((s.dev 0).port p).st = .up → ((s.dev 0).port p).held = false →
          ((s.dev 0).port p).wrapped = false → (s.dev 0).portE.wrapped = false → (s.dev 0).portW.wrapped = false →
          ∃ g, ((t.dev 0).port p).tx = ⟨g, max ((s.dev 0).port p).busyUntil n, true⟩ :: ((s.dev 0).port p).tx ∧
            g.payload = .keepalive (s.sweep % 2 ^ 32) ((n - s.swp.boundary) / 1000)) ∧
      kept (.sweep :: .devices :: tripParts) s t)

/-- TRAVERSE_PASS_END (R278, R281, R282, R284): the first result is kept; two equal results in a row settle the Traverse, whose
ADOPT goes out with s_a two sweeps on, or three where it waits for the next sweep (R266); others count, and the eighth ends it unsettled with TRAVERSE 0x02; more than 32
devices end it with 0x03. -/
def Obligations.TraversePassesEnd : Prop :=
  ∀ (s : State) (whole : Bool) (cur : PassResult), s.coreUp → (s.dev 0).awake = true → s.trv.passOpen = true →
    whole = ((!s.trv.sentE || s.trv.backE.isSome) && (!s.trv.sentW || s.trv.backW.isSome)) →
    cur = { s.passResult with valid := s.passResult.valid && whole } →
    answers .traversePassEnd s fun t =>
      t.trv.passOpen = false ∧ t.trv.prev = some cur ∧ othersKept s t 0 ∧
      t.now = (if whole then s.now else max s.now (s.trv.passAt + 20000000)) ∧
      kept (.traverse :: .devices :: .sweep :: faultParts) s t ∧
      ((cur.ovl = true ∨ cur.valid = true ∧ 32 < cur.n) →
        t.trv.running = false ∧ t.trv.result = 3 ∧ t.hasCause ⟨0x0B, 3, 0, openDetail 0x0B 3 0⟩ = true) ∧
      (¬ (cur.ovl = true ∨ cur.valid = true ∧ 32 < cur.n) → s.trv.prev = none →
        t.trv = { s.trv with passOpen := false, prev := some cur }) ∧
      (∀ prev, ¬ (cur.ovl = true ∨ cur.valid = true ∧ 32 < cur.n) → s.trv.prev = some prev →
        (prev.valid = true ∧ cur.valid = true ∧ prev.same cur = true →
          t.trv.running = false ∧ t.trv.result = 0 ∧
          ∃ a, t.trv.adopting = some (a, cur) ∧ (t.dev 0).adoptMsg = some a ∧ a.trav = s.trv.trav ∧ a.n = cur.n ∧
            (a.sa = s.sweep + 2 ∨ a.sa = s.sweep + 3) ∧
            (s.swp.downWait = [] → s.swp.downUsed = 0 → a.sa = s.sweep + 2)) ∧
        (¬ (prev.valid = true ∧ cur.valid = true ∧ prev.same cur = true) →
          t.trv.retries = s.trv.retries + 1 ∧
          (s.trv.retries = 7 → t.trv.running = false ∧ t.trv.result = 1 ∧
            t.hasCause ⟨0x0B, 2, 0, openDetail 0x0B 2 0⟩ = true) ∧
          (s.trv.retries ≠ 7 → t.trv.running = s.trv.running)))

/-! ### The S-die on its own: boundaries, samples, the Survey, calibration, bleeding, Soundings (R54 to R235) -/

/-- Boundaries (R59, R61, R62, R66, R69): LOCAL_BOUNDARY takes the Meridian in use, else the other copy, else the prediction,
counts what it was taken from, applies every record that is due, and begins the sweep; an arrival inside ±200 ns of its
prediction is noted and passes on; 8 flywheeled boundaries make a device unsynchronised, 64 good sweeps bring it back to its direction. -/
def Obligations.BoundariesAreKept : Prop :=
  ∀ (s : State) (d : Nat), (s.dev d).awake = true →
    (∀ (r : DevReadings) (own other : Option Nat) (n h : Nat) (u : Bool),
      own = boundaryOf (if (s.dev d).useW then (s.dev d).sawW else (s.dev d).sawE)
        (if (s.dev d).useW then (s.dev d).latW else (s.dev d).latE) →
      other = boundaryOf (if (s.dev d).useW then (s.dev d).sawE else (s.dev d).sawW)
        (if (s.dev d).useW then (s.dev d).latE else (s.dev d).latW) →
      (own = some n ∧ h = 0 ∧ u = (s.dev d).useW ∨ own = none ∧ other = some n ∧ h = 1 ∧ u = !(s.dev d).useW
        ∨ own = none ∧ other = none ∧ (s.dev d).nextB = some n ∧ h = 2 ∧ u = (s.dev d).useW) →
      (∀ c ∈ (s.dev d).commitPend ++ (s.dev d).reactPend, ∀ y ∈ c.settings, y.val ≠ .dormant) →
      answers (.localBoundary d r) s fun t =>
        t.now = max s.now n ∧ othersKept s t d ∧ (t.dev d).awake = true ∧
        (t.dev d).sweep = (s.dev d).nextSweep ∧ (t.dev d).lastB = n ∧ (t.dev d).health = h ∧ (t.dev d).useW = u ∧
        (t.dev d).sampleNo = 0 ∧ (t.dev d).header = none ∧ (t.dev d).seen = [] ∧ (t.dev d).sawE = none ∧ (t.dev d).sawW = none ∧
        (t.dev d).flywheel = (if h = 2 then (s.dev d).flywheel + 1 else 0) ∧
        (t.dev d).unsync = ((s.dev d).unsync && decide (h = 2)) ∧
        ((s.dev d).coreReset = none → (t.dev d).reactPend = [] ∧
          ∀ c ∈ (t.dev d).commitPend, c ∈ (s.dev d).commitPend ∧ (s.dev d).nextSweep < c.sweep)) ∧
    (∀ (p : RPort) (l : Nat), (s.dev d).isHead = false → ((s.dev d).port p).st = .up → ((s.dev d).port p).held = false →
      l = latNs (if p = .E then (s.dev d).latW else (s.dev d).latE) →
      ((s.dev d).unsync = true ∨ (s.dev d).nextB = none ∨
        ∃ b, (s.dev d).nextB = some b ∧ b + l ≤ s.now + 16000 + 200 ∧ s.now + 16000 ≤ b + l + 200) →
      answers (.meridianArrival d p) s fun t =>
        deviceBecomes s t d (let x := (s.dev d).modPort (rportOther p) (·.sendMark (s.now + latNs (some ((s.dev d).port p).fwd)))
          if p = .E then { x with sawW := some s.now } else { x with sawE := some s.now }) s.now ∧
        (((s.dev d).port (rportOther p)).st = .up → ((s.dev d).port (rportOther p)).held = false →
          ((t.dev d).port (rportOther p)).markAt = some (s.now + latNs (some ((s.dev d).port p).fwd)))) ∧
    (8 ≤ (s.dev d).flywheel → (s.dev d).unsync = false →
      answers (.declareUnsynchronised d) s fun t =>
        (t.dev d).body = { s.dev d with unsync := true }.body ∧ othersKept s t d ∧
        (∀ p, s.pw.running = true → (s.dev d).pos = some p → (s.dev 0).events = [] → faulted [.devices] s t ⟨0x19, 3, p, p⟩)) ∧
    (64 ≤ (s.dev d).prefRun → (s.dev d).useW ≠ (s.dev d).prefW →
      answers (.returnToPreferredDirection d) s fun t =>
        deviceBecomes s t d { s.dev d with useW := (s.dev d).prefW } s.now)

/-- Samples (R54, R101, R192, R197): sample j completes j periods of 62.5 µs after the boundary; the head holds the shunt
sample and puts it into record 188; OC_N samples beyond a limit assert S_ERR, raise OVERCURR and trip. -/
def Obligations.SamplesAreTaken : Prop :=
  ∀ (s : State) (d : Nat), (s.dev d).awake = true →
    (∀ (raw : List RawSample) (n : Nat), (s.dev d).calibrated = true → (s.dev d).measuring = true →
      (s.dev d).sampleNo < periodSamples (s.dev d).period → n = (s.dev d).lastB + ((s.dev d).sampleNo + 1) * 62500 →
      answers (.sampleComplete d raw) s fun t =>
        t.now = max s.now n ∧ (t.dev d).sampleNo = (s.dev d).sampleNo + 1 ∧ othersKept s t d ∧
        ((s.dev d).isHead = false → d ≠ 0 → deviceBecomes s t d
          { ((s.dev d).arbSample raw).cellSamples raw n with sampleNo := (s.dev d).sampleNo + 1 } n) ∧
        (∀ (code : Int) (ovl : Bool), d = 0 → (s.dev 0).isHead = true → ((s.dev 0).mod 26).conn ≠ none → s.pw.running = true →
          (s.dev 0).events = [] → 188 < (s.dev 0).accs.length →
          ovl = (clipShunt (raw.getD 26 ⟨0, .none⟩)).2 →
          code = (s.dev 0).scaleShunt (clipShunt (raw.getD 26 ⟨0, .none⟩)).1 ovl →
          t.der.shunt = ⟨n, code, ovl, (clipShunt (raw.getD 26 ⟨0, .none⟩)).1⟩ :: s.der.shunt ∧
          ((s.dev 0).shuntFill = 0 → (t.dev 0).acc 188
            = (((s.dev 0).acc 188).add code).flag (fun f => { f with ovr := f.ovr || ovl })) ∧
          ((s.dev 0).shuntFill ≠ 0 → (t.dev 0).acc 188 = { (s.dev 0).acc 188 with row1 := true } ∧
            (t.dev 0).shuntFill = (s.dev 0).shuntFill - 1))) ∧
    (∀ dir, d = 0 → s.pw.running = true →
      (match dir with
        | .discharge => (s.dev 0).par Fld.ocN 0 ≤ (s.dev 0).ocDis ∧ (s.dev 0).ocCause.1 = false
        | .charge => (s.dev 0).par Fld.ocN 0 ≤ (s.dev 0).ocChg ∧ (s.dev 0).ocCause.2 = false) →
      answers (.shuntOvercurrent dir) s fun t =>
        (t.dev 0).ocCause = (match dir with
          | .discharge => (true, (s.dev 0).ocCause.2)
          | .charge => ((s.dev 0).ocCause.1, true)) ∧
        (t.dev 0).sErr = true ∧ t.saf.sErr = true ∧ t.saf.tripLatch = true ∧ t.saf.armed = false ∧
        (∀ c ∈ t.saf.ch, c.energised = false) ∧ othersKept s t 0 ∧
        ((s.dev 0).events = [] → faulted [.devices, .inputs] s t (match dir with
          | .discharge => ⟨0x0E, 1, 0, 0⟩
          | .charge => ⟨0x0E, 2, 0, 0⟩)))

/-- The Survey (R130, R131, R137, R148, R149): an entry that completes delivers the mean of its repeats to the record of its
channel; what starts next starts at once and ends by B + P - 5 µs, behind a spot reading that waits; a spot reading
starts at an entry boundary, and its result is held for upstream. -/
def Obligations.SurveyRuns : Prop :=
  ∀ (s : State) (d n : Nat) (r : Running), (s.dev d).awake = true →
    (∀ results, (s.dev d).sv.running = some r → r.spotSlot = none → n = r.since + 1000 * eDuration r.entry →
      answers (.surveyEntryEnd d results) s fun t =>
        deviceBecomes s t d (((((s.dev d).entryResult r n (results.take (eRepeats r.entry))).owCurrentEnd r.entry n).entryTimely.advance
          r.entry).schedule n) n ∧
        (∀ c, eChan r.entry < 0x18 → eOwPass r.entry = false → (s.dev d).benchTouched (eChan r.entry) r.since = false →
          c = (s.dev d).benchResult (eChan r.entry) (meanOf (results.take (eRepeats r.entry))) →
          24 + eChan r.entry < (s.dev d).accs.length →
          (t.dev d).acc (24 + eChan r.entry)
            = (((s.dev d).acc (24 + eChan r.entry)).add c.1).flag (fun f => { f with ovr := f.ovr || c.2 })) ∧
        (∀ q, (t.dev d).sv.running = some q → q.since = n ∧ q.spotSlot = none ∧ (s.dev d).sv.spots = [] ∧
          n + 1000 * eDuration q.entry + 5000 ≤ (s.dev d).lastB + 1000 * periodUs (s.dev d).period)) ∧
    (∀ p rest, (s.dev d).sv.running = none → (s.dev d).sv.occ = none → (s.dev d).sv.slotAt = some n →
      (s.dev d).sv.spots = p :: rest → n + 1000 * eDuration p.entry + 5000 ≤ (s.dev d).lastB + 1000 * periodUs (s.dev d).period →
      answers (.spotReadingStart d) s fun t =>
        deviceBecomes s t d ((s.dev d).modSv fun v => { v with
          running := some ⟨p.entry, some p.slot, n⟩, slotAt := none }) n) ∧
    (∀ results slot, (s.dev d).sv.running = some r → r.spotSlot = some slot → n = r.since + 1000 * eDuration r.entry →
      answers (.spotReadingComplete d results) s fun t =>
        deviceBecomes s t d (((((s.dev d).spotResult r slot n (results.take (eRepeats r.entry))).owCurrentEnd r.entry n).modSv
          fun v => { v with spots := v.spots.drop 1 }).schedule n) n ∧
        (t.dev d).sv.spots = (s.dev d).sv.spots.drop 1 ∧
        ∃ i, (t.dev d).spotItems = (s.dev d).spotItems ++ [i] ∧ i.kind = 0xC0 ∧ i.tag = (s.dev d).sweep % 256)

/-- Calibration (R92, R95, R154 to R157, R160, R162, R164, R185, R188, R189): factors are written to every modulator, or to
the one that a cover has calibrated, which is handed back or, outside its limits, fails; a halt ends after 24 h; a
recalibration falls due and ends; a self-test takes its steps and answers at its end. -/
def Obligations.CalibrationRuns : Prop :=
  ∀ (s : State) (d : Nat), (s.dev d).awake = true →
    (∀ cal n, (s.dev d).calibrated = false → n = (s.dev d).startAt + 160000000 →
      answers (.selfCalibrationComplete d cal) s fun t =>
        deviceBecomes s t d (({ (s.dev d).applyCal cal 0 n with calibrated := true }).modSv fun v => { v with recalFrom := n }) n ∧
        (∀ m, m < 26 → m < (s.dev d).mods.length → ((t.dev d).mod m).ofs = (cal.mods.getD m ⟨0, 0x40000000, 0⟩).ofs ∧
          ((t.dev d).mod m).gain = (cal.mods.getD m ⟨0, 0x40000000, 0⟩).gain ∧ ((t.dev d).mod m).writtenAt = some n ∧
          ((t.dev d).mod m).temp = cal.temp ∧ ((t.dev d).mod m).src = 0) ∧
        (∀ k, k < 24 → k < (s.dev d).cells.length →
          ((t.dev d).cell k).source = some (((s.dev d).cell k).subst.getD k))) ∧
    (∀ cal temp c h, (s.dev d).cover = some c → c.phase = 1 → c.calEnd ≤ (s.dev d).sweep → h = (s.dev d).homeMod c.cell →
      answers (.rollingCalPhaseEnd d cal temp) s fun t => othersKept s t d ∧
        (calWithin cal.ofs cal.gain = true → deviceBecomes s t d { ((s.dev d).writeCal h cal temp 1 s.now).connect h c.cell with
          cover := some { c with phase := 3 } } s.now) ∧
        (calWithin cal.ofs cal.gain = false → (t.dev d).cover = none ∧ (t.dev d).rollNext = ((s.dev d).rollNext + 1) % 26 ∧
          (h < (s.dev d).mods.length → ((t.dev d).mod h).failed = true) ∧
          (c.cell < (s.dev d).cells.length →
            ((s.dev d).autosub = true ∨ 24 ≤ h → ((t.dev d).cell c.cell).source = some c.rm ∧
              ((t.dev d).cell c.cell).subst = some c.rm) ∧
            ((s.dev d).autosub = false → h < 24 → ((t.dev d).cell c.cell).source = ((s.dev d).cell c.cell).source ∧
              ((t.dev d).cell c.cell).failInv = true)))) ∧
    (∀ n, (s.dev d).rollHalt = some n → answers (.rollingCalHaltExpiry d) s fun t =>
      deviceBecomes s t d { s.dev d with rollHalt := none } (n + 86400000000000)) ∧
    ((s.dev d).calibrated = true → (s.dev d).sv.recalDue = false → answers (.benchmarkRecalDue d) s fun t =>
      deviceBecomes s t d ((s.dev d).modSv fun v => { v with recalDue := true })
        ((s.dev d).sv.recalFrom + 1000000000 * (s.dev d).par Fld.bcalInt 0)) ∧
    (∀ o n, (s.dev d).sv.occ = some o → (o = .recal ∧ n = (s.dev d).lastB + 400000
        ∨ (∃ k, o = .maintenance k) ∧ n = (s.dev d).lastB + 1000 * periodUs (s.dev d).period - 5000) →
      answers (.benchmarkOccupationEnd d) s fun t =>
        deviceBecomes s t d (((s.dev d).modSv fun v => { v with occ := none }).schedule n) n ∧ (t.dev d).sv.occ = none) ∧
    (∀ r k y, (s.dev d).sv.occ = some (.maintenance k) → (s.dev d).sv.test = some y → y.running = true →
      answers (.maintenanceSweep d r) s fun t => othersKept s t d ∧
        (t.dev d).body = { s.dev d with sv := (t.dev d).sv, accs := (t.dev d).accs }.body ∧
        (d ≠ 0 → r.pass = false →
          Item.mk 0xC2 1 (.event 7 0x0A k ((s.dev d).sweep % 2 ^ 32) (Config.openFaultValue (s.dev d).sweep) 0) ∈ (t.dev d).events) ∧
        (k < 11 → (t.dev d).sv.test = some { y with
          step := k + 1, results := y.results ++ [r.pass], running := false
          bad := if 8 ≤ k ∧ k ≤ 10 then y.bad ++ r.badTaps else y.bad }) ∧
        (11 ≤ k → (t.dev d).sv.test = none)) ∧
    (∀ r y n, (s.dev d).sv.occ = some .full → (s.dev d).sv.test = some y → n = y.since + 1200000000 →
      answers (.fullSelfTestEnd d r) s fun t => othersKept s t d ∧ t.now = max s.now n ∧
        (t.dev d).sv.test = none ∧ (t.dev d).sv.occ = none ∧
        (∀ m, m < 26 → m < (s.dev d).mods.length → ((t.dev d).mod m).ofs = (r.cal.mods.getD m ⟨0, 0x40000000, 0⟩).ofs ∧
          ((t.dev d).mod m).gain = (r.cal.mods.getD m ⟨0, 0x40000000, 0⟩).gain ∧ ((t.dev d).mod m).src = 2)) ∧
    (∀ (a : Asker) (p : Nat) (c : Instr), s.pw.running = true → (s.dev d).pos = some p → smapGet s.der.tests p = some a →
      (s.port a.host).frozen = false → (s.port a.host).areaUse true + 28 ≤ 8192 →
      ((∃ k y r, (s.dev d).sv.occ = some (.maintenance k) ∧ 11 ≤ k ∧ (s.dev d).sv.test = some y ∧ y.running = true ∧
          c = .maintenanceSweep d r)
        ∨ ∃ y r, (s.dev d).sv.occ = some .full ∧ (s.dev d).sv.test = some y ∧ c = .fullSelfTestEnd d r) →
      answers c s fun t => ∃ m, (t.port a.host).staged = (s.port a.host).staged ++ [m] ∧ m.pair = a.pair ∧ m.code = 0x8107 ∧
        m.event = true ∧ m.body.length = 24 ∧ m.body.take 4 = leBytes 2 a.tag ++ leBytes 2 St.ok)

/-- Bleeding (R218, R221, R230, R233, R235): admitted switches turn on 2 µs after the boundary and off at t_off; a timer that
has run out, a gate that fails and BAL_SIL without a frame end the bleed. -/
def Obligations.BleedingStops : Prop :=
  ∀ (s : State) (d n : Nat), (s.dev d).awake = true →
    ((s.dev d).measuring = true → (s.dev d).par Fld.balQuiet 0 ≠ 0 → 0 < (s.dev d).tc →
      (n = (s.dev d).lastB + 2000 → answers (.bleedOnEdge d) s fun t =>
        deviceBecomes s t d { s.dev d with cells := (t.dev d).cells, snd := (t.dev d).snd } n ∧
        ∀ k, (t.dev d).cell k = if k < 24 ∧ ((s.dev d).cell k).admitted = true ∧ ((s.dev d).cell k).active = true
          ∧ (s.dev d).keyed k = false then ((s.dev d).cell k).drive true n else (s.dev d).cell k) ∧
      (n = (s.dev d).lastB + 2000 + (s.dev d).tc → answers (.bleedOffEdge d) s fun t =>
        deviceBecomes s t d { s.dev d with cells := (t.dev d).cells, snd := (t.dev d).snd } n ∧
        ∀ k, (t.dev d).cell k = if k < 24 ∧ ((s.dev d).cell k).gate = true ∧ (s.dev d).keyed k = false then
          ((s.dev d).cell k).drive false n else (s.dev d).cell k)) ∧
    (∀ k, k < (s.dev d).cells.length → ((s.dev d).cell k).active = true → ((s.dev d).cell k).remain = 0 →
      (s.dev d).byKeyed k = false → (s.dev d).keyed k = false → s.now = (s.dev d).lastB →
      answers (.balanceTimerExpiry d k) s fun t =>
        deviceBecomes s t d ((s.dev d).endBleed k s.now 1) s.now ∧
        ((t.dev d).cell k).gate = false ∧ ((t.dev d).cell k).active = false ∧ ((t.dev d).cell k).remain = 0 ∧
        ((t.dev d).cell k).ended = 1) ∧
    (∀ k, ((s.dev d).cell k).active = false ∨ ((s.dev d).cell k).remain ≠ 0 ∨ (s.dev d).byKeyed k = true ∨ s.now ≠ (s.dev d).lastB →
      answers (.balanceTimerExpiry d k) s fun t => deviceBecomes s t d (s.dev d) s.now) ∧
    (∀ k, k < (s.dev d).cells.length → ((s.dev d).cell k).gateBad = false → answers (.gateFault d k .differs) s fun t =>
      deviceBecomes s t d ((s.dev d).modCell k fun c => { c with gateBad := true, edgeAt := some s.now }) s.now) ∧
    (∀ k, k < (s.dev d).cells.length → answers (.gateFault d k .fault) s fun t =>
      deviceBecomes s t d (({ (s.dev d).gateDiffers k s.now with snd := (t.dev d).snd }.modCell k fun c =>
        { c.endBleed s.now 3 with gateFlt := true }).report true 0x0C 1 (k + 1) 0) s.now ∧
      ((t.dev d).cell k).gateBad = true ∧
      ((t.dev d).cell k).gate = false ∧ ((t.dev d).cell k).active = false ∧ ((t.dev d).cell k).gateFlt = true ∧
      (d = 0 → s.upWorks = true → (s.dev 0).pos = some 0 → (s.dev 0).events = [] →
        faulted [.devices] s t ⟨0x0C, 1, 0, k + 1⟩)) ∧
    (∀ k, ((s.dev d).cell k).gateBad = true → answers (.gateFault d k .agrees) s fun t =>
      deviceBecomes s t d ((s.dev d).modCell k fun c => { c with gateBad := false, gateFlt := false, edgeAt := some s.now }) s.now) ∧
    (∀ n0, (s.dev d).silence = some n0 → n = n0 + 10000000 * (s.dev d).par Fld.balSil 0 →
      answers (.bleedSilenceExpiry d) s fun t =>
        deviceBecomes s t d { s.dev d with
          cells := (s.dev d).cells.map (fun (c : Cell) => { c.endBleed n 3 with held := none }), snd := (t.dev d).snd, silence := none
          bleedOff := true, silenceRep := some ((s.dev d).sweep % 2 ^ 32) } n ∧
        ∀ k, ((t.dev d).cell k).gate = false ∧ ((t.dev d).cell k).active = false)

/-- A Sounding at its device (R204, R209, R210, R269): the keyed switches toggle at each edge, an aborted or stopped one stays
off; at the end of the integration the keying stops, each cell's sums wait for upstream, and an aborted bin runs once more. -/
def Obligations.SoundingsAreKeyed : Prop :=
  ∀ (s : State) (d b n : Nat) (x : Sounding), (s.dev d).awake = true → (s.dev d).snd = some x → x.bin = some b →
    (∀ e, e = x.edges + 1 → e < 2 * ((s.dev d).par Fld.sndSettle 0 + binCycles x.cycles b) →
      n = x.since + e * (binCycle b / 2) * 62500 →
      answers (.soundingKeyingEdge d) s fun t =>
        deviceBecomes s t d { s.dev d with snd := some { x with edges := e }, cells := (t.dev d).cells } n ∧
        ∀ k, k < (s.dev d).cells.length → (t.dev d).cell k =
          if k < 24 ∧ (s.dev d).keyed k = true ∧ ¬ (e % 2 = 0 ∧ ((s.dev d).keyStop k = true ∨ x.aborted.contains k = true)) then
            ((s.dev d).cell k).drive (decide (e % 2 = 0)) n else (s.dev d).cell k) ∧
    (∀ sums, n = x.since + (((s.dev d).par Fld.sndSettle 0 + binCycles x.cycles b) * binCycle b + 1) * 62500 →
      answers (.soundingIntegrationEnd d sums) s fun t =>
        deviceBecomes s t d { s.dev d with
          snd := (t.dev d).snd, cells := (t.dev d).cells, sndItems := (t.dev d).sndItems } n ∧
        (∃ y, (t.dev d).snd = some y ∧ y.bin = none ∧
          ∀ k ∈ x.wants x.group b,
            (x.aborted.contains k = true → x.redo.contains (k, b) = false → (k, b) ∈ y.redo) ∧
            (x.aborted.contains k = false ∨ x.redo.contains (k, b) = true → (k, b) ∈ y.done)) ∧
        (t.dev d).sndItems = (s.dev d).sndItems ++ (x.wants x.group b).map (fun k =>
          Item.mk 0xC1 (k + 1 + 32 * b) (.sounding
            ((sums.find? (fun c => decide (c.cell = k + 1))).getD ⟨k + 1, 0, 0, 0⟩).a
            ((sums.find? (fun c => decide (c.cell = k + 1))).getD ⟨k + 1, 0, 0, 0⟩).b
            ((sums.find? (fun c => decide (c.cell = k + 1))).getD ⟨k + 1, 0, 0, 0⟩).vOn (b2n (x.aborted.contains k)))) ∧
        ∀ k ∈ x.wants x.group b, ((t.dev d).cell k).gate = false)

/-! ### Items (R268 to R276) -/

/-- Items travel (R151, R268, R270, R274, R276, R295): a member sends what waits at B + 25 µs, and the head's own S-die hands
its items over; a frame next in order acts, one ahead of its turn is held, one that has passed does not act again; at the
end of its sweep a missing frame is declared lost; a silent position's sensors are stale; a lost spot reading is answered. -/
def Obligations.ItemsTravel : Prop :=
  ∀ (s : State) (d p n : Nat),
    ((s.dev d).awake = true → (s.dev d).pos = some p → (s.dev d).coreReset = none → (s.dev d).unsync = false →
      (s.dev d).nextB ≠ none → n = (s.dev d).lastB + 25000 →
      ((s.dev d).isHead = false → answers (.itemsSend d) s fun t =>
        deviceBecomes s t d ((s.dev d).dropOld.sendItems (max s.now n) p) n) ∧
      (d = 0 → s.upWorks = true → (s.dev 0).dropOld.outItems = [] → 0 < s.poss.length → answers (.itemsSend 0) s fun t =>
        t.now = max s.now n ∧ (t.posTrack 0).lastSweep = s.sweep ∧ (t.dev 0).body = (s.dev 0).dropOld.body ∧
        othersKept s t 0 ∧ kept (.devices :: .positions :: tripParts) s t)) ∧
    (∀ (q : RPort) (f : Frame) (l : List Item) (k : PosTrack), s.upWorks = true → frameValid f = true →
      f.dest = 0 → ((s.dev 0).port q).carries f = true → f.payload = .items l → p = f.src → p ≠ 0 → s.adopted p = true →
      p < s.poss.length → 1 ≤ l.length → l.length ≤ 56 → f.wrap = false → reportsBreak l = false → s.linkBroken = false →
      k = { s.posTrack p with lastSweep := s.sweep, silent := false } →
      (∀ m ahead, k.nextSeq = some m → ahead = (f.seq + 65536 - m) % 65536 → 1 ≤ ahead → ahead ≤ 64 →
        (∀ y ∈ k.heldF, y.1 ≠ m ∧ y.1 ≠ f.seq) → answers (.itemsFrame q f) s fun t =>
          t.posTrack p = { k with nextSeq := some m, heldF := k.heldF ++ [(f.seq, l)] } ∧
          kept (.devices :: .positions :: tripParts) s t) ∧
      (∀ m, k.nextSeq = some m → 32768 ≤ (f.seq + 65536 - m) % 65536 → answers (.itemsFrame q f) s fun t =>
          t.posTrack p = k ∧ kept (.devices :: .positions :: tripParts) s t) ∧
      ((k.nextSeq = none ∨ k.nextSeq = some f.seq) → k.heldF = [] → k.openLoss = false → l = [⟨0xC5, 0, .alive⟩] →
        answers (.itemsFrame q f) s fun t =>
          t.posTrack p = { k with nextSeq := some ((f.seq + 1) % 65536), heldF := [] } ∧
          kept (.devices :: .positions :: tripParts) s t) ∧
      (∀ e r, (k.nextSeq = none ∨ k.nextSeq = some f.seq) → k.heldF = [] → k.openLoss = false →
        l = [⟨r, s.sweep % 256, .entry e⟩] → r < 192 → 1 ≤ e.count → (s.track (atlasIdx p r)).done = none → s.recPresent p r = true →
        answers (.itemsFrame q f) s fun t =>
          (t.track (atlasIdx p r)).done = some s.sweep ∧
          (t.atlasGet (atlasIdx p r)).sum = e.sum ∧ (t.atlasGet (atlasIdx p r)).count = e.count ∧
          (t.atlasGet (atlasIdx p r)).min = e.min ∧ (t.atlasGet (atlasIdx p r)).max = e.max)) ∧
    (∀ q m, s.pw.running = true → p < s.poss.length → (s.posTrack p).heldF = [(q, [⟨0xC5, 0, .alive⟩])] →
      (s.posTrack p).nextSeq = some m →
      answers (.seqLossTimeout p) s fun t => t.now = max s.now (s.swp.nextB - 70000) ∧
        t.posTrack p = { s.posTrack p with openLoss := true, heldF := [], nextSeq := some ((q + 1) % 65536) } ∧
        kept (.positions :: tripParts) s t) ∧
    (s.pw.running = true → p ≠ 0 → p < s.poss.length → s.adopted p = true → (s.posTrack p).silent = false →
      ((s.posTrack p).lastSweep + 8 ≤ s.sweep ∨ s.cutOff p = true) →
      answers (.positionSilent p) s fun t =>
        (t.posTrack p).silent = true ∧ (∀ i, i < 32 → s.thRole p i ≠ 0 → t.hasCause ⟨5, 3, p, i + 1⟩ = true) ∧
        kept (.positions :: .tracks :: faultParts) s t) ∧
    (∀ (slot : Nat) (x : SpotSlot), s.pw.running = true → s.der.spots.getD slot none = some x → x.answered = false →
      (s.port x.host).frozen = false → (s.port x.host).areaUse true + 36 ≤ 8192 →
      answers (.spotResultLost slot) s fun t =>
        t.now = max s.now (x.acceptAt + max (8 * s.periodNs) 100000000) ∧
        t.der = { s.der with spots := modAt s.der.spots slot (fun _ => some { x with answered := true }) } ∧
        (t.port x.host).body = { (s.port x.host).body with
          staged := (s.port x.host).staged ++ [⟨x.pair, 0x8106, true, leBytes 2 x.tag ++ leBytes 2 St.lost
            ++ (leBytes 1 x.pos ++ leBytes 1 slot ++ leBytes 1 (eChan x.entry) ++ [0] ++ leBytes 4 0 ++ leBytes 4 0
              ++ leBytes 16 0), 0⟩] } ∧
        kept (.derived :: .host x.host :: tripParts) s t)

/-! ### The head's sweep (R53 to R74, R264, R476, R511) -/

/-- The sweep of the head (R55, R58, R64, R66, R69, R74, R264, R476): the cut-off freezes the record, which leaves 20 µs later; the
reactions leave at their own cut-off; the mark reaches the S-die 16 µs before the boundary, and K28.1 leaves both its ports ahead
of the header; the boundary
begins the sweep, ends the hold, moves the epoch and activates the image that was due; overruns are reported. -/
def Obligations.SweepsTurn : Prop :=
  ∀ s : State, s.pw.running = true →
    (s.swp.hold = false → answers .commitCutOff s fun t =>
      t.now = max s.now (s.swp.nextB - 120000) ∧ t.swp = { s.quotaDue.swp with hold := true, record := s.frozenRecord } ∧
      ((s.swp.period ≠ 0 ∨ s.wrapped = false) → s.swp.reduced = false → s.quotaDue.swp = s.swp) ∧
      kept (.sweep :: tripParts) s t) ∧
    (∀ c m, s.swp.hold = true → s.swp.record = some c → (∀ r ∈ s.swp.sentRecords, r.epoch ≠ c.epoch) →
      m = { c with sweep := c.sweep % 2 ^ 32 } → answers .commitRecordSend s fun t =>
        t.now = max s.now (s.swp.nextB - 100000) ∧ t.swp.sentRecords = m :: s.swp.sentRecords ∧ othersKept s t 0 ∧
        (s.ringHead = true → s.swp.resends = [] → t.swp.seq = (s.swp.seq + 1) % 65536) ∧ t.swp.resends = [] ∧
        (s.d1Works = true → (s.dev 0).coreReset = none → s.swp.resends = [] → (∀ r ∈ (s.dev 0).commitPend, r.epoch ≠ m.epoch) → m.epoch ≠ (s.dev 0).epoch →
          (t.dev 0).commitPend = (s.dev 0).commitPend ++ [{ m with sweep := unwrap (s.dev 0).sweep (2 ^ 32) m.sweep }]) ∧
        kept (.sweep :: .devices :: tripParts) s t) ∧
    (∀ go wait, s.swp.reactCut = false → (go, wait) = splitReactions 56 s.swp.reactions →
      answers .reactionCutOff s fun t =>
        t.now = max s.now (s.swp.nextB - 30000) ∧ t.swp.reactCut = true ∧ t.swp.reactions = [] ∧
        t.swp.reactNext = wait ++ s.swp.reactNext ∧ othersKept s t 0 ∧
        (s.d1Works = true → (s.dev 0).coreReset = none → go ≠ [] →
          (t.dev 0).reactPend = (s.dev 0).reactPend ++ [⟨0, s.nextCount % 2 ^ 32, go⟩]) ∧
        kept (.sweep :: .devices :: tripParts) s t) ∧
    ((s.dev 0).awake = true → (s.dev 0).isHead = true → answers .meridianSend s fun t =>
      t.now = max s.now (s.swp.nextB - 16000) ∧ (t.dev 0).sawE = some (s.swp.nextB - 16000) ∧
      t.pw = { s.pw with markLost := false } ∧ (s.d1Works = true → (s.dev 0).coreReset = none → (t.dev 0).header = some s.headerMsg) ∧
      (∀ p, ((s.dev 0).port p).st = .up → ((s.dev 0).port p).held = false →
        ((t.dev 0).port p).markAt = some (s.swp.nextB - 16000 + latNs (some ((s.dev 0).port p).fwd))) ∧ othersKept s t 0 ∧
      kept (.power :: .sweep :: .devices :: tripParts) s t) ∧
    (∀ r, s.swp.landed.contains .dormant = false → answers (.sweepBoundary r) s fun t =>
      t.now = max s.now s.swp.nextB ∧ t.swp.boundary = t.now ∧ t.swp.count = some s.nextCount ∧
      t.swp.nextB = t.now + 1000 * periodUs t.swp.period ∧ t.swp.hold = false ∧ t.swp.reactCut = false ∧
      t.swp.deadline = false ∧ t.swp.tick = 0 ∧ t.swp.held = [] ∧
      t.swp.epoch = ((if s.swp.hold then s.swp.record else s.frozenRecord).map (·.epoch)).getD s.swp.epoch ∧
      t.leg.active.fields = s.dueFields) ∧
    (s.swp.count ≠ none → s.swp.deadline = false → answers .atlasDeadline s fun t =>
      t.now = max s.now (s.swp.boundary + s.periodNs - 60000) ∧ t.swp.deadline = true) ∧
    (∀ sub index, 2 ≤ sub → sub ≤ 5 → s.swp.count ≠ none → answers (.sweepOverrun 0 sub index) s fun t =>
      faulted [] s t ⟨0x1C, sub, 0, index⟩ ∧ (sub = 3 → t.swp.derivedLate = true) ∧ (sub = 4 → t.swp.evalLate = true) ∧
      (sub = 2 → index < 6144 → t.swp.lateIdx = index :: s.swp.lateIdx)) ∧
    (∀ d sub index x, (s.dev d).awake = true → (sub = 1 ∨ sub = 6) →
      x = (s.dev d).report true 0x1C sub index (Config.openFaultValue (s.dev d).sweep) →
      answers (.sweepOverrun d sub index) s fun t => deviceBecomes s t d (if sub = 6 then x.surveyLate s.now else x) s.now)

/-- What runs between the boundaries of the head (R71, R182, R304, R306, R335, R337, R349, R475, R479): a control tick takes
the KS readings, applies its outputs 20 µs after its start and, with the core halted, raises WATCHDOG 0x05; a relay tuning ends at its timeout; Contour steps; the
Gazetteer takes what waits; a system calibration ends and answers.
The Gazetteer keeps the newest 1,024 entries, in order, and DONE follows; with the core halted no slot is computed. -/
def Obligations.HeadTimersAct : Prop :=
  (∀ (s : State) (n : Nat), s.coreUp →
    (∀ dir a h c, (s.ctr.timers dir).1 = some a → s.ctr.tHot = some h → s.ctr.tCold = some c → s.ctr.failed = none →
      s.contourDown dir h c < s.ctr.pub dir → n = max s.now (a + 100000000 * s.par Fld.ctDwdn 0) →
      answers (.contourStepDown dir) s fun t => t.now = n ∧
        t.ctr = (s.ctr.setPub dir (s.ctr.pub dir - 1)).setTimers dir (some n, (s.ctr.timers dir).2) ∧
        kept (.contour :: tripParts) s t) ∧
    (∀ dir a, (s.ctr.timers dir).2 = some a → s.ctr.failed = none → s.ctr.pub dir < 15 →
      n = max s.now (a + 1000000000 * s.par Fld.ctDwup 0) →
      answers (.contourStepUp dir) s fun t => t.now = n ∧
        t.ctr = (s.ctr.setPub dir (s.ctr.pub dir + 1)).setTimers dir ((s.ctr.timers dir).1, some n) ∧
        kept (.contour :: tripParts) s t) ∧
    (∀ i a, s.ctr.failed = some (i, a) → n = max s.now (a + 100000000 * s.par Fld.ctDwdn 0) →
      answers .contourFailsafeDwell s fun t => t.now = n ∧ t.ctr = { s.ctr with pubC := 0, pubD := 0 } ∧
        kept (.contour :: tripParts) s t) ∧
    (∀ x, s.tuning = some x → x.o.method = 1 → x.o.slot < s.loops.length → n = max s.now (x.startAt + 1000000000 * x.o.timeout) →
      answers .tuningTimeout s fun t => t.now = n ∧ t.tuning = none ∧ (t.loop x.o.slot).tune = 3 ∧ (t.loop x.o.slot).abort = 4 ∧
        faulted [.loops, .tuning] s t ⟨0x14, 3, 0, x.o.slot + 1⟩) ∧
    (∀ c a iref, s.der.sysCal.find? (fun c => decide (c.chan = n) && c.measuring.isSome) = some c →
      c.measuring = some (0, a, iref) → (s.port c.host).frozen = false → s.calRefusal c 0 iref = 0 →
      answers (.sysCalMeasurementEnd n) s fun t => t.now = max s.now (a + 1000000000) ∧
        t.der = { s.der with sysCal := s.der.sysCal.filter (fun x => decide (x.chan ≠ n))
          ++ [{ c with measuring := none, acc := {}, zero := some (c.mean, t.now) }] } ∧
        (t.port c.host).body = { (s.port c.host).body with
          staged := (s.port c.host).staged ++ [⟨c.pair, 0x0108, false, leBytes 2 c.tag ++ leBytes 2 St.ok
            ++ (leBytes 4 (toBits 32 c.mean) ++ leBytes 4 c.spread ++ leBytes 4 c.acc.count ++ leBytes 4 0 ++ leBytes 4 0), 0⟩] } ∧
        kept (.derived :: .host c.host :: tripParts) s t) ∧
    (s.tickDue = true → ∀ ks, answers (.controlTick ks) s fun t =>
      t.now = max s.now (s.tickAt + 20000) ∧ t.swp.tick = s.swp.tick + 1 ∧
      ∀ k, k < 6 → k < s.saf.ch.length → (t.chan k).ks = ks.getD k 0)) ∧
  (∀ s : State, s.pw.running = true →
    (s.tickDue = true → s.pw.coreReset ≠ none → ∀ ks, answers (.controlTick ks) s fun t =>
      t.now = max s.now s.tickAt ∧ t.swp.tick = s.swp.tick + 1 ∧ t.hasCause ⟨0x1C, 5, 0, openDetail 0x1C 5 0⟩ = true ∧
      t.tuning = s.tuning ∧ t.pwm = s.pwm ∧ ∀ k, k < 6 → k < s.saf.ch.length → (t.chan k).ks = ks.getD k 0) ∧
    ((s.leg.gazPend ≠ [] ∨ s.leg.donePend = true) → answers .gazetteerWrite s fun t =>
      t.leg.gazPend = [] ∧ t.leg.donePend = false ∧ t.leg.gazSeq = s.leg.gazSeq + s.leg.gazPend.length ∧
      t.leg.gaz = ((s.leg.gazPend.zipIdx.map fun (x : GazRec × Nat) => { x.1 with seq := s.leg.gazSeq + x.2 }).reverse ++ s.leg.gaz).take 1024 ∧
      t.leg.active = (if s.leg.donePend then { s.leg.active with done := true } else s.leg.active) ∧
      kept (.legend :: tripParts) s t))

/-! ### Contactors, safety inputs, safe frames (R338 to R380) -/

/-- Contactor channels (R344, R345, R348, R349, R353, R354): a recognised closing in PULL times the hold; an opening in DROP ends
it; a closing or opening where none belongs, a limit reached without one, a coil out of its current and a pin against its
command raise their sub-codes and turn the drives off; a trip source drops every channel. -/
def Obligations.ContactorsAct : Prop :=
  ∀ (s : State) (n m : Nat) (c : Channel), s.pw.running = true → s.atRest → c = s.chan n →
    (∀ level, s.contUse n = true → c.kf = false → (level != bit (s.par Fld.contCfg n) 1) = true →
      (c.phase = .pull → s.now - c.t0 < s.tPi n → answers (.kfRecognised n level) s fun t =>
        t.chan n = { c with
          kf := true, holdAt := some (s.now + s.tHd n), tpi := min ((s.now - c.t0) / 1000000) 511 } ∧ kept tripParts s t) ∧
      (c.phase = .pull → s.tPi n ≤ s.now - c.t0 → answers (.kfRecognised n level) s fun t =>
        (t.chan n).energised = false ∧ faulted [] s t ⟨0x11, 1, 0, n + 1⟩) ∧
      ((c.phase = .opened ∨ c.phase = .blocked) → s.saf.weldDue = false → answers (.kfRecognised n level) s fun t =>
        faulted [] s t ⟨0x12, 2, 0, n + 1⟩)) ∧
    (∀ level, s.contUse n = true → c.kf = true → (level != bit (s.par Fld.contCfg n) 1) = false →
      (c.phase = .hold → answers (.kfRecognised n level) s fun t =>
        (t.chan n).phase = .blocked ∧ (t.chan n).kf = false ∧ faulted [] s t ⟨0x11, 2, 0, n + 1⟩) ∧
      (c.phase = .drop → s.now - c.t0 < s.tDo n → answers (.kfRecognised n level) s fun t =>
        t.chan n = { c with
          kf := false, phase := if c.ownFault then .blocked else .opened, tdo := min ((s.now - c.t0) / 2000000) 127 } ∧
        kept tripParts s t) ∧
      (c.phase = .drop → s.tDo n ≤ s.now - c.t0 → c.welded = false → answers (.kfRecognised n level) s fun t =>
        (t.chan n).phase = .drop ∧ (t.chan n).welded = true ∧ faulted [] s t ⟨0x12, 1, 0, n + 1⟩)) ∧
    (c.phase = .pull → c.holdAt = none → answers (.pullInTimeout n) s fun t =>
      t.now = max s.now (c.t0 + s.tPi n) ∧ (t.chan n).energised = false ∧ (t.chan n).tpi = min (s.tPi n / 1000000) 511 ∧
      faulted [] s t ⟨0x11, 1, 0, n + 1⟩) ∧
    (c.phase = .pull → c.holdAt = some m → answers (.holdDelayEnd n) s fun t => t.now = max s.now m ∧
      (c.kf = true → t.chan n = { c with phase := .hold, holdAt := none } ∧ kept tripParts s t) ∧
      (c.kf = false → (t.chan n).phase = .blocked ∧ faulted [] s t ⟨0x11, 2, 0, n + 1⟩)) ∧
    (c.phase = .drop → c.welded = false → answers (.dropOutTimeout n) s fun t =>
      t.now = max s.now (c.t0 + s.tDo n) ∧ (t.chan n).phase = .drop ∧ (t.chan n).welded = true ∧
      faulted [] s t ⟨0x12, 1, 0, n + 1⟩) ∧
    (s.contUse n = true → c.energised = true → c.lowAt = some m → answers (.coilCurrentTimeout n) s fun t =>
      t.now = max s.now (m + 20000000) ∧ (t.chan n).energised = false ∧ faulted [] s t ⟨0x13, 1, 0, n + 1⟩) ∧
    (s.contUse n = true → c.energised = false → c.highAt = some m → answers (.coilCurrentTimeout n) s fun t =>
      t.now = max s.now (m + 20000000) ∧ faulted [] s t ⟨0x13, 3, 0, n + 1⟩) ∧
    (s.contUse n = true → n < s.saf.ch.length → answers (.coilPinMismatch n true) s fun t =>
      (t.chan n).pinBad = true ∧ (t.chan n).energised = false ∧ faulted [] s t ⟨0x13, 4, 0, n + 1⟩) ∧
    (answers (.coilPinMismatch n false) s fun t => t.chan n = { c with pinBad := false } ∧ kept tripParts s t) ∧
    (∀ src, (src = .sErr ∨ s.tripBit src = true) → answers (.tripSourceAssert src) s fun t =>
      t.saf.tripLatch = true ∧ t.saf.armed = false ∧ (∀ x ∈ t.saf.ch, x.energised = false) ∧
      (src = .sErr → t.saf.sErr = true) ∧ kept (.inputs :: tripParts) s t)

/-- Two-channel inputs (R356 to R366): losing one channel makes a trip input SAFE and trips; both channels in time make it
ACTIVE again under automatic restart; a discrepancy sets its latch; RESTART releases the trip latch and arms once no
source stands; it idles after 100 ms and is reported stuck after 10 s; a COUPLED input starts its session after CPL_T. -/
def Obligations.InputsAct : Prop :=
  ∀ (s : State) (i n : Nat), s.pw.running = true → i < s.saf.inputs.length →
    (∀ (c : SiChan) (level : Bool) (u : State), u = s.modInput i (fun x => match c with
        | .A => { x with a := level }
        | .B => { x with b := level }) →
      (s.siActive i = (true, true) → (u.siActive i).1 ≠ (u.siActive i).2 → i < 4 → s.siRole i = 1 → (s.input i).act = true →
        answers (.safetyChannelRecognised i c level) s fun t =>
          (t.input i).act = false ∧ (t.input i).discAt = some s.now ∧ t.saf.tripLatch = true ∧ t.saf.armed = false ∧
          (∀ x ∈ t.saf.ch, x.energised = false) ∧ faulted [.inputs] s t ⟨0x10, 2, 0, i + 1⟩) ∧
      (s.siActive i ≠ (true, true) → u.siActive i = (true, true) → (s.input i).discAt = some n →
        (s.siTd i ≤ s.now - n → s.siRole i = 1 → i < 4 → answers (.safetyChannelRecognised i c level) s fun t =>
          (t.input i).disc = true ∧ (t.input i).act = false ∧ (t.input i).discAt = none ∧
          faulted [.inputs] s t ⟨0x10, 1, 0, i + 1⟩) ∧
        (s.now - n < s.siTd i → (s.input i).wasActive = false → (s.input i).disc = false →
          (i < 4 → s.siAuto i = true → (s.input i).act = false → answers (.safetyChannelRecognised i c level) s fun t =>
            (t.input i).act = true ∧ (t.input i).discAt = none ∧ (t.input i).skew = (s.now - n) / 50000 ∧
            kept (.inputs :: .collector :: tripParts) s t) ∧
          (i = 4 → (s.input 4).idleBefore = true → (s.input 4).act = false → s.tripMask = 0 →
            answers (.safetyChannelRecognised 4 c level) s fun t =>
              t.saf.armed = true ∧ t.saf.tripLatch = false ∧ (t.input 4).act = true ∧
              kept (.inputs :: .collector :: tripParts) s t)))) ∧
    ((s.input i).discAt = some n → (i < 4 ∧ s.siRole i = 1 ∨ i = 4 ∧ s.siRole 4 ≠ 2) →
      answers (.safeinDiscrepancyTimeout i) s fun t =>
        t.now = max s.now (n + s.siTd i) ∧ (t.input i).disc = true ∧ (t.input i).act = false ∧ (t.input i).discAt = none ∧
        faulted [.inputs] s t ⟨0x10, 1, 0, i + 1⟩) ∧
    ((s.input 4).safeAt = some n → s.siNone 4 = true → (s.input 4).idle = false → answers .restartIdleTimer s fun t =>
      t.now = max s.now (n + 100000000) ∧ t.input 4 = { s.input 4 with idle := true } ∧ kept (.inputs :: tripParts) s t) ∧
    ((s.input 4).pressedAt = some n → s.siBoth 4 = true → answers .restartStuck s fun t =>
      t.now = max s.now (n + 10000000000) ∧ t.input 4 = { s.input 4 with stuck := true } ∧
      faulted [.inputs] s t ⟨0x1F, 1, 0, openDetail 0x1F 1 0⟩) ∧
    (s.saf.cplAt = some n → s.saf.coupled = false → answers .couplingTimer s fun t =>
      t.now = max s.now (n + 1000000 * s.par Fld.cplT 0) ∧ t.saf.coupled = true ∧
      (s.ses.st = .idle → t.ses.st = .connecting ∧ t.ses.number ≠ 0 ∧ t.ses.number ≠ s.pw.prevSession ∧ t.ses.ownSeq = 1 ∧
        t.pw.prevSession = t.ses.number) ∧
      (s.ses.st ≠ .idle → t.ses = s.ses) ∧
      kept (.draws :: .power :: .inputs :: .session :: .host .A :: .host .B :: .queues :: tripParts) s t)

/-- Safe frames (R372, R374, R375): each SF_TPER a CONNECT or STATUS with the next sequence number is formed; SF_TEXP without an
accepted frame, and SF_TCON without an ACCEPT, fail the session, which begins anew with another number while coupled; 1 s
after a DISCONNECT a coupled combination begins again. -/
def Obligations.SessionTimersAct : Prop :=
  ∀ (s : State) (n : Nat), s.coreUp →
    (∀ type, n = max s.now (s.ses.sentAt + 1000000 * s.par Fld.sfTper 0) →
      (s.ses.st = .connecting ∧ type = 0x51 ∨ s.ses.st = .accepted ∧ type = 0x53) →
      answers .safeFrameSendTimer s fun t => t.now = n ∧ t.ses.sentAt = n ∧ t.ses.ownSeq = (s.ses.ownSeq + 1) % 65536 ∧
        t.ses.st = s.ses.st ∧ t.ses.number = s.ses.number ∧
        ((s.port s.sfHost).frozen = false → (s.queue (rspQ s.sfHost 15)).opened = true →
          ∃ f, (t.port s.sfHost).safeOut = some f ∧ f.length = 24 ∧ field f 0 1 = type) ∧
        kept (.session :: .host s.sfHost :: .queues :: tripParts) s t) ∧
    (∀ c sub, (s.ses.st = .accepted ∧ c = .safeFrameTimeExpectation ∧ sub = 6
          ∧ n = max s.now (s.ses.accAt + 1000000 * s.par Fld.sfTexp 0)
        ∨ s.ses.st = .connecting ∧ c = .safeFrameConnectLimit ∧ sub = 7
          ∧ n = max s.now (s.ses.firstAt + 1000000000 * s.par Fld.sfTcon 0)) →
      answers c s fun t => t.now = n ∧
        (s.saf.coupled = false → t.ses = { s.ses with st := .failed }) ∧
        (s.saf.coupled = true → t.ses.st = .connecting ∧ t.ses.number ≠ 0 ∧ t.ses.number ≠ s.pw.prevSession ∧
          t.ses.ownSeq = 1) ∧
        faulted [.session, .host .A, .host .B, .queues] s t ⟨0x15, sub, 0, hostNum s.sfHost⟩) ∧
    (∀ m, s.ses.reconnectAt = some m → n = max s.now (m + 1000000000) →
      answers .sessionReconnectDelay s fun t => t.now = n ∧
        (s.saf.coupled = true → s.ses.st = .idle → t.ses.st = .connecting ∧ t.ses.number ≠ 0 ∧
          t.ses.number ≠ s.pw.prevSession ∧ t.ses.reconnectAt = none) ∧
        (¬ (s.saf.coupled = true ∧ s.ses.st = .idle) → t.ses = { s.ses with reconnectAt := none }) ∧
        kept (.draws :: .power :: .session :: .host .A :: .host .B :: .queues :: tripParts) s t)

/-! ### SENT (R387, R536 to R538) -/

/-- SENT channels (R387, R536, R538): a valid message ends the silence of its channel, a failing one counts, and SENT_N of them
raise SENT 0x01; no valid message for SENT_TMO raises 0x02; a supply in its limit raises 0x03, comes back 100 ms after its
restart, and 100 ms later without its limit clears 0x03; below 4.0 V on SENTVS every supply is off. -/
def Obligations.SentChannelsAct : Prop :=
  ∀ (s : State) (n m : Nat) (c : SentCh), s.pw.running = true → n < 8 → n < s.sent.length → c = s.sentCh n →
    (∀ msg, s.sentUse n = true → s.sentCheck n msg = 0 → answers (.sentMessage n msg) s fun t =>
      (t.sentCh n).lastAt = s.now ∧ (t.sentCh n).prevCal = some msg.cal ∧ (t.sentCh n).bad = 0 ∧ (t.sentCh n).good = c.good + 1 ∧
      t.hasCause ⟨0x0F, 2, 0, n + 1⟩ = false ∧ (10 ≤ c.good + 1 → t.hasCause ⟨0x0F, 1, 0, n + 1⟩ = false)) ∧
    (∀ msg, s.sentUse n = true → s.sentCheck n msg ≠ 0 → answers (.sentMessage n msg) s fun t =>
      t.sentCh n = { c with bad := c.bad + 1, good := 0, stBad := 0, stGood := 0, prevCal := none } ∧
      (s.par Fld.sentN 0 ≤ c.bad + 1 → t.hasCause ⟨0x0F, 1, 0, n + 1⟩ = true) ∧
      kept (.sent :: .chassis :: faultParts) s t) ∧
    (s.sentUse n = true → c.offAt = none → s.hasCause ⟨0x0F, 2, 0, n + 1⟩ = false → answers (.sentTimeout n) s fun t =>
      t.now = max s.now (c.lastAt + 1000000 * s.par Fld.sentTmo 0) ∧ faulted [.chassis] s t ⟨0x0F, 2, 0, n + 1⟩) ∧
    (c.supply = true → answers (.sentSupplyLimit n) s fun t =>
      t.sentCh n = { c with limited := true } ∧ faulted [.sent] s t ⟨0x0F, 3, 0, n + 1⟩) ∧
    (c.offAt = some m → answers (.sentSupplyOn n) s fun t =>
      t.now = max s.now (m + 100000000) ∧ kept (.sent :: tripParts) s t ∧
      t.sentCh n = (if s.sentSupplied n = true ∧ s.pw.sentvsLow = false ∧ s.saf.overTemp = false then { c with
          supply := true, offAt := none, onAt := some t.now, limited := false
          lastAt := t.now + 1000000 * s.par Fld.sentTstart 0, prevCal := none }
        else { c with offAt := none })) ∧
    (c.onAt = some m → answers (.sentSupplyRunTimer n) s fun t =>
      t.now = max s.now (m + 100000000) ∧ t.sentCh n = { c with onAt := none } ∧
      (c.limited = false → t.hasCause ⟨0x0F, 3, 0, n + 1⟩ = false) ∧ kept (.sent :: .collector :: tripParts) s t) ∧
    (∀ low, answers (.sentvsUndervoltage low) s fun t => t.pw = { s.pw with sentvsLow := low } ∧
      (low = true → (t.sentCh n).supply = false) ∧
      (low = false → s.sentUse n = true → s.sentSupplied n = true → s.saf.overTemp = false → c.offAt = none →
        (t.sentCh n).supply = true) ∧
      kept (.power :: .sent :: .collector :: tripParts) s t)

/-! ### Host ports (R408 to R433, R476, R478, R494, R505 to R515) -/

/-- Direct registers (R57, R405, R408, R413, R415, R428, R429, R430, R433, R494, R508, R509): SEM_TAKE takes what is free, SEM_GIVE gives
what is held; SWP_CTRL and ERR_CTRL land with the semaphore and SERVICE, are held after the cut-off, and freeze a port
without the semaphore; REQ lands; one written word acts where it belongs; a read answers; a bad CRC changes nothing. -/
def Obligations.RegistersAct : Prop :=
  ∀ (s : State) (h : HostId) (v : Word), s.pw.running = true → (s.port h).frozen = false →
    (answers (.semTake h v) s fun t => acked s t h 1 ∧ kept (.semaphores :: .host h :: tripParts) s t ∧
      ∀ k, k < 16 → k < s.sems.length → t.sems.getD k none =
        if v.toNat.testBit k = true ∧ s.sems.getD k none = none then some h else s.sems.getD k none) ∧
    (answers (.semGive h v) s fun t =>
      (∀ k, k < 16 → t.sems.getD k none =
        if v.toNat.testBit k = true ∧ s.sems.getD k none = some h then none else s.sems.getD k none) ∧
      ((∀ k ∈ [0, 2, 4, 6], v.toNat.testBit k = false) →
        acked s t h 1 ∧ kept (.semaphores :: .host h :: tripParts) s t)) ∧
    (∀ c a l, (c = .swpCtrlWrite h v ∧ a = 0x30 ∧ l = .swpCtrl (word (swpBits v.toNat)) ∧ swpRefused v.toNat = false
        ∨ c = .errCtrlWrite h v ∧ a = 0x40 ∧ l = .errCtrl (word (errBits v.toNat)) ∧ bits v.toNat 18 16 < 5) →
      (s.holds h 0 = true → 2 ≤ s.levelOf h → s.par Fld.lockReg 0 ≠ 1 → answers c s fun t =>
        acked s t h 1 ∧ kept (.sweep :: .host h :: tripParts) s t ∧
        t.swp = (if s.swp.hold then { s.swp with held := s.swp.held ++ [⟨h, a, v⟩] }
          else if a = 0x30 then { s.swp with shadow := word (swpBits v.toNat), landed := s.swp.landed ++ [l] }
          else { s.swp with errShadow := word (errBits v.toNat), landed := s.swp.landed ++ [l] })) ∧
      (s.holds h 0 = false → answers c s fun t =>
        (t.port h).frozen = true ∧ (t.port h).frzRsn = 1 ∧ (t.port h).level = 0 ∧ (t.port h).staged = [] ∧
        (∀ k, k < 16 → t.holds h k = false) ∧ t.hasCause ⟨0x1B, 1, 0, hostNum h⟩ = true)) ∧
    (∀ c l, (c = .requestConfig h ∧ l = .requestConfig ∧ s.pw.op ≠ .locked ∧ s.allSafe = true
        ∨ c = .withdrawConfig h ∧ l = .withdrawConfig) →
      (2 ≤ s.levelOf h → s.swp.hold = false → answers c s fun t => acked s t h 1 ∧
        t.swp = { s.swp with landed := s.swp.landed ++ [l] } ∧ kept (.sweep :: .host h :: tripParts) s t) ∧
      (s.levelOf h < 2 → answers c s fun t => acked s t h 1 ∧ t.pw = { s.pw with stRej := true } ∧
        kept (.power :: .host h :: tripParts) s t)) ∧
    (∀ a mosi, mosi = writeBytes a v →
      answers (.registerWrite h mosi) s fun t =>
        (a = 0x02 → (t.port h).body = { (s.port h).body with
          scratch := v, lastErr := 0, miso := s.statusByte h :: List.replicate 7 0 }) ∧
        (a = 0x10 → s.atRest → (t.port h).flag0 = (s.port h).flag0 &&& ~~~v) ∧
        (a = 0x11 → s.atRest → (t.port h).flag1 = (s.port h).flag1 &&& ~~~v) ∧
        (a = 0x12 → (t.port h).mask0 = v) ∧ (a = 0x13 → (t.port h).mask1 = v) ∧
        (a = 0x02 ∨ a = 0x10 ∨ a = 0x11 ∨ a = 0x12 ∨ a = 0x13 → kept (.host h :: tripParts) s t)) ∧
    (∀ mosi n, n = (mosi.headD 0).toNat % 64 + 1 → 128 ≤ (mosi.headD 0).toNat → mosi.length = 4 * n + 4 →
      crc8 (mosi.take (4 * n + 3)) ≠ field mosi (4 * n + 3) 1 →
      answers (.registerWrite h mosi) s fun t => (t.port h).lastErr = 2 ∧ kept (.host h :: faultParts) s t) ∧
    (∀ mosi, (mosi.headD 0).toNat < 64 → 4 ≤ mosi.length → crc8 (mosi.take 3) = field mosi 3 1 →
      (∀ a n data, a = 256 * field mosi 1 1 + field mosi 2 1 → n = (mosi.headD 0).toNat + 1 →
        (∀ i, i < n → regMapped (a + i) = true) → a + n ≤ 0x1000 →
        data = wordsToBytes ((List.range n).map fun i => word (s.readReg h (a + i))) →
        answers (.readTransaction h mosi) s fun t =>
          (t.port h).body = { (s.port h).body with
            lastErr := 0
            miso := (s.statusByte h :: ([0, 0, 0] ++ data ++ [BitVec.ofNat 8 (crc8 (mosi.take 3 ++ data))])).take mosi.length } ∧
          kept (.host h :: tripParts) s t))

/-- Queues and responses (R414, R419, R423, R425, R430, R431, R478, R514, R515): a push appends to its command queue, or
overflows it and freezes the port; a release drops words of a response queue; a peek reads without dropping; a staged
message is placed where it fits; a port reset empties the port; a frozen
port refuses every write with 0x09; without a command for LOGIN_TMO a port is logged out. -/
def Obligations.QueuesAct : Prop :=
  ∀ (s : State) (h : HostId) (pair : Nat), s.pw.running = true → pair < 16 →
    (∀ ws q a, (s.port h).frozen = false → q = cmdQ h pair → a = 0x1000 + 64 * q → ws ≠ [] → ws.length ≤ 64 →
      q < s.queues.length →
      (4 * ((s.queue q).words.length + ws.length) ≤ 64 * (s.queue q).size →
        (s.pw.coreReset ≠ none ∨ headMsg ((s.queue q).words ++ ws) ((s.port h).reqOf pair) = .partly
          ∨ ∃ code body n more, headMsg ((s.queue q).words ++ ws) ((s.port h).reqOf pair) = .whole code body n false more
            ∧ cmdCodes.contains code = true) →
        answers (.commandWindowPush h a ws) s fun t => acked s t h ws.length ∧
          t.queue q = { s.queue q with words := (s.queue q).words ++ ws } ∧ (∀ r, r ≠ q → t.queue r = s.queue r) ∧
          kept (.queues :: .host h :: tripParts) s t) ∧
      (64 * (s.queue q).size < 4 * ((s.queue q).words.length + ws.length) →
        answers (.commandWindowPush h a ws) s fun t =>
          (t.port h).frozen = true ∧ (t.port h).frzRsn = 4 ∧ (∀ r, r / 32 = hostNum h → (t.queue r).words = []) ∧
          t.hasCause ⟨0x1B, 4, 0, hostNum h⟩ = true)) ∧
    (∀ w q a, (s.port h).frozen = false → q = rspQ h pair → a = 0x1000 + 64 * q →
      w.toNat ≤ (s.queue q).words.length →
      answers (.responseWindowRelease h a [w]) s fun t => acked s t h 1 ∧
        (t.queue q).words = (s.queue q).words.drop w.toNat ∧ (∀ r, r ≠ q → t.queue r = s.queue r) ∧
        kept (.queues :: .host h :: tripParts) s t) ∧
    (∀ n j q a, (s.port h).frozen = false → q = rspQ h pair → a = 0x1000 + 64 * q + j → 1 ≤ n → j + n ≤ 64 →
      j + n ≤ (s.queue q).words.length →
      answers (.responseWindowPeek h a n) s fun t =>
        (t.port h).lastErr = 0 ∧
        (t.port h).miso.take (4 * n + 4) = s.statusByte h :: ([0, 0, 0] ++ wordsToBytes (((s.queue q).words.drop j).take n)) ∧
        kept (.host h :: tripParts) s t) ∧
    (∀ m q, s.pw.coreReset = none → (s.port h).frozen = false → q = rspQ h pair → q < s.queues.length →
      (s.port h).staged.find? (fun m => decide (m.pair = pair)) = some m →
      4 * (s.queue q).words.length + msgBytes m.body.length ≤ 64 * (s.queue q).size →
      answers (.responsePlacement h pair) s fun t =>
        t.queue q = { s.queue q with
          words := (s.queue q).words ++ (msgHeader m.body.length m.code false false :: packWords m.body)
          msgs := (s.queue q).msgs ++ [(packWords m.body).length + 1], opened := false } ∧
        (∀ r, r ≠ q → t.queue r = s.queue r) ∧
        (t.port h).body = { (s.port h).body with staged := replaceFirst pair none (s.port h).staged } ∧
        kept (.queues :: .host h :: tripParts) s t) ∧
    (answers (.portReset h) s fun t =>
      (t.port h).frozen = false ∧ (t.port h).level = 0 ∧ (t.port h).pwFail = 0 ∧ (t.port h).request = none ∧
      (∀ q, q / 32 = hostNum h → (t.queue q).words = []) ∧ (∀ q, q / 32 ≠ hostNum h → t.queue q = s.queue q) ∧
      (∀ k, k < 16 → t.holds h k = false) ∧
      ((s.port h).frozen = false → t.hasCause ⟨0x1B, 7, 0, hostNum h⟩ = true)) ∧
    (∀ v c, (s.port h).frozen = true → (c = .semTake h v ∨ c = .semGive h v ∨ c = .swpCtrlWrite h v ∨ c = .errCtrlWrite h v
        ∨ c = .requestConfig h ∨ c = .withdrawConfig h) →
      answers c s fun t => (t.port h).lastErr = 9 ∧ kept (.host h :: tripParts) s t) ∧
    (s.par Fld.loginTmo 0 ≠ 0 → s.levelOf h ≠ 0 → answers (.loginTimeout h) s fun t =>
      t.now = max s.now ((s.port h).lastCmd + 60000000000 * s.par Fld.loginTmo 0) ∧
      (t.port h).body = { (s.port h).body with level := 0 } ∧ kept (.host h :: tripParts) s t)

/-! ### What completes (R32 to R538) -/

/-- The forms that no host command spells complete: each of d1Trained, d1TrainsLate, traverseRetryTimer, traverseStart,
traversePassEnd, keepaliveSend, token, probe, probeReply, localBoundary, meridianArrival, declareUnsynchronised,
returnToPreferredDirection, sampleComplete, shuntOvercurrent, surveyEntryEnd, spotReadingStart, spotReadingComplete, itemsSend,
soundingKeyingEdge, bleedOnEdge, bleedOffEdge, commitCutOff, commitRecordSend, reactionCutOff, meridianSend, sweepBoundary,
atlasDeadline, sweepOverrun, itemsFrame, seqLossTimeout, positionSilent, spotResultLost, contourStepDown, contourStepUp,
contourFailsafeDwell, tuningTimeout, sysCalMeasurementEnd, controlTick, gazetteerWrite, kfRecognised, pullInTimeout, holdDelayEnd,
dropOutTimeout, coilCurrentTimeout, coilPinMismatch, tripSourceAssert, safetyChannelRecognised, safeinDiscrepancyTimeout,
restartIdleTimer, restartStuck, couplingTimer, safeFrameSendTimer, safeFrameTimeExpectation, safeFrameConnectLimit,
sessionReconnectDelay, sentMessage, sentTimeout, sentSupplyLimit, sentSupplyOn, sentSupplyRunTimer, sentvsUndervoltage, semTake,
semGive, swpCtrlWrite, errCtrlWrite, requestConfig, withdrawConfig, registerWrite, readTransaction, commandWindowPush,
responseWindowRelease, responseWindowPeek, responsePlacement, portReset and loginTimeout answers a next state with its own effect,
where its conditions on the state and its operands hold. -/
def Obligations.HardwareFormsComplete : Prop :=
  ∀ s : State,
    -- D1, the Traverse and the KEEPALIVE (R38, R234, R277, R278)
    (s.pw.running = true → (s.dev 0).awake = true →
      ((s.dev 0).d1 = false → answers .d1Trained s fun t => t.pw.d1 = true ∧ (t.dev 0).d1 = true ∧ t.trv.trigger = true) ∧
      ((s.dev 0).role = .member → (s.dev 0).pos ≠ none → answers (.d1TrainsLate 0) s fun t =>
        t.pw.d1 = true ∧ (t.dev 0).d1 = true ∧ (t.dev 0).role = .member ∧ t.trv.trigger = true) ∧
      (s.trv.retryAt ≠ none → answers .traverseRetryTimer s fun t => t.trv.trigger = true ∧ t.trv.retryAt = none) ∧
      (s.d1Works = true → answers .keepaliveSend s fun t => (t.dev 0).silence = some t.now)) ∧
    (s.coreUp → s.d1Works = true →
      ((s.dev 0).isHead = true → s.trv.due = true → s.trv.trigger = true → s.trv.passOpen = false → answers .traverseStart s fun t =>
        t.trv.passOpen = true ∧ t.trv.running = true ∧ t.trv.due = false) ∧
      (s.trv.passOpen = true → answers .traversePassEnd s fun t => t.trv.passOpen = false ∧ t.trv.prev.isSome = true)) ∧
    -- an S-die (R54, R59 to R62, R130, R148, R204, R221, R270, R278, R280)
    (∀ d, (s.dev d).awake = true →
      (∀ r n h u, (s.dev d).place = some (n, h, u) →
        (∀ c ∈ (s.dev d).commitPend ++ (s.dev d).reactPend, ∀ y ∈ c.settings, y.val ≠ .dormant) →
        answers (.localBoundary d r) s fun t =>
          (t.dev d).sweep = (s.dev d).nextSweep ∧ (t.dev d).lastB = n ∧ (t.dev d).health = h ∧ (t.dev d).sampleNo = 0) ∧
      (8 ≤ (s.dev d).flywheel → answers (.declareUnsynchronised d) s fun t => (t.dev d).unsync = true) ∧
      (64 ≤ (s.dev d).prefRun → answers (.returnToPreferredDirection d) s fun t => (t.dev d).useW = (s.dev d).prefW) ∧
      (∀ p, (s.dev d).isHead = false → ((s.dev d).port p).st = .up → ((s.dev d).port p).held = false →
        (s.dev d).accepts s.now (decide (p = .E)) = true → answers (.meridianArrival d p) s fun t =>
          (if p = .E then (t.dev d).sawW else (t.dev d).sawE) = some s.now) ∧
      (∀ raw, (s.dev d).calibrated = true → (s.dev d).measuring = true →
        (s.dev d).sampleNo < periodSamples (s.dev d).period → answers (.sampleComplete d raw) s fun t =>
          (t.dev d).sampleNo = (s.dev d).sampleNo + 1 ∧
          t.now = max s.now ((s.dev d).lastB + ((s.dev d).sampleNo + 1) * 62500)) ∧
      (∀ r results, (s.dev d).sv.running = some r →
        (r.spotSlot = none → answers (.surveyEntryEnd d results) s fun t =>
          t.now = max s.now (r.since + 1000 * eDuration r.entry) ∧ (t.dev d).sv.running ≠ some r) ∧
        (r.spotSlot ≠ none → answers (.spotReadingComplete d results) s fun t =>
          t.now = max s.now (r.since + 1000 * eDuration r.entry) ∧
          (t.dev d).spotItems.length = (s.dev d).spotItems.length + 1 ∧ (t.dev d).sv.spots = (s.dev d).sv.spots.drop 1)) ∧
      (∀ n p l, (s.dev d).sv.running = none → (s.dev d).sv.occ = none → (s.dev d).sv.slotAt = some n →
        (s.dev d).sv.spots = p :: l → (s.dev d).fits n p.entry = true → answers (.spotReadingStart d) s fun t =>
          (t.dev d).sv.running = some ⟨p.entry, some p.slot, n⟩) ∧
      (∀ p, (s.dev d).isHead = false → (s.dev d).pos = some p → (s.dev d).coreReset = none → (s.dev d).unsync = false →
        (s.dev d).nextB ≠ none → answers (.itemsSend d) s fun t =>
          t.now = max s.now ((s.dev d).lastB + 25000) ∧ (t.dev d).body = ((s.dev d).dropOld.sendItems t.now p).body) ∧
      (∀ x b, (s.dev d).snd = some x → x.bin = some b → x.edges + 1 < 2 * ((s.dev d).par Fld.sndSettle 0 + binCycles x.cycles b) →
        answers (.soundingKeyingEdge d) s fun t => (t.dev d).snd = some { x with edges := x.edges + 1 }) ∧
      ((s.dev d).measuring = true → (s.dev d).par Fld.balQuiet 0 ≠ 0 → (s.dev d).feasible = true → ∀ k, k < 24 → k < (s.dev d).cells.length →
        (s.dev d).keyed k = false →
        (((s.dev d).cell k).admitted = true → ((s.dev d).cell k).active = true → answers (.bleedOnEdge d) s fun t =>
          ((t.dev d).cell k).gate = true) ∧
        (answers (.bleedOffEdge d) s fun t => ((t.dev d).cell k).gate = false)) ∧
      (∀ p f, frameValid f = true → ((s.dev d).port p).st = .up → f.dest = 0xFE →
        (∀ k, d ≠ 0 → f.payload = .token k → answers (.token d p f) s fun t => ((t.dev d).port p).waiting = some k) ∧
        (∀ n turn, f.payload = .probe n → answers (.probe d p f turn) s fun t =>
          ∃ g, ((t.dev d).port p).tx = ⟨g, max ((s.dev d).port p).busyUntil s.now, true⟩ :: ((s.dev d).port p).tx ∧ g.payload = .probeReply n turn) ∧
        (∀ n ta k trip, f.payload = .probeReply n ta → ((s.dev d).port p).waiting = some k → ((s.dev d).port p).probes.length < 15 →
          answers (.probeReply d p f trip) s fun t => ((t.dev d).port p).probes = ((s.dev d).port p).probes ++ [(trip, ta)])) ∧
      (∀ dir, d = 0 → s.pw.running = true →
        (match dir with
          | .discharge => (s.dev 0).par Fld.ocN 0 ≤ (s.dev 0).ocDis ∧ (s.dev 0).ocCause.1 = false
          | .charge => (s.dev 0).par Fld.ocN 0 ≤ (s.dev 0).ocChg ∧ (s.dev 0).ocCause.2 = false) →
        answers (.shuntOvercurrent dir) s fun t => (t.dev 0).sErr = true ∧ t.saf.sErr = true ∧ t.saf.tripLatch = true)) ∧
    -- the head's sweep (R58, R64, R66, R69, R74, R120, R270, R274, R276, R151)
    (s.pw.running = true →
      (s.swp.hold = false → answers .commitCutOff s fun t => t.swp.hold = true ∧ t.swp.record = s.frozenRecord) ∧
      (∀ c, s.swp.hold = true → s.swp.record = some c → (∀ r ∈ s.swp.sentRecords, r.epoch ≠ c.epoch) →
        answers .commitRecordSend s fun t => t.swp.sentRecords.head? = some { c with sweep := c.sweep % 2 ^ 32 }) ∧
      (s.swp.reactCut = false → answers .reactionCutOff s fun t => t.swp.reactCut = true ∧ t.swp.reactions = []) ∧
      ((s.dev 0).awake = true → (s.dev 0).isHead = true → answers .meridianSend s fun t =>
        (t.dev 0).sawE = some (s.swp.nextB - 16000) ∧ t.pw.markLost = false) ∧
      (∀ r, s.swp.landed.contains .dormant = false → answers (.sweepBoundary r) s fun t =>
        t.swp.count = some s.nextCount ∧ t.swp.boundary = max s.now s.swp.nextB ∧ t.swp.hold = false) ∧
      (s.swp.count ≠ none → s.swp.deadline = false → answers .atlasDeadline s fun t => t.swp.deadline = true) ∧
      (∀ sub index, 2 ≤ sub → sub ≤ 5 → s.swp.count ≠ none → answers (.sweepOverrun 0 sub index) s fun t =>
        t.hasCause ⟨0x1C, sub, 0, index⟩ = true) ∧
      (∀ slot x, s.der.spots.getD slot none = some x → x.answered = false → answers (.spotResultLost slot) s fun t =>
        ∀ y, t.der.spots.getD slot none = some y → y.answered = true) ∧
      (∀ p, p ≠ 0 → p < s.poss.length → s.adopted p = true → (s.posTrack p).silent = false →
        (s.posTrack p).lastSweep + 8 ≤ s.sweep → answers (.positionSilent p) s fun t => (t.posTrack p).silent = true) ∧
      (∀ p q m, p < s.poss.length → (s.posTrack p).heldF = [(q, [⟨0xC5, 0, .alive⟩])] → (s.posTrack p).nextSeq = some m →
        answers (.seqLossTimeout p) s fun t => (t.posTrack p).heldF = [] ∧ (t.posTrack p).openLoss = true) ∧
      (∀ q f p, s.upWorks = true → frameValid f = true → f.dest = 0 → ((s.dev 0).port q).carries f = true →
        f.payload = .items [⟨0xC5, 0, .alive⟩] → p = f.src → p ≠ 0 → s.adopted p = true → p < s.poss.length → f.wrap = false →
        s.linkBroken = false → (s.posTrack p).nextSeq = none → (s.posTrack p).heldF = [] → (s.posTrack p).openLoss = false →
        answers (.itemsFrame q f) s fun t =>
          (t.posTrack p).nextSeq = some ((f.seq + 1) % 65536) ∧ (t.posTrack p).lastSweep = s.sweep)) ∧
    -- timers of the head (R71, R182, R304, R306, R335, R475)
    (s.coreUp →
      (∀ dir a h c, (s.ctr.timers dir).1 = some a → s.ctr.tHot = some h → s.ctr.tCold = some c → s.ctr.failed = none →
        s.contourDown dir h c < s.ctr.pub dir → answers (.contourStepDown dir) s fun t => t.ctr.pub dir = s.ctr.pub dir - 1) ∧
      (∀ dir a, (s.ctr.timers dir).2 = some a → s.ctr.failed = none → s.ctr.pub dir < 15 →
        answers (.contourStepUp dir) s fun t => t.ctr.pub dir = s.ctr.pub dir + 1) ∧
      (s.ctr.failed.isSome = true → answers .contourFailsafeDwell s fun t => t.ctr.pubC = 0 ∧ t.ctr.pubD = 0) ∧
      (∀ x, s.tuning = some x → x.o.method = 1 → answers .tuningTimeout s fun t =>
        t.tuning = none ∧ t.now = max s.now (x.startAt + 1000000000 * x.o.timeout)) ∧
      (∀ n c a iref, s.der.sysCal.find? (fun c => decide (c.chan = n) && c.measuring.isSome) = some c →
        c.measuring = some (0, a, iref) → (s.port c.host).frozen = false → s.calRefusal c 0 iref = 0 →
        answers (.sysCalMeasurementEnd n) s fun t =>
          { c with measuring := none, acc := {}, zero := some (c.mean, t.now) } ∈ t.der.sysCal) ∧
      (s.tickDue = true → ∀ ks, answers (.controlTick ks) s fun t => t.swp.tick = s.swp.tick + 1) ∧
      (s.leg.gazPend ≠ [] → answers .gazetteerWrite s fun t =>
        t.leg.gazPend = [] ∧ t.leg.gazSeq = s.leg.gazSeq + s.leg.gazPend.length)) ∧
    -- contactors and inputs (R344, R345, R348, R353, R359, R361, R364, R366)
    (s.pw.running = true → s.atRest → ∀ n, s.contUse n = true → n < s.saf.ch.length →
      (∀ level, (s.chan n).phase = .pull → (s.chan n).kf = false → (level != bit (s.par Fld.contCfg n) 1) = true →
        s.now - (s.chan n).t0 < s.tPi n → answers (.kfRecognised n level) s fun t =>
          (t.chan n).kf = true ∧ (t.chan n).holdAt = some (s.now + s.tHd n)) ∧
      ((s.chan n).phase = .pull → (s.chan n).holdAt = none → answers (.pullInTimeout n) s fun t =>
        (t.chan n).energised = false ∧ t.hasCause ⟨0x11, 1, 0, n + 1⟩ = true) ∧
      ((s.chan n).phase = .pull → (s.chan n).holdAt ≠ none → (s.chan n).kf = true → answers (.holdDelayEnd n) s fun t =>
        (t.chan n).phase = .hold) ∧
      ((s.chan n).phase = .drop → (s.chan n).welded = false → answers (.dropOutTimeout n) s fun t =>
        (t.chan n).welded = true ∧ t.hasCause ⟨0x12, 1, 0, n + 1⟩ = true) ∧
      ((s.chan n).energised = true → (s.chan n).lowAt ≠ none → answers (.coilCurrentTimeout n) s fun t =>
        (t.chan n).energised = false ∧ t.hasCause ⟨0x13, 1, 0, n + 1⟩ = true) ∧
      (answers (.coilPinMismatch n true) s fun t => (t.chan n).pinBad = true ∧ t.hasCause ⟨0x13, 4, 0, n + 1⟩ = true) ∧
      (answers (.coilPinMismatch n false) s fun t => (t.chan n).pinBad = false) ∧
      (∀ src, s.tripBit src = true → answers (.tripSourceAssert src) s fun t =>
        t.saf.tripLatch = true ∧ t.saf.armed = false ∧ (t.chan n).energised = false)) ∧
    (s.pw.running = true → ∀ i n, i < s.saf.inputs.length →
      (∀ c level u, u = s.modInput i (fun x => match c with
          | .A => { x with a := level }
          | .B => { x with b := level }) → s.siActive i = (true, true) → (u.siActive i).1 ≠ (u.siActive i).2 → i < 4 →
        s.siRole i = 1 → (s.input i).act = true → answers (.safetyChannelRecognised i c level) s fun t =>
          (t.input i).act = false ∧ t.saf.tripLatch = true) ∧
      ((s.input i).discAt = some n → (i < 4 ∧ s.siRole i = 1 ∨ i = 4 ∧ s.siRole 4 ≠ 2) →
        answers (.safeinDiscrepancyTimeout i) s fun t => (t.input i).disc = true ∧ t.hasCause ⟨0x10, 1, 0, i + 1⟩ = true) ∧
      ((s.input 4).safeAt = some n → s.siNone 4 = true → (s.input 4).idle = false → answers .restartIdleTimer s fun t =>
        (t.input 4).idle = true) ∧
      ((s.input 4).pressedAt = some n → s.siBoth 4 = true → answers .restartStuck s fun t => (t.input 4).stuck = true) ∧
      (s.saf.cplAt = some n → s.saf.coupled = false → answers .couplingTimer s fun t => t.saf.coupled = true)) ∧
    -- the session (R372, R374, R375)
    (s.coreUp →
      ((s.ses.st = .connecting ∨ s.ses.st = .accepted) → answers .safeFrameSendTimer s fun t =>
        t.ses.ownSeq = (s.ses.ownSeq + 1) % 65536 ∧ t.ses.sentAt = t.now) ∧
      (∀ c sub, (s.ses.st = .accepted ∧ c = .safeFrameTimeExpectation ∧ sub = 6
          ∨ s.ses.st = .connecting ∧ c = .safeFrameConnectLimit ∧ sub = 7) → answers c s fun t =>
        t.hasCause ⟨0x15, sub, 0, hostNum s.sfHost⟩ = true ∧
        t.ses.st = (if s.saf.coupled then .connecting else .failed)) ∧
      (s.ses.reconnectAt ≠ none → answers .sessionReconnectDelay s fun t => t.ses.reconnectAt = none)) ∧
    -- SENT (R387, R536, R538)
    (s.pw.running = true → ∀ n, n < 8 → n < s.sent.length →
      (∀ m, s.sentUse n = true → s.sentCheck n m = 0 → answers (.sentMessage n m) s fun t =>
        (t.sentCh n).lastAt = s.now ∧ (t.sentCh n).good = (s.sentCh n).good + 1) ∧
      (s.sentUse n = true → (s.sentCh n).offAt = none → answers (.sentTimeout n) s fun t =>
        t.hasCause ⟨0x0F, 2, 0, n + 1⟩ = true) ∧
      ((s.sentCh n).supply = true → answers (.sentSupplyLimit n) s fun t =>
        (t.sentCh n).limited = true ∧ t.hasCause ⟨0x0F, 3, 0, n + 1⟩ = true) ∧
      ((s.sentCh n).offAt ≠ none → answers (.sentSupplyOn n) s fun t => (t.sentCh n).offAt = none) ∧
      ((s.sentCh n).onAt ≠ none → answers (.sentSupplyRunTimer n) s fun t => (t.sentCh n).onAt = none) ∧
      (∀ low, answers (.sentvsUndervoltage low) s fun t => t.pw.sentvsLow = low ∧ (low = true → (t.sentCh n).supply = false))) ∧
    -- host ports (R405, R409, R414, R419, R428, R431, R478, R494, R508)
    (s.pw.running = true → ∀ h v, (s.port h).frozen = false →
      (∀ k, k < 16 → k < s.sems.length → v.toNat.testBit k = true → s.sems.getD k none = none → answers (.semTake h v) s fun t =>
        t.sems.getD k none = some h) ∧
      (∀ k, k < 16 → v.toNat.testBit k = true → s.sems.getD k none = some h → answers (.semGive h v) s fun t =>
        t.sems.getD k none = none) ∧
      (s.holds h 0 = true → 2 ≤ s.levelOf h → s.par Fld.lockReg 0 ≠ 1 → s.swp.hold = false →
        (swpRefused v.toNat = false → answers (.swpCtrlWrite h v) s fun t =>
          t.swp.landed = s.swp.landed ++ [.swpCtrl (word (swpBits v.toNat))]) ∧
        (bits v.toNat 18 16 < 5 → answers (.errCtrlWrite h v) s fun t =>
          t.swp.landed = s.swp.landed ++ [.errCtrl (word (errBits v.toNat))])) ∧
      (2 ≤ s.levelOf h → s.swp.hold = false →
        (s.pw.op ≠ .locked → s.allSafe = true → answers (.requestConfig h) s fun t =>
          t.swp.landed = s.swp.landed ++ [.requestConfig]) ∧
        (answers (.withdrawConfig h) s fun t => t.swp.landed = s.swp.landed ++ [.withdrawConfig])) ∧
      (answers (.registerWrite h (writeBytes 0x02 v)) s fun t => (t.port h).scratch = v ∧ (t.port h).lastErr = 0) ∧
      (∀ mosi, (mosi.headD 0).toNat = 0 → mosi.length = 12 → crc8 (mosi.take 3) = field mosi 3 1 →
        regMapped (256 * field mosi 1 1 + field mosi 2 1) = true → answers (.readTransaction h mosi) s fun t =>
          (t.port h).lastErr = 0 ∧
          ((t.port h).miso.drop 4).take 4 = leBytes 4 (s.readReg h (256 * field mosi 1 1 + field mosi 2 1))) ∧
      (∀ pair w q a, pair < 16 → q = cmdQ h pair → a = 0x1000 + 64 * q → q < s.queues.length →
        (s.pw.coreReset ≠ none ∨ headMsg ((s.queue q).words ++ [w]) ((s.port h).reqOf pair) = .partly) →
        4 * ((s.queue q).words.length + 1) ≤ 64 * (s.queue q).size → answers (.commandWindowPush h a [w]) s fun t =>
          (t.queue q).words = (s.queue q).words ++ [w]) ∧
      (∀ pair q a, pair < 16 → q = rspQ h pair → a = 0x1000 + 64 * q → v.toNat ≤ (s.queue q).words.length →
        answers (.responseWindowRelease h a [v]) s fun t => (t.queue q).words = (s.queue q).words.drop v.toNat) ∧
      (∀ pair q a, pair < 16 → q = rspQ h pair → a = 0x1000 + 64 * q → 1 ≤ (s.queue q).words.length →
        answers (.responseWindowPeek h a 1) s fun t =>
          ((t.port h).miso.drop 4).take 4 = wordsToBytes ((s.queue q).words.take 1)) ∧
      (∀ pair q m, pair < 16 → s.pw.coreReset = none → q = rspQ h pair → q < s.queues.length →
        (s.port h).staged.find? (fun m => decide (m.pair = pair)) = some m →
        4 * (s.queue q).words.length + msgBytes m.body.length ≤ 64 * (s.queue q).size →
        answers (.responsePlacement h pair) s fun t =>
          (t.queue q).words = (s.queue q).words ++ (msgHeader m.body.length m.code false false :: packWords m.body)) ∧
      (answers (.portReset h) s fun t => (t.port h).frozen = false ∧ (t.port h).level = 0 ∧ (t.port h).request = none) ∧
      (s.par Fld.loginTmo 0 ≠ 0 → s.levelOf h ≠ 0 → answers (.loginTimeout h) s fun t => (t.port h).level = 0))
end

