-- ==== Sys2Proof/Laws/State.lean ====
section
/-!
SUPPORT. One lemma per field and update of `State`: what an operation of Machine/Ops.lean, a flag or a log record leaves as
it was. No later proof unfolds a record update.
-/

namespace Sys2Proof.Machine.State

variable (s : State)


/-! ### Time -/

@[simp] theorem tick_pending : (s.tick).pending = s.pending := rfl
@[simp] theorem tick_draws : (s.tick).draws = s.draws := rfl
@[simp] theorem tick_pw : (s.tick).pw = s.pw := rfl
@[simp] theorem tick_swp : (s.tick).swp = s.swp := rfl
@[simp] theorem tick_leg : (s.tick).leg = s.leg := rfl
@[simp] theorem tick_portA : (s.tick).portA = s.portA := rfl
@[simp] theorem tick_portB : (s.tick).portB = s.portB := rfl
@[simp] theorem tick_lastA : (s.tick).lastA = s.lastA := rfl
@[simp] theorem tick_queues : (s.tick).queues = s.queues := rfl
@[simp] theorem tick_sems : (s.tick).sems = s.sems := rfl
@[simp] theorem tick_flt : (s.tick).flt = s.flt := rfl
@[simp] theorem tick_saf : (s.tick).saf = s.saf := rfl
@[simp] theorem tick_ses : (s.tick).ses = s.ses := rfl
@[simp] theorem tick_loops : (s.tick).loops = s.loops := rfl
@[simp] theorem tick_tuning : (s.tick).tuning = s.tuning := rfl
@[simp] theorem tick_pwm : (s.tick).pwm = s.pwm := rfl
@[simp] theorem tick_ctr : (s.tick).ctr = s.ctr := rfl
@[simp] theorem tick_atlas : (s.tick).atlas = s.atlas := rfl
@[simp] theorem tick_chassis : (s.tick).chassis = s.chassis := rfl
@[simp] theorem tick_chWins : (s.tick).chWins = s.chWins := rfl
@[simp] theorem tick_posWins : (s.tick).posWins = s.posWins := rfl
@[simp] theorem tick_headAccs : (s.tick).headAccs = s.headAccs := rfl
@[simp] theorem tick_tracks : (s.tick).tracks = s.tracks := rfl
@[simp] theorem tick_written : (s.tick).written = s.written := rfl
@[simp] theorem tick_poss : (s.tick).poss = s.poss := rfl
@[simp] theorem tick_trv : (s.tick).trv = s.trv := rfl
@[simp] theorem tick_der : (s.tick).der = s.der := rfl
@[simp] theorem tick_sent : (s.tick).sent = s.sent := rfl
@[simp] theorem tick_devs : (s.tick).devs = s.devs := rfl
@[simp] theorem until_pending (t : Nat) : (s.until t).pending = s.pending := rfl
@[simp] theorem until_draws (t : Nat) : (s.until t).draws = s.draws := rfl
@[simp] theorem until_pw (t : Nat) : (s.until t).pw = s.pw := rfl
@[simp] theorem until_swp (t : Nat) : (s.until t).swp = s.swp := rfl
@[simp] theorem until_leg (t : Nat) : (s.until t).leg = s.leg := rfl
@[simp] theorem until_portA (t : Nat) : (s.until t).portA = s.portA := rfl
@[simp] theorem until_portB (t : Nat) : (s.until t).portB = s.portB := rfl
@[simp] theorem until_lastA (t : Nat) : (s.until t).lastA = s.lastA := rfl
@[simp] theorem until_queues (t : Nat) : (s.until t).queues = s.queues := rfl
@[simp] theorem until_sems (t : Nat) : (s.until t).sems = s.sems := rfl
@[simp] theorem until_flt (t : Nat) : (s.until t).flt = s.flt := rfl
@[simp] theorem until_saf (t : Nat) : (s.until t).saf = s.saf := rfl
@[simp] theorem until_ses (t : Nat) : (s.until t).ses = s.ses := rfl
@[simp] theorem until_loops (t : Nat) : (s.until t).loops = s.loops := rfl
@[simp] theorem until_tuning (t : Nat) : (s.until t).tuning = s.tuning := rfl
@[simp] theorem until_pwm (t : Nat) : (s.until t).pwm = s.pwm := rfl
@[simp] theorem until_ctr (t : Nat) : (s.until t).ctr = s.ctr := rfl
@[simp] theorem until_atlas (t : Nat) : (s.until t).atlas = s.atlas := rfl
@[simp] theorem until_chassis (t : Nat) : (s.until t).chassis = s.chassis := rfl
@[simp] theorem until_chWins (t : Nat) : (s.until t).chWins = s.chWins := rfl
@[simp] theorem until_posWins (t : Nat) : (s.until t).posWins = s.posWins := rfl
@[simp] theorem until_headAccs (t : Nat) : (s.until t).headAccs = s.headAccs := rfl
@[simp] theorem until_tracks (t : Nat) : (s.until t).tracks = s.tracks := rfl
@[simp] theorem until_written (t : Nat) : (s.until t).written = s.written := rfl
@[simp] theorem until_poss (t : Nat) : (s.until t).poss = s.poss := rfl
@[simp] theorem until_trv (t : Nat) : (s.until t).trv = s.trv := rfl
@[simp] theorem until_der (t : Nat) : (s.until t).der = s.der := rfl
@[simp] theorem until_sent (t : Nat) : (s.until t).sent = s.sent := rfl
@[simp] theorem until_devs (t : Nat) : (s.until t).devs = s.devs := rfl
@[simp] theorem tick_now : s.tick.now = s.now + 40 := rfl
@[simp] theorem until_now (t : Nat) : (s.until t).now = max s.now t := rfl

/-! ### Parts -/

@[simp] theorem modDev_now (d : Nat) (f : Dev → Dev) : (s.modDev d f).now = s.now := rfl
@[simp] theorem modDev_pending (d : Nat) (f : Dev → Dev) : (s.modDev d f).pending = s.pending := rfl
@[simp] theorem modDev_draws (d : Nat) (f : Dev → Dev) : (s.modDev d f).draws = s.draws := rfl
@[simp] theorem modDev_pw (d : Nat) (f : Dev → Dev) : (s.modDev d f).pw = s.pw := rfl
@[simp] theorem modDev_swp (d : Nat) (f : Dev → Dev) : (s.modDev d f).swp = s.swp := rfl
@[simp] theorem modDev_leg (d : Nat) (f : Dev → Dev) : (s.modDev d f).leg = s.leg := rfl
@[simp] theorem modDev_portA (d : Nat) (f : Dev → Dev) : (s.modDev d f).portA = s.portA := rfl
@[simp] theorem modDev_portB (d : Nat) (f : Dev → Dev) : (s.modDev d f).portB = s.portB := rfl
@[simp] theorem modDev_lastA (d : Nat) (f : Dev → Dev) : (s.modDev d f).lastA = s.lastA := rfl
@[simp] theorem modDev_queues (d : Nat) (f : Dev → Dev) : (s.modDev d f).queues = s.queues := rfl
@[simp] theorem modDev_sems (d : Nat) (f : Dev → Dev) : (s.modDev d f).sems = s.sems := rfl
@[simp] theorem modDev_flt (d : Nat) (f : Dev → Dev) : (s.modDev d f).flt = s.flt := rfl
@[simp] theorem modDev_saf (d : Nat) (f : Dev → Dev) : (s.modDev d f).saf = s.saf := rfl
@[simp] theorem modDev_ses (d : Nat) (f : Dev → Dev) : (s.modDev d f).ses = s.ses := rfl
@[simp] theorem modDev_loops (d : Nat) (f : Dev → Dev) : (s.modDev d f).loops = s.loops := rfl
@[simp] theorem modDev_tuning (d : Nat) (f : Dev → Dev) : (s.modDev d f).tuning = s.tuning := rfl
@[simp] theorem modDev_pwm (d : Nat) (f : Dev → Dev) : (s.modDev d f).pwm = s.pwm := rfl
@[simp] theorem modDev_ctr (d : Nat) (f : Dev → Dev) : (s.modDev d f).ctr = s.ctr := rfl
@[simp] theorem modDev_atlas (d : Nat) (f : Dev → Dev) : (s.modDev d f).atlas = s.atlas := rfl
@[simp] theorem modDev_chassis (d : Nat) (f : Dev → Dev) : (s.modDev d f).chassis = s.chassis := rfl
@[simp] theorem modDev_chWins (d : Nat) (f : Dev → Dev) : (s.modDev d f).chWins = s.chWins := rfl
@[simp] theorem modDev_posWins (d : Nat) (f : Dev → Dev) : (s.modDev d f).posWins = s.posWins := rfl
@[simp] theorem modDev_headAccs (d : Nat) (f : Dev → Dev) : (s.modDev d f).headAccs = s.headAccs := rfl
@[simp] theorem modDev_tracks (d : Nat) (f : Dev → Dev) : (s.modDev d f).tracks = s.tracks := rfl
@[simp] theorem modDev_written (d : Nat) (f : Dev → Dev) : (s.modDev d f).written = s.written := rfl
@[simp] theorem modDev_poss (d : Nat) (f : Dev → Dev) : (s.modDev d f).poss = s.poss := rfl
@[simp] theorem modDev_trv (d : Nat) (f : Dev → Dev) : (s.modDev d f).trv = s.trv := rfl
@[simp] theorem modDev_der (d : Nat) (f : Dev → Dev) : (s.modDev d f).der = s.der := rfl
@[simp] theorem modDev_sent (d : Nat) (f : Dev → Dev) : (s.modDev d f).sent = s.sent := rfl
@[simp] theorem modQueue_now (q : Nat) (f : Queue → Queue) : (s.modQueue q f).now = s.now := rfl
@[simp] theorem modQueue_pending (q : Nat) (f : Queue → Queue) : (s.modQueue q f).pending = s.pending := rfl
@[simp] theorem modQueue_draws (q : Nat) (f : Queue → Queue) : (s.modQueue q f).draws = s.draws := rfl
@[simp] theorem modQueue_pw (q : Nat) (f : Queue → Queue) : (s.modQueue q f).pw = s.pw := rfl
@[simp] theorem modQueue_swp (q : Nat) (f : Queue → Queue) : (s.modQueue q f).swp = s.swp := rfl
@[simp] theorem modQueue_leg (q : Nat) (f : Queue → Queue) : (s.modQueue q f).leg = s.leg := rfl
@[simp] theorem modQueue_portA (q : Nat) (f : Queue → Queue) : (s.modQueue q f).portA = s.portA := rfl
@[simp] theorem modQueue_portB (q : Nat) (f : Queue → Queue) : (s.modQueue q f).portB = s.portB := rfl
@[simp] theorem modQueue_lastA (q : Nat) (f : Queue → Queue) : (s.modQueue q f).lastA = s.lastA := rfl
@[simp] theorem modQueue_sems (q : Nat) (f : Queue → Queue) : (s.modQueue q f).sems = s.sems := rfl
@[simp] theorem modQueue_flt (q : Nat) (f : Queue → Queue) : (s.modQueue q f).flt = s.flt := rfl
@[simp] theorem modQueue_saf (q : Nat) (f : Queue → Queue) : (s.modQueue q f).saf = s.saf := rfl
@[simp] theorem modQueue_ses (q : Nat) (f : Queue → Queue) : (s.modQueue q f).ses = s.ses := rfl
@[simp] theorem modQueue_loops (q : Nat) (f : Queue → Queue) : (s.modQueue q f).loops = s.loops := rfl
@[simp] theorem modQueue_tuning (q : Nat) (f : Queue → Queue) : (s.modQueue q f).tuning = s.tuning := rfl
@[simp] theorem modQueue_pwm (q : Nat) (f : Queue → Queue) : (s.modQueue q f).pwm = s.pwm := rfl
@[simp] theorem modQueue_ctr (q : Nat) (f : Queue → Queue) : (s.modQueue q f).ctr = s.ctr := rfl
@[simp] theorem modQueue_atlas (q : Nat) (f : Queue → Queue) : (s.modQueue q f).atlas = s.atlas := rfl
@[simp] theorem modQueue_chassis (q : Nat) (f : Queue → Queue) : (s.modQueue q f).chassis = s.chassis := rfl
@[simp] theorem modQueue_chWins (q : Nat) (f : Queue → Queue) : (s.modQueue q f).chWins = s.chWins := rfl
@[simp] theorem modQueue_posWins (q : Nat) (f : Queue → Queue) : (s.modQueue q f).posWins = s.posWins := rfl
@[simp] theorem modQueue_headAccs (q : Nat) (f : Queue → Queue) : (s.modQueue q f).headAccs = s.headAccs := rfl
@[simp] theorem modQueue_tracks (q : Nat) (f : Queue → Queue) : (s.modQueue q f).tracks = s.tracks := rfl
@[simp] theorem modQueue_written (q : Nat) (f : Queue → Queue) : (s.modQueue q f).written = s.written := rfl
@[simp] theorem modQueue_poss (q : Nat) (f : Queue → Queue) : (s.modQueue q f).poss = s.poss := rfl
@[simp] theorem modQueue_trv (q : Nat) (f : Queue → Queue) : (s.modQueue q f).trv = s.trv := rfl
@[simp] theorem modQueue_der (q : Nat) (f : Queue → Queue) : (s.modQueue q f).der = s.der := rfl
@[simp] theorem modQueue_sent (q : Nat) (f : Queue → Queue) : (s.modQueue q f).sent = s.sent := rfl
@[simp] theorem modQueue_devs (q : Nat) (f : Queue → Queue) : (s.modQueue q f).devs = s.devs := rfl
@[simp] theorem modChan_now (n : Nat) (f : Channel → Channel) : (s.modChan n f).now = s.now := rfl
@[simp] theorem modChan_pending (n : Nat) (f : Channel → Channel) : (s.modChan n f).pending = s.pending := rfl
@[simp] theorem modChan_draws (n : Nat) (f : Channel → Channel) : (s.modChan n f).draws = s.draws := rfl
@[simp] theorem modChan_pw (n : Nat) (f : Channel → Channel) : (s.modChan n f).pw = s.pw := rfl
@[simp] theorem modChan_swp (n : Nat) (f : Channel → Channel) : (s.modChan n f).swp = s.swp := rfl
@[simp] theorem modChan_leg (n : Nat) (f : Channel → Channel) : (s.modChan n f).leg = s.leg := rfl
@[simp] theorem modChan_portA (n : Nat) (f : Channel → Channel) : (s.modChan n f).portA = s.portA := rfl
@[simp] theorem modChan_portB (n : Nat) (f : Channel → Channel) : (s.modChan n f).portB = s.portB := rfl
@[simp] theorem modChan_lastA (n : Nat) (f : Channel → Channel) : (s.modChan n f).lastA = s.lastA := rfl
@[simp] theorem modChan_queues (n : Nat) (f : Channel → Channel) : (s.modChan n f).queues = s.queues := rfl
@[simp] theorem modChan_sems (n : Nat) (f : Channel → Channel) : (s.modChan n f).sems = s.sems := rfl
@[simp] theorem modChan_flt (n : Nat) (f : Channel → Channel) : (s.modChan n f).flt = s.flt := rfl
@[simp] theorem modChan_ses (n : Nat) (f : Channel → Channel) : (s.modChan n f).ses = s.ses := rfl
@[simp] theorem modChan_loops (n : Nat) (f : Channel → Channel) : (s.modChan n f).loops = s.loops := rfl
@[simp] theorem modChan_tuning (n : Nat) (f : Channel → Channel) : (s.modChan n f).tuning = s.tuning := rfl
@[simp] theorem modChan_pwm (n : Nat) (f : Channel → Channel) : (s.modChan n f).pwm = s.pwm := rfl
@[simp] theorem modChan_ctr (n : Nat) (f : Channel → Channel) : (s.modChan n f).ctr = s.ctr := rfl
@[simp] theorem modChan_atlas (n : Nat) (f : Channel → Channel) : (s.modChan n f).atlas = s.atlas := rfl
@[simp] theorem modChan_chassis (n : Nat) (f : Channel → Channel) : (s.modChan n f).chassis = s.chassis := rfl
@[simp] theorem modChan_chWins (n : Nat) (f : Channel → Channel) : (s.modChan n f).chWins = s.chWins := rfl
@[simp] theorem modChan_posWins (n : Nat) (f : Channel → Channel) : (s.modChan n f).posWins = s.posWins := rfl
@[simp] theorem modChan_headAccs (n : Nat) (f : Channel → Channel) : (s.modChan n f).headAccs = s.headAccs := rfl
@[simp] theorem modChan_tracks (n : Nat) (f : Channel → Channel) : (s.modChan n f).tracks = s.tracks := rfl
@[simp] theorem modChan_written (n : Nat) (f : Channel → Channel) : (s.modChan n f).written = s.written := rfl
@[simp] theorem modChan_poss (n : Nat) (f : Channel → Channel) : (s.modChan n f).poss = s.poss := rfl
@[simp] theorem modChan_trv (n : Nat) (f : Channel → Channel) : (s.modChan n f).trv = s.trv := rfl
@[simp] theorem modChan_der (n : Nat) (f : Channel → Channel) : (s.modChan n f).der = s.der := rfl
@[simp] theorem modChan_sent (n : Nat) (f : Channel → Channel) : (s.modChan n f).sent = s.sent := rfl
@[simp] theorem modChan_devs (n : Nat) (f : Channel → Channel) : (s.modChan n f).devs = s.devs := rfl
@[simp] theorem modInput_now (n : Nat) (f : SafeIn → SafeIn) : (s.modInput n f).now = s.now := rfl
@[simp] theorem modInput_pending (n : Nat) (f : SafeIn → SafeIn) : (s.modInput n f).pending = s.pending := rfl
@[simp] theorem modInput_draws (n : Nat) (f : SafeIn → SafeIn) : (s.modInput n f).draws = s.draws := rfl
@[simp] theorem modInput_pw (n : Nat) (f : SafeIn → SafeIn) : (s.modInput n f).pw = s.pw := rfl
@[simp] theorem modInput_swp (n : Nat) (f : SafeIn → SafeIn) : (s.modInput n f).swp = s.swp := rfl
@[simp] theorem modInput_leg (n : Nat) (f : SafeIn → SafeIn) : (s.modInput n f).leg = s.leg := rfl
@[simp] theorem modInput_portA (n : Nat) (f : SafeIn → SafeIn) : (s.modInput n f).portA = s.portA := rfl
@[simp] theorem modInput_portB (n : Nat) (f : SafeIn → SafeIn) : (s.modInput n f).portB = s.portB := rfl
@[simp] theorem modInput_lastA (n : Nat) (f : SafeIn → SafeIn) : (s.modInput n f).lastA = s.lastA := rfl
@[simp] theorem modInput_queues (n : Nat) (f : SafeIn → SafeIn) : (s.modInput n f).queues = s.queues := rfl
@[simp] theorem modInput_sems (n : Nat) (f : SafeIn → SafeIn) : (s.modInput n f).sems = s.sems := rfl
@[simp] theorem modInput_flt (n : Nat) (f : SafeIn → SafeIn) : (s.modInput n f).flt = s.flt := rfl
@[simp] theorem modInput_ses (n : Nat) (f : SafeIn → SafeIn) : (s.modInput n f).ses = s.ses := rfl
@[simp] theorem modInput_loops (n : Nat) (f : SafeIn → SafeIn) : (s.modInput n f).loops = s.loops := rfl
@[simp] theorem modInput_tuning (n : Nat) (f : SafeIn → SafeIn) : (s.modInput n f).tuning = s.tuning := rfl
@[simp] theorem modInput_pwm (n : Nat) (f : SafeIn → SafeIn) : (s.modInput n f).pwm = s.pwm := rfl
@[simp] theorem modInput_ctr (n : Nat) (f : SafeIn → SafeIn) : (s.modInput n f).ctr = s.ctr := rfl
@[simp] theorem modInput_atlas (n : Nat) (f : SafeIn → SafeIn) : (s.modInput n f).atlas = s.atlas := rfl
@[simp] theorem modInput_chassis (n : Nat) (f : SafeIn → SafeIn) : (s.modInput n f).chassis = s.chassis := rfl
@[simp] theorem modInput_chWins (n : Nat) (f : SafeIn → SafeIn) : (s.modInput n f).chWins = s.chWins := rfl
@[simp] theorem modInput_posWins (n : Nat) (f : SafeIn → SafeIn) : (s.modInput n f).posWins = s.posWins := rfl
@[simp] theorem modInput_headAccs (n : Nat) (f : SafeIn → SafeIn) : (s.modInput n f).headAccs = s.headAccs := rfl
@[simp] theorem modInput_tracks (n : Nat) (f : SafeIn → SafeIn) : (s.modInput n f).tracks = s.tracks := rfl
@[simp] theorem modInput_written (n : Nat) (f : SafeIn → SafeIn) : (s.modInput n f).written = s.written := rfl
@[simp] theorem modInput_poss (n : Nat) (f : SafeIn → SafeIn) : (s.modInput n f).poss = s.poss := rfl
@[simp] theorem modInput_trv (n : Nat) (f : SafeIn → SafeIn) : (s.modInput n f).trv = s.trv := rfl
@[simp] theorem modInput_der (n : Nat) (f : SafeIn → SafeIn) : (s.modInput n f).der = s.der := rfl
@[simp] theorem modInput_sent (n : Nat) (f : SafeIn → SafeIn) : (s.modInput n f).sent = s.sent := rfl
@[simp] theorem modInput_devs (n : Nat) (f : SafeIn → SafeIn) : (s.modInput n f).devs = s.devs := rfl
@[simp] theorem modLoop_now (n : Nat) (f : LoopSlot → LoopSlot) : (s.modLoop n f).now = s.now := rfl
@[simp] theorem modLoop_pending (n : Nat) (f : LoopSlot → LoopSlot) : (s.modLoop n f).pending = s.pending := rfl
@[simp] theorem modLoop_draws (n : Nat) (f : LoopSlot → LoopSlot) : (s.modLoop n f).draws = s.draws := rfl
@[simp] theorem modLoop_pw (n : Nat) (f : LoopSlot → LoopSlot) : (s.modLoop n f).pw = s.pw := rfl
@[simp] theorem modLoop_swp (n : Nat) (f : LoopSlot → LoopSlot) : (s.modLoop n f).swp = s.swp := rfl
@[simp] theorem modLoop_leg (n : Nat) (f : LoopSlot → LoopSlot) : (s.modLoop n f).leg = s.leg := rfl
@[simp] theorem modLoop_portA (n : Nat) (f : LoopSlot → LoopSlot) : (s.modLoop n f).portA = s.portA := rfl
@[simp] theorem modLoop_portB (n : Nat) (f : LoopSlot → LoopSlot) : (s.modLoop n f).portB = s.portB := rfl
@[simp] theorem modLoop_lastA (n : Nat) (f : LoopSlot → LoopSlot) : (s.modLoop n f).lastA = s.lastA := rfl
@[simp] theorem modLoop_queues (n : Nat) (f : LoopSlot → LoopSlot) : (s.modLoop n f).queues = s.queues := rfl
@[simp] theorem modLoop_sems (n : Nat) (f : LoopSlot → LoopSlot) : (s.modLoop n f).sems = s.sems := rfl
@[simp] theorem modLoop_flt (n : Nat) (f : LoopSlot → LoopSlot) : (s.modLoop n f).flt = s.flt := rfl
@[simp] theorem modLoop_saf (n : Nat) (f : LoopSlot → LoopSlot) : (s.modLoop n f).saf = s.saf := rfl
@[simp] theorem modLoop_ses (n : Nat) (f : LoopSlot → LoopSlot) : (s.modLoop n f).ses = s.ses := rfl
@[simp] theorem modLoop_tuning (n : Nat) (f : LoopSlot → LoopSlot) : (s.modLoop n f).tuning = s.tuning := rfl
@[simp] theorem modLoop_pwm (n : Nat) (f : LoopSlot → LoopSlot) : (s.modLoop n f).pwm = s.pwm := rfl
@[simp] theorem modLoop_ctr (n : Nat) (f : LoopSlot → LoopSlot) : (s.modLoop n f).ctr = s.ctr := rfl
@[simp] theorem modLoop_atlas (n : Nat) (f : LoopSlot → LoopSlot) : (s.modLoop n f).atlas = s.atlas := rfl
@[simp] theorem modLoop_chassis (n : Nat) (f : LoopSlot → LoopSlot) : (s.modLoop n f).chassis = s.chassis := rfl
@[simp] theorem modLoop_chWins (n : Nat) (f : LoopSlot → LoopSlot) : (s.modLoop n f).chWins = s.chWins := rfl
@[simp] theorem modLoop_posWins (n : Nat) (f : LoopSlot → LoopSlot) : (s.modLoop n f).posWins = s.posWins := rfl
@[simp] theorem modLoop_headAccs (n : Nat) (f : LoopSlot → LoopSlot) : (s.modLoop n f).headAccs = s.headAccs := rfl
@[simp] theorem modLoop_tracks (n : Nat) (f : LoopSlot → LoopSlot) : (s.modLoop n f).tracks = s.tracks := rfl
@[simp] theorem modLoop_written (n : Nat) (f : LoopSlot → LoopSlot) : (s.modLoop n f).written = s.written := rfl
@[simp] theorem modLoop_poss (n : Nat) (f : LoopSlot → LoopSlot) : (s.modLoop n f).poss = s.poss := rfl
@[simp] theorem modLoop_trv (n : Nat) (f : LoopSlot → LoopSlot) : (s.modLoop n f).trv = s.trv := rfl
@[simp] theorem modLoop_der (n : Nat) (f : LoopSlot → LoopSlot) : (s.modLoop n f).der = s.der := rfl
@[simp] theorem modLoop_sent (n : Nat) (f : LoopSlot → LoopSlot) : (s.modLoop n f).sent = s.sent := rfl
@[simp] theorem modLoop_devs (n : Nat) (f : LoopSlot → LoopSlot) : (s.modLoop n f).devs = s.devs := rfl
@[simp] theorem modLatch_now (c : Nat) (f : Latch → Latch) : (s.modLatch c f).now = s.now := rfl
@[simp] theorem modLatch_pending (c : Nat) (f : Latch → Latch) : (s.modLatch c f).pending = s.pending := rfl
@[simp] theorem modLatch_draws (c : Nat) (f : Latch → Latch) : (s.modLatch c f).draws = s.draws := rfl
@[simp] theorem modLatch_pw (c : Nat) (f : Latch → Latch) : (s.modLatch c f).pw = s.pw := rfl
@[simp] theorem modLatch_swp (c : Nat) (f : Latch → Latch) : (s.modLatch c f).swp = s.swp := rfl
@[simp] theorem modLatch_leg (c : Nat) (f : Latch → Latch) : (s.modLatch c f).leg = s.leg := rfl
@[simp] theorem modLatch_portA (c : Nat) (f : Latch → Latch) : (s.modLatch c f).portA = s.portA := rfl
@[simp] theorem modLatch_portB (c : Nat) (f : Latch → Latch) : (s.modLatch c f).portB = s.portB := rfl
@[simp] theorem modLatch_lastA (c : Nat) (f : Latch → Latch) : (s.modLatch c f).lastA = s.lastA := rfl
@[simp] theorem modLatch_queues (c : Nat) (f : Latch → Latch) : (s.modLatch c f).queues = s.queues := rfl
@[simp] theorem modLatch_sems (c : Nat) (f : Latch → Latch) : (s.modLatch c f).sems = s.sems := rfl
@[simp] theorem modLatch_saf (c : Nat) (f : Latch → Latch) : (s.modLatch c f).saf = s.saf := rfl
@[simp] theorem modLatch_ses (c : Nat) (f : Latch → Latch) : (s.modLatch c f).ses = s.ses := rfl
@[simp] theorem modLatch_loops (c : Nat) (f : Latch → Latch) : (s.modLatch c f).loops = s.loops := rfl
@[simp] theorem modLatch_tuning (c : Nat) (f : Latch → Latch) : (s.modLatch c f).tuning = s.tuning := rfl
@[simp] theorem modLatch_pwm (c : Nat) (f : Latch → Latch) : (s.modLatch c f).pwm = s.pwm := rfl
@[simp] theorem modLatch_ctr (c : Nat) (f : Latch → Latch) : (s.modLatch c f).ctr = s.ctr := rfl
@[simp] theorem modLatch_atlas (c : Nat) (f : Latch → Latch) : (s.modLatch c f).atlas = s.atlas := rfl
@[simp] theorem modLatch_chassis (c : Nat) (f : Latch → Latch) : (s.modLatch c f).chassis = s.chassis := rfl
@[simp] theorem modLatch_chWins (c : Nat) (f : Latch → Latch) : (s.modLatch c f).chWins = s.chWins := rfl
@[simp] theorem modLatch_posWins (c : Nat) (f : Latch → Latch) : (s.modLatch c f).posWins = s.posWins := rfl
@[simp] theorem modLatch_headAccs (c : Nat) (f : Latch → Latch) : (s.modLatch c f).headAccs = s.headAccs := rfl
@[simp] theorem modLatch_tracks (c : Nat) (f : Latch → Latch) : (s.modLatch c f).tracks = s.tracks := rfl
@[simp] theorem modLatch_written (c : Nat) (f : Latch → Latch) : (s.modLatch c f).written = s.written := rfl
@[simp] theorem modLatch_poss (c : Nat) (f : Latch → Latch) : (s.modLatch c f).poss = s.poss := rfl
@[simp] theorem modLatch_trv (c : Nat) (f : Latch → Latch) : (s.modLatch c f).trv = s.trv := rfl
@[simp] theorem modLatch_der (c : Nat) (f : Latch → Latch) : (s.modLatch c f).der = s.der := rfl
@[simp] theorem modLatch_sent (c : Nat) (f : Latch → Latch) : (s.modLatch c f).sent = s.sent := rfl
@[simp] theorem modLatch_devs (c : Nat) (f : Latch → Latch) : (s.modLatch c f).devs = s.devs := rfl
@[simp] theorem modPos_now (p : Nat) (f : PosTrack → PosTrack) : (s.modPos p f).now = s.now := rfl
@[simp] theorem modPos_pending (p : Nat) (f : PosTrack → PosTrack) : (s.modPos p f).pending = s.pending := rfl
@[simp] theorem modPos_draws (p : Nat) (f : PosTrack → PosTrack) : (s.modPos p f).draws = s.draws := rfl
@[simp] theorem modPos_pw (p : Nat) (f : PosTrack → PosTrack) : (s.modPos p f).pw = s.pw := rfl
@[simp] theorem modPos_swp (p : Nat) (f : PosTrack → PosTrack) : (s.modPos p f).swp = s.swp := rfl
@[simp] theorem modPos_leg (p : Nat) (f : PosTrack → PosTrack) : (s.modPos p f).leg = s.leg := rfl
@[simp] theorem modPos_portA (p : Nat) (f : PosTrack → PosTrack) : (s.modPos p f).portA = s.portA := rfl
@[simp] theorem modPos_portB (p : Nat) (f : PosTrack → PosTrack) : (s.modPos p f).portB = s.portB := rfl
@[simp] theorem modPos_lastA (p : Nat) (f : PosTrack → PosTrack) : (s.modPos p f).lastA = s.lastA := rfl
@[simp] theorem modPos_queues (p : Nat) (f : PosTrack → PosTrack) : (s.modPos p f).queues = s.queues := rfl
@[simp] theorem modPos_sems (p : Nat) (f : PosTrack → PosTrack) : (s.modPos p f).sems = s.sems := rfl
@[simp] theorem modPos_flt (p : Nat) (f : PosTrack → PosTrack) : (s.modPos p f).flt = s.flt := rfl
@[simp] theorem modPos_saf (p : Nat) (f : PosTrack → PosTrack) : (s.modPos p f).saf = s.saf := rfl
@[simp] theorem modPos_ses (p : Nat) (f : PosTrack → PosTrack) : (s.modPos p f).ses = s.ses := rfl
@[simp] theorem modPos_loops (p : Nat) (f : PosTrack → PosTrack) : (s.modPos p f).loops = s.loops := rfl
@[simp] theorem modPos_tuning (p : Nat) (f : PosTrack → PosTrack) : (s.modPos p f).tuning = s.tuning := rfl
@[simp] theorem modPos_pwm (p : Nat) (f : PosTrack → PosTrack) : (s.modPos p f).pwm = s.pwm := rfl
@[simp] theorem modPos_ctr (p : Nat) (f : PosTrack → PosTrack) : (s.modPos p f).ctr = s.ctr := rfl
@[simp] theorem modPos_atlas (p : Nat) (f : PosTrack → PosTrack) : (s.modPos p f).atlas = s.atlas := rfl
@[simp] theorem modPos_chassis (p : Nat) (f : PosTrack → PosTrack) : (s.modPos p f).chassis = s.chassis := rfl
@[simp] theorem modPos_chWins (p : Nat) (f : PosTrack → PosTrack) : (s.modPos p f).chWins = s.chWins := rfl
@[simp] theorem modPos_posWins (p : Nat) (f : PosTrack → PosTrack) : (s.modPos p f).posWins = s.posWins := rfl
@[simp] theorem modPos_headAccs (p : Nat) (f : PosTrack → PosTrack) : (s.modPos p f).headAccs = s.headAccs := rfl
@[simp] theorem modPos_tracks (p : Nat) (f : PosTrack → PosTrack) : (s.modPos p f).tracks = s.tracks := rfl
@[simp] theorem modPos_written (p : Nat) (f : PosTrack → PosTrack) : (s.modPos p f).written = s.written := rfl
@[simp] theorem modPos_trv (p : Nat) (f : PosTrack → PosTrack) : (s.modPos p f).trv = s.trv := rfl
@[simp] theorem modPos_der (p : Nat) (f : PosTrack → PosTrack) : (s.modPos p f).der = s.der := rfl
@[simp] theorem modPos_sent (p : Nat) (f : PosTrack → PosTrack) : (s.modPos p f).sent = s.sent := rfl
@[simp] theorem modPos_devs (p : Nat) (f : PosTrack → PosTrack) : (s.modPos p f).devs = s.devs := rfl
@[simp] theorem modTrack_now (i : Nat) (f : RecTrack → RecTrack) : (s.modTrack i f).now = s.now := rfl
@[simp] theorem modTrack_pending (i : Nat) (f : RecTrack → RecTrack) : (s.modTrack i f).pending = s.pending := rfl
@[simp] theorem modTrack_draws (i : Nat) (f : RecTrack → RecTrack) : (s.modTrack i f).draws = s.draws := rfl
@[simp] theorem modTrack_pw (i : Nat) (f : RecTrack → RecTrack) : (s.modTrack i f).pw = s.pw := rfl
@[simp] theorem modTrack_swp (i : Nat) (f : RecTrack → RecTrack) : (s.modTrack i f).swp = s.swp := rfl
@[simp] theorem modTrack_leg (i : Nat) (f : RecTrack → RecTrack) : (s.modTrack i f).leg = s.leg := rfl
@[simp] theorem modTrack_portA (i : Nat) (f : RecTrack → RecTrack) : (s.modTrack i f).portA = s.portA := rfl
@[simp] theorem modTrack_portB (i : Nat) (f : RecTrack → RecTrack) : (s.modTrack i f).portB = s.portB := rfl
@[simp] theorem modTrack_lastA (i : Nat) (f : RecTrack → RecTrack) : (s.modTrack i f).lastA = s.lastA := rfl
@[simp] theorem modTrack_queues (i : Nat) (f : RecTrack → RecTrack) : (s.modTrack i f).queues = s.queues := rfl
@[simp] theorem modTrack_sems (i : Nat) (f : RecTrack → RecTrack) : (s.modTrack i f).sems = s.sems := rfl
@[simp] theorem modTrack_flt (i : Nat) (f : RecTrack → RecTrack) : (s.modTrack i f).flt = s.flt := rfl
@[simp] theorem modTrack_saf (i : Nat) (f : RecTrack → RecTrack) : (s.modTrack i f).saf = s.saf := rfl
@[simp] theorem modTrack_ses (i : Nat) (f : RecTrack → RecTrack) : (s.modTrack i f).ses = s.ses := rfl
@[simp] theorem modTrack_loops (i : Nat) (f : RecTrack → RecTrack) : (s.modTrack i f).loops = s.loops := rfl
@[simp] theorem modTrack_tuning (i : Nat) (f : RecTrack → RecTrack) : (s.modTrack i f).tuning = s.tuning := rfl
@[simp] theorem modTrack_pwm (i : Nat) (f : RecTrack → RecTrack) : (s.modTrack i f).pwm = s.pwm := rfl
@[simp] theorem modTrack_ctr (i : Nat) (f : RecTrack → RecTrack) : (s.modTrack i f).ctr = s.ctr := rfl
@[simp] theorem modTrack_atlas (i : Nat) (f : RecTrack → RecTrack) : (s.modTrack i f).atlas = s.atlas := rfl
@[simp] theorem modTrack_chassis (i : Nat) (f : RecTrack → RecTrack) : (s.modTrack i f).chassis = s.chassis := rfl
@[simp] theorem modTrack_chWins (i : Nat) (f : RecTrack → RecTrack) : (s.modTrack i f).chWins = s.chWins := rfl
@[simp] theorem modTrack_posWins (i : Nat) (f : RecTrack → RecTrack) : (s.modTrack i f).posWins = s.posWins := rfl
@[simp] theorem modTrack_headAccs (i : Nat) (f : RecTrack → RecTrack) : (s.modTrack i f).headAccs = s.headAccs := rfl
@[simp] theorem modTrack_written (i : Nat) (f : RecTrack → RecTrack) : (s.modTrack i f).written = s.written := rfl
@[simp] theorem modTrack_poss (i : Nat) (f : RecTrack → RecTrack) : (s.modTrack i f).poss = s.poss := rfl
@[simp] theorem modTrack_trv (i : Nat) (f : RecTrack → RecTrack) : (s.modTrack i f).trv = s.trv := rfl
@[simp] theorem modTrack_der (i : Nat) (f : RecTrack → RecTrack) : (s.modTrack i f).der = s.der := rfl
@[simp] theorem modTrack_sent (i : Nat) (f : RecTrack → RecTrack) : (s.modTrack i f).sent = s.sent := rfl
@[simp] theorem modTrack_devs (i : Nat) (f : RecTrack → RecTrack) : (s.modTrack i f).devs = s.devs := rfl
@[simp] theorem modSent_now (n : Nat) (f : SentCh → SentCh) : (s.modSent n f).now = s.now := rfl
@[simp] theorem modSent_pending (n : Nat) (f : SentCh → SentCh) : (s.modSent n f).pending = s.pending := rfl
@[simp] theorem modSent_draws (n : Nat) (f : SentCh → SentCh) : (s.modSent n f).draws = s.draws := rfl
@[simp] theorem modSent_pw (n : Nat) (f : SentCh → SentCh) : (s.modSent n f).pw = s.pw := rfl
@[simp] theorem modSent_swp (n : Nat) (f : SentCh → SentCh) : (s.modSent n f).swp = s.swp := rfl
@[simp] theorem modSent_leg (n : Nat) (f : SentCh → SentCh) : (s.modSent n f).leg = s.leg := rfl
@[simp] theorem modSent_portA (n : Nat) (f : SentCh → SentCh) : (s.modSent n f).portA = s.portA := rfl
@[simp] theorem modSent_portB (n : Nat) (f : SentCh → SentCh) : (s.modSent n f).portB = s.portB := rfl
@[simp] theorem modSent_lastA (n : Nat) (f : SentCh → SentCh) : (s.modSent n f).lastA = s.lastA := rfl
@[simp] theorem modSent_queues (n : Nat) (f : SentCh → SentCh) : (s.modSent n f).queues = s.queues := rfl
@[simp] theorem modSent_sems (n : Nat) (f : SentCh → SentCh) : (s.modSent n f).sems = s.sems := rfl
@[simp] theorem modSent_flt (n : Nat) (f : SentCh → SentCh) : (s.modSent n f).flt = s.flt := rfl
@[simp] theorem modSent_saf (n : Nat) (f : SentCh → SentCh) : (s.modSent n f).saf = s.saf := rfl
@[simp] theorem modSent_ses (n : Nat) (f : SentCh → SentCh) : (s.modSent n f).ses = s.ses := rfl
@[simp] theorem modSent_loops (n : Nat) (f : SentCh → SentCh) : (s.modSent n f).loops = s.loops := rfl
@[simp] theorem modSent_tuning (n : Nat) (f : SentCh → SentCh) : (s.modSent n f).tuning = s.tuning := rfl
@[simp] theorem modSent_pwm (n : Nat) (f : SentCh → SentCh) : (s.modSent n f).pwm = s.pwm := rfl
@[simp] theorem modSent_ctr (n : Nat) (f : SentCh → SentCh) : (s.modSent n f).ctr = s.ctr := rfl
@[simp] theorem modSent_atlas (n : Nat) (f : SentCh → SentCh) : (s.modSent n f).atlas = s.atlas := rfl
@[simp] theorem modSent_chassis (n : Nat) (f : SentCh → SentCh) : (s.modSent n f).chassis = s.chassis := rfl
@[simp] theorem modSent_chWins (n : Nat) (f : SentCh → SentCh) : (s.modSent n f).chWins = s.chWins := rfl
@[simp] theorem modSent_posWins (n : Nat) (f : SentCh → SentCh) : (s.modSent n f).posWins = s.posWins := rfl
@[simp] theorem modSent_headAccs (n : Nat) (f : SentCh → SentCh) : (s.modSent n f).headAccs = s.headAccs := rfl
@[simp] theorem modSent_tracks (n : Nat) (f : SentCh → SentCh) : (s.modSent n f).tracks = s.tracks := rfl
@[simp] theorem modSent_written (n : Nat) (f : SentCh → SentCh) : (s.modSent n f).written = s.written := rfl
@[simp] theorem modSent_poss (n : Nat) (f : SentCh → SentCh) : (s.modSent n f).poss = s.poss := rfl
@[simp] theorem modSent_trv (n : Nat) (f : SentCh → SentCh) : (s.modSent n f).trv = s.trv := rfl
@[simp] theorem modSent_der (n : Nat) (f : SentCh → SentCh) : (s.modSent n f).der = s.der := rfl
@[simp] theorem modSent_devs (n : Nat) (f : SentCh → SentCh) : (s.modSent n f).devs = s.devs := rfl
@[simp] theorem atlasPut_now (i : Nat) (e : Entry) : (s.atlasPut i e).now = s.now := rfl
@[simp] theorem atlasPut_pending (i : Nat) (e : Entry) : (s.atlasPut i e).pending = s.pending := rfl
@[simp] theorem atlasPut_draws (i : Nat) (e : Entry) : (s.atlasPut i e).draws = s.draws := rfl
@[simp] theorem atlasPut_pw (i : Nat) (e : Entry) : (s.atlasPut i e).pw = s.pw := rfl
@[simp] theorem atlasPut_swp (i : Nat) (e : Entry) : (s.atlasPut i e).swp = s.swp := rfl
@[simp] theorem atlasPut_leg (i : Nat) (e : Entry) : (s.atlasPut i e).leg = s.leg := rfl
@[simp] theorem atlasPut_portA (i : Nat) (e : Entry) : (s.atlasPut i e).portA = s.portA := rfl
@[simp] theorem atlasPut_portB (i : Nat) (e : Entry) : (s.atlasPut i e).portB = s.portB := rfl
@[simp] theorem atlasPut_lastA (i : Nat) (e : Entry) : (s.atlasPut i e).lastA = s.lastA := rfl
@[simp] theorem atlasPut_queues (i : Nat) (e : Entry) : (s.atlasPut i e).queues = s.queues := rfl
@[simp] theorem atlasPut_sems (i : Nat) (e : Entry) : (s.atlasPut i e).sems = s.sems := rfl
@[simp] theorem atlasPut_flt (i : Nat) (e : Entry) : (s.atlasPut i e).flt = s.flt := rfl
@[simp] theorem atlasPut_saf (i : Nat) (e : Entry) : (s.atlasPut i e).saf = s.saf := rfl
@[simp] theorem atlasPut_ses (i : Nat) (e : Entry) : (s.atlasPut i e).ses = s.ses := rfl
@[simp] theorem atlasPut_loops (i : Nat) (e : Entry) : (s.atlasPut i e).loops = s.loops := rfl
@[simp] theorem atlasPut_tuning (i : Nat) (e : Entry) : (s.atlasPut i e).tuning = s.tuning := rfl
@[simp] theorem atlasPut_pwm (i : Nat) (e : Entry) : (s.atlasPut i e).pwm = s.pwm := rfl
@[simp] theorem atlasPut_ctr (i : Nat) (e : Entry) : (s.atlasPut i e).ctr = s.ctr := rfl
@[simp] theorem atlasPut_chassis (i : Nat) (e : Entry) : (s.atlasPut i e).chassis = s.chassis := rfl
@[simp] theorem atlasPut_chWins (i : Nat) (e : Entry) : (s.atlasPut i e).chWins = s.chWins := rfl
@[simp] theorem atlasPut_posWins (i : Nat) (e : Entry) : (s.atlasPut i e).posWins = s.posWins := rfl
@[simp] theorem atlasPut_headAccs (i : Nat) (e : Entry) : (s.atlasPut i e).headAccs = s.headAccs := rfl
@[simp] theorem atlasPut_tracks (i : Nat) (e : Entry) : (s.atlasPut i e).tracks = s.tracks := rfl
@[simp] theorem atlasPut_written (i : Nat) (e : Entry) : (s.atlasPut i e).written = s.written := rfl
@[simp] theorem atlasPut_poss (i : Nat) (e : Entry) : (s.atlasPut i e).poss = s.poss := rfl
@[simp] theorem atlasPut_trv (i : Nat) (e : Entry) : (s.atlasPut i e).trv = s.trv := rfl
@[simp] theorem atlasPut_der (i : Nat) (e : Entry) : (s.atlasPut i e).der = s.der := rfl
@[simp] theorem atlasPut_sent (i : Nat) (e : Entry) : (s.atlasPut i e).sent = s.sent := rfl
@[simp] theorem atlasPut_devs (i : Nat) (e : Entry) : (s.atlasPut i e).devs = s.devs := rfl
@[simp] theorem chassisPut_now (i : Nat) (r : ChassisRec) : (s.chassisPut i r).now = s.now := rfl
@[simp] theorem chassisPut_pending (i : Nat) (r : ChassisRec) : (s.chassisPut i r).pending = s.pending := rfl
@[simp] theorem chassisPut_draws (i : Nat) (r : ChassisRec) : (s.chassisPut i r).draws = s.draws := rfl
@[simp] theorem chassisPut_pw (i : Nat) (r : ChassisRec) : (s.chassisPut i r).pw = s.pw := rfl
@[simp] theorem chassisPut_swp (i : Nat) (r : ChassisRec) : (s.chassisPut i r).swp = s.swp := rfl
@[simp] theorem chassisPut_leg (i : Nat) (r : ChassisRec) : (s.chassisPut i r).leg = s.leg := rfl
@[simp] theorem chassisPut_portA (i : Nat) (r : ChassisRec) : (s.chassisPut i r).portA = s.portA := rfl
@[simp] theorem chassisPut_portB (i : Nat) (r : ChassisRec) : (s.chassisPut i r).portB = s.portB := rfl
@[simp] theorem chassisPut_lastA (i : Nat) (r : ChassisRec) : (s.chassisPut i r).lastA = s.lastA := rfl
@[simp] theorem chassisPut_queues (i : Nat) (r : ChassisRec) : (s.chassisPut i r).queues = s.queues := rfl
@[simp] theorem chassisPut_sems (i : Nat) (r : ChassisRec) : (s.chassisPut i r).sems = s.sems := rfl
@[simp] theorem chassisPut_flt (i : Nat) (r : ChassisRec) : (s.chassisPut i r).flt = s.flt := rfl
@[simp] theorem chassisPut_saf (i : Nat) (r : ChassisRec) : (s.chassisPut i r).saf = s.saf := rfl
@[simp] theorem chassisPut_ses (i : Nat) (r : ChassisRec) : (s.chassisPut i r).ses = s.ses := rfl
@[simp] theorem chassisPut_loops (i : Nat) (r : ChassisRec) : (s.chassisPut i r).loops = s.loops := rfl
@[simp] theorem chassisPut_tuning (i : Nat) (r : ChassisRec) : (s.chassisPut i r).tuning = s.tuning := rfl
@[simp] theorem chassisPut_pwm (i : Nat) (r : ChassisRec) : (s.chassisPut i r).pwm = s.pwm := rfl
@[simp] theorem chassisPut_ctr (i : Nat) (r : ChassisRec) : (s.chassisPut i r).ctr = s.ctr := rfl
@[simp] theorem chassisPut_atlas (i : Nat) (r : ChassisRec) : (s.chassisPut i r).atlas = s.atlas := rfl
@[simp] theorem chassisPut_chWins (i : Nat) (r : ChassisRec) : (s.chassisPut i r).chWins = s.chWins := rfl
@[simp] theorem chassisPut_posWins (i : Nat) (r : ChassisRec) : (s.chassisPut i r).posWins = s.posWins := rfl
@[simp] theorem chassisPut_headAccs (i : Nat) (r : ChassisRec) : (s.chassisPut i r).headAccs = s.headAccs := rfl
@[simp] theorem chassisPut_tracks (i : Nat) (r : ChassisRec) : (s.chassisPut i r).tracks = s.tracks := rfl
@[simp] theorem chassisPut_written (i : Nat) (r : ChassisRec) : (s.chassisPut i r).written = s.written := rfl
@[simp] theorem chassisPut_poss (i : Nat) (r : ChassisRec) : (s.chassisPut i r).poss = s.poss := rfl
@[simp] theorem chassisPut_trv (i : Nat) (r : ChassisRec) : (s.chassisPut i r).trv = s.trv := rfl
@[simp] theorem chassisPut_der (i : Nat) (r : ChassisRec) : (s.chassisPut i r).der = s.der := rfl
@[simp] theorem chassisPut_sent (i : Nat) (r : ChassisRec) : (s.chassisPut i r).sent = s.sent := rfl
@[simp] theorem chassisPut_devs (i : Nat) (r : ChassisRec) : (s.chassisPut i r).devs = s.devs := rfl
@[simp] theorem event_now (b : Nat) : (s.event b).now = s.now := rfl
@[simp] theorem event_pending (b : Nat) : (s.event b).pending = s.pending := rfl
@[simp] theorem event_draws (b : Nat) : (s.event b).draws = s.draws := rfl
@[simp] theorem event_pw (b : Nat) : (s.event b).pw = s.pw := rfl
@[simp] theorem event_swp (b : Nat) : (s.event b).swp = s.swp := rfl
@[simp] theorem event_leg (b : Nat) : (s.event b).leg = s.leg := rfl
@[simp] theorem event_lastA (b : Nat) : (s.event b).lastA = s.lastA := rfl
@[simp] theorem event_queues (b : Nat) : (s.event b).queues = s.queues := rfl
@[simp] theorem event_sems (b : Nat) : (s.event b).sems = s.sems := rfl
@[simp] theorem event_flt (b : Nat) : (s.event b).flt = s.flt := rfl
@[simp] theorem event_saf (b : Nat) : (s.event b).saf = s.saf := rfl
@[simp] theorem event_ses (b : Nat) : (s.event b).ses = s.ses := rfl
@[simp] theorem event_loops (b : Nat) : (s.event b).loops = s.loops := rfl
@[simp] theorem event_tuning (b : Nat) : (s.event b).tuning = s.tuning := rfl
@[simp] theorem event_pwm (b : Nat) : (s.event b).pwm = s.pwm := rfl
@[simp] theorem event_ctr (b : Nat) : (s.event b).ctr = s.ctr := rfl
@[simp] theorem event_atlas (b : Nat) : (s.event b).atlas = s.atlas := rfl
@[simp] theorem event_chassis (b : Nat) : (s.event b).chassis = s.chassis := rfl
@[simp] theorem event_chWins (b : Nat) : (s.event b).chWins = s.chWins := rfl
@[simp] theorem event_posWins (b : Nat) : (s.event b).posWins = s.posWins := rfl
@[simp] theorem event_headAccs (b : Nat) : (s.event b).headAccs = s.headAccs := rfl
@[simp] theorem event_tracks (b : Nat) : (s.event b).tracks = s.tracks := rfl
@[simp] theorem event_written (b : Nat) : (s.event b).written = s.written := rfl
@[simp] theorem event_poss (b : Nat) : (s.event b).poss = s.poss := rfl
@[simp] theorem event_trv (b : Nat) : (s.event b).trv = s.trv := rfl
@[simp] theorem event_der (b : Nat) : (s.event b).der = s.der := rfl
@[simp] theorem event_sent (b : Nat) : (s.event b).sent = s.sent := rfl
@[simp] theorem event_devs (b : Nat) : (s.event b).devs = s.devs := rfl
@[simp] theorem logAt_now (k c u p d w : Nat) (v : Word) : (s.logAt k c u p d w v).now = s.now := rfl
@[simp] theorem logAt_pending (k c u p d w : Nat) (v : Word) : (s.logAt k c u p d w v).pending = s.pending := rfl
@[simp] theorem logAt_draws (k c u p d w : Nat) (v : Word) : (s.logAt k c u p d w v).draws = s.draws := rfl
@[simp] theorem logAt_pw (k c u p d w : Nat) (v : Word) : (s.logAt k c u p d w v).pw = s.pw := rfl
@[simp] theorem logAt_swp (k c u p d w : Nat) (v : Word) : (s.logAt k c u p d w v).swp = s.swp := rfl
@[simp] theorem logAt_leg (k c u p d w : Nat) (v : Word) : (s.logAt k c u p d w v).leg = s.leg := rfl
@[simp] theorem logAt_portA (k c u p d w : Nat) (v : Word) : (s.logAt k c u p d w v).portA = s.portA := rfl
@[simp] theorem logAt_portB (k c u p d w : Nat) (v : Word) : (s.logAt k c u p d w v).portB = s.portB := rfl
@[simp] theorem logAt_lastA (k c u p d w : Nat) (v : Word) : (s.logAt k c u p d w v).lastA = s.lastA := rfl
@[simp] theorem logAt_queues (k c u p d w : Nat) (v : Word) : (s.logAt k c u p d w v).queues = s.queues := rfl
@[simp] theorem logAt_sems (k c u p d w : Nat) (v : Word) : (s.logAt k c u p d w v).sems = s.sems := rfl
@[simp] theorem logAt_saf (k c u p d w : Nat) (v : Word) : (s.logAt k c u p d w v).saf = s.saf := rfl
@[simp] theorem logAt_ses (k c u p d w : Nat) (v : Word) : (s.logAt k c u p d w v).ses = s.ses := rfl
@[simp] theorem logAt_loops (k c u p d w : Nat) (v : Word) : (s.logAt k c u p d w v).loops = s.loops := rfl
@[simp] theorem logAt_tuning (k c u p d w : Nat) (v : Word) : (s.logAt k c u p d w v).tuning = s.tuning := rfl
@[simp] theorem logAt_pwm (k c u p d w : Nat) (v : Word) : (s.logAt k c u p d w v).pwm = s.pwm := rfl
@[simp] theorem logAt_ctr (k c u p d w : Nat) (v : Word) : (s.logAt k c u p d w v).ctr = s.ctr := rfl
@[simp] theorem logAt_atlas (k c u p d w : Nat) (v : Word) : (s.logAt k c u p d w v).atlas = s.atlas := rfl
@[simp] theorem logAt_chassis (k c u p d w : Nat) (v : Word) : (s.logAt k c u p d w v).chassis = s.chassis := rfl
@[simp] theorem logAt_chWins (k c u p d w : Nat) (v : Word) : (s.logAt k c u p d w v).chWins = s.chWins := rfl
@[simp] theorem logAt_posWins (k c u p d w : Nat) (v : Word) : (s.logAt k c u p d w v).posWins = s.posWins := rfl
@[simp] theorem logAt_headAccs (k c u p d w : Nat) (v : Word) : (s.logAt k c u p d w v).headAccs = s.headAccs := rfl
@[simp] theorem logAt_tracks (k c u p d w : Nat) (v : Word) : (s.logAt k c u p d w v).tracks = s.tracks := rfl
@[simp] theorem logAt_written (k c u p d w : Nat) (v : Word) : (s.logAt k c u p d w v).written = s.written := rfl
@[simp] theorem logAt_poss (k c u p d w : Nat) (v : Word) : (s.logAt k c u p d w v).poss = s.poss := rfl
@[simp] theorem logAt_trv (k c u p d w : Nat) (v : Word) : (s.logAt k c u p d w v).trv = s.trv := rfl
@[simp] theorem logAt_der (k c u p d w : Nat) (v : Word) : (s.logAt k c u p d w v).der = s.der := rfl
@[simp] theorem logAt_sent (k c u p d w : Nat) (v : Word) : (s.logAt k c u p d w v).sent = s.sent := rfl
@[simp] theorem logAt_devs (k c u p d w : Nat) (v : Word) : (s.logAt k c u p d w v).devs = s.devs := rfl

/-! ### Ports -/

@[simp] theorem modPort_now (h : HostId) (f : HostPort → HostPort) : (s.modPort h f).now = s.now := by cases h <;> rfl
@[simp] theorem modPort_pending (h : HostId) (f : HostPort → HostPort) : (s.modPort h f).pending = s.pending := by cases h <;> rfl
@[simp] theorem modPort_draws (h : HostId) (f : HostPort → HostPort) : (s.modPort h f).draws = s.draws := by cases h <;> rfl
@[simp] theorem modPort_pw (h : HostId) (f : HostPort → HostPort) : (s.modPort h f).pw = s.pw := by cases h <;> rfl
@[simp] theorem modPort_swp (h : HostId) (f : HostPort → HostPort) : (s.modPort h f).swp = s.swp := by cases h <;> rfl
@[simp] theorem modPort_leg (h : HostId) (f : HostPort → HostPort) : (s.modPort h f).leg = s.leg := by cases h <;> rfl
@[simp] theorem modPort_lastA (h : HostId) (f : HostPort → HostPort) : (s.modPort h f).lastA = s.lastA := by cases h <;> rfl
@[simp] theorem modPort_queues (h : HostId) (f : HostPort → HostPort) : (s.modPort h f).queues = s.queues := by cases h <;> rfl
@[simp] theorem modPort_sems (h : HostId) (f : HostPort → HostPort) : (s.modPort h f).sems = s.sems := by cases h <;> rfl
@[simp] theorem modPort_flt (h : HostId) (f : HostPort → HostPort) : (s.modPort h f).flt = s.flt := by cases h <;> rfl
@[simp] theorem modPort_saf (h : HostId) (f : HostPort → HostPort) : (s.modPort h f).saf = s.saf := by cases h <;> rfl
@[simp] theorem modPort_ses (h : HostId) (f : HostPort → HostPort) : (s.modPort h f).ses = s.ses := by cases h <;> rfl
@[simp] theorem modPort_loops (h : HostId) (f : HostPort → HostPort) : (s.modPort h f).loops = s.loops := by cases h <;> rfl
@[simp] theorem modPort_tuning (h : HostId) (f : HostPort → HostPort) : (s.modPort h f).tuning = s.tuning := by cases h <;> rfl
@[simp] theorem modPort_pwm (h : HostId) (f : HostPort → HostPort) : (s.modPort h f).pwm = s.pwm := by cases h <;> rfl
@[simp] theorem modPort_ctr (h : HostId) (f : HostPort → HostPort) : (s.modPort h f).ctr = s.ctr := by cases h <;> rfl
@[simp] theorem modPort_atlas (h : HostId) (f : HostPort → HostPort) : (s.modPort h f).atlas = s.atlas := by cases h <;> rfl
@[simp] theorem modPort_chassis (h : HostId) (f : HostPort → HostPort) : (s.modPort h f).chassis = s.chassis := by cases h <;> rfl
@[simp] theorem modPort_chWins (h : HostId) (f : HostPort → HostPort) : (s.modPort h f).chWins = s.chWins := by cases h <;> rfl
@[simp] theorem modPort_posWins (h : HostId) (f : HostPort → HostPort) : (s.modPort h f).posWins = s.posWins := by cases h <;> rfl
@[simp] theorem modPort_headAccs (h : HostId) (f : HostPort → HostPort) : (s.modPort h f).headAccs = s.headAccs := by cases h <;> rfl
@[simp] theorem modPort_tracks (h : HostId) (f : HostPort → HostPort) : (s.modPort h f).tracks = s.tracks := by cases h <;> rfl
@[simp] theorem modPort_written (h : HostId) (f : HostPort → HostPort) : (s.modPort h f).written = s.written := by cases h <;> rfl
@[simp] theorem modPort_poss (h : HostId) (f : HostPort → HostPort) : (s.modPort h f).poss = s.poss := by cases h <;> rfl
@[simp] theorem modPort_trv (h : HostId) (f : HostPort → HostPort) : (s.modPort h f).trv = s.trv := by cases h <;> rfl
@[simp] theorem modPort_der (h : HostId) (f : HostPort → HostPort) : (s.modPort h f).der = s.der := by cases h <;> rfl
@[simp] theorem modPort_sent (h : HostId) (f : HostPort → HostPort) : (s.modPort h f).sent = s.sent := by cases h <;> rfl
@[simp] theorem modPort_devs (h : HostId) (f : HostPort → HostPort) : (s.modPort h f).devs = s.devs := by cases h <;> rfl
@[simp] theorem eventOn_now (h : HostId) (b : Nat) : (s.eventOn h b).now = s.now := by cases h <;> rfl
@[simp] theorem eventOn_pending (h : HostId) (b : Nat) : (s.eventOn h b).pending = s.pending := by cases h <;> rfl
@[simp] theorem eventOn_draws (h : HostId) (b : Nat) : (s.eventOn h b).draws = s.draws := by cases h <;> rfl
@[simp] theorem eventOn_pw (h : HostId) (b : Nat) : (s.eventOn h b).pw = s.pw := by cases h <;> rfl
@[simp] theorem eventOn_swp (h : HostId) (b : Nat) : (s.eventOn h b).swp = s.swp := by cases h <;> rfl
@[simp] theorem eventOn_leg (h : HostId) (b : Nat) : (s.eventOn h b).leg = s.leg := by cases h <;> rfl
@[simp] theorem eventOn_lastA (h : HostId) (b : Nat) : (s.eventOn h b).lastA = s.lastA := by cases h <;> rfl
@[simp] theorem eventOn_queues (h : HostId) (b : Nat) : (s.eventOn h b).queues = s.queues := by cases h <;> rfl
@[simp] theorem eventOn_sems (h : HostId) (b : Nat) : (s.eventOn h b).sems = s.sems := by cases h <;> rfl
@[simp] theorem eventOn_flt (h : HostId) (b : Nat) : (s.eventOn h b).flt = s.flt := by cases h <;> rfl
@[simp] theorem eventOn_saf (h : HostId) (b : Nat) : (s.eventOn h b).saf = s.saf := by cases h <;> rfl
@[simp] theorem eventOn_ses (h : HostId) (b : Nat) : (s.eventOn h b).ses = s.ses := by cases h <;> rfl
@[simp] theorem eventOn_loops (h : HostId) (b : Nat) : (s.eventOn h b).loops = s.loops := by cases h <;> rfl
@[simp] theorem eventOn_tuning (h : HostId) (b : Nat) : (s.eventOn h b).tuning = s.tuning := by cases h <;> rfl
@[simp] theorem eventOn_pwm (h : HostId) (b : Nat) : (s.eventOn h b).pwm = s.pwm := by cases h <;> rfl
@[simp] theorem eventOn_ctr (h : HostId) (b : Nat) : (s.eventOn h b).ctr = s.ctr := by cases h <;> rfl
@[simp] theorem eventOn_atlas (h : HostId) (b : Nat) : (s.eventOn h b).atlas = s.atlas := by cases h <;> rfl
@[simp] theorem eventOn_chassis (h : HostId) (b : Nat) : (s.eventOn h b).chassis = s.chassis := by cases h <;> rfl
@[simp] theorem eventOn_chWins (h : HostId) (b : Nat) : (s.eventOn h b).chWins = s.chWins := by cases h <;> rfl
@[simp] theorem eventOn_posWins (h : HostId) (b : Nat) : (s.eventOn h b).posWins = s.posWins := by cases h <;> rfl
@[simp] theorem eventOn_headAccs (h : HostId) (b : Nat) : (s.eventOn h b).headAccs = s.headAccs := by cases h <;> rfl
@[simp] theorem eventOn_tracks (h : HostId) (b : Nat) : (s.eventOn h b).tracks = s.tracks := by cases h <;> rfl
@[simp] theorem eventOn_written (h : HostId) (b : Nat) : (s.eventOn h b).written = s.written := by cases h <;> rfl
@[simp] theorem eventOn_poss (h : HostId) (b : Nat) : (s.eventOn h b).poss = s.poss := by cases h <;> rfl
@[simp] theorem eventOn_trv (h : HostId) (b : Nat) : (s.eventOn h b).trv = s.trv := by cases h <;> rfl
@[simp] theorem eventOn_der (h : HostId) (b : Nat) : (s.eventOn h b).der = s.der := by cases h <;> rfl
@[simp] theorem eventOn_sent (h : HostId) (b : Nat) : (s.eventOn h b).sent = s.sent := by cases h <;> rfl
@[simp] theorem eventOn_devs (h : HostId) (b : Nat) : (s.eventOn h b).devs = s.devs := by cases h <;> rfl
@[simp] theorem eventIf_now (c : Bool) (b : Nat) : (s.eventIf c b).now = s.now := by cases c <;> rfl
@[simp] theorem eventIf_pending (c : Bool) (b : Nat) : (s.eventIf c b).pending = s.pending := by cases c <;> rfl
@[simp] theorem eventIf_draws (c : Bool) (b : Nat) : (s.eventIf c b).draws = s.draws := by cases c <;> rfl
@[simp] theorem eventIf_pw (c : Bool) (b : Nat) : (s.eventIf c b).pw = s.pw := by cases c <;> rfl
@[simp] theorem eventIf_swp (c : Bool) (b : Nat) : (s.eventIf c b).swp = s.swp := by cases c <;> rfl
@[simp] theorem eventIf_leg (c : Bool) (b : Nat) : (s.eventIf c b).leg = s.leg := by cases c <;> rfl
@[simp] theorem eventIf_lastA (c : Bool) (b : Nat) : (s.eventIf c b).lastA = s.lastA := by cases c <;> rfl
@[simp] theorem eventIf_queues (c : Bool) (b : Nat) : (s.eventIf c b).queues = s.queues := by cases c <;> rfl
@[simp] theorem eventIf_sems (c : Bool) (b : Nat) : (s.eventIf c b).sems = s.sems := by cases c <;> rfl
@[simp] theorem eventIf_flt (c : Bool) (b : Nat) : (s.eventIf c b).flt = s.flt := by cases c <;> rfl
@[simp] theorem eventIf_saf (c : Bool) (b : Nat) : (s.eventIf c b).saf = s.saf := by cases c <;> rfl
@[simp] theorem eventIf_ses (c : Bool) (b : Nat) : (s.eventIf c b).ses = s.ses := by cases c <;> rfl
@[simp] theorem eventIf_loops (c : Bool) (b : Nat) : (s.eventIf c b).loops = s.loops := by cases c <;> rfl
@[simp] theorem eventIf_tuning (c : Bool) (b : Nat) : (s.eventIf c b).tuning = s.tuning := by cases c <;> rfl
@[simp] theorem eventIf_pwm (c : Bool) (b : Nat) : (s.eventIf c b).pwm = s.pwm := by cases c <;> rfl
@[simp] theorem eventIf_ctr (c : Bool) (b : Nat) : (s.eventIf c b).ctr = s.ctr := by cases c <;> rfl
@[simp] theorem eventIf_atlas (c : Bool) (b : Nat) : (s.eventIf c b).atlas = s.atlas := by cases c <;> rfl
@[simp] theorem eventIf_chassis (c : Bool) (b : Nat) : (s.eventIf c b).chassis = s.chassis := by cases c <;> rfl
@[simp] theorem eventIf_chWins (c : Bool) (b : Nat) : (s.eventIf c b).chWins = s.chWins := by cases c <;> rfl
@[simp] theorem eventIf_posWins (c : Bool) (b : Nat) : (s.eventIf c b).posWins = s.posWins := by cases c <;> rfl
@[simp] theorem eventIf_headAccs (c : Bool) (b : Nat) : (s.eventIf c b).headAccs = s.headAccs := by cases c <;> rfl
@[simp] theorem eventIf_tracks (c : Bool) (b : Nat) : (s.eventIf c b).tracks = s.tracks := by cases c <;> rfl
@[simp] theorem eventIf_written (c : Bool) (b : Nat) : (s.eventIf c b).written = s.written := by cases c <;> rfl
@[simp] theorem eventIf_poss (c : Bool) (b : Nat) : (s.eventIf c b).poss = s.poss := by cases c <;> rfl
@[simp] theorem eventIf_trv (c : Bool) (b : Nat) : (s.eventIf c b).trv = s.trv := by cases c <;> rfl
@[simp] theorem eventIf_der (c : Bool) (b : Nat) : (s.eventIf c b).der = s.der := by cases c <;> rfl
@[simp] theorem eventIf_sent (c : Bool) (b : Nat) : (s.eventIf c b).sent = s.sent := by cases c <;> rfl
@[simp] theorem eventIf_devs (c : Bool) (b : Nat) : (s.eventIf c b).devs = s.devs := by cases c <;> rfl

/-! ### Orders -/

@[simp] theorem react_now (x : Setting) : (s.react x).now = s.now := by unfold State.react; cases s.swp.reactCut <;> rfl
@[simp] theorem react_pending (x : Setting) : (s.react x).pending = s.pending := by unfold State.react; cases s.swp.reactCut <;> rfl
@[simp] theorem react_draws (x : Setting) : (s.react x).draws = s.draws := by unfold State.react; cases s.swp.reactCut <;> rfl
@[simp] theorem react_pw (x : Setting) : (s.react x).pw = s.pw := by unfold State.react; cases s.swp.reactCut <;> rfl
@[simp] theorem react_leg (x : Setting) : (s.react x).leg = s.leg := by unfold State.react; cases s.swp.reactCut <;> rfl
@[simp] theorem react_portA (x : Setting) : (s.react x).portA = s.portA := by unfold State.react; cases s.swp.reactCut <;> rfl
@[simp] theorem react_portB (x : Setting) : (s.react x).portB = s.portB := by unfold State.react; cases s.swp.reactCut <;> rfl
@[simp] theorem react_lastA (x : Setting) : (s.react x).lastA = s.lastA := by unfold State.react; cases s.swp.reactCut <;> rfl
@[simp] theorem react_queues (x : Setting) : (s.react x).queues = s.queues := by unfold State.react; cases s.swp.reactCut <;> rfl
@[simp] theorem react_sems (x : Setting) : (s.react x).sems = s.sems := by unfold State.react; cases s.swp.reactCut <;> rfl
@[simp] theorem react_flt (x : Setting) : (s.react x).flt = s.flt := by unfold State.react; cases s.swp.reactCut <;> rfl
@[simp] theorem react_saf (x : Setting) : (s.react x).saf = s.saf := by unfold State.react; cases s.swp.reactCut <;> rfl
@[simp] theorem react_ses (x : Setting) : (s.react x).ses = s.ses := by unfold State.react; cases s.swp.reactCut <;> rfl
@[simp] theorem react_loops (x : Setting) : (s.react x).loops = s.loops := by unfold State.react; cases s.swp.reactCut <;> rfl
@[simp] theorem react_tuning (x : Setting) : (s.react x).tuning = s.tuning := by unfold State.react; cases s.swp.reactCut <;> rfl
@[simp] theorem react_pwm (x : Setting) : (s.react x).pwm = s.pwm := by unfold State.react; cases s.swp.reactCut <;> rfl
@[simp] theorem react_ctr (x : Setting) : (s.react x).ctr = s.ctr := by unfold State.react; cases s.swp.reactCut <;> rfl
@[simp] theorem react_atlas (x : Setting) : (s.react x).atlas = s.atlas := by unfold State.react; cases s.swp.reactCut <;> rfl
@[simp] theorem react_chassis (x : Setting) : (s.react x).chassis = s.chassis := by unfold State.react; cases s.swp.reactCut <;> rfl
@[simp] theorem react_chWins (x : Setting) : (s.react x).chWins = s.chWins := by unfold State.react; cases s.swp.reactCut <;> rfl
@[simp] theorem react_posWins (x : Setting) : (s.react x).posWins = s.posWins := by unfold State.react; cases s.swp.reactCut <;> rfl
@[simp] theorem react_headAccs (x : Setting) : (s.react x).headAccs = s.headAccs := by unfold State.react; cases s.swp.reactCut <;> rfl
@[simp] theorem react_tracks (x : Setting) : (s.react x).tracks = s.tracks := by unfold State.react; cases s.swp.reactCut <;> rfl
@[simp] theorem react_written (x : Setting) : (s.react x).written = s.written := by unfold State.react; cases s.swp.reactCut <;> rfl
@[simp] theorem react_poss (x : Setting) : (s.react x).poss = s.poss := by unfold State.react; cases s.swp.reactCut <;> rfl
@[simp] theorem react_trv (x : Setting) : (s.react x).trv = s.trv := by unfold State.react; cases s.swp.reactCut <;> rfl
@[simp] theorem react_der (x : Setting) : (s.react x).der = s.der := by unfold State.react; cases s.swp.reactCut <;> rfl
@[simp] theorem react_sent (x : Setting) : (s.react x).sent = s.sent := by unfold State.react; cases s.swp.reactCut <;> rfl
@[simp] theorem react_devs (x : Setting) : (s.react x).devs = s.devs := by unfold State.react; cases s.swp.reactCut <;> rfl
@[simp] theorem land_now (x : Landed) : (s.land x).now = s.now := by unfold State.land; cases s.swp.hold <;> rfl
@[simp] theorem land_pending (x : Landed) : (s.land x).pending = s.pending := by unfold State.land; cases s.swp.hold <;> rfl
@[simp] theorem land_draws (x : Landed) : (s.land x).draws = s.draws := by unfold State.land; cases s.swp.hold <;> rfl
@[simp] theorem land_pw (x : Landed) : (s.land x).pw = s.pw := by unfold State.land; cases s.swp.hold <;> rfl
@[simp] theorem land_leg (x : Landed) : (s.land x).leg = s.leg := by unfold State.land; cases s.swp.hold <;> rfl
@[simp] theorem land_portA (x : Landed) : (s.land x).portA = s.portA := by unfold State.land; cases s.swp.hold <;> rfl
@[simp] theorem land_portB (x : Landed) : (s.land x).portB = s.portB := by unfold State.land; cases s.swp.hold <;> rfl
@[simp] theorem land_lastA (x : Landed) : (s.land x).lastA = s.lastA := by unfold State.land; cases s.swp.hold <;> rfl
@[simp] theorem land_queues (x : Landed) : (s.land x).queues = s.queues := by unfold State.land; cases s.swp.hold <;> rfl
@[simp] theorem land_sems (x : Landed) : (s.land x).sems = s.sems := by unfold State.land; cases s.swp.hold <;> rfl
@[simp] theorem land_flt (x : Landed) : (s.land x).flt = s.flt := by unfold State.land; cases s.swp.hold <;> rfl
@[simp] theorem land_saf (x : Landed) : (s.land x).saf = s.saf := by unfold State.land; cases s.swp.hold <;> rfl
@[simp] theorem land_ses (x : Landed) : (s.land x).ses = s.ses := by unfold State.land; cases s.swp.hold <;> rfl
@[simp] theorem land_loops (x : Landed) : (s.land x).loops = s.loops := by unfold State.land; cases s.swp.hold <;> rfl
@[simp] theorem land_tuning (x : Landed) : (s.land x).tuning = s.tuning := by unfold State.land; cases s.swp.hold <;> rfl
@[simp] theorem land_pwm (x : Landed) : (s.land x).pwm = s.pwm := by unfold State.land; cases s.swp.hold <;> rfl
@[simp] theorem land_ctr (x : Landed) : (s.land x).ctr = s.ctr := by unfold State.land; cases s.swp.hold <;> rfl
@[simp] theorem land_atlas (x : Landed) : (s.land x).atlas = s.atlas := by unfold State.land; cases s.swp.hold <;> rfl
@[simp] theorem land_chassis (x : Landed) : (s.land x).chassis = s.chassis := by unfold State.land; cases s.swp.hold <;> rfl
@[simp] theorem land_chWins (x : Landed) : (s.land x).chWins = s.chWins := by unfold State.land; cases s.swp.hold <;> rfl
@[simp] theorem land_posWins (x : Landed) : (s.land x).posWins = s.posWins := by unfold State.land; cases s.swp.hold <;> rfl
@[simp] theorem land_headAccs (x : Landed) : (s.land x).headAccs = s.headAccs := by unfold State.land; cases s.swp.hold <;> rfl
@[simp] theorem land_tracks (x : Landed) : (s.land x).tracks = s.tracks := by unfold State.land; cases s.swp.hold <;> rfl
@[simp] theorem land_written (x : Landed) : (s.land x).written = s.written := by unfold State.land; cases s.swp.hold <;> rfl
@[simp] theorem land_poss (x : Landed) : (s.land x).poss = s.poss := by unfold State.land; cases s.swp.hold <;> rfl
@[simp] theorem land_trv (x : Landed) : (s.land x).trv = s.trv := by unfold State.land; cases s.swp.hold <;> rfl
@[simp] theorem land_der (x : Landed) : (s.land x).der = s.der := by unfold State.land; cases s.swp.hold <;> rfl
@[simp] theorem land_sent (x : Landed) : (s.land x).sent = s.sent := by unfold State.land; cases s.swp.hold <;> rfl
@[simp] theorem land_devs (x : Landed) : (s.land x).devs = s.devs := by unfold State.land; cases s.swp.hold <;> rfl
@[simp] theorem landReaction_now (x : Landed) : (s.landReaction x).now = s.now := by unfold State.landReaction; cases s.swp.reactCut <;> rfl
@[simp] theorem landReaction_pending (x : Landed) : (s.landReaction x).pending = s.pending := by unfold State.landReaction; cases s.swp.reactCut <;> rfl
@[simp] theorem landReaction_draws (x : Landed) : (s.landReaction x).draws = s.draws := by unfold State.landReaction; cases s.swp.reactCut <;> rfl
@[simp] theorem landReaction_pw (x : Landed) : (s.landReaction x).pw = s.pw := by unfold State.landReaction; cases s.swp.reactCut <;> rfl
@[simp] theorem landReaction_leg (x : Landed) : (s.landReaction x).leg = s.leg := by unfold State.landReaction; cases s.swp.reactCut <;> rfl
@[simp] theorem landReaction_portA (x : Landed) : (s.landReaction x).portA = s.portA := by unfold State.landReaction; cases s.swp.reactCut <;> rfl
@[simp] theorem landReaction_portB (x : Landed) : (s.landReaction x).portB = s.portB := by unfold State.landReaction; cases s.swp.reactCut <;> rfl
@[simp] theorem landReaction_lastA (x : Landed) : (s.landReaction x).lastA = s.lastA := by unfold State.landReaction; cases s.swp.reactCut <;> rfl
@[simp] theorem landReaction_queues (x : Landed) : (s.landReaction x).queues = s.queues := by unfold State.landReaction; cases s.swp.reactCut <;> rfl
@[simp] theorem landReaction_sems (x : Landed) : (s.landReaction x).sems = s.sems := by unfold State.landReaction; cases s.swp.reactCut <;> rfl
@[simp] theorem landReaction_flt (x : Landed) : (s.landReaction x).flt = s.flt := by unfold State.landReaction; cases s.swp.reactCut <;> rfl
@[simp] theorem landReaction_saf (x : Landed) : (s.landReaction x).saf = s.saf := by unfold State.landReaction; cases s.swp.reactCut <;> rfl
@[simp] theorem landReaction_ses (x : Landed) : (s.landReaction x).ses = s.ses := by unfold State.landReaction; cases s.swp.reactCut <;> rfl
@[simp] theorem landReaction_loops (x : Landed) : (s.landReaction x).loops = s.loops := by unfold State.landReaction; cases s.swp.reactCut <;> rfl
@[simp] theorem landReaction_tuning (x : Landed) : (s.landReaction x).tuning = s.tuning := by unfold State.landReaction; cases s.swp.reactCut <;> rfl
@[simp] theorem landReaction_pwm (x : Landed) : (s.landReaction x).pwm = s.pwm := by unfold State.landReaction; cases s.swp.reactCut <;> rfl
@[simp] theorem landReaction_ctr (x : Landed) : (s.landReaction x).ctr = s.ctr := by unfold State.landReaction; cases s.swp.reactCut <;> rfl
@[simp] theorem landReaction_atlas (x : Landed) : (s.landReaction x).atlas = s.atlas := by unfold State.landReaction; cases s.swp.reactCut <;> rfl
@[simp] theorem landReaction_chassis (x : Landed) : (s.landReaction x).chassis = s.chassis := by unfold State.landReaction; cases s.swp.reactCut <;> rfl
@[simp] theorem landReaction_chWins (x : Landed) : (s.landReaction x).chWins = s.chWins := by unfold State.landReaction; cases s.swp.reactCut <;> rfl
@[simp] theorem landReaction_posWins (x : Landed) : (s.landReaction x).posWins = s.posWins := by unfold State.landReaction; cases s.swp.reactCut <;> rfl
@[simp] theorem landReaction_headAccs (x : Landed) : (s.landReaction x).headAccs = s.headAccs := by unfold State.landReaction; cases s.swp.reactCut <;> rfl
@[simp] theorem landReaction_tracks (x : Landed) : (s.landReaction x).tracks = s.tracks := by unfold State.landReaction; cases s.swp.reactCut <;> rfl
@[simp] theorem landReaction_written (x : Landed) : (s.landReaction x).written = s.written := by unfold State.landReaction; cases s.swp.reactCut <;> rfl
@[simp] theorem landReaction_poss (x : Landed) : (s.landReaction x).poss = s.poss := by unfold State.landReaction; cases s.swp.reactCut <;> rfl
@[simp] theorem landReaction_trv (x : Landed) : (s.landReaction x).trv = s.trv := by unfold State.landReaction; cases s.swp.reactCut <;> rfl
@[simp] theorem landReaction_der (x : Landed) : (s.landReaction x).der = s.der := by unfold State.landReaction; cases s.swp.reactCut <;> rfl
@[simp] theorem landReaction_sent (x : Landed) : (s.landReaction x).sent = s.sent := by unfold State.landReaction; cases s.swp.reactCut <;> rfl
@[simp] theorem landReaction_devs (x : Landed) : (s.landReaction x).devs = s.devs := by unfold State.landReaction; cases s.swp.reactCut <;> rfl

/-! ### Parts that an update changes -/

theorem getD_modAt {α : Type} (l : List α) (i j : Nat) (f : α → α) (d : α) :
    (modAt l i f).getD j d = if i = j ∧ j < l.length then f (l.getD j d) else l.getD j d := by
  unfold modAt
  simp only [List.getD_eq_getElem?_getD, List.getElem?_modify]
  by_cases h : i = j
  · subst h
    by_cases hl : i < l.length
    · simp [hl]
    · simp [hl]
  · simp [h]

@[simp] theorem dev_modDev_self (d : Nat) (f : Dev → Dev) (h : d < s.devs.length) : (s.modDev d f).dev d = f (s.dev d) := by
  simp only [State.dev, State.modDev, getD_modAt, h, and_self, if_true]

theorem dev_modDev_other (d e : Nat) (f : Dev → Dev) (h : e ≠ d) : (s.modDev d f).dev e = s.dev e := by
  simp only [State.dev, State.modDev, getD_modAt]
  rw [if_neg (fun x => h x.1.symm)]

@[simp] theorem chan_modChan_self (n : Nat) (f : Channel → Channel) (h : n < s.saf.ch.length) :
    (s.modChan n f).chan n = f (s.chan n) := by
  simp only [State.chan, State.modChan, getD_modAt, h, and_self, if_true]

theorem chan_modChan_other (n m : Nat) (f : Channel → Channel) (h : m ≠ n) : (s.modChan n f).chan m = s.chan m := by
  simp only [State.chan, State.modChan, getD_modAt]
  rw [if_neg (fun x => h x.1.symm)]

/-- A slot that is awake is one of the ring's slots. -/
theorem lt_of_awake (d : Nat) (h : (s.dev d).awake = true) : d < s.devs.length := by
  by_contra hn
  have : s.dev d = {} := by
    unfold State.dev; rw [List.getD_eq_getElem?_getD, List.getElem?_eq_none (Nat.le_of_not_lt hn)]; rfl
  rw [this] at h; exact absurd h (by decide)

@[simp] theorem port_modPort_self (h : HostId) (f : HostPort → HostPort) : (s.modPort h f).port h = f (s.port h) := by
  cases h <;> rfl

theorem port_modPort_other (h g : HostId) (f : HostPort → HostPort) (n : g ≠ h) : (s.modPort h f).port g = s.port g := by
  cases h <;> cases g <;> first | rfl | exact absurd rfl n

/-- An event sets only event flags. -/
theorem port_event (b : Nat) (h : HostId) : (s.event b).port h = (s.port h).flag b := by cases h <;> rfl

@[simp] theorem dev_until (t d : Nat) : (s.until t).dev d = s.dev d := rfl
@[simp] theorem dev_event (b d : Nat) : (s.event b).dev d = s.dev d := rfl

end Sys2Proof.Machine.State
end

