-- ==== Sys2Proof/Laws/Trip.lean ====
section
/-!
SUPPORT. The laws of ERR_OUT, the trip path and the end of a command (R353, R354, R402; log 51): what they leave alone, and
what the trip path makes true.
-/

namespace Sys2Proof.Machine

namespace State

variable (s : State)

/-! ### Choices and folds -/

theorem foldNat_keep {β : Type} (l : List Nat) (g : State → Nat → State) (p : State → β) (h : ∀ t n, p (g t n) = p t) :
    ∀ t : State, p (t.foldNat l g) = p t := by
  unfold State.foldNat
  induction l with
  | nil => intro t; rfl
  | cons n l ih => intro t; rw [List.foldl_cons, ih, h]

theorem cond_keep {β : Type} (p : State → β) (c : Bool) (a b : State) (h : p a = p b) : p (cond c a b) = p b := by
  cases c
  · rfl
  · exact h

/-! ### ERR_OUT and the drives -/

@[simp] theorem errDrop_now : (s.errDrop).now = s.now := by unfold State.errDrop; cases s.flt.errLow <;> rfl
@[simp] theorem errDrop_pending : (s.errDrop).pending = s.pending := by unfold State.errDrop; cases s.flt.errLow <;> rfl
@[simp] theorem errDrop_draws : (s.errDrop).draws = s.draws := by unfold State.errDrop; cases s.flt.errLow <;> rfl
@[simp] theorem errDrop_pw : (s.errDrop).pw = s.pw := by unfold State.errDrop; cases s.flt.errLow <;> rfl
@[simp] theorem errDrop_swp : (s.errDrop).swp = s.swp := by unfold State.errDrop; cases s.flt.errLow <;> rfl
@[simp] theorem errDrop_leg : (s.errDrop).leg = s.leg := by unfold State.errDrop; cases s.flt.errLow <;> rfl
@[simp] theorem errDrop_portA : (s.errDrop).portA = s.portA := by unfold State.errDrop; cases s.flt.errLow <;> rfl
@[simp] theorem errDrop_portB : (s.errDrop).portB = s.portB := by unfold State.errDrop; cases s.flt.errLow <;> rfl
@[simp] theorem errDrop_lastA : (s.errDrop).lastA = s.lastA := by unfold State.errDrop; cases s.flt.errLow <;> rfl
@[simp] theorem errDrop_queues : (s.errDrop).queues = s.queues := by unfold State.errDrop; cases s.flt.errLow <;> rfl
@[simp] theorem errDrop_sems : (s.errDrop).sems = s.sems := by unfold State.errDrop; cases s.flt.errLow <;> rfl
@[simp] theorem errDrop_saf : (s.errDrop).saf = s.saf := by unfold State.errDrop; cases s.flt.errLow <;> rfl
@[simp] theorem errDrop_ses : (s.errDrop).ses = s.ses := by unfold State.errDrop; cases s.flt.errLow <;> rfl
@[simp] theorem errDrop_loops : (s.errDrop).loops = s.loops := by unfold State.errDrop; cases s.flt.errLow <;> rfl
@[simp] theorem errDrop_tuning : (s.errDrop).tuning = s.tuning := by unfold State.errDrop; cases s.flt.errLow <;> rfl
@[simp] theorem errDrop_pwm : (s.errDrop).pwm = s.pwm := by unfold State.errDrop; cases s.flt.errLow <;> rfl
@[simp] theorem errDrop_ctr : (s.errDrop).ctr = s.ctr := by unfold State.errDrop; cases s.flt.errLow <;> rfl
@[simp] theorem errDrop_atlas : (s.errDrop).atlas = s.atlas := by unfold State.errDrop; cases s.flt.errLow <;> rfl
@[simp] theorem errDrop_chassis : (s.errDrop).chassis = s.chassis := by unfold State.errDrop; cases s.flt.errLow <;> rfl
@[simp] theorem errDrop_chWins : (s.errDrop).chWins = s.chWins := by unfold State.errDrop; cases s.flt.errLow <;> rfl
@[simp] theorem errDrop_posWins : (s.errDrop).posWins = s.posWins := by unfold State.errDrop; cases s.flt.errLow <;> rfl
@[simp] theorem errDrop_headAccs : (s.errDrop).headAccs = s.headAccs := by unfold State.errDrop; cases s.flt.errLow <;> rfl
@[simp] theorem errDrop_tracks : (s.errDrop).tracks = s.tracks := by unfold State.errDrop; cases s.flt.errLow <;> rfl
@[simp] theorem errDrop_written : (s.errDrop).written = s.written := by unfold State.errDrop; cases s.flt.errLow <;> rfl
@[simp] theorem errDrop_poss : (s.errDrop).poss = s.poss := by unfold State.errDrop; cases s.flt.errLow <;> rfl
@[simp] theorem errDrop_trv : (s.errDrop).trv = s.trv := by unfold State.errDrop; cases s.flt.errLow <;> rfl
@[simp] theorem errDrop_der : (s.errDrop).der = s.der := by unfold State.errDrop; cases s.flt.errLow <;> rfl
@[simp] theorem errDrop_sent : (s.errDrop).sent = s.sent := by unfold State.errDrop; cases s.flt.errLow <;> rfl
@[simp] theorem errDrop_devs : (s.errDrop).devs = s.devs := by unfold State.errDrop; cases s.flt.errLow <;> rfl
@[simp] theorem errEval_now : (s.errEval).now = s.now := by unfold State.errEval; cases s.errCond <;> simp
@[simp] theorem errEval_pending : (s.errEval).pending = s.pending := by unfold State.errEval; cases s.errCond <;> simp
@[simp] theorem errEval_draws : (s.errEval).draws = s.draws := by unfold State.errEval; cases s.errCond <;> simp
@[simp] theorem errEval_pw : (s.errEval).pw = s.pw := by unfold State.errEval; cases s.errCond <;> simp
@[simp] theorem errEval_swp : (s.errEval).swp = s.swp := by unfold State.errEval; cases s.errCond <;> simp
@[simp] theorem errEval_leg : (s.errEval).leg = s.leg := by unfold State.errEval; cases s.errCond <;> simp
@[simp] theorem errEval_portA : (s.errEval).portA = s.portA := by unfold State.errEval; cases s.errCond <;> simp
@[simp] theorem errEval_portB : (s.errEval).portB = s.portB := by unfold State.errEval; cases s.errCond <;> simp
@[simp] theorem errEval_lastA : (s.errEval).lastA = s.lastA := by unfold State.errEval; cases s.errCond <;> simp
@[simp] theorem errEval_queues : (s.errEval).queues = s.queues := by unfold State.errEval; cases s.errCond <;> simp
@[simp] theorem errEval_sems : (s.errEval).sems = s.sems := by unfold State.errEval; cases s.errCond <;> simp
@[simp] theorem errEval_saf : (s.errEval).saf = s.saf := by unfold State.errEval; cases s.errCond <;> simp
@[simp] theorem errEval_ses : (s.errEval).ses = s.ses := by unfold State.errEval; cases s.errCond <;> simp
@[simp] theorem errEval_loops : (s.errEval).loops = s.loops := by unfold State.errEval; cases s.errCond <;> simp
@[simp] theorem errEval_tuning : (s.errEval).tuning = s.tuning := by unfold State.errEval; cases s.errCond <;> simp
@[simp] theorem errEval_pwm : (s.errEval).pwm = s.pwm := by unfold State.errEval; cases s.errCond <;> simp
@[simp] theorem errEval_ctr : (s.errEval).ctr = s.ctr := by unfold State.errEval; cases s.errCond <;> simp
@[simp] theorem errEval_atlas : (s.errEval).atlas = s.atlas := by unfold State.errEval; cases s.errCond <;> simp
@[simp] theorem errEval_chassis : (s.errEval).chassis = s.chassis := by unfold State.errEval; cases s.errCond <;> simp
@[simp] theorem errEval_chWins : (s.errEval).chWins = s.chWins := by unfold State.errEval; cases s.errCond <;> simp
@[simp] theorem errEval_posWins : (s.errEval).posWins = s.posWins := by unfold State.errEval; cases s.errCond <;> simp
@[simp] theorem errEval_headAccs : (s.errEval).headAccs = s.headAccs := by unfold State.errEval; cases s.errCond <;> simp
@[simp] theorem errEval_tracks : (s.errEval).tracks = s.tracks := by unfold State.errEval; cases s.errCond <;> simp
@[simp] theorem errEval_written : (s.errEval).written = s.written := by unfold State.errEval; cases s.errCond <;> simp
@[simp] theorem errEval_poss : (s.errEval).poss = s.poss := by unfold State.errEval; cases s.errCond <;> simp
@[simp] theorem errEval_trv : (s.errEval).trv = s.trv := by unfold State.errEval; cases s.errCond <;> simp
@[simp] theorem errEval_der : (s.errEval).der = s.der := by unfold State.errEval; cases s.errCond <;> simp
@[simp] theorem errEval_sent : (s.errEval).sent = s.sent := by unfold State.errEval; cases s.errCond <;> simp
@[simp] theorem errEval_devs : (s.errEval).devs = s.devs := by unfold State.errEval; cases s.errCond <;> simp
@[simp] theorem errDrop_flt_latches : s.errDrop.flt.latches = s.flt.latches := by unfold State.errDrop; cases s.flt.errLow <;> rfl
@[simp] theorem errEval_flt_latches : s.errEval.flt.latches = s.flt.latches := by unfold State.errEval; cases s.errCond <;> simp
@[simp] theorem errDrop_flt_causes : s.errDrop.flt.causes = s.flt.causes := by unfold State.errDrop; cases s.flt.errLow <;> rfl
@[simp] theorem errEval_flt_causes : s.errEval.flt.causes = s.flt.causes := by unfold State.errEval; cases s.errCond <;> simp
@[simp] theorem errDrop_flt_log : s.errDrop.flt.log = s.flt.log := by unfold State.errDrop; cases s.flt.errLow <;> rfl
@[simp] theorem errEval_flt_log : s.errEval.flt.log = s.flt.log := by unfold State.errEval; cases s.errCond <;> simp
@[simp] theorem errDrop_flt_logSeq : s.errDrop.flt.logSeq = s.flt.logSeq := by unfold State.errDrop; cases s.flt.errLow <;> rfl
@[simp] theorem errEval_flt_logSeq : s.errEval.flt.logSeq = s.flt.logSeq := by unfold State.errEval; cases s.errCond <;> simp
@[simp] theorem errDrop_flt_first : s.errDrop.flt.first = s.flt.first := by unfold State.errDrop; cases s.flt.errLow <;> rfl
@[simp] theorem errEval_flt_first : s.errEval.flt.first = s.flt.first := by unfold State.errEval; cases s.errCond <;> simp
@[simp] theorem errDrop_flt_occ : s.errDrop.flt.occ = s.flt.occ := by unfold State.errDrop; cases s.flt.errLow <;> rfl
@[simp] theorem errEval_flt_occ : s.errEval.flt.occ = s.flt.occ := by unfold State.errEval; cases s.errCond <;> simp
@[simp] theorem errDrop_flt_masks : s.errDrop.flt.masks = s.flt.masks := by unfold State.errDrop; cases s.flt.errLow <;> rfl
@[simp] theorem errEval_flt_masks : s.errEval.flt.masks = s.flt.masks := by unfold State.errEval; cases s.errCond <;> simp
@[simp] theorem errDrop_flt_ctrl : s.errDrop.flt.ctrl = s.flt.ctrl := by unfold State.errDrop; cases s.flt.errLow <;> rfl
@[simp] theorem errEval_flt_ctrl : s.errEval.flt.ctrl = s.flt.ctrl := by unfold State.errEval; cases s.errCond <;> simp
@[simp] theorem dropAll_now : (s.dropAll).now = s.now := by simp [State.dropAll]
@[simp] theorem dropAll_pending : (s.dropAll).pending = s.pending := by simp [State.dropAll]
@[simp] theorem dropAll_draws : (s.dropAll).draws = s.draws := by simp [State.dropAll]
@[simp] theorem dropAll_pw : (s.dropAll).pw = s.pw := by simp [State.dropAll]
@[simp] theorem dropAll_swp : (s.dropAll).swp = s.swp := by simp [State.dropAll]
@[simp] theorem dropAll_leg : (s.dropAll).leg = s.leg := by simp [State.dropAll]
@[simp] theorem dropAll_lastA : (s.dropAll).lastA = s.lastA := by simp [State.dropAll]
@[simp] theorem dropAll_queues : (s.dropAll).queues = s.queues := by simp [State.dropAll]
@[simp] theorem dropAll_sems : (s.dropAll).sems = s.sems := by simp [State.dropAll]
@[simp] theorem dropAll_flt : (s.dropAll).flt = s.flt := by simp [State.dropAll]
@[simp] theorem dropAll_ses : (s.dropAll).ses = s.ses := by simp [State.dropAll]
@[simp] theorem dropAll_loops : (s.dropAll).loops = s.loops := by simp [State.dropAll]
@[simp] theorem dropAll_tuning : (s.dropAll).tuning = s.tuning := by simp [State.dropAll]
@[simp] theorem dropAll_pwm : (s.dropAll).pwm = s.pwm := by simp [State.dropAll]
@[simp] theorem dropAll_ctr : (s.dropAll).ctr = s.ctr := by simp [State.dropAll]
@[simp] theorem dropAll_atlas : (s.dropAll).atlas = s.atlas := by simp [State.dropAll]
@[simp] theorem dropAll_chassis : (s.dropAll).chassis = s.chassis := by simp [State.dropAll]
@[simp] theorem dropAll_chWins : (s.dropAll).chWins = s.chWins := by simp [State.dropAll]
@[simp] theorem dropAll_posWins : (s.dropAll).posWins = s.posWins := by simp [State.dropAll]
@[simp] theorem dropAll_headAccs : (s.dropAll).headAccs = s.headAccs := by simp [State.dropAll]
@[simp] theorem dropAll_tracks : (s.dropAll).tracks = s.tracks := by simp [State.dropAll]
@[simp] theorem dropAll_written : (s.dropAll).written = s.written := by simp [State.dropAll]
@[simp] theorem dropAll_poss : (s.dropAll).poss = s.poss := by simp [State.dropAll]
@[simp] theorem dropAll_trv : (s.dropAll).trv = s.trv := by simp [State.dropAll]
@[simp] theorem dropAll_der : (s.dropAll).der = s.der := by simp [State.dropAll]
@[simp] theorem dropAll_sent : (s.dropAll).sent = s.sent := by simp [State.dropAll]
@[simp] theorem dropAll_devs : (s.dropAll).devs = s.devs := by simp [State.dropAll]

/-! ### The trip path -/

@[simp] theorem evalTrip_now : (s.evalTrip).now = s.now := by
  unfold State.evalTrip; dsimp only; (repeat' split) <;> simp
@[simp] theorem evalTrip_pending : (s.evalTrip).pending = s.pending := by
  unfold State.evalTrip; dsimp only; (repeat' split) <;> simp
@[simp] theorem evalTrip_draws : (s.evalTrip).draws = s.draws := by
  unfold State.evalTrip; dsimp only; (repeat' split) <;> simp
@[simp] theorem evalTrip_pw : (s.evalTrip).pw = s.pw := by
  unfold State.evalTrip; dsimp only; (repeat' split) <;> simp
@[simp] theorem evalTrip_swp : (s.evalTrip).swp = s.swp := by
  unfold State.evalTrip; dsimp only; (repeat' split) <;> simp
@[simp] theorem evalTrip_leg : (s.evalTrip).leg = s.leg := by
  unfold State.evalTrip; dsimp only; (repeat' split) <;> simp
@[simp] theorem evalTrip_lastA : (s.evalTrip).lastA = s.lastA := by
  unfold State.evalTrip; dsimp only; (repeat' split) <;> simp
@[simp] theorem evalTrip_queues : (s.evalTrip).queues = s.queues := by
  unfold State.evalTrip; dsimp only; (repeat' split) <;> simp
@[simp] theorem evalTrip_sems : (s.evalTrip).sems = s.sems := by
  unfold State.evalTrip; dsimp only; (repeat' split) <;> simp
@[simp] theorem evalTrip_ses : (s.evalTrip).ses = s.ses := by
  unfold State.evalTrip; dsimp only; (repeat' split) <;> simp
@[simp] theorem evalTrip_loops : (s.evalTrip).loops = s.loops := by
  unfold State.evalTrip; dsimp only; (repeat' split) <;> simp
@[simp] theorem evalTrip_tuning : (s.evalTrip).tuning = s.tuning := by
  unfold State.evalTrip; dsimp only; (repeat' split) <;> simp
@[simp] theorem evalTrip_pwm : (s.evalTrip).pwm = s.pwm := by
  unfold State.evalTrip; dsimp only; (repeat' split) <;> simp
@[simp] theorem evalTrip_ctr : (s.evalTrip).ctr = s.ctr := by
  unfold State.evalTrip; dsimp only; (repeat' split) <;> simp
@[simp] theorem evalTrip_atlas : (s.evalTrip).atlas = s.atlas := by
  unfold State.evalTrip; dsimp only; (repeat' split) <;> simp
@[simp] theorem evalTrip_chassis : (s.evalTrip).chassis = s.chassis := by
  unfold State.evalTrip; dsimp only; (repeat' split) <;> simp
@[simp] theorem evalTrip_chWins : (s.evalTrip).chWins = s.chWins := by
  unfold State.evalTrip; dsimp only; (repeat' split) <;> simp
@[simp] theorem evalTrip_posWins : (s.evalTrip).posWins = s.posWins := by
  unfold State.evalTrip; dsimp only; (repeat' split) <;> simp
@[simp] theorem evalTrip_headAccs : (s.evalTrip).headAccs = s.headAccs := by
  unfold State.evalTrip; dsimp only; (repeat' split) <;> simp
@[simp] theorem evalTrip_tracks : (s.evalTrip).tracks = s.tracks := by
  unfold State.evalTrip; dsimp only; (repeat' split) <;> simp
@[simp] theorem evalTrip_written : (s.evalTrip).written = s.written := by
  unfold State.evalTrip; dsimp only; (repeat' split) <;> simp
@[simp] theorem evalTrip_poss : (s.evalTrip).poss = s.poss := by
  unfold State.evalTrip; dsimp only; (repeat' split) <;> simp
@[simp] theorem evalTrip_trv : (s.evalTrip).trv = s.trv := by
  unfold State.evalTrip; dsimp only; (repeat' split) <;> simp
@[simp] theorem evalTrip_der : (s.evalTrip).der = s.der := by
  unfold State.evalTrip; dsimp only; (repeat' split) <;> simp
@[simp] theorem evalTrip_sent : (s.evalTrip).sent = s.sent := by
  unfold State.evalTrip; dsimp only; (repeat' split) <;> simp
@[simp] theorem evalTrip_flt_latches : s.evalTrip.flt.latches = s.flt.latches := by
  unfold State.evalTrip; dsimp only; (repeat' split) <;> simp
@[simp] theorem evalTrip_flt_causes : s.evalTrip.flt.causes = s.flt.causes := by
  unfold State.evalTrip; dsimp only; (repeat' split) <;> simp
@[simp] theorem evalTrip_flt_log : s.evalTrip.flt.log = s.flt.log := by
  unfold State.evalTrip; dsimp only; (repeat' split) <;> simp
@[simp] theorem evalTrip_flt_logSeq : s.evalTrip.flt.logSeq = s.flt.logSeq := by
  unfold State.evalTrip; dsimp only; (repeat' split) <;> simp
@[simp] theorem evalTrip_flt_first : s.evalTrip.flt.first = s.flt.first := by
  unfold State.evalTrip; dsimp only; (repeat' split) <;> simp
@[simp] theorem evalTrip_flt_occ : s.evalTrip.flt.occ = s.flt.occ := by
  unfold State.evalTrip; dsimp only; (repeat' split) <;> simp
@[simp] theorem evalTrip_flt_masks : s.evalTrip.flt.masks = s.flt.masks := by
  unfold State.evalTrip; dsimp only; (repeat' split) <;> simp
@[simp] theorem evalTrip_flt_ctrl : s.evalTrip.flt.ctrl = s.flt.ctrl := by
  unfold State.evalTrip; dsimp only; (repeat' split) <;> simp

/-- What the sources are read from is not the trip path's to change. -/
theorem dropAll_saf : s.dropAll.saf = { s.saf with
    ch := s.saf.ch.map (fun (c : Channel) => cond c.energised (c.drop s.now false) c) } := by
  simp [State.dropAll]

@[simp] theorem evalTrip_saf_inputs : s.evalTrip.saf.inputs = s.saf.inputs := by
  unfold State.evalTrip; dsimp only; (repeat' split) <;> simp [dropAll_saf]
@[simp] theorem evalTrip_saf_sErr : s.evalTrip.saf.sErr = s.saf.sErr := by
  unfold State.evalTrip; dsimp only; (repeat' split) <;> simp [dropAll_saf]
@[simp] theorem evalTrip_saf_sErrAt : s.evalTrip.saf.sErrAt = s.saf.sErrAt := by
  unfold State.evalTrip; dsimp only; (repeat' split) <;> simp [dropAll_saf]
@[simp] theorem evalTrip_saf_overTemp : s.evalTrip.saf.overTemp = s.saf.overTemp := by
  unfold State.evalTrip; dsimp only; (repeat' split) <;> simp [dropAll_saf]
@[simp] theorem evalTrip_saf_watchdog : s.evalTrip.saf.watchdog = s.saf.watchdog := by
  unfold State.evalTrip; dsimp only; (repeat' split) <;> simp [dropAll_saf]
@[simp] theorem evalTrip_saf_slEqual : s.evalTrip.saf.slEqual = s.saf.slEqual := by
  unfold State.evalTrip; dsimp only; (repeat' split) <;> simp [dropAll_saf]
@[simp] theorem evalTrip_saf_weldDue : s.evalTrip.saf.weldDue = s.saf.weldDue := by
  unfold State.evalTrip; dsimp only; (repeat' split) <;> simp [dropAll_saf]
@[simp] theorem evalTrip_saf_cplAt : s.evalTrip.saf.cplAt = s.saf.cplAt := by
  unfold State.evalTrip; dsimp only; (repeat' split) <;> simp [dropAll_saf]
@[simp] theorem evalTrip_saf_coupled : s.evalTrip.saf.coupled = s.saf.coupled := by
  unfold State.evalTrip; dsimp only; (repeat' split) <;> simp [dropAll_saf]
@[simp] theorem evalTrip_saf_blockedBy : s.evalTrip.saf.blockedBy = s.saf.blockedBy := by
  unfold State.evalTrip; dsimp only; (repeat' split) <;> simp [dropAll_saf]

/-- The trip path does not change its sources. -/
@[simp] theorem evalTrip_tripMask : s.evalTrip.tripMask = s.tripMask := by
  have h1 : ∀ n, s.evalTrip.sevAtLeast n = s.sevAtLeast n := fun n => by simp only [State.sevAtLeast, evalTrip_flt_latches]
  have h2 : ∀ i, s.evalTrip.siRole i = s.siRole i := fun i => by
    simp only [State.siRole, State.siWord, State.par, evalTrip_leg]
  have h3 : ∀ i, s.evalTrip.input i = s.input i := fun i => by simp only [State.input, evalTrip_saf_inputs]
  simp only [State.tripMask, h1, h2, h3, evalTrip_saf_sErr, evalTrip_saf_slEqual, evalTrip_saf_overTemp,
    evalTrip_saf_watchdog, evalTrip_pw]

theorem drop_not_energised (c : Channel) (now : Nat) (own : Bool) : (c.drop now own).energised = false := by
  unfold Channel.drop Channel.energised; cases c.kf <;> cases own <;> rfl

theorem dropAll_off : ∀ c ∈ s.dropAll.saf.ch, c.energised = false := by
  intro c hc
  rw [dropAll_saf] at hc
  obtain ⟨x, _, rfl⟩ := List.mem_map.1 hc
  cases h : x.energised
  · simpa using h
  · simpa using drop_not_energised x s.now false

/-- While a source is asserted the trip path holds the latch set, ARMED clear and every drive off (R353, R354). -/
theorem evalTrip_safe (h : s.tripMask ≠ 0) :
    s.evalTrip.saf.tripLatch = true ∧ s.evalTrip.saf.armed = false ∧ ∀ c ∈ s.evalTrip.saf.ch, c.energised = false := by
  unfold State.evalTrip
  simp only [h, if_false]
  split
  · exact ⟨by simp [dropAll_saf], by simp [dropAll_saf], dropAll_off _⟩
  · refine ⟨by simp [dropAll_saf], by simp [dropAll_saf], ?_⟩
    intro c hc
    simp only [errDrop_saf, event_saf] at hc
    exact dropAll_off _ c hc

/-- With no source asserted the trip path leaves channels, latch and ARMED alone. -/
theorem evalTrip_quiet (h : s.tripMask = 0) :
    s.evalTrip.saf.ch = s.saf.ch ∧ s.evalTrip.saf.tripLatch = s.saf.tripLatch ∧ s.evalTrip.saf.armed = s.saf.armed := by
  unfold State.evalTrip; simp only [h, if_true]; split <;> simp

theorem modDev_body (d e : Nat) (f : Dev → Dev) (hf : ∀ x, (f x).body = x.body) :
    ((s.modDev d f).dev e).body = (s.dev e).body := by
  by_cases h : e = d
  · subst h
    by_cases hl : e < s.devs.length
    · rw [dev_modDev_self s e f hl, hf]
    · simp only [State.dev, State.modDev, getD_modAt, hl, and_false, if_false]
  · rw [dev_modDev_other s d e f h]

/-- The trip path touches no device but for the level of C_ERR. -/
@[simp] theorem evalTrip_body (e : Nat) : (s.evalTrip.dev e).body = (s.dev e).body := by
  unfold State.evalTrip
  simp only
  split
  · split
    · rw [modDev_body]
      · rfl
      · intro _; rfl
    · rfl
  · split
    · simp only [State.dev, dropAll_devs]
    · simp only [State.dev, errDrop_devs, event_devs, dropAll_devs]

/-! ### The end of a command -/

@[simp] theorem finish_draws (t : State) : (s.finish t).draws = t.draws := by
  unfold State.finish; cases h : t.pw.running <;> simp [h]
@[simp] theorem finish_pw (t : State) : (s.finish t).pw = t.pw := by
  unfold State.finish; cases h : t.pw.running <;> simp [h]
@[simp] theorem finish_swp (t : State) : (s.finish t).swp = t.swp := by
  unfold State.finish; cases h : t.pw.running <;> simp [h]
@[simp] theorem finish_leg (t : State) : (s.finish t).leg = t.leg := by
  unfold State.finish; cases h : t.pw.running <;> simp [h]
@[simp] theorem finish_lastA (t : State) : (s.finish t).lastA = t.lastA := by
  unfold State.finish; cases h : t.pw.running <;> simp [h]
@[simp] theorem finish_queues (t : State) : (s.finish t).queues = t.queues := by
  unfold State.finish; cases h : t.pw.running <;> simp [h]
@[simp] theorem finish_sems (t : State) : (s.finish t).sems = t.sems := by
  unfold State.finish; cases h : t.pw.running <;> simp [h]
@[simp] theorem finish_ses (t : State) : (s.finish t).ses = t.ses := by
  unfold State.finish; cases h : t.pw.running <;> simp [h]
@[simp] theorem finish_loops (t : State) : (s.finish t).loops = t.loops := by
  unfold State.finish; cases h : t.pw.running <;> simp [h]
@[simp] theorem finish_tuning (t : State) : (s.finish t).tuning = t.tuning := by
  unfold State.finish; cases h : t.pw.running <;> simp [h]
@[simp] theorem finish_pwm (t : State) : (s.finish t).pwm = t.pwm := by
  unfold State.finish; cases h : t.pw.running <;> simp [h]
@[simp] theorem finish_ctr (t : State) : (s.finish t).ctr = t.ctr := by
  unfold State.finish; cases h : t.pw.running <;> simp [h]
@[simp] theorem finish_atlas (t : State) : (s.finish t).atlas = t.atlas := by
  unfold State.finish; cases h : t.pw.running <;> simp [h]
@[simp] theorem finish_chassis (t : State) : (s.finish t).chassis = t.chassis := by
  unfold State.finish; cases h : t.pw.running <;> simp [h]
@[simp] theorem finish_chWins (t : State) : (s.finish t).chWins = t.chWins := by
  unfold State.finish; cases h : t.pw.running <;> simp [h]
@[simp] theorem finish_posWins (t : State) : (s.finish t).posWins = t.posWins := by
  unfold State.finish; cases h : t.pw.running <;> simp [h]
@[simp] theorem finish_headAccs (t : State) : (s.finish t).headAccs = t.headAccs := by
  unfold State.finish; cases h : t.pw.running <;> simp [h]
@[simp] theorem finish_tracks (t : State) : (s.finish t).tracks = t.tracks := by
  unfold State.finish; cases h : t.pw.running <;> simp [h]
@[simp] theorem finish_written (t : State) : (s.finish t).written = t.written := by
  unfold State.finish; cases h : t.pw.running <;> simp [h]
@[simp] theorem finish_poss (t : State) : (s.finish t).poss = t.poss := by
  unfold State.finish; cases h : t.pw.running <;> simp [h]
@[simp] theorem finish_trv (t : State) : (s.finish t).trv = t.trv := by
  unfold State.finish; cases h : t.pw.running <;> simp [h]
@[simp] theorem finish_der (t : State) : (s.finish t).der = t.der := by
  unfold State.finish; cases h : t.pw.running <;> simp [h]
@[simp] theorem finish_sent (t : State) : (s.finish t).sent = t.sent := by
  unfold State.finish; cases h : t.pw.running <;> simp [h]
@[simp] theorem finish_flt_latches (t : State) : (s.finish t).flt.latches = t.flt.latches := by
  unfold State.finish; cases h : t.pw.running <;> simp [h]
@[simp] theorem finish_flt_causes (t : State) : (s.finish t).flt.causes = t.flt.causes := by
  unfold State.finish; cases h : t.pw.running <;> simp [h]
@[simp] theorem finish_flt_log (t : State) : (s.finish t).flt.log = t.flt.log := by
  unfold State.finish; cases h : t.pw.running <;> simp [h]
@[simp] theorem finish_flt_logSeq (t : State) : (s.finish t).flt.logSeq = t.flt.logSeq := by
  unfold State.finish; cases h : t.pw.running <;> simp [h]
@[simp] theorem finish_flt_first (t : State) : (s.finish t).flt.first = t.flt.first := by
  unfold State.finish; cases h : t.pw.running <;> simp [h]
@[simp] theorem finish_flt_occ (t : State) : (s.finish t).flt.occ = t.flt.occ := by
  unfold State.finish; cases h : t.pw.running <;> simp [h]
@[simp] theorem finish_flt_masks (t : State) : (s.finish t).flt.masks = t.flt.masks := by
  unfold State.finish; cases h : t.pw.running <;> simp [h]
@[simp] theorem finish_flt_ctrl (t : State) : (s.finish t).flt.ctrl = t.flt.ctrl := by
  unfold State.finish; cases h : t.pw.running <;> simp [h]
@[simp] theorem finish_saf_inputs (t : State) : (s.finish t).saf.inputs = t.saf.inputs := by
  unfold State.finish; cases h : t.pw.running <;> simp [h]
@[simp] theorem finish_saf_sErr (t : State) : (s.finish t).saf.sErr = t.saf.sErr := by
  unfold State.finish; cases h : t.pw.running <;> simp [h]
@[simp] theorem finish_saf_sErrAt (t : State) : (s.finish t).saf.sErrAt = t.saf.sErrAt := by
  unfold State.finish; cases h : t.pw.running <;> simp [h]
@[simp] theorem finish_saf_overTemp (t : State) : (s.finish t).saf.overTemp = t.saf.overTemp := by
  unfold State.finish; cases h : t.pw.running <;> simp [h]
@[simp] theorem finish_saf_watchdog (t : State) : (s.finish t).saf.watchdog = t.saf.watchdog := by
  unfold State.finish; cases h : t.pw.running <;> simp [h]
@[simp] theorem finish_saf_slEqual (t : State) : (s.finish t).saf.slEqual = t.saf.slEqual := by
  unfold State.finish; cases h : t.pw.running <;> simp [h]
@[simp] theorem finish_saf_weldDue (t : State) : (s.finish t).saf.weldDue = t.saf.weldDue := by
  unfold State.finish; cases h : t.pw.running <;> simp [h]
@[simp] theorem finish_saf_cplAt (t : State) : (s.finish t).saf.cplAt = t.saf.cplAt := by
  unfold State.finish; cases h : t.pw.running <;> simp [h]
@[simp] theorem finish_saf_coupled (t : State) : (s.finish t).saf.coupled = t.saf.coupled := by
  unfold State.finish; cases h : t.pw.running <;> simp [h]
@[simp] theorem finish_saf_blockedBy (t : State) : (s.finish t).saf.blockedBy = t.saf.blockedBy := by
  unfold State.finish; cases h : t.pw.running <;> simp [h]
@[simp] theorem finish_pending (t : State) : (s.finish t).pending = s.pending := by
  unfold State.finish; cases h : t.pw.running <;> simp [h]
@[simp] theorem finish_now (t : State) : (s.finish t).now = max s.now t.now := by
  unfold State.finish; cases h : t.pw.running <;> simp [h]
/-- A command that leaves the C-die out of reset ends with the trip path. -/
theorem finish_running (t : State) (h : t.pw.running = true) :
    s.finish t = { t with pending := s.pending, now := max s.now t.now }.evalTrip := by
  unfold State.finish; simp [h]

/-- With the C-die in reset there is no trip path. -/
theorem finish_halted (t : State) (h : t.pw.running = false) :
    s.finish t = { t with pending := s.pending, now := max s.now t.now } := by
  unfold State.finish; simp [h]

@[simp] theorem finish_body (t : State) (e : Nat) : ((s.finish t).dev e).body = (t.dev e).body := by
  cases h : t.pw.running
  · rw [finish_halted s t h]; rfl
  · rw [finish_running s t h, evalTrip_body]; rfl

/-- The ports keep all but their interrupt flags. -/
theorem event_port_body (h : HostId) (b : Nat) : ((s.event b).port h).body = (s.port h).body := by cases h <;> rfl

theorem eventIf_port_body (h : HostId) (c : Bool) (b : Nat) : ((s.eventIf c b).port h).body = (s.port h).body := by
  cases c
  · rfl
  · exact event_port_body s h b

theorem errDrop_port (h : HostId) : s.errDrop.port h = s.port h := by
  unfold State.errDrop; cases s.flt.errLow <;> cases h <;> rfl

theorem dropAll_port_body (h : HostId) : (s.dropAll.port h).body = (s.port h).body := by
  unfold State.dropAll; dsimp only; rw [eventIf_port_body]; cases h <;> rfl

theorem modDev_port (d : Nat) (f : Dev → Dev) (h : HostId) : (s.modDev d f).port h = s.port h := by cases h <;> rfl

@[simp] theorem evalTrip_port_body (h : HostId) : (s.evalTrip.port h).body = (s.port h).body := by
  unfold State.evalTrip
  dsimp only
  split
  · split
    · rw [modDev_port]; cases h <;> rfl
    · cases h <;> rfl
  · split
    · rw [dropAll_port_body]; cases h <;> rfl
    · rw [errDrop_port, event_port_body, dropAll_port_body]; cases h <;> rfl

@[simp] theorem finish_port_body (t : State) (h : HostId) : ((s.finish t).port h).body = (t.port h).body := by
  cases hr : t.pw.running
  · rw [finish_halted s t hr]; cases h <;> rfl
  · rw [finish_running s t hr, evalTrip_port_body]; cases h <;> rfl

theorem staged_of_body {p q : HostPort} (h : p.body = q.body) : p.staged = q.staged := by
  have := congrArg HostPort.staged h
  exact this

@[simp] theorem finish_staged (t : State) (h : HostId) : ((s.finish t).port h).staged = (t.port h).staged :=
  staged_of_body (finish_port_body s t h)

@[simp] theorem finish_flt_body (t : State) : (s.finish t).flt.body = t.flt.body := by
  have h1 : ∀ u : State, u.errDrop.flt.body = u.flt.body := fun u => by
    unfold State.errDrop; cases u.flt.errLow <;> rfl
  have h2 : ∀ u : State, u.evalTrip.flt.body = u.flt.body := fun u => by
    unfold State.evalTrip; dsimp only; (repeat' split) <;> simp [h1]
  cases hr : t.pw.running
  · rw [finish_halted s t hr]
  · rw [finish_running s t hr, h2]

@[simp] theorem finish_saf_body (t : State) : (s.finish t).saf.body = t.saf.body := by
  have h2 : ∀ u : State, u.evalTrip.saf.body = u.saf.body := fun u => by
    unfold State.evalTrip; dsimp only; (repeat' split) <;> simp [dropAll_saf, SafetySt.body]
  cases hr : t.pw.running
  · rw [finish_halted s t hr]
  · rw [finish_running s t hr, h2]

/-! ### The trip path at rest -/

theorem evalTrip_lastSrc : s.evalTrip.saf.lastSrc = s.tripMask := by
  unfold State.evalTrip; dsimp only; (repeat' split) <;> simp [dropAll_saf]

/-- The trip path follows its sources at once: it is at rest after each evaluation. -/
theorem evalTrip_atRest : s.evalTrip.atRest := by
  refine ⟨by rw [evalTrip_lastSrc, evalTrip_tripMask], ?_, ?_⟩
  · rw [evalTrip_tripMask]
    intro h
    obtain ⟨h1, h2, h3⟩ := evalTrip_safe s h
    refine ⟨h1, h2, List.all_eq_true.2 fun c hc => by simp [h3 c hc]⟩
  · rw [evalTrip_tripMask, evalTrip_saf_slEqual]
    intro h
    unfold State.evalTrip
    simp only [h, if_true]
    split
    · next hc =>
      by_cases hl : 0 < s.devs.length
      · rw [dev_modDev_self _ 0 _ (by simpa using hl)]; intro hf; cases hf
      · simp only [State.dev, State.modDev, getD_modAt, hl, and_false, if_false]
        have : s.devs = [] := List.eq_nil_of_length_eq_zero (Nat.eq_zero_of_not_pos hl)
        simp [this]
    · next hc =>
      intro he
      by_contra hs
      exact hc ⟨he, by simpa using hs⟩

theorem dropAll_id (h : s.saf.ch.all (fun c => !c.energised) = true) : s.dropAll = s := by
  have h1 : s.saf.ch.map (fun (c : Channel) => cond c.energised (c.drop s.now false) c) = s.saf.ch := by
    rw [List.map_congr_left (g := id) (fun c hc => by
      have := List.all_eq_true.1 h c hc
      simp only [Bool.not_eq_true'] at this
      simp [this])]
    simp
  have h2 : s.saf.ch.any (·.energised) = false := by
    rw [List.any_eq_false]
    intro c hc
    have := List.all_eq_true.1 h c hc
    simpa using this
  unfold State.dropAll
  dsimp only
  rw [h1, h2]
  rfl

/-- At rest the trip path has nothing to do. -/
theorem evalTrip_id (h : s.atRest) : s.evalTrip = s := by
  obtain ⟨h0, h1, h2⟩ := h
  by_cases hm : s.tripMask = 0
  · have hc : ¬ ((s.dev 0).cErr = true ∧ s.saf.slEqual.2 = false) := fun hc => by
      have := h2 hm hc.1
      rw [hc.2] at this
      cases this
    have e : s.evalTrip = { s with saf := { s.saf with lastSrc := s.tripMask } } := by
      unfold State.evalTrip
      dsimp only
      rw [if_pos hm]
      exact if_neg hc
    rw [e, ← h0]
  · obtain ⟨hl, ha, hc⟩ := h1 hm
    have hx : s.tripMask ^^^ (s.tripMask &&& s.saf.lastSrc) = 0 := by rw [h0]; simp
    have e : s.evalTrip
        = { s with saf := { s.saf with tripLatch := true, armed := false, lastSrc := s.tripMask } }.dropAll := by
      unfold State.evalTrip
      dsimp only
      rw [if_neg hm, if_pos hx]
    have e2 : { s with saf := { s.saf with tripLatch := true, armed := false, lastSrc := s.tripMask } } = s := by
      rw [← h0, ← hl, ← ha]
    exact e.trans ((congrArg State.dropAll e2).trans (dropAll_id s hc))

/-- What the trip path reads, and so whether it is at rest, is in these parts alone. -/
theorem atRest_of_eq {t : State} (h : s.atRest) (hm : t.tripMask = s.tripMask) (hs : t.saf.lastSrc = s.saf.lastSrc)
    (hl : t.saf.tripLatch = s.saf.tripLatch) (ha : t.saf.armed = s.saf.armed) (hc : t.saf.ch = s.saf.ch)
    (he : (t.dev 0).cErr = (s.dev 0).cErr) (hq : t.saf.slEqual = s.saf.slEqual) : t.atRest := by
  unfold State.atRest
  rw [hm, hs, hl, ha, hc, he, hq]
  exact h

/-- The sources are read from the latches, the Legend, the safety inputs and LOCKED alone. -/
theorem tripMask_congr {t : State} (h1 : t.flt.latches = s.flt.latches) (h2 : t.leg.active = s.leg.active)
    (h3 : t.saf.inputs = s.saf.inputs) (h4 : t.saf.sErr = s.saf.sErr) (h5 : t.saf.slEqual = s.saf.slEqual)
    (h6 : t.saf.overTemp = s.saf.overTemp) (h7 : t.saf.watchdog = s.saf.watchdog) (h8 : t.pw.locked = s.pw.locked) :
    t.tripMask = s.tripMask := by
  have e1 : ∀ n, t.sevAtLeast n = s.sevAtLeast n := fun n => by simp only [State.sevAtLeast, h1]
  have e2 : ∀ i, t.siRole i = s.siRole i := fun i => by simp only [State.siRole, State.siWord, State.par, h2]
  have e3 : ∀ i, t.input i = s.input i := fun i => by simp only [State.input, h3]
  simp only [State.tripMask, e1, e2, e3, h4, h5, h6, h7, h8]

/-- A command that leaves the trip path as it is ends as it stands. -/
theorem finish_same {t : State} (h : s.atRest) (hm : t.tripMask = s.tripMask) (h3 : t.saf = s.saf)
    (he : (t.dev 0).cErr = (s.dev 0).cErr) : s.finish t = { t with pending := s.pending, now := max s.now t.now } := by
  cases hr : t.pw.running
  · exact finish_halted s t hr
  · rw [finish_running s t hr]
    apply evalTrip_id
    have hm' : { t with pending := s.pending, now := max s.now t.now }.tripMask = t.tripMask :=
      tripMask_congr t rfl rfl rfl rfl rfl rfl rfl rfl
    exact atRest_of_eq s h (hm'.trans hm) (by rw [h3]) (by rw [h3]) (by rw [h3]) (by rw [h3]) he (by rw [h3])

/-- A command that touches nothing the trip path reads or drives ends as it stands. -/
theorem finish_id {t : State} (h : s.atRest) (h1 : t.flt.latches = s.flt.latches) (h2 : t.leg.active = s.leg.active)
    (h3 : t.saf = s.saf) (h8 : t.pw.locked = s.pw.locked) (he : (t.dev 0).cErr = (s.dev 0).cErr) :
    s.finish t = { t with pending := s.pending, now := max s.now t.now } :=
  finish_same s h (tripMask_congr s h1 h2 (by rw [h3]) (by rw [h3]) (by rw [h3]) (by rw [h3]) (by rw [h3]) h8) h3 he

/-- Every command ends with the trip path at rest, where the C-die is out of reset. -/
theorem finish_atRest (t : State) (h : t.pw.running = true) : (s.finish t).atRest := by
  rw [finish_running s t h]; exact evalTrip_atRest _

end State

end Sys2Proof.Machine
end

