-- ==== Sys2Proof/Laws/Faults.lean ====
section
/-!
SUPPORT. What an occurrence of a fault, a clearance and a change of operating state can touch, said once (R381, R382, R391 to
R394, R488), and that an occurrence leaves its cause present (R392).
-/

namespace Sys2Proof.Machine

/-- A state without all that an occurrence of a fault may touch. -/
def State.bare (s : State) : State :=
  { s with
    now := 0, pending := [], draws := 0, pw := {}, swp := {}, portA := s.portA.body, portB := s.portB.body, flt := {}
    saf := s.saf.body, loops := [], der := {}
    devs := s.devs.map (fun (d : Dev) => { d with cErr := false }) }

namespace State

variable (s : State)

theorem cond_bare (c : Bool) {a b : State} (h : a.bare = b.bare) : (cond c a b).bare = b.bare := by
  cases c
  · rfl
  · exact h

theorem ite_bare (c : Prop) [Decidable c] {a b x : State} (ha : a.bare = x.bare) (hb : b.bare = x.bare) :
    (if c then a else b).bare = x.bare := by
  split
  · exact ha
  · exact hb

@[simp] theorem event_bare (b : Nat) : (s.event b).bare = s.bare := rfl
@[simp] theorem eventIf_bare (c : Bool) (b : Nat) : (s.eventIf c b).bare = s.bare := by cases c <;> rfl
@[simp] theorem until_bare (t : Nat) : (s.until t).bare = s.bare := rfl
@[simp] theorem react_bare (x : Setting) : (s.react x).bare = s.bare := by
  unfold State.react; cases s.swp.reactCut <;> rfl
@[simp] theorem land_bare (x : Landed) : (s.land x).bare = s.bare := by
  unfold State.land; cases s.swp.hold <;> rfl
@[simp] theorem landReaction_bare (x : Landed) : (s.landReaction x).bare = s.bare := by
  unfold State.landReaction; cases s.swp.reactCut <;> rfl
@[simp] theorem logAt_bare (k c b p d w : Nat) (v : Word) : (s.logAt k c b p d w v).bare = s.bare := rfl
@[simp] theorem modLatch_bare (c : Nat) (f : Latch → Latch) : (s.modLatch c f).bare = s.bare := rfl
@[simp] theorem modLoop_bare (n : Nat) (f : LoopSlot → LoopSlot) : (s.modLoop n f).bare = s.bare := rfl
@[simp] theorem errDrop_bare : s.errDrop.bare = s.bare := by unfold State.errDrop; cases s.flt.errLow <;> rfl
@[simp] theorem errEval_bare : s.errEval.bare = s.bare := by unfold State.errEval; cases s.errCond <;> simp
@[simp] theorem dropAll_bare : s.dropAll.bare = s.bare := by unfold State.dropAll; dsimp only; rw [eventIf_bare]; rfl
@[simp] theorem openMask_bare (k : MaskKind) (d : Nat) : (s.openMask k d).bare = s.bare := rfl

/-- A change to the devices that each keeps but for C_ERR. -/
theorem modDev_bare (d : Nat) (f : Dev → Dev) (h : ∀ x, { f x with cErr := false } = { x with cErr := false }) :
    (s.modDev d f).bare = s.bare := by
  have hl : (modAt s.devs d f).map (fun (x : Dev) => { x with cErr := false })
      = s.devs.map (fun (x : Dev) => { x with cErr := false }) := by
    apply List.ext_getElem
    · simp [modAt]
    · intro i h1 h2
      simp only [modAt, List.getElem_map, List.getElem_modify]
      split
      · exact h _
      · rfl
  unfold State.modDev State.bare
  dsimp only
  rw [hl]

@[simp] theorem evalTrip_bare : s.evalTrip.bare = s.bare := by
  unfold State.evalTrip
  dsimp only
  split
  · split
    · rw [modDev_bare]
      · rfl
      · intro x; rfl
    · rfl
  · split
    · rw [dropAll_bare]; rfl
    · rw [errDrop_bare, event_bare, dropAll_bare]; rfl

@[simp] theorem finish_bare (t : State) : (s.finish t).bare = t.bare := by
  cases h : t.pw.running
  · rw [finish_halted s t h]; rfl
  · rw [finish_running s t h, evalTrip_bare]; rfl

@[simp] theorem enter_bare (o : OpState) : (s.enter o).bare = s.bare := by
  unfold State.enter
  dsimp only
  split
  · rfl
  · rw [cond_bare _ (react_bare _ _), cond_bare _ (react_bare _ _)]
    cases decide ((s.pw.op = .run ∧ o = .safe) ∨ (s.pw.op = .safe ∧ o = .run)) <;>
      cases decide (o = .dormant) || (decide (s.pw.op = .run ∨ s.pw.op = .safe) && decide (o = .config ∨ o = .locked)) <;>
      simp only [cond_true, cond_false, react_bare] <;> rfl

@[simp] theorem lock_bare : s.lock.bare = s.bare := by
  unfold State.lock
  split
  · simp
  · rw [enter_bare, event_bare]; rfl

theorem foldNat_bare (l : List Nat) (g : State → Nat → State) (h : ∀ t n, (g t n).bare = t.bare) :
    (s.foldNat l g).bare = s.bare := by
  unfold State.foldNat
  induction l generalizing s with
  | nil => rfl
  | cons n l ih => rw [List.foldl_cons, ih, h]

@[simp] theorem tripFallback_bare : s.tripFallback.bare = s.bare := by
  unfold State.tripFallback
  refine foldNat_bare s _ _ (fun t n => ?_)
  dsimp only
  split <;> simp

@[simp] theorem applySev_bare (old : Option Nat) (new : Nat) : (s.applySev old new).bare = s.bare := by
  unfold State.applySev
  dsimp only
  rw [evalTrip_bare, errEval_bare, cond_bare _ (enter_bare _ _), cond_bare _ (tripFallback_bare _), cond_bare _ (lock_bare _)]

@[simp] theorem furtherReaction_bare (x : Source) : (s.furtherReaction x).bare = s.bare := by
  unfold State.furtherReaction; (repeat' split) <;> simp

@[simp] theorem occur_bare (x : Source) (v : Word) (seen : Nat) : (s.occur x v seen).bare = s.bare := by
  unfold State.occur
  dsimp only
  rw [furtherReaction_bare, applySev_bare]
  cases (s.latch x.cls).latched
  · rfl
  · simp only [cond_true]
    rw [cond_bare _ (event_bare _ _)]
    rfl

/-- An occurrence touches only what `faultParts` names. -/
@[simp] theorem raiseAt_bare (x : Source) (v : Word) (ev : Bool) (seen : Nat) : (s.raiseAt x v ev seen).bare = s.bare := by
  unfold State.raiseAt
  split
  · rfl
  · dsimp only
    rw [cond_bare _ (occur_bare _ _ _ _).symm, occur_bare]
    cases decide (x.cls = 0x1C ∧ 1 ≤ x.sub ∧ x.sub ≤ 6) <;> rfl

@[simp] theorem raiseOpenAt_bare (x : Source) (ev : Bool) (seen : Nat) : (s.raiseOpenAt x ev seen).bare = s.bare := by
  unfold State.raiseOpenAt
  split
  · rfl
  · exact (raiseAt_bare s x (Config.openFaultValue s.draws) ev seen)

/-- A clearance touches only the collector and the interrupt flags. -/
@[simp] theorem clearAt_bare (x : Source) (seen : Nat) : (s.clearAt x seen).bare = s.bare := by
  unfold State.clearAt
  split
  · rw [logAt_bare, event_bare]; rfl
  · rfl

@[simp] theorem endMask_bare (k : MaskKind) : (s.endMask k).bare = s.bare := by
  unfold State.endMask
  dsimp only
  have h : ∀ (l : List Cause) (t : State), (l.foldl (fun (s : State) (c : Cause) =>
      if s.consequential c.src then s
      else
        let s := { s with flt := { s.flt with
          causes := s.flt.causes.map (fun (y : Cause) => if y.src = c.src then { y with masked := false } else y) } }
        (s.logAt 0 c.src.cls c.src.sub c.src.pos c.src.detail s.sweep c.value).occur c.src c.value s.sweep) t).bare
      = t.bare := by
    intro l
    induction l with
    | nil => intro t; rfl
    | cons c l ih =>
      intro t
      rw [List.foldl_cons, ih]
      dsimp only
      split
      · rfl
      · rw [occur_bare]; rfl
  rw [h]
  rfl

/-! ### From a bare state to its parts -/

theorem leg_of_bare {s t : State} (h : t.bare = s.bare) : t.leg = s.leg := by
  have e := congrArg State.leg h
  exact e
theorem lastA_of_bare {s t : State} (h : t.bare = s.bare) : t.lastA = s.lastA := by
  have e := congrArg State.lastA h
  exact e
theorem queues_of_bare {s t : State} (h : t.bare = s.bare) : t.queues = s.queues := by
  have e := congrArg State.queues h
  exact e
theorem sems_of_bare {s t : State} (h : t.bare = s.bare) : t.sems = s.sems := by
  have e := congrArg State.sems h
  exact e
theorem ses_of_bare {s t : State} (h : t.bare = s.bare) : t.ses = s.ses := by
  have e := congrArg State.ses h
  exact e
theorem tuning_of_bare {s t : State} (h : t.bare = s.bare) : t.tuning = s.tuning := by
  have e := congrArg State.tuning h
  exact e
theorem pwm_of_bare {s t : State} (h : t.bare = s.bare) : t.pwm = s.pwm := by
  have e := congrArg State.pwm h
  exact e
theorem ctr_of_bare {s t : State} (h : t.bare = s.bare) : t.ctr = s.ctr := by
  have e := congrArg State.ctr h
  exact e
theorem atlas_of_bare {s t : State} (h : t.bare = s.bare) : t.atlas = s.atlas := by
  have e := congrArg State.atlas h
  exact e
theorem chassis_of_bare {s t : State} (h : t.bare = s.bare) : t.chassis = s.chassis := by
  have e := congrArg State.chassis h
  exact e
theorem chWins_of_bare {s t : State} (h : t.bare = s.bare) : t.chWins = s.chWins := by
  have e := congrArg State.chWins h
  exact e
theorem posWins_of_bare {s t : State} (h : t.bare = s.bare) : t.posWins = s.posWins := by
  have e := congrArg State.posWins h
  exact e
theorem headAccs_of_bare {s t : State} (h : t.bare = s.bare) : t.headAccs = s.headAccs := by
  have e := congrArg State.headAccs h
  exact e
theorem tracks_of_bare {s t : State} (h : t.bare = s.bare) : t.tracks = s.tracks := by
  have e := congrArg State.tracks h
  exact e
theorem written_of_bare {s t : State} (h : t.bare = s.bare) : t.written = s.written := by
  have e := congrArg State.written h
  exact e
theorem poss_of_bare {s t : State} (h : t.bare = s.bare) : t.poss = s.poss := by
  have e := congrArg State.poss h
  exact e
theorem trv_of_bare {s t : State} (h : t.bare = s.bare) : t.trv = s.trv := by
  have e := congrArg State.trv h
  exact e
theorem sent_of_bare {s t : State} (h : t.bare = s.bare) : t.sent = s.sent := by
  have e := congrArg State.sent h
  exact e

theorem body_of_bare {s t : State} (h : t.bare = s.bare) (e : Nat) : (t.dev e).body = (s.dev e).body := by
  have h1 : t.devs.map (fun (d : Dev) => { d with cErr := false }) = s.devs.map (fun (d : Dev) => { d with cErr := false }) :=
    congrArg State.devs h
  have h2 := congrArg (fun l => (l.getD e {}).body) h1
  have h3 : ∀ l : List Dev, ((l.map (fun (d : Dev) => { d with cErr := false })).getD e {}).body = (l.getD e {}).body := by
    intro l
    simp only [List.getD_eq_getElem?_getD, List.getElem?_map]
    cases l[e]? <;> rfl
  simp only [h3] at h2
  exact h2

/-- What an occurrence leaves alone, as a frame. -/
theorem kept_of_bare {s t : State} (h : t.bare = s.bare) : kept faultParts s t := by
  intro p hp
  cases p <;> simp only [faultParts, List.mem_cons, reduceCtorEq, not_true, or_true, or_false, List.not_mem_nil,
    not_false_eq_true] at hp
  case legend => exact leg_of_bare h
  case host k =>
    cases k
    · have e := congrArg State.portA h; exact e
    · have e := congrArg State.portB h; exact e
  case turn => exact lastA_of_bare h
  case queues => exact queues_of_bare h
  case semaphores => exact sems_of_bare h
  case inputs => have e := congrArg State.saf h; exact e
  case session => exact ses_of_bare h
  case tuning => exact tuning_of_bare h
  case pwm => exact pwm_of_bare h
  case contour => exact ctr_of_bare h
  case atlas => exact atlas_of_bare h
  case chassis => exact chassis_of_bare h
  case windows => exact ⟨chWins_of_bare h, posWins_of_bare h⟩
  case accumulators => exact headAccs_of_bare h
  case tracks => exact ⟨tracks_of_bare h, written_of_bare h⟩
  case positions => exact poss_of_bare h
  case traverse => exact trv_of_bare h
  case sent => exact sent_of_bare h
  case devices => exact body_of_bare h

/-- A frame holds still where more parts are left out of it. -/
theorem kept_mono {a b : List Part} {s t : State} (h : kept a s t) (hab : ∀ p ∈ a, p ∈ b) : kept b s t :=
  fun p hp => h p fun hx => hp (hab p hx)

/-! ### The cause of an occurrence -/

@[simp] theorem enter_flt (x : OpState) : (s.enter x).flt = s.flt := by
  unfold State.enter
  dsimp only
  split
  · rfl
  · have h1 : ∀ (t : State) y, (t.react y).flt = t.flt := fun t y => by unfold State.react; cases t.swp.reactCut <;> rfl
    rw [cond_keep State.flt _ _ _ (h1 _ _), cond_keep State.flt _ _ _ (h1 _ _)]
    cases decide ((s.pw.op = .run ∧ x = .safe) ∨ (s.pw.op = .safe ∧ x = .run)) <;>
      cases decide (x = .dormant) || (decide (s.pw.op = .run ∨ s.pw.op = .safe) && decide (x = .config ∨ x = .locked)) <;>
      simp only [cond_true, cond_false, h1] <;> rfl

@[simp] theorem lock_flt : s.lock.flt = s.flt := by unfold State.lock; split <;> simp

@[simp] theorem tripFallback_flt : s.tripFallback.flt = s.flt := by
  unfold State.tripFallback
  refine foldNat_keep _ _ State.flt (fun t n => ?_) s
  dsimp only
  split <;> rfl

@[simp] theorem applySev_causes (old : Option Nat) (new : Nat) : (s.applySev old new).flt.causes = s.flt.causes := by
  unfold State.applySev
  dsimp only
  rw [evalTrip_flt_causes, errEval_flt_causes, cond_keep (fun t => t.flt.causes) _ _ _ (by rw [enter_flt]),
    cond_keep (fun t => t.flt.causes) _ _ _ (by rw [tripFallback_flt]), cond_keep (fun t => t.flt.causes) _ _ _ (by rw [lock_flt])]

@[simp] theorem occur_causes (x : Source) (v : Word) (seen : Nat) : (s.occur x v seen).flt.causes = s.flt.causes := by
  unfold State.occur
  dsimp only
  have h : ∀ (t : State) y, (t.furtherReaction y).flt = t.flt := fun t y => by
    unfold State.furtherReaction State.react State.landReaction
    (repeat' split)
    · cases t.swp.reactCut <;> rfl
    · cases t.swp.reactCut <;> rfl
    · rfl
  rw [h, applySev_causes]
  cases (s.latch x.cls).latched
  · rfl
  · simp only [cond_true]
    rw [cond_keep (fun t => t.flt.causes) _ _ _ (by rfl)]
    rfl

/-- After an occurrence the cause of its source is present (R392). -/
theorem raiseAt_hasCause (x : Source) (v : Word) (ev : Bool) (seen : Nat) : (s.raiseAt x v ev seen).hasCause x = true := by
  unfold State.raiseAt
  split
  · assumption
  · dsimp only
    unfold State.hasCause
    rw [cond_keep (fun t => t.flt.causes) _ _ _ (occur_causes _ _ _ _).symm, occur_causes]
    cases decide (x.cls = 0x1C ∧ 1 ≤ x.sub ∧ x.sub ≤ 6) <;> simp [State.logAt, State.event]

theorem raiseOpenAt_hasCause (x : Source) (ev : Bool) (seen : Nat) : (s.raiseOpenAt x ev seen).hasCause x = true := by
  unfold State.raiseOpenAt
  split
  · assumption
  · exact raiseAt_hasCause s x (Config.openFaultValue s.draws) ev seen

/-- After a clearance the cause of its source is absent (R392). -/
theorem clearAt_hasCause (x : Source) (seen : Nat) : (s.clearAt x seen).hasCause x = false := by
  unfold State.clearAt
  split
  · simp [State.hasCause, State.logAt, State.event]
  · next h => simpa using h

@[simp] theorem finish_hasCause (t : State) (x : Source) : (s.finish t).hasCause x = t.hasCause x := by
  simp only [State.hasCause, finish_flt_causes]

end State

end Sys2Proof.Machine
end

