-- ==== Sys2Proof/Laws/Commands.lean ====
section
/-!
SUPPORT. What every command can do, said once: each ends with `done`; where it acts at the C-die, under the supervisor core
or at an S-die; what the reports of the head S-die leave alone; how a command that changes one device ends.
-/

namespace Sys2Proof.Machine

/-! ### Wrappers of the meanings -/

theorem onC_running {s : State} {f : State → State} (h : s.pw.running = true) : onC s f = done s (f s) := by
  simp [onC, h]

theorem onC_halted {s : State} {f : State → State} (h : s.pw.running = false) : onC s f = done s s := by
  simp [onC, h]

theorem onCore_up {s : State} {f : State → State} (h : s.coreUp) : onCore s f = done s (f s) := by
  simp [onCore, h.1, h.2]

theorem guarded_true {c : Bool} {s : State} {f : State → State} (h : c = true) : guarded c s f = done s (f s) := by
  simp [guarded, h]

/-- At an awake device other than the head's, `f` is the whole effect. -/
theorem onS_member {s : State} {d : Nat} {f : State → State} (h : (s.dev d).awake = true) (hd : d ≠ 0) :
    onS s d f = done s (f s) := by
  simp [onS, h, hd]

/-- At the head's own S-die the reports that `f` leaves reach the collector. -/
theorem onS_head {s : State} {f : State → State} (h : (s.dev 0).awake = true) : onS s 0 f = done s (f s).headReports := by
  simp [onS, h]

/-! ### Reports leave the devices alone -/

namespace State

variable (s : State)

theorem noteEvent_devs (p : Nat) (up : Bool) (c b d : Nat) (v w : Word) : (s.noteEvent p up c b d v w).devs = s.devs := by
  unfold State.noteEvent; (repeat' split) <;> simp

theorem headReport_body (i : Item) (e : Nat) : ((s.headReport i).dev e).body = (s.dev e).body := by
  unfold State.headReport
  split
  · unfold State.takeEvent
    dsimp only
    split
    · rw [body_of_bare (raiseAt_bare _ _ _ _ _)]; simp only [State.dev, noteEvent_devs]
    · rw [body_of_bare (clearAt_bare _ _ _)]; simp only [State.dev, noteEvent_devs]
  · rfl

/-- The head S-die's reports touch no device but for the reports that leave the head's list. -/
@[simp] theorem headReports_body (e : Nat) : (s.headReports.dev e).body = (s.dev e).body := by
  unfold State.headReports
  dsimp only
  split
  · have h : ∀ (l : List Item) (t : State), ((l.foldl State.headReport t).dev e).body = (t.dev e).body := by
      intro l
      induction l with
      | nil => intro t; rfl
      | cons i l ih => intro t; rw [List.foldl_cons, ih, headReport_body]
    rw [h, modDev_body]
    intro _; rfl
  · rfl

theorem until_now_self : s.until s.now = s := by unfold State.until; simp

theorem modAt_const (d : Nat) (g : Dev → Dev) (h : d < s.devs.length) :
    modAt s.devs d (fun _ => g (s.dev d)) = modAt s.devs d g := by
  apply List.ext_getElem
  · simp [modAt]
  · intro i h1 h2
    simp only [modAt, List.getElem_modify]
    split
    · next hi =>
      subst hi
      simp [State.dev, List.getD_eq_getElem?_getD, List.getElem?_eq_getElem h]
    · rfl

end State

/-- A command at an awake S-die: the devices are as `f` leaves them, but for what `Dev.body` leaves out. -/
theorem onS_answers {s : State} {d : Nat} {f : State → State} (h : (s.dev d).awake = true) :
    ∃ t, onS s d f = .next t ∧ ∀ e, (t.dev e).body = ((f s).dev e).body := by
  by_cases hd : d = 0
  · subst hd
    exact ⟨_, onS_head h, fun e => by rw [State.finish_body, State.headReports_body]⟩
  · exact ⟨_, onS_member h hd, fun e => by rw [State.finish_body]⟩

/-- A command at an awake S-die that changes that device alone. -/
theorem onS_becomes {s : State} {d n : Nat} {f : State → State} {g : Dev → Dev} (h : (s.dev d).awake = true)
    (hf : f s = (s.until n).modDev d g) : ∃ t, onS s d f = .next t ∧ deviceBecomes s t d (g (s.dev d)) n := by
  have hl : d < s.devs.length := State.lt_of_awake s d h
  have hself : ((f s).dev d) = g (s.dev d) := by rw [hf, State.dev_modDev_self (s.until n) d g hl]; rfl
  have hoth : ∀ e, e ≠ d → (f s).dev e = s.dev e := fun e he => by
    rw [hf, State.dev_modDev_other (s.until n) d e g he]; rfl
  by_cases hd : d = 0
  · obtain ⟨t, ht, hb⟩ := onS_answers (f := f) h
    exact ⟨t, ht, by rw [hb, hself], fun e he => by rw [hb, hoth e he], fun h0 => absurd hd h0⟩
  · refine ⟨_, onS_member h hd, by rw [State.finish_body, hself], fun e he => by rw [State.finish_body, hoth e he], ?_⟩
    intro _ hr
    rw [State.finish_id s (t := f s) hr]
    · rw [State.modAt_const s d g hl, hf]
      simp [State.modDev, State.until]
    · rw [hf]; rfl
    · rw [hf]; rfl
    · rw [hf]; rfl
    · rw [hf]; rfl
    · rw [hoth 0 (fun h0 => hd h0.symm)]

/-! ### Frames -/

/-- A frame of what a command does is a frame of the command, but for what the trip path may change. -/
theorem kept_finish {s y : State} {out : List Part} (h : kept out s y) : kept (tripParts ++ out) s (s.finish y) := by
  intro p hp
  rw [List.mem_append, not_or] at hp
  have hk := h p hp.2
  have hn := hp.1
  cases p <;> simp only [Part.same, State.finish_draws, State.finish_pw, State.finish_swp, State.finish_leg,
    State.finish_lastA, State.finish_queues, State.finish_sems, State.finish_ses, State.finish_loops,
    State.finish_tuning, State.finish_pwm, State.finish_ctr, State.finish_atlas, State.finish_chassis,
    State.finish_chWins, State.finish_posWins, State.finish_headAccs, State.finish_tracks, State.finish_written,
    State.finish_poss, State.finish_trv, State.finish_der, State.finish_sent, State.finish_port_body,
    State.finish_flt_body, State.finish_saf_body, State.finish_body] at hk ⊢
  case flags => simp [tripParts] at hn
  case errOut => simp [tripParts] at hn
  case channels => simp [tripParts] at hn
  all_goals exact hk

/-- A frame of a command that touches nothing the trip path reads or drives. -/
theorem kept_rest {s y : State} {out : List Part} (h : kept out s y) (hr : s.atRest)
    (h1 : y.flt.latches = s.flt.latches) (h2 : y.leg.active = s.leg.active) (h3 : y.saf = s.saf) (h8 : y.pw.locked = s.pw.locked)
    (he : (y.dev 0).cErr = (s.dev 0).cErr) : kept out s (s.finish y) := by
  rw [State.finish_id s hr h1 h2 h3 h8 he]
  intro p hp
  have hk := h p hp
  cases p
  case host k => cases k <;> exact hk
  all_goals exact hk

/-! ### Every command ends with `done` -/

theorem onC_done (s : State) (f : State → State) : ∃ x, onC s f = done s x := ⟨_, rfl⟩
theorem onCore_done (s : State) (f : State → State) : ∃ x, onCore s f = done s x := ⟨_, rfl⟩
theorem onS_done (s : State) (d : Nat) (f : State → State) : ∃ x, onS s d f = done s x := ⟨_, rfl⟩
theorem guarded_done (c : Bool) (s : State) (f : State → State) : ∃ x, guarded c s f = done s x := ⟨_, rfl⟩
theorem serve_done (s : State) (h : HostId) (pair code : Nat) (g : Req → Option Guard) (act : Req → State → State) :
    ∃ x, serve s h pair code g act = done s x := ⟨_, rfl⟩

/-- Every command takes the state to some state `x` and ends there with `done` (log 2, log 51). -/
theorem exec_done (c : Instr) (s : State) : ∃ x, exec c s = done s x := by
  cases c with
  | vsupRise => unfold exec execVsupRise; exact guarded_done _ _ _
  | vsupFall => unfold exec execVsupFall; exact guarded_done _ _ _
  | lockedLatchClear => unfold exec execLockedLatchClear; exact ⟨_, rfl⟩
  | resetNAssert => unfold exec execResetNAssert; exact guarded_done _ _ _
  | resetNRelease => unfold exec execResetNRelease; exact guarded_done _ _ _
  | cDieStart => unfold exec execCDieStart; exact guarded_done _ _ _
  | cDieWake => unfold exec execCDieWake; cases ‹WakeCause› <;> exact guarded_done _ _ _
  | sDieStart => unfold exec execSDieStart; exact ⟨_, rfl⟩
  | sDieStop => unfold exec execSDieStop; exact ⟨_, rfl⟩
  | roleAtPowerUp => unfold exec execRoleAtPowerUp; exact onS_done _ _ _
  | d1TrainsLate => unfold exec execD1TrainsLate; exact onC_done _ _
  | selfCalibrationComplete => unfold exec execSelfCalibrationComplete; exact onS_done _ _ _
  | sweepBoundary => unfold exec execSweepBoundary; exact onC_done _ _
  | localBoundary => unfold exec execLocalBoundary; exact onS_done _ _ _
  | balanceTimerExpiry => unfold exec execBalanceTimerExpiry; exact onS_done _ _ _
  | declareUnsynchronised => unfold exec execDeclareUnsynchronised; exact onS_done _ _ _
  | returnToPreferredDirection => unfold exec execReturnToPreferredDirection; exact onS_done _ _ _
  | meridianArrival => unfold exec execMeridianArrival; exact onS_done _ _ _
  | meridianSend => unfold exec execMeridianSend; exact onC_done _ _
  | sweepMarkLoss => unfold exec execSweepMarkLoss; exact onC_done _ _
  | commitCutOff => unfold exec execCommitCutOff; exact onC_done _ _
  | commitRecordSend => unfold exec execCommitRecordSend; exact onC_done _ _
  | reactionCutOff => unfold exec execReactionCutOff; exact onC_done _ _
  | controlTick => unfold exec execControlTick; exact onC_done _ _
  | tuningTimeout => unfold exec execTuningTimeout; exact onCore_done _ _
  | sweepOverrun => simp only [exec, execSweepOverrun]; split; exacts [onC_done _ _, onS_done _ _ _]
  | sampleComplete => unfold exec execSampleComplete; exact onS_done _ _ _
  | itemsSend => unfold exec execItemsSend; exact onS_done _ _ _
  | itemsFrame => unfold exec execItemsFrame; exact onC_done _ _
  | seqLossTimeout => unfold exec execSeqLossTimeout; exact onC_done _ _
  | atlasDeadline => unfold exec execAtlasDeadline; exact onC_done _ _
  | contourStepDown => unfold exec execContourStepDown; exact onCore_done _ _
  | contourStepUp => unfold exec execContourStepUp; exact onCore_done _ _
  | contourFailsafeDwell => unfold exec execContourFailsafeDwell; exact onCore_done _ _
  | positionSilent => unfold exec execPositionSilent; exact onC_done _ _
  | spotReadingStart => unfold exec execSpotReadingStart; exact onS_done _ _ _
  | spotReadingComplete => unfold exec execSpotReadingComplete; exact onS_done _ _ _
  | spotResultLost => unfold exec execSpotResultLost; exact onC_done _ _
  | surveyEntryEnd => unfold exec execSurveyEntryEnd; exact onS_done _ _ _
  | benchmarkRecalDue => unfold exec execBenchmarkRecalDue; exact onS_done _ _ _
  | benchmarkOccupationEnd => unfold exec execBenchmarkOccupationEnd; exact onS_done _ _ _
  | maintenanceSweep => unfold exec execMaintenanceSweep; exact onS_done _ _ _
  | fullSelfTestEnd => unfold exec execFullSelfTestEnd; exact onS_done _ _ _
  | rollingCalPhaseEnd => unfold exec execRollingCalPhaseEnd; exact onS_done _ _ _
  | rollingCalHaltExpiry => unfold exec execRollingCalHaltExpiry; exact onS_done _ _ _
  | shuntOvercurrent => unfold exec execShuntOvercurrent; exact onS_done _ _ _
  | sentMessage => unfold exec execSentMessage; exact onC_done _ _
  | sentTimeout => unfold exec execSentTimeout; exact onC_done _ _
  | sentSupplyLimit => unfold exec execSentSupplyLimit; exact onC_done _ _
  | sentSupplyOn => unfold exec execSentSupplyOn; exact onC_done _ _
  | sysCalMeasurementEnd => unfold exec execSysCalMeasurementEnd; exact onCore_done _ _
  | soundingKeyingEdge => unfold exec execSoundingKeyingEdge; exact onS_done _ _ _
  | soundingIntegrationEnd => unfold exec execSoundingIntegrationEnd; exact onS_done _ _ _
  | bleedOnEdge => unfold exec execBleedOnEdge; exact onS_done _ _ _
  | bleedOffEdge => unfold exec execBleedOffEdge; exact onS_done _ _ _
  | gateFault => unfold exec execGateFault; exact onS_done _ _ _
  | bleedSilenceExpiry => unfold exec execBleedSilenceExpiry; exact onS_done _ _ _
  | cErrAssert => unfold exec execCErrAssert; exact onS_done _ _ _
  | barrierLaneLoss => unfold exec execBarrierLaneLoss; exact onC_done _ _
  | barrierLaneRetrain => unfold exec execBarrierLaneRetrain; exact onC_done _ _
  | referenceClockLoss => unfold exec execReferenceClockLoss; exact onC_done _ _
  | referenceClockReturn => unfold exec execReferenceClockReturn; exact onC_done _ _
  | slPairEqual => unfold exec execSlPairEqual; rename_i p; obtain ⟨p, e⟩ := p; cases p; exacts [onC_done _ _, onS_done _ _ _]
  | sErrUnexplained => unfold exec execSErrUnexplained; exact onC_done _ _
  | crystalFailure => unfold exec execCrystalFailure; exact onC_done _ _
  | dieOvertempTrip => unfold exec execDieOvertempTrip; cases ‹Die›; exacts [onS_done _ _ _, onC_done _ _]
  | dieOvertempRelease => unfold exec execDieOvertempRelease; cases ‹Die›; exacts [onS_done _ _ _, onC_done _ _]
  | memoryEccError => unfold exec execMemoryEccError; exact onC_done _ _
  | supervisorWatchdogExpiry => unfold exec execSupervisorWatchdogExpiry; exact onC_done _ _
  | supervisorCoreRestart => unfold exec execSupervisorCoreRestart; exact onC_done _ _
  | sDieWatchdogExpiry => unfold exec execSDieWatchdogExpiry; exact onS_done _ _ _
  | heartbeatTimeout => unfold exec execHeartbeatTimeout; exact onC_done _ _
  | errOutRelease => unfold exec execErrOutRelease; exact onC_done _ _
  | maskingIntervalEnd => unfold exec execMaskingIntervalEnd; exact onC_done _ _
  | kfRecognised => unfold exec execKfRecognised; exact onC_done _ _
  | pullInTimeout => unfold exec execPullInTimeout; exact onC_done _ _
  | holdDelayEnd => unfold exec execHoldDelayEnd; exact onC_done _ _
  | dropOutTimeout => unfold exec execDropOutTimeout; exact onC_done _ _
  | coilCurrentTimeout => unfold exec execCoilCurrentTimeout; exact onC_done _ _
  | coilPinMismatch => unfold exec execCoilPinMismatch; exact onC_done _ _
  | tripSourceAssert => unfold exec execTripSourceAssert; exact onC_done _ _
  | safetyChannelRecognised => unfold exec execSafetyChannelRecognised; exact onC_done _ _
  | safeinDiscrepancyTimeout => unfold exec execSafeinDiscrepancyTimeout; exact onC_done _ _
  | restartIdleTimer => unfold exec execRestartIdleTimer; exact onC_done _ _
  | restartStuck => unfold exec execRestartStuck; exact onC_done _ _
  | couplingTimer => unfold exec execCouplingTimer; exact onC_done _ _
  | safeFrameSendTimer => unfold exec execSafeFrameSendTimer; exact onCore_done _ _
  | safeFrameTimeExpectation => unfold exec execSafeFrameTimeExpectation; exact onCore_done _ _
  | safeFrameConnectLimit => unfold exec execSafeFrameConnectLimit; exact onCore_done _ _
  | sessionReconnectDelay => unfold exec execSessionReconnectDelay; exact onCore_done _ _
  | linkUp => unfold exec execLinkUp; exact onS_done _ _ _
  | rxLoss => unfold exec execRxLoss; exact onS_done _ _ _
  | idleSet => unfold exec execIdleSet; exact onS_done _ _ _
  | miswireTimeout => unfold exec execMiswireTimeout; exact onS_done _ _ _
  | linkDegraded => unfold exec execLinkDegraded; exact onS_done _ _ _
  | frameForward => unfold exec execFrameForward; exact onS_done _ _ _
  | wakePatternDetected => unfold exec execWakePatternDetected; exact ⟨_, rfl⟩
  | wakePatternEnd => unfold exec execWakePatternEnd; exact onS_done _ _ _
  | portDownWake => unfold exec execPortDownWake; exact onS_done _ _ _
  | sDieSilenceDormant => unfold exec execSDieSilenceDormant; exact onS_done _ _ _
  | token => unfold exec execToken; exact onS_done _ _ _
  | probe => unfold exec execProbe; exact onS_done _ _ _
  | probeReply => unfold exec execProbeReply; exact onS_done _ _ _
  | adopt => unfold exec execAdopt; exact onS_done _ _ _
  | sweepHeader => unfold exec execSweepHeader; exact onS_done _ _ _
  | keepalive => unfold exec execKeepalive; exact onS_done _ _ _
  | keepaliveSend => unfold exec execKeepaliveSend; exact onC_done _ _
  | commit => unfold exec execCommit; exact onS_done _ _ _
  | reaction => unfold exec execReaction; exact onS_done _ _ _
  | command => unfold exec execCommand; exact onS_done _ _ _
  | stage => unfold exec execStage; exact onS_done _ _ _
  | traverseStart => unfold exec execTraverseStart; exact onCore_done _ _
  | traversePassEnd => unfold exec execTraversePassEnd; exact onCore_done _ _
  | traverseRetryTimer => unfold exec execTraverseRetryTimer; exact onC_done _ _
  | wakeTimeout => unfold exec execWakeTimeout; exact onC_done _ _
  | loginTimeout => unfold exec execLoginTimeout; exact onC_done _ _
  | gazetteerWrite => unfold exec execGazetteerWrite; exact onC_done _ _
  | portReset => unfold exec execPortReset; exact onC_done _ _
  | commandWindowPush => unfold exec execCommandWindowPush; exact onC_done _ _
  | responseWindowRelease => unfold exec execResponseWindowRelease; exact onC_done _ _
  | responseWindowPeek => unfold exec execResponseWindowPeek; exact onC_done _ _
  | responsePlacement => unfold exec execResponsePlacement; exact onCore_done _ _
  | semTake => unfold exec execSemTake; exact onC_done _ _
  | semGive => unfold exec execSemGive; exact onC_done _ _
  | swpCtrlWrite => unfold exec execSwpCtrlWrite; exact onC_done _ _
  | errCtrlWrite => unfold exec execErrCtrlWrite; exact onC_done _ _
  | requestConfig => unfold exec execRequestConfig; exact onC_done _ _
  | withdrawConfig => unfold exec execWithdrawConfig; exact onC_done _ _
  | registerWrite => unfold exec execRegisterWrite; exact onC_done _ _
  | traverse => unfold exec execTraverse; exact serve_done _ _ _ _ _ _
  | windowSet => unfold exec execWindowSet; exact serve_done _ _ _ _ _ _
  | atlasRead => unfold exec execAtlasRead; exact serve_done _ _ _ _ _ _
  | chassisRead => unfold exec execChassisRead; exact serve_done _ _ _ _ _ _
  | surveyLoad => unfold exec execSurveyLoad; exact serve_done _ _ _ _ _ _
  | spotRead => unfold exec execSpotRead; exact serve_done _ _ _ _ _ _
  | calibrate => unfold exec execCalibrate; exact serve_done _ _ _ _ _ _
  | sysCal => unfold exec execSysCal; exact serve_done _ _ _ _ _ _
  | balanceSet => unfold exec execBalanceSet; exact serve_done _ _ _ _ _ _
  | soundStart => unfold exec execSoundStart; exact serve_done _ _ _ _ _ _
  | loopConfig => unfold exec execLoopConfig; exact serve_done _ _ _ _ _ _
  | loopMode => unfold exec execLoopMode; exact serve_done _ _ _ _ _ _
  | loopTune => unfold exec execLoopTune; exact serve_done _ _ _ _ _ _
  | contactorCmd => unfold exec execContactorCmd; exact serve_done _ _ _ _ _ _
  | safeSession => unfold exec execSafeSession; exact serve_done _ _ _ _ _ _
  | faultRead => unfold exec execFaultRead; exact serve_done _ _ _ _ _ _
  | faultAck => unfold exec execFaultAck; exact serve_done _ _ _ _ _ _
  | identify => unfold exec execIdentify; exact serve_done _ _ _ _ _ _
  | login => unfold exec execLogin; exact serve_done _ _ _ _ _ _
  | legendWrite => unfold exec execLegendWrite; exact serve_done _ _ _ _ _ _
  | legendCommit => unfold exec execLegendCommit; exact serve_done _ _ _ _ _ _
  | logRead => unfold exec execLogRead; exact serve_done _ _ _ _ _ _
  | fwUpdate => unfold exec execFwUpdate; exact serve_done _ _ _ _ _ _
  | unfreeze => unfold exec execUnfreeze; exact serve_done _ _ _ _ _ _
  | dormant => unfold exec execDormant; exact serve_done _ _ _ _ _ _
  | characterAlignment => unfold exec execCharacterAlignment; exact onS_done _ _ _
  | rxGood => unfold exec execRxGood; exact onS_done _ _ _
  | sDieCoreRestart => unfold exec execSDieCoreRestart; exact onS_done _ _ _
  | sentSupplyRunTimer => unfold exec execSentSupplyRunTimer; exact onC_done _ _
  | referenceClockStable => unfold exec execReferenceClockStable; exact onC_done _ _
  | d1Trained => unfold exec execD1Trained; exact onC_done _ _
  | sentvsUndervoltage => unfold exec execSentvsUndervoltage; exact onC_done _ _
  | readTransaction => unfold exec execReadTransaction; exact onC_done _ _

end Sys2Proof.Machine
end

