-- ==== Sys2Proof/Laws/Ring.lean ====
section
/-!
SUPPORT. What the operations of the ring links can do, said once: a transmitter takes a frame (R254, R255), a frame leaves a
device (R285), a frame crosses D1 (R233, R234), a device turns head or member (R37, R246, R247), and an S-die starts (R485).
-/

namespace Sys2Proof.Machine

theorem codeErrors_valid (f : Frame) (h : frameValid f = true) : codeErrors f = 0 := by
  simp only [frameValid, Bool.and_eq_true, decide_eq_true_eq] at h
  exact h.1.1.1.1.1.2

@[simp] theorem PortSt.transmit_st (q : PortSt) (now : Nat) (own : Bool) (f : Frame) : (q.transmit now own f).st = q.st := rfl
@[simp] theorem PortSt.transmit_held (q : PortSt) (now : Nat) (own : Bool) (f : Frame) :
    (q.transmit now own f).held = q.held := rfl
@[simp] theorem PortSt.transmit_wrapped (q : PortSt) (now : Nat) (own : Bool) (f : Frame) :
    (q.transmit now own f).wrapped = q.wrapped := rfl
@[simp] theorem PortSt.transmit_clkSrc (q : PortSt) (now : Nat) (own : Bool) (f : Frame) :
    (q.transmit now own f).clkSrc = q.clkSrc := rfl
@[simp] theorem PortSt.transmit_waiting (q : PortSt) (now : Nat) (own : Bool) (f : Frame) :
    (q.transmit now own f).waiting = q.waiting := rfl
@[simp] theorem PortSt.transmit_probes (q : PortSt) (now : Nat) (own : Bool) (f : Frame) :
    (q.transmit now own f).probes = q.probes := rfl
theorem PortSt.transmit_busyUntil (q : PortSt) (now : Nat) (own : Bool) (f : Frame) :
    (q.transmit now own f).busyUntil = max q.busyUntil now + frameNs f := rfl

/-- A frame of the device's own comes after everything that the port has taken (R255). -/
theorem PortSt.transmit_own (q : PortSt) (now : Nat) (f : Frame) :
    (q.transmit now true f).tx = ⟨f, max q.busyUntil now, true⟩ :: q.tx := by
  simp [PortSt.transmit]

/-- A frame that leaves a device goes to the port's transmitter, turns back to the other one with WRAP, or is discarded
(R254, R285). -/
theorem Dev.emit_cases (d : Dev) (p : RPort) (now : Nat) (own : Bool) (f : Frame) :
    d.emit p now own f = d.modPort p (·.transmit now own f) ∨
    (f.dest = 0 ∧ f.wrap = false ∧ (d.port p).wrapped = true ∧
      d.emit p now own f = d.modPort (rportOther p) (·.transmit now own (frameRelay f f.hops true))) ∨
    d.emit p now own f = d := by
  simp only [Dev.emit]
  split
  · exact .inl rfl
  · split
    · exact .inr (.inl ⟨by tauto, by tauto, by tauto, rfl⟩)
    · exact .inr (.inr rfl)

@[simp] theorem Dev.heard_silence (d : Dev) (now : Nat) : (d.heard now).silence = some now := rfl
@[simp] theorem Dev.heard_port (d : Dev) (now : Nat) (p : RPort) : (d.heard now).port p = d.port p := by cases p <;> rfl
@[simp] theorem Dev.heard_coreReset (d : Dev) (now : Nat) : (d.heard now).coreReset = d.coreReset := rfl
@[simp] theorem Dev.becomeHead_role (d : Dev) : d.becomeHead.role = .head := rfl
@[simp] theorem Dev.becomeHead_clkSrc (d : Dev) (p : RPort) : (d.becomeHead.port p).clkSrc = false := by cases p <;> rfl
@[simp] theorem Dev.becomeMember_role (d : Dev) : d.becomeMember.role = .member := rfl

/-- A frame over D1 reaches the head S-die alone, and only over a working link; it reloads the bleed-silence timer, and has
its effect where the core runs (R32, R233). -/
theorem State.overD1_eq (s : State) (act : Dev → Dev) :
    s.overD1 act = if s.d1Works then
      s.modDev 0 (fun d => if d.coreReset.isNone then act (d.heard s.now) else d.heard s.now) else s := rfl

theorem State.overD1_others (s : State) (act : Dev → Dev) (e : Nat) (h : e ≠ 0) : (s.overD1 act).dev e = s.dev e := by
  simp only [State.overD1]
  split
  · exact State.dev_modDev_other s 0 e _ h
  · rfl

@[simp] theorem State.startDev_draws (s : State) (d : Nat) : (s.startDev d).draws = s.draws + 1 := rfl
@[simp] theorem State.startDev_now (s : State) (d : Nat) : (s.startDev d).now = s.now := rfl
@[simp] theorem State.startDev_pending (s : State) (d : Nat) : (s.startDev d).pending = s.pending := rfl
theorem State.startDev_others (s : State) (d e : Nat) (h : e ≠ d) : (s.startDev d).dev e = s.dev e :=
  State.dev_modDev_other { s with draws := s.draws + 1 } d e _ h

end Sys2Proof.Machine
end

