-- ==== Sys2Proof/Laws/SMap.lean ====
section
/-!
SUPPORT. The laws of the sparse memories (Atlas, Chassis page, Legend fields, build area): a read after a write, and the
canonical form, which every operation keeps.
-/

namespace Sys2Proof.Machine

variable {α : Type}

theorem smapFrom_mono (m : SMap α) : ∀ (lo hi : Nat), lo ≤ hi → smapFrom hi m = true → smapFrom lo m = true := by
  cases m with
  | nil => intro _ _ _ _; rfl
  | cons e m =>
    intro lo hi h hm
    simp only [smapFrom, Bool.and_eq_true, decide_eq_true_eq] at hm ⊢
    exact ⟨by omega, hm.2⟩

/-- Below the first key nothing is held. -/
theorem smapGet_below (m : SMap α) : ∀ (lo i : Nat), i < lo → smapFrom lo m = true → smapGet m i = none := by
  induction m with
  | nil => intro _ _ _ _; rfl
  | cons e m ih =>
    intro lo i hi hm
    simp only [smapFrom, Bool.and_eq_true, decide_eq_true_eq] at hm
    simp only [smapGet]
    rw [if_neg (by omega)]
    exact ih (e.1 + 1) i (by omega) hm.2

@[simp] theorem smapGet_smapSet_self (m : SMap α) (i : Nat) (v : α) : smapGet (smapSet m i v) i = some v := by
  induction m with
  | nil => simp [smapSet, smapGet]
  | cons e m ih =>
    simp only [smapSet]
    split
    · simp [smapGet]
    · split
      · simp [smapGet]
      · simp only [smapGet]; rw [if_neg (by omega)]; exact ih

theorem smapGet_smapSet_other (m : SMap α) (i j : Nat) (v : α) (h : j ≠ i) : smapGet (smapSet m i v) j = smapGet m j := by
  induction m with
  | nil => simp [smapSet, smapGet, h]
  | cons e m ih =>
    simp only [smapSet]
    split
    · simp [smapGet, h]
    · split
      · next _ he => subst he; simp [smapGet, h]
      · simp only [smapGet]; split
        · rfl
        · exact ih

theorem smapGet_smapErase_other (m : SMap α) (i j : Nat) (h : j ≠ i) : smapGet (smapErase m i) j = smapGet m j := by
  induction m with
  | nil => rfl
  | cons e m ih =>
    simp only [smapErase]
    split
    · next he => subst he; simp [smapGet, h]
    · simp only [smapGet]; split
      · rfl
      · exact ih

theorem smapGet_smapErase_self (m : SMap α) : ∀ (lo i : Nat), smapFrom lo m = true → smapGet (smapErase m i) i = none := by
  induction m with
  | nil => intro _ _ _; rfl
  | cons e m ih =>
    intro lo i hm
    simp only [smapFrom, Bool.and_eq_true, decide_eq_true_eq] at hm
    simp only [smapErase]
    split
    · next he => subst he; exact smapGet_below m (e.1 + 1) e.1 (by omega) hm.2
    · next he => simp only [smapGet]; rw [if_neg he]; exact ih (e.1 + 1) i hm.2

theorem smapFrom_smapSet (m : SMap α) : ∀ (lo i : Nat) (v : α), lo ≤ i → smapFrom lo m = true →
    smapFrom lo (smapSet m i v) = true := by
  induction m with
  | nil => intro lo i v h _; simp [smapSet, smapFrom, h]
  | cons e m ih =>
    intro lo i v h hm
    simp only [smapFrom, Bool.and_eq_true, decide_eq_true_eq] at hm
    simp only [smapSet]
    split
    · next hi => simp only [smapFrom, Bool.and_eq_true, decide_eq_true_eq]; exact ⟨h, by omega, hm.2⟩
    · split
      · next _ he => subst he; simp only [smapFrom, Bool.and_eq_true, decide_eq_true_eq]; exact ⟨h, hm.2⟩
      · simp only [smapFrom, Bool.and_eq_true, decide_eq_true_eq]
        exact ⟨hm.1, ih (e.1 + 1) i v (by omega) hm.2⟩

theorem smapFrom_smapErase (m : SMap α) : ∀ (lo i : Nat), smapFrom lo m = true → smapFrom lo (smapErase m i) = true := by
  induction m with
  | nil => intro _ _ _; rfl
  | cons e m ih =>
    intro lo i hm
    simp only [smapFrom, Bool.and_eq_true, decide_eq_true_eq] at hm
    simp only [smapErase]
    split
    · exact smapFrom_mono m lo (e.1 + 1) (by omega) hm.2
    · simp only [smapFrom, Bool.and_eq_true, decide_eq_true_eq]; exact ⟨hm.1, ih (e.1 + 1) i hm.2⟩

theorem all_smapSet (p : Nat × α → Bool) (m : SMap α) (i : Nat) (v : α) (hm : m.all p = true) (hv : p (i, v) = true) :
    (smapSet m i v).all p = true := by
  induction m with
  | nil => simp [smapSet, hv]
  | cons e m ih =>
    simp only [List.all_cons, Bool.and_eq_true] at hm
    simp only [smapSet]
    split
    · simp [hv, hm.1, hm.2]
    · split
      · simp [hv, hm.2]
      · simp [hm.1, ih hm.2]

theorem all_smapErase (p : Nat × α → Bool) (m : SMap α) (i : Nat) (hm : m.all p = true) : (smapErase m i).all p = true := by
  induction m with
  | nil => rfl
  | cons e m ih =>
    simp only [List.all_cons, Bool.and_eq_true] at hm
    simp only [smapErase]
    split
    · exact hm.2
    · simp [hm.1, ih hm.2]

variable [DecidableEq α]

/-- Every write keeps the canonical form. -/
theorem smapWf_smapPut (dflt : α) (m : SMap α) (i : Nat) (v : α) (h : smapWf dflt m = true) :
    smapWf dflt (smapPut dflt m i v) = true := by
  simp only [smapWf, Bool.and_eq_true] at h ⊢
  unfold smapPut
  split
  · exact ⟨smapFrom_smapErase m 0 i h.1, all_smapErase _ m i h.2⟩
  · next hv => exact ⟨smapFrom_smapSet m 0 i v (Nat.zero_le _) h.1, all_smapSet _ m i v h.2 (by simpa using hv)⟩

/-- What is read after a write at the same key. -/
theorem smapGet_smapPut_self (dflt : α) (m : SMap α) (i : Nat) (v : α) (h : smapWf dflt m = true) :
    (smapGet (smapPut dflt m i v) i).getD dflt = v := by
  simp only [smapWf, Bool.and_eq_true] at h
  unfold smapPut
  split
  · next hv => rw [smapGet_smapErase_self m 0 i h.1, hv]; rfl
  · simp

/-- A write leaves every other key alone. -/
theorem smapGet_smapPut_other (dflt : α) (m : SMap α) (i j : Nat) (v : α) (h : j ≠ i) :
    smapGet (smapPut dflt m i v) j = smapGet m j := by
  unfold smapPut
  split
  · exact smapGet_smapErase_other m i j h
  · exact smapGet_smapSet_other m i j v h

/-- The Atlas keeps its canonical form. -/
theorem State.atlasPut_wf (s : State) (i : Nat) (e : Entry) (h : smapWf unpopulated s.atlas = true) :
    smapWf unpopulated (s.atlasPut i e).atlas = true := smapWf_smapPut unpopulated s.atlas i e h

/-- The Chassis page keeps its canonical form. -/
theorem State.chassisPut_wf (s : State) (i : Nat) (r : ChassisRec) (h : smapWf noChassis s.chassis = true) :
    smapWf noChassis (s.chassisPut i r).chassis = true := smapWf_smapPut noChassis s.chassis i r h

theorem State.reset_atlas_wf : smapWf unpopulated State.reset.atlas = true := by decide

end Sys2Proof.Machine
end

