-- ==== Sys2Proof/Laws/Zardo.lean ====
section
/-!
SUPPORT. What serving a host command does, said once (R423, R424, R434, R435): the message leaves its queue, the guards are
judged, the command acts, and what stands behind it in an emptied queue is nothing.
-/

namespace Sys2Proof.Machine

namespace State

variable (s : State)

/-! ### Taking the message -/

/-- Taking a message changes the port, its queue and whose turn it is, and nothing else. -/
theorem takeMsg_form (h : HostId) (pair : Nat) :
    ∃ p q, s.takeMsg h pair = { s.modPort h (fun _ => p) with queues := q, lastA := decide (h = .A) } := by
  unfold State.takeMsg
  dsimp only
  cases h
  · cases hr : (s.port .A).request with
    | some r => exact ⟨_, _, rfl⟩
    | none =>
      dsimp only
      cases headMsg (s.queue (cmdQ .A pair)).words none with
      | whole code body n frag more =>
        dsimp only
        unfold State.popCmd
        dsimp only
        cases ((s.modQueue (cmdQ .A pair) fun q => { q with words := q.words.drop n }).queue (cmdQ .A pair)).words.isEmpty
        · exact ⟨_, _, rfl⟩
        · exact ⟨_, _, rfl⟩
      | empty => exact ⟨_, _, rfl⟩
      | partly => exact ⟨_, _, rfl⟩
      | malformed => exact ⟨_, _, rfl⟩
  · cases hr : (s.port .B).request with
    | some r => exact ⟨_, _, rfl⟩
    | none =>
      dsimp only
      cases headMsg (s.queue (cmdQ .B pair)).words none with
      | whole code body n frag more =>
        dsimp only
        unfold State.popCmd
        dsimp only
        cases ((s.modQueue (cmdQ .B pair) fun q => { q with words := q.words.drop n }).queue (cmdQ .B pair)).words.isEmpty
        · exact ⟨_, _, rfl⟩
        · exact ⟨_, _, rfl⟩
      | empty => exact ⟨_, _, rfl⟩
      | partly => exact ⟨_, _, rfl⟩
      | malformed => exact ⟨_, _, rfl⟩

/-- What reads no host port, no queue and no turn reads the same after a message is taken. -/
theorem takeMsg_read {β : Type} (F : State → β) (h : HostId) (pair : Nat)
    (hF : ∀ (u : State) (p : HostPort) (q : List Queue) (l : Bool),
      F { u.modPort h (fun _ => p) with queues := q, lastA := l } = F u) : F (s.takeMsg h pair) = F s := by
  obtain ⟨p, q, e⟩ := takeMsg_form s h pair
  rw [e, hF]

@[simp] theorem takeMsg_now (h : HostId) (pair : Nat) : (s.takeMsg h pair).now = s.now :=
  takeMsg_read s State.now h pair fun _ _ _ _ => by cases h <;> rfl
@[simp] theorem takeMsg_draws (h : HostId) (pair : Nat) : (s.takeMsg h pair).draws = s.draws :=
  takeMsg_read s State.draws h pair fun _ _ _ _ => by cases h <;> rfl
@[simp] theorem takeMsg_pw (h : HostId) (pair : Nat) : (s.takeMsg h pair).pw = s.pw :=
  takeMsg_read s State.pw h pair fun _ _ _ _ => by cases h <;> rfl
@[simp] theorem takeMsg_swp (h : HostId) (pair : Nat) : (s.takeMsg h pair).swp = s.swp :=
  takeMsg_read s State.swp h pair fun _ _ _ _ => by cases h <;> rfl
@[simp] theorem takeMsg_leg (h : HostId) (pair : Nat) : (s.takeMsg h pair).leg = s.leg :=
  takeMsg_read s State.leg h pair fun _ _ _ _ => by cases h <;> rfl
@[simp] theorem takeMsg_sems (h : HostId) (pair : Nat) : (s.takeMsg h pair).sems = s.sems :=
  takeMsg_read s State.sems h pair fun _ _ _ _ => by cases h <;> rfl
@[simp] theorem takeMsg_flt (h : HostId) (pair : Nat) : (s.takeMsg h pair).flt = s.flt :=
  takeMsg_read s State.flt h pair fun _ _ _ _ => by cases h <;> rfl
@[simp] theorem takeMsg_saf (h : HostId) (pair : Nat) : (s.takeMsg h pair).saf = s.saf :=
  takeMsg_read s State.saf h pair fun _ _ _ _ => by cases h <;> rfl
@[simp] theorem takeMsg_ses (h : HostId) (pair : Nat) : (s.takeMsg h pair).ses = s.ses :=
  takeMsg_read s State.ses h pair fun _ _ _ _ => by cases h <;> rfl
@[simp] theorem takeMsg_loops (h : HostId) (pair : Nat) : (s.takeMsg h pair).loops = s.loops :=
  takeMsg_read s State.loops h pair fun _ _ _ _ => by cases h <;> rfl
@[simp] theorem takeMsg_tuning (h : HostId) (pair : Nat) : (s.takeMsg h pair).tuning = s.tuning :=
  takeMsg_read s State.tuning h pair fun _ _ _ _ => by cases h <;> rfl
@[simp] theorem takeMsg_pwm (h : HostId) (pair : Nat) : (s.takeMsg h pair).pwm = s.pwm :=
  takeMsg_read s State.pwm h pair fun _ _ _ _ => by cases h <;> rfl
@[simp] theorem takeMsg_ctr (h : HostId) (pair : Nat) : (s.takeMsg h pair).ctr = s.ctr :=
  takeMsg_read s State.ctr h pair fun _ _ _ _ => by cases h <;> rfl
@[simp] theorem takeMsg_atlas (h : HostId) (pair : Nat) : (s.takeMsg h pair).atlas = s.atlas :=
  takeMsg_read s State.atlas h pair fun _ _ _ _ => by cases h <;> rfl
@[simp] theorem takeMsg_chassis (h : HostId) (pair : Nat) : (s.takeMsg h pair).chassis = s.chassis :=
  takeMsg_read s State.chassis h pair fun _ _ _ _ => by cases h <;> rfl
@[simp] theorem takeMsg_chWins (h : HostId) (pair : Nat) : (s.takeMsg h pair).chWins = s.chWins :=
  takeMsg_read s State.chWins h pair fun _ _ _ _ => by cases h <;> rfl
@[simp] theorem takeMsg_posWins (h : HostId) (pair : Nat) : (s.takeMsg h pair).posWins = s.posWins :=
  takeMsg_read s State.posWins h pair fun _ _ _ _ => by cases h <;> rfl
@[simp] theorem takeMsg_headAccs (h : HostId) (pair : Nat) : (s.takeMsg h pair).headAccs = s.headAccs :=
  takeMsg_read s State.headAccs h pair fun _ _ _ _ => by cases h <;> rfl
@[simp] theorem takeMsg_tracks (h : HostId) (pair : Nat) : (s.takeMsg h pair).tracks = s.tracks :=
  takeMsg_read s State.tracks h pair fun _ _ _ _ => by cases h <;> rfl
@[simp] theorem takeMsg_written (h : HostId) (pair : Nat) : (s.takeMsg h pair).written = s.written :=
  takeMsg_read s State.written h pair fun _ _ _ _ => by cases h <;> rfl
@[simp] theorem takeMsg_poss (h : HostId) (pair : Nat) : (s.takeMsg h pair).poss = s.poss :=
  takeMsg_read s State.poss h pair fun _ _ _ _ => by cases h <;> rfl
@[simp] theorem takeMsg_trv (h : HostId) (pair : Nat) : (s.takeMsg h pair).trv = s.trv :=
  takeMsg_read s State.trv h pair fun _ _ _ _ => by cases h <;> rfl
@[simp] theorem takeMsg_der (h : HostId) (pair : Nat) : (s.takeMsg h pair).der = s.der :=
  takeMsg_read s State.der h pair fun _ _ _ _ => by cases h <;> rfl
@[simp] theorem takeMsg_sent (h : HostId) (pair : Nat) : (s.takeMsg h pair).sent = s.sent :=
  takeMsg_read s State.sent h pair fun _ _ _ _ => by cases h <;> rfl
@[simp] theorem takeMsg_devs (h : HostId) (pair : Nat) : (s.takeMsg h pair).devs = s.devs :=
  takeMsg_read s State.devs h pair fun _ _ _ _ => by cases h <;> rfl
@[simp] theorem takeMsg_lastA (h : HostId) (pair : Nat) : (s.takeMsg h pair).lastA = decide (h = .A) := by
  cases h <;> rfl

theorem takeMsg_tripMask (h : HostId) (pair : Nat) : (s.takeMsg h pair).tripMask = s.tripMask :=
  takeMsg_read s State.tripMask h pair fun _ _ _ _ => by cases h <;> rfl

/-- The port whose message is taken, but for its interrupt flags. -/
theorem takeMsg_port_body (h : HostId) (pair : Nat) : ((s.takeMsg h pair).port h).body
    = { (s.port h).body with request := none, lastPair := pair, lastCmd := s.now } := by
  unfold State.takeMsg
  dsimp only
  cases h
  · cases hr : (s.port .A).request with
    | some r => rfl
    | none =>
      have hr' : s.portA.request = none := hr
      dsimp only
      cases headMsg (s.queue (cmdQ .A pair)).words none with
      | whole code body n frag more =>
        dsimp only
        unfold State.popCmd
        dsimp only
        cases ((s.modQueue (cmdQ .A pair) fun q => { q with words := q.words.drop n }).queue (cmdQ .A pair)).words.isEmpty
        · simp [State.port, State.modPort, State.modQueue, HostPort.body, hr']
        · simp [State.port, State.modPort, State.modQueue, HostPort.body, HostPort.flagQ, hr']
      | empty => simp [State.port, State.modPort, HostPort.body, hr']
      | partly => simp [State.port, State.modPort, HostPort.body, hr']
      | malformed => simp [State.port, State.modPort, HostPort.body, hr']
  · cases hr : (s.port .B).request with
    | some r => rfl
    | none =>
      have hr' : s.portB.request = none := hr
      dsimp only
      cases headMsg (s.queue (cmdQ .B pair)).words none with
      | whole code body n frag more =>
        dsimp only
        unfold State.popCmd
        dsimp only
        cases ((s.modQueue (cmdQ .B pair) fun q => { q with words := q.words.drop n }).queue (cmdQ .B pair)).words.isEmpty
        · simp [State.port, State.modPort, State.modQueue, HostPort.body, hr']
        · simp [State.port, State.modPort, State.modQueue, HostPort.body, HostPort.flagQ, hr']
      | empty => simp [State.port, State.modPort, HostPort.body, hr']
      | partly => simp [State.port, State.modPort, HostPort.body, hr']
      | malformed => simp [State.port, State.modPort, HostPort.body, hr']

/-- The other port is as it was. -/
theorem takeMsg_port_other (h k : HostId) (pair : Nat) (hk : k ≠ h) : (s.takeMsg h pair).port k = s.port k := by
  obtain ⟨p, q, e⟩ := takeMsg_form s h pair
  rw [e]
  cases h <;> cases k <;> first | rfl | exact absurd rfl hk

theorem takeMsg_frozen (h : HostId) (pair : Nat) : ((s.takeMsg h pair).port h).frozen = (s.port h).frozen := by
  have e := congrArg HostPort.frozen (takeMsg_port_body s h pair)
  exact e

theorem takeMsg_level (h : HostId) (pair : Nat) : (s.takeMsg h pair).levelOf h = s.levelOf h := by
  have e := congrArg HostPort.level (takeMsg_port_body s h pair)
  exact e

theorem takeMsg_staged (h : HostId) (pair : Nat) : ((s.takeMsg h pair).port h).staged = (s.port h).staged := by
  have e := congrArg HostPort.staged (takeMsg_port_body s h pair)
  exact e

/-- Every queue but that of the pair is as it was. -/
theorem takeMsg_queue (h : HostId) (pair q : Nat) (hq : q ≠ cmdQ h pair) : (s.takeMsg h pair).queue q = s.queue q := by
  have key : ∀ (n : Nat), (s.popCmd h pair n).queue q = s.queue q := fun n => by
    unfold State.popCmd
    dsimp only
    have e : (s.modQueue (cmdQ h pair) fun q => { q with words := q.words.drop n }).queue q = s.queue q := by
      simp only [State.queue, State.modQueue, modAt, List.getD_eq_getElem?_getD, List.getElem?_modify]
      cases s.queues[q]? <;> simp [hq.symm]
    cases ((s.modQueue (cmdQ h pair) fun q => { q with words := q.words.drop n }).queue (cmdQ h pair)).words.isEmpty
    · exact e
    · cases h <;> exact e
  unfold State.takeMsg
  dsimp only
  cases (s.port h).request with
  | some r => cases h <;> rfl
  | none =>
    dsimp only
    cases headMsg (s.queue (cmdQ h pair)).words none with
    | whole code body n frag more =>
      dsimp only
      rw [← key n]
      cases h <;> rfl
    | empty => cases h <;> rfl
    | partly => cases h <;> rfl
    | malformed => cases h <;> rfl

/-! ### The end of a command -/

/-- Nothing stands in an emptied queue. -/
theorem digestPair_empty (h : HostId) (pair : Nat) (hq : (s.queue (cmdQ h pair)).words = []) : s.digestPair h pair = s := by
  unfold State.digestPair
  split
  · simp only [hq, State.digest, headMsg, if_true]
  · rfl

/-- A response of a port that is not frozen is staged behind those that wait. -/
theorem respond_port (h : HostId) (pair code tag status : Nat) (res : List Byte) (hf : (s.port h).frozen = false) :
    (s.respond h pair code tag status res).port h = { s.port h with
      staged := (s.port h).staged ++ [⟨pair, code, false, leBytes 2 tag ++ leBytes 2 status ++ res, 0⟩] } := by
  unfold State.respond State.stageMsg
  rw [hf]
  cases h <;> rfl

/-- A response is all that responding does. -/
theorem respond_form (h : HostId) (pair code tag status : Nat) (res : List Byte) :
    ∃ p, s.respond h pair code tag status res = s.modPort h (fun _ => p) := by
  unfold State.respond State.stageMsg
  cases hf : (s.port h).frozen
  · cases h <;> exact ⟨_, rfl⟩
  · cases h
    · exact ⟨s.portA, rfl⟩
    · exact ⟨s.portB, rfl⟩

end State

/-- A command that Zardo takes and that its guards pass ends with what it does to the state its message has left. -/
theorem serve_act {s : State} {h : HostId} {pair code : Nat} {body : List Byte} {guard : Req → Option Guard} {g : Guard}
    {act : Req → State → State} (T : Taken s h pair code body) (hg : guard (request h pair code body) = some g)
    (hfit : g.fits = true) (hmay : s.may h g.sem g.level)
    (hq : ((act (request h pair code body) (s.takeMsg h pair)).queue (cmdQ h pair)).words = []) :
    serve s h pair code guard act = done s (act (request h pair code body) (s.takeMsg h pair)) := by
  unfold serve
  rw [onCore_up T.up]
  simp only [T.offered, T.turn, and_self, if_true]
  have hc : (s.takeMsg h pair).checked (request h pair code body) (guard (request h pair code body))
      (act (request h pair code body)) = act (request h pair code body) (s.takeMsg h pair) := by
    rw [hg]
    unfold State.checked
    have h1 : g.sem.all (fun k => (s.takeMsg h pair).holds h k) = true := by
      have : (fun k => (s.takeMsg h pair).holds h k) = fun k => s.holds h k := by
        funext k; simp only [State.holds, State.takeMsg_sems]
      rw [this]; exact hmay.1
    have h2 : ¬ (s.takeMsg h pair).levelOf h < g.level := by
      rw [State.takeMsg_level]; exact Nat.not_lt.2 hmay.2
    simp only [request] at h1 h2 ⊢
    simp only [hfit, h1, Bool.true_eq_false, if_false, h2]
  rw [show (⟨h, pair, code, field body 0 2, body⟩ : Req) = request h pair code body from rfl, hc,
    State.digestPair_empty _ _ _ hq]

/-- What a taken command leaves of its port and queues, where it stages the messages `l` and touches neither otherwise. -/
theorem served_of {s y : State} {h : HostId} {pair code : Nat} {body : List Byte} {l : List Staged}
    (T : Taken s h pair code body)
    (hp : (y.port h).body = { ((s.takeMsg h pair).port h).body with staged := ((s.takeMsg h pair).port h).staged ++ l })
    (hq : y.queues = (s.takeMsg h pair).queues) (hl : y.lastA = (s.takeMsg h pair).lastA) :
    served s (s.finish y) (request h pair code body) l := by
  refine ⟨?_, ?_, ?_, ?_⟩
  · show ((s.finish y).port h).body = _
    rw [State.finish_port_body, hp, State.takeMsg_port_body, State.takeMsg_staged]
    rfl
  · show ((s.finish y).queue (cmdQ h pair)).words = []
    have : (s.finish y).queue (cmdQ h pair) = (s.takeMsg h pair).queue (cmdQ h pair) := by
      simp only [State.queue, State.finish_queues, hq]
    rw [this]; exact T.last
  · intro q hne
    have : (s.finish y).queue q = (s.takeMsg h pair).queue q := by simp only [State.queue, State.finish_queues, hq]
    rw [this]; exact State.takeMsg_queue s h pair q hne
  · rw [State.finish_lastA, hl, State.takeMsg_lastA]; rfl

/-- A command that answers after it has changed parts of the state other than its port and queues. -/
theorem serve_answers {s : State} {h : HostId} {pair code : Nat} {body : List Byte} {guard : Req → Option Guard} {g : Guard}
    {act : Req → State → State} {u : State} {status : Nat} {res : List Byte} {out : List Part}
    (T : Taken s h pair code body) (hg : guard (request h pair code body) = some g)
    (hfit : g.fits = true) (hmay : s.may h g.sem g.level)
    (hact : act (request h pair code body) (s.takeMsg h pair) = u.respond h pair code (field body 0 2) status res)
    (hp : u.port h = (s.takeMsg h pair).port h)
    (hq : u.queues = (s.takeMsg h pair).queues) (hl : u.lastA = (s.takeMsg h pair).lastA)
    (hk : kept out (s.takeMsg h pair) u)
    (hm : u.tripMask = s.tripMask) (h3 : u.saf = s.saf) (he : (u.dev 0).cErr = (s.dev 0).cErr) :
    ∃ t, serve s h pair code guard act = .next t
      ∧ t = { u.respond h pair code (field body 0 2) status res with pending := s.pending, now := max s.now u.now }
      ∧ served s t (request h pair code body) [reply (request h pair code body) status res]
      ∧ kept (out ++ hostParts h) s t := by
  have hf : (u.port h).frozen = false := by rw [hp, State.takeMsg_frozen]; exact T.thawed
  obtain ⟨p, hform⟩ := State.respond_form u h pair code (field body 0 2) status res
  have hqs : (u.respond h pair code (field body 0 2) status res).queues = u.queues := by rw [hform]; cases h <;> rfl
  have hls : (u.respond h pair code (field body 0 2) status res).lastA = u.lastA := by rw [hform]; cases h <;> rfl
  have hid : s.finish (u.respond h pair code (field body 0 2) status res)
      = { u.respond h pair code (field body 0 2) status res with pending := s.pending, now := max s.now u.now } := by
    rw [State.finish_same s T.rest]
    · rw [hform]; cases h <;> rfl
    · rw [hform, ← hm]; cases h <;> rfl
    · rw [hform]; cases h <;> exact h3
    · rw [hform]; cases h <;> exact he
  refine ⟨_, ?_, hid, served_of T ?_ ?_ ?_, ?_⟩
  · rw [serve_act T hg hfit hmay, hact]
    · rfl
    · rw [hact]
      simp only [State.queue, hqs, hq]
      exact T.last
  · rw [State.respond_port _ _ _ _ _ _ _ hf, hp]
    rfl
  · rw [hqs, hq]
  · rw [hls, hl]
  · rw [hid]
    intro p hn
    rw [List.mem_append, not_or] at hn
    have hk' := hk p hn.1
    rw [hform]
    obtain ⟨p', q', e⟩ := State.takeMsg_form s h pair
    rw [e] at hk'
    cases p
    case host k =>
      cases h <;> cases k <;> first | exact hk' | (exfalso; exact hn.2 (by simp [hostParts]))
    case flags => exact absurd (by simp [hostParts]) hn.2
    case turn => exact absurd (by simp [hostParts]) hn.2
    case queues => exact absurd (by simp [hostParts]) hn.2
    all_goals cases h <;> exact hk'

/-- As `serve_answers`: the next state is the changed state with another port. -/
theorem serve_acts {s : State} {h : HostId} {pair code : Nat} {body : List Byte} {guard : Req → Option Guard} {g : Guard}
    {act : Req → State → State} {u : State} {status : Nat} {res : List Byte} {out : List Part}
    (T : Taken s h pair code body) (hg : guard (request h pair code body) = some g)
    (hfit : g.fits = true) (hmay : s.may h g.sem g.level)
    (hact : act (request h pair code body) (s.takeMsg h pair) = u.respond h pair code (field body 0 2) status res)
    (hp : u.port h = (s.takeMsg h pair).port h)
    (hq : u.queues = (s.takeMsg h pair).queues) (hl : u.lastA = (s.takeMsg h pair).lastA)
    (hk : kept out (s.takeMsg h pair) u)
    (hm : u.tripMask = s.tripMask) (h3 : u.saf = s.saf) (he : (u.dev 0).cErr = (s.dev 0).cErr) :
    ∃ t, serve s h pair code guard act = .next t
      ∧ (∃ p n, t = { u.modPort h (fun _ => p) with pending := s.pending, now := n })
      ∧ served s t (request h pair code body) [reply (request h pair code body) status res]
      ∧ kept (out ++ hostParts h) s t := by
  obtain ⟨t, h1, h2, h3, h4⟩ := serve_answers T hg hfit hmay hact hp hq hl hk hm h3 he
  obtain ⟨p, hform⟩ := State.respond_form u h pair code (field body 0 2) status res
  refine ⟨t, h1, ⟨p, max s.now u.now, ?_⟩, h3, h4⟩
  rw [h2, hform]

/-- A command that stages no message and changes parts of the state other than its port and queues. -/
theorem serve_quiet {s : State} {h : HostId} {pair code : Nat} {body : List Byte} {guard : Req → Option Guard} {g : Guard}
    {act : Req → State → State} {u : State} {out : List Part}
    (T : Taken s h pair code body) (hg : guard (request h pair code body) = some g)
    (hfit : g.fits = true) (hmay : s.may h g.sem g.level) (hact : act (request h pair code body) (s.takeMsg h pair) = u)
    (hp : u.port h = (s.takeMsg h pair).port h)
    (hq : u.queues = (s.takeMsg h pair).queues) (hl : u.lastA = (s.takeMsg h pair).lastA)
    (hk : kept out (s.takeMsg h pair) u)
    (hm : u.tripMask = s.tripMask) (h3 : u.saf = s.saf) (he : (u.dev 0).cErr = (s.dev 0).cErr) :
    ∃ t, serve s h pair code guard act = .next t ∧ t = { u with pending := s.pending, now := max s.now u.now }
      ∧ served s t (request h pair code body) [] ∧ kept (out ++ hostParts h) s t := by
  have hid : s.finish u = { u with pending := s.pending, now := max s.now u.now } := State.finish_same s T.rest hm h3 he
  refine ⟨_, ?_, hid, served_of T ?_ hq hl, ?_⟩
  · rw [serve_act T hg hfit hmay (by rw [hact]; simp only [State.queue, hq]; exact T.last), hact]
    rfl
  · rw [hp, List.append_nil]
    rfl
  · rw [hid]
    intro p hn
    rw [List.mem_append, not_or] at hn
    have hk' := hk p hn.1
    obtain ⟨p', q', e⟩ := State.takeMsg_form s h pair
    rw [e] at hk'
    cases p
    case host k =>
      cases h <;> cases k <;> first | exact hk' | (exfalso; exact hn.2 (by simp [hostParts]))
    case flags => exact absurd (by simp [hostParts]) hn.2
    case turn => exact absurd (by simp [hostParts]) hn.2
    case queues => exact absurd (by simp [hostParts]) hn.2
    all_goals cases h <;> exact hk'

/-- A command that only answers, from what it reads: nothing but its port and its queue changes. -/
theorem serve_reads {s : State} {h : HostId} {pair code : Nat} {body : List Byte} {guard : Req → Option Guard} {g : Guard}
    {act : Req → State → State} {status : Nat} {res : List Byte}
    (T : Taken s h pair code body) (hg : guard (request h pair code body) = some g)
    (hfit : g.fits = true) (hmay : s.may h g.sem g.level)
    (hact : act (request h pair code body) (s.takeMsg h pair)
      = (s.takeMsg h pair).respond h pair code (field body 0 2) status res) :
    ∃ t, serve s h pair code guard act = .next t
      ∧ served s t (request h pair code body) [reply (request h pair code body) status res]
      ∧ kept (hostParts h) s t := by
  obtain ⟨t, h1, h2, h3, h4⟩ := serve_answers (out := []) T hg hfit hmay hact rfl rfl rfl
    (fun p _ => by cases p <;> simp [Part.same]) (State.takeMsg_tripMask s h pair) (by simp) (by simp [State.dev])
  exact ⟨t, h1, h3, h4⟩

/-! ### Settings that land -/

namespace State

/-- A setting that lands changes the sweep block alone. -/
theorem land_form (s : State) (x : Landed) : s.land x = { s with swp := (s.land x).swp } := by
  unfold State.land; cases s.swp.hold <;> rfl

theorem takeMsg_land_swp (s : State) (h : HostId) (pair : Nat) (x : Landed) :
    ((s.takeMsg h pair).land x).swp = (s.land x).swp := by
  have e : (s.takeMsg h pair).swp = s.swp := takeMsg_swp s h pair
  unfold State.land
  rw [e]
  cases s.swp.hold <;> simp

theorem takeMsg_effect (s : State) (h : HostId) (pair : Nat) : (s.takeMsg h pair).effect = s.effect :=
  takeMsg_read s State.effect h pair fun _ _ _ _ => by cases h <;> rfl

theorem takeMsg_commitFull (s : State) (h : HostId) (pair : Nat) (x : Landed) :
    (s.takeMsg h pair).commitFull x = s.commitFull x :=
  takeMsg_read s (fun u => u.commitFull x) h pair fun _ _ _ _ => by cases h <;> rfl

end State

/-- A change to the sweep block alone. -/
theorem kept_swp (s : State) (x : SweepSt) : kept [.sweep] s { s with swp := x } := by
  intro p hp
  cases p
  case sweep => exact absurd (List.mem_singleton.2 rfl) hp
  case host k => cases k <;> rfl
  case devices => exact fun _ => rfl
  all_goals simp [Part.same]

/-- A command that is a setting and lands. -/
theorem serve_lands {s : State} {h : HostId} {pair code : Nat} {body : List Byte} {guard : Req → Option Guard} {g : Guard}
    {act : Req → State → State} {x : Landed} {more : List Byte}
    (T : Taken s h pair code body) (hg : guard (request h pair code body) = some g)
    (hfit : g.fits = true) (hmay : s.may h g.sem g.level)
    (hact : act (request h pair code body) (s.takeMsg h pair)
      = ((s.takeMsg h pair).land x).respond h pair code (field body 0 2) St.ok (leBytes 4 s.effect ++ more)) :
    ∃ t, serve s h pair code guard act = .next t ∧ lands s t (request h pair code body) x more := by
  have hl := State.land_form (s.takeMsg h pair) x
  obtain ⟨t, h1, h2, h3, h4⟩ := serve_answers (out := [.sweep]) T hg hfit hmay hact
    (by rw [hl]; cases h <;> rfl) (by rw [hl]) (by rw [hl]) (by rw [hl]; exact kept_swp _ _)
    (by rw [← State.takeMsg_tripMask s h pair, hl]; rfl) (by rw [hl]; simp) (by rw [hl]; simp [State.dev])
  refine ⟨t, h1, ?_, h3, h4⟩
  obtain ⟨p, hform⟩ := State.respond_form ((s.takeMsg h pair).land x) h pair code (field body 0 2) St.ok
    (leBytes 4 s.effect ++ more)
  rw [h2, hform, ← State.takeMsg_land_swp s h pair x]
  cases h <;> rfl

/-! ### Change sets -/

/-- A change set that lands changes the sweep block and the Legend block alone, and not the active image. -/
theorem State.landChange_form (s : State) (f : SMap Nat) (a b : Nat) (c : Bool) (d : List Nat) :
    s.landChange f a b c d
      = { s with swp := (s.landChange f a b c d).swp, leg := (s.landChange f a b c d).leg } := by
  unfold State.landChange
  dsimp only
  rw [State.land_form]

theorem State.landChange_active (s : State) (f : SMap Nat) (a b : Nat) (c : Bool) (d : List Nat) :
    (s.landChange f a b c d).leg.active = s.leg.active := by
  unfold State.landChange
  dsimp only
  rw [State.land_form]
  dsimp only
  cases s.leg.useB <;> rfl

theorem State.takeMsg_landChange (s : State) (h : HostId) (pair : Nat) (f : SMap Nat) (a b : Nat) (c : Bool)
    (d : List Nat) : ((s.takeMsg h pair).landChange f a b c d).swp = (s.landChange f a b c d).swp
      ∧ ((s.takeMsg h pair).landChange f a b c d).leg = (s.landChange f a b c d).leg := by
  have e1 : (s.takeMsg h pair).nextVersion = s.nextVersion :=
    State.takeMsg_read s State.nextVersion h pair fun _ _ _ _ => by cases h <;> rfl
  have e2 : (s.takeMsg h pair).pendingFields = s.pendingFields :=
    State.takeMsg_read s State.pendingFields h pair fun _ _ _ _ => by cases h <;> rfl
  unfold State.landChange
  dsimp only
  rw [e1, e2, State.takeMsg_effect, State.takeMsg_land_swp]
  have e3 : ∀ x, ((s.takeMsg h pair).land x).leg = (s.land x).leg := fun x => by
    rw [State.land_form (s.takeMsg h pair) x, State.land_form s x]; exact State.takeMsg_leg s h pair
  rw [e3]
  exact ⟨rfl, rfl⟩

/-- A change to the sweep block and the Legend block alone. -/
theorem kept_swp_leg (s : State) (x : SweepSt) (y : LegendSt) : kept [.sweep, .legend] s { s with swp := x, leg := y } := by
  intro p hp
  cases p
  case sweep => exact absurd (by simp) hp
  case legend => exact absurd (by simp) hp
  case host k => cases k <;> rfl
  case devices => exact fun _ => rfl
  all_goals simp [Part.same]

/-- A command that is a Legend change set and lands. -/
theorem serve_changes {s : State} {h : HostId} {pair code : Nat} {body : List Byte} {guard : Req → Option Guard} {g : Guard}
    {act : Req → State → State} {f : SMap Nat} {more : List Byte}
    (T : Taken s h pair code body) (hg : guard (request h pair code body) = some g)
    (hfit : g.fits = true) (hmay : s.may h g.sem g.level)
    (hact : act (request h pair code body) (s.takeMsg h pair)
      = ((s.takeMsg h pair).landChange f (hostNum h) (s.levelOf h) false []).respond h pair code (field body 0 2) St.ok
          (leBytes 4 s.effect ++ more)) :
    ∃ t, serve s h pair code guard act = .next t ∧ changesLegend s t (request h pair code body) f more := by
  have hl := State.landChange_form (s.takeMsg h pair) f (hostNum h) (s.levelOf h) false []
  have ha := State.landChange_active (s.takeMsg h pair) f (hostNum h) (s.levelOf h) false []
  obtain ⟨t, h1, h2, h3, h4⟩ := serve_answers (out := [.sweep, .legend]) T hg hfit hmay hact
    (by rw [hl]; cases h <;> rfl) (by rw [hl]) (by rw [hl]) (by rw [hl]; exact kept_swp_leg _ _ _)
    (State.tripMask_congr s (by rw [hl]; simp) (by rw [ha]; simp) (by rw [hl]; simp) (by rw [hl]; simp) (by rw [hl]; simp)
      (by rw [hl]; simp) (by rw [hl]; simp) (by rw [hl]; simp)) (by rw [hl]; simp) (by rw [hl]; simp [State.dev])
  obtain ⟨p, hform⟩ := State.respond_form ((s.takeMsg h pair).landChange f (hostNum h) (s.levelOf h) false []) h pair code
    (field body 0 2) St.ok (leBytes 4 s.effect ++ more)
  obtain ⟨e1, e2⟩ := State.takeMsg_landChange s h pair f (hostNum h) (s.levelOf h) false []
  refine ⟨t, h1, ?_, ?_, h3, h4⟩
  · show t.swp = (s.landChange f (hostNum h) (s.levelOf h) false []).swp
    rw [h2, hform, ← e1]
    cases h <;> rfl
  · show t.leg = (s.landChange f (hostNum h) (s.levelOf h) false []).leg
    rw [h2, hform, ← e2]
    cases h <;> rfl

end Sys2Proof.Machine
end

