-- ==== Sys2Proof/WellFormed.lean ====
section
/-!
DEFINITION. Well-formed commands: every index lies in the range that the spec gives the thing it names, and every list has
the length of what it stands for. An ill-formed command spells nothing that can reach the block.
-/

namespace Sys2Proof

/-- A ring holds at most 32 devices (R3). -/
def slotOk (d : Nat) : Bool := decide (d < 32)

/-- A cell of a device, numbered from 0 (R7). -/
def cellOk (k : Nat) : Bool := decide (k < 24)

/-- A queue pair of a host (R416). -/
def pairOk (n : Nat) : Bool := decide (n < 16)

/-- A contactor channel, numbered from 0 (R338). -/
def chanOk (n : Nat) : Bool := decide (n < 6)

/-- A safety input SI1 to SI4 or RESTART, numbered from 0 (R356, R362). -/
def inputOk (i : Nat) : Bool := decide (i < 5)

/-- A SENT input SN1 to SN8 or its supply, numbered from 0 (R530, R538). -/
def sensorOk (n : Nat) : Bool := decide (n < 8)

/-- A list of 32-bit words that one transaction carries (R409). -/
def wordsOk (ws : List Word) : Bool := !ws.isEmpty && decide (ws.length ≤ 64)

/-- An address of the queue windows (R513). -/
def windowOk (a : Nat) : Bool := decide (0x1000 ≤ a ∧ a < 0x2000)

/-- A frame as it can be received: header fields of their widths (R260) and a payload that R261 can frame. -/
def frameOk (f : Frame) : Bool :=
  decide (f.dest < 256 ∧ f.src < 256 ∧ f.hops < 32 ∧ f.lenField < 65536 ∧ f.seq < 65536)

/-- A trip source (R353). -/
def TripSource.ok : TripSource → Bool
  | .input i => decide (i < 4)
  | _ => true

/-- A masking interval (R399): supplies SP1 to SP8 by their number, positions 0 to 31. -/
def MaskKind.ok : MaskKind → Bool
  | .sentSupply n => decide (1 ≤ n ∧ n ≤ 8)
  | .sDieCore p => decide (p < 32)
  | _ => true

/-- A self-calibration covers 27 modulators (R154). -/
def SelfCal.ok (c : SelfCal) : Bool := decide (c.mods.length = 27)

/-- A step result names taps T0 to T24 (R186). -/
def StepResult.ok (r : StepResult) : Bool := r.badTaps.all (fun t => decide (t < 25))

/-- A full self-test has 11 steps (R188, R189). -/
def FullTest.ok (r : FullTest) : Bool :=
  decide (r.steps.length = 11) && r.steps.all StepResult.ok && r.cal.ok && r.badGates.all cellOk

/-- Correlator sums name a cell by its number, 1 to 24 (R7, log 79). -/
def CorrSum.ok (x : CorrSum) : Bool := decide (1 ≤ x.cell ∧ x.cell ≤ 24)

/-- A SENT message begins with a calibration pulse; a wrong number of nibbles is a bad message, not an ill-formed one
(R538). -/
def SentMsg.ok (m : SentMsg) : Bool := decide (0 < m.cal)

/-- The command is well formed. -/
def Instr.wf : Instr → Bool
  | .sDieStart d | .sDieStop d | .roleAtPowerUp d | .d1TrainsLate d => slotOk d
  | .selfCalibrationComplete d c => slotOk d && c.ok
  | .sweepBoundary r => decide (r.xt.length = 4 ∧ r.sp.length = 8) && r.xt.all (fun x => decide (x < 65536))
  | .localBoundary d _ => slotOk d
  | .balanceTimerExpiry d k => slotOk d && cellOk k
  | .declareUnsynchronised d | .returnToPreferredDirection d | .meridianArrival d _ => slotOk d
  | .controlTick ks => decide (ks.length = 6) && ks.all (fun v => decide (v < 65536))
  | .sweepOverrun d sub i => slotOk d && decide (1 ≤ sub ∧ sub ≤ 6 ∧ i < 65536)
  | .sampleComplete d raw => slotOk d && decide (raw.length = 27)
  | .itemsSend d => slotOk d
  | .itemsFrame _ f => frameOk f
  | .seqLossTimeout p | .positionSilent p => slotOk p
  | .spotReadingStart d => slotOk d
  | .spotReadingComplete d l | .surveyEntryEnd d l => slotOk d && decide (1 ≤ l.length ∧ l.length ≤ 64)
  | .spotResultLost n => decide (n < 4)
  | .benchmarkRecalDue d | .benchmarkOccupationEnd d => slotOk d
  | .maintenanceSweep d r => slotOk d && r.ok
  | .fullSelfTestEnd d r => slotOk d && r.ok
  | .rollingCalPhaseEnd d _ _ | .rollingCalHaltExpiry d => slotOk d
  | .sentMessage n m => sensorOk n && m.ok
  | .sentTimeout n | .sentSupplyLimit n | .sentSupplyOn n | .sentSupplyRunTimer n => sensorOk n
  | .sysCalMeasurementEnd c => decide (c = 255 ∨ c < 16)
  | .soundingKeyingEdge d => slotOk d
  | .soundingIntegrationEnd d l => slotOk d && l.all CorrSum.ok
  | .bleedOnEdge d | .bleedOffEdge d | .bleedSilenceExpiry d => slotOk d
  | .gateFault d k _ => slotOk d && cellOk k
  | .dieOvertempTrip d _ | .dieOvertempRelease d _ | .sDieWatchdogExpiry d | .sDieCoreRestart d => slotOk d
  | .maskingIntervalEnd k => k.ok
  | .kfRecognised n _ | .pullInTimeout n | .holdDelayEnd n | .dropOutTimeout n | .coilCurrentTimeout n
  | .coilPinMismatch n _ => chanOk n
  | .tripSourceAssert x => x.ok
  | .safetyChannelRecognised i _ _ | .safeinDiscrepancyTimeout i => inputOk i
  | .linkUp d _ | .rxLoss d _ | .idleSet d _ _ _ | .miswireTimeout d _ | .characterAlignment d _ _ | .rxGood d _
  | .wakePatternDetected d _ | .wakePatternEnd d | .portDownWake d _ | .sDieSilenceDormant d => slotOk d
  | .linkDegraded d _ n => slotOk d && decide (n < 2 ^ 32)
  | .frameForward d _ f | .token d _ f | .adopt d _ f | .sweepHeader d _ f | .keepalive d _ f | .commit d _ f
  | .reaction d _ f | .command d _ f | .stage d _ f => slotOk d && frameOk f
  | .probe d _ f n | .probeReply d _ f n => slotOk d && frameOk f && decide (n < 2 ^ 32)
  | .commandWindowPush _ a ws | .responseWindowRelease _ a ws => windowOk a && wordsOk ws
  | .responseWindowPeek _ a n => windowOk a && decide (1 ≤ n ∧ n ≤ 64)
  | .responsePlacement _ n => pairOk n
  | .registerWrite _ l | .readTransaction _ l => !l.isEmpty
  | .traverse _ n | .windowSet _ n | .atlasRead _ n | .chassisRead _ n | .surveyLoad _ n | .spotRead _ n | .calibrate _ n
  | .sysCal _ n | .balanceSet _ n | .soundStart _ n | .loopConfig _ n | .loopMode _ n | .loopTune _ n
  | .contactorCmd _ n | .safeSession _ n | .faultRead _ n | .faultAck _ n | .identify _ n | .login _ n
  | .legendWrite _ n | .legendCommit _ n | .logRead _ n | .fwUpdate _ n | .unfreeze _ n | .dormant _ n => pairOk n
  | .vsupRise | .vsupFall | .lockedLatchClear | .resetNAssert | .resetNRelease | .cDieStart | .cDieWake _
  | .meridianSend | .sweepMarkLoss | .commitCutOff | .commitRecordSend | .reactionCutOff | .tuningTimeout
  | .atlasDeadline | .contourStepDown _ | .contourStepUp _ | .contourFailsafeDwell | .shuntOvercurrent _ | .cErrAssert
  | .barrierLaneLoss _ | .barrierLaneRetrain _ _ | .referenceClockLoss | .referenceClockReturn | .slPairEqual _
  | .sErrUnexplained | .crystalFailure | .memoryEccError _ | .supervisorWatchdogExpiry | .supervisorCoreRestart
  | .heartbeatTimeout | .errOutRelease | .restartIdleTimer | .restartStuck | .couplingTimer | .safeFrameSendTimer
  | .safeFrameTimeExpectation | .safeFrameConnectLimit | .sessionReconnectDelay | .keepaliveSend | .traverseStart
  | .traversePassEnd | .traverseRetryTimer | .wakeTimeout | .loginTimeout _ | .gazetteerWrite | .portReset _
  | .semTake _ _ | .semGive _ _ | .swpCtrlWrite _ _ | .errCtrlWrite _ _ | .requestConfig _ | .withdrawConfig _
  | .referenceClockStable | .d1Trained | .sentvsUndervoltage _ => true

end Sys2Proof
end

