-- ==== Sys2Proof/Tests/Slice0.lean ====
section
/-!
SUPPORT. Tests: the well-formedness check and what it refuses, single steps, and for every statement with hypotheses states
and operands that meet them, clause by clause.
-/

open Sys2Proof Sys2Proof.Machine

namespace Sys2Proof.Tests

set_option Elab.async false

/-! ### States to test on -/

/-- The device in slot `d` changed. -/
def dev (d : Nat) (f : Dev → Dev) (s : State) : State := s.modDev d f

/-- A head and a member at positions 0 and 1, both ports UP, D1 trained, after the first boundary, in RUN. -/
def ring : State :=
  let up : PortSt := { st := .up, rxGood := true, peerOk := true, clkSrc := true, everUp := true, okSets := 20 }
  let d : Dev := { power := .awake, calibrated := true, measuring := true, adopted := true, portE := up, portW := up
                   latE := some 20000, latW := some 30000, nextB := some 60000000, lastB := 59000000, sweep := 10, epoch := 3 }
  let s : State := { State.reset with
    now := 59000100
    pw := { State.reset.pw with d1 := true, refClock := true, op := .run, woken := true }
    swp := { State.reset.swp with count := some 10, boundary := 59000000, nextB := 60000000 }
    trv := { State.reset.trv with n := 2, closed := true, result := 0, settled := true } }
  (s.modDev 0 fun _ => { d with role := .head, pos := some 0, lastPos := some 0, d1 := true }).modDev 1 fun _ => { d with role := .member, pos := some 1, lastPos := some 1 }

/-- The port holds every semaphore and is logged in at SERVICE. -/
def service (h : HostId) (s : State) : State :=
  { s.modPort h (fun p => { p with level := 2 }) with sems := List.replicate 16 (some h) }

/-- A whole command waits in the command queue of the pair, and nothing else waits. -/
def sent (h : HostId) (pair code : Nat) (body : List Byte) (s : State) : State :=
  s.modQueue (cmdQ h pair) fun q => { q with words := msgHeader body.length code false false :: packWords body }


/-- A message body from its bytes. -/
def body (l : List Nat) : List Byte := l.map (BitVec.ofNat 8)

/-- HOST A at SERVICE with every semaphore, and one command that waits at pair 3. -/
def on (s : State) (code : Nat) (l : List Nat) : State := sent .A 3 code (body l) (service .A s)

/-- The same on the ring of two devices. -/
def host (code : Nat) (l : List Nat) : State := on ring code l


/-- The ring in CONFIG. -/
def config : State := { ring with pw := { ring.pw with op := .config } }

/-- The ring in RUN with a contactor held closed. -/
def unfit : State := { ring with saf := { ring.saf with ch := { phase := .hold } :: List.replicate 5 {} } }

/-- Two latches stand: one with its cause, one without. -/
def alarmed : State := { ring with flt := { ring.flt with
  latches := List.replicate 16 {} ++ [{ latched := true, sev := 1, occ := 1 }, { latched := true, sev := 1, occ := 2 }]
    ++ List.replicate 14 {} } }


/-- A Legend field of the active image. -/
def field' (f i v : Nat) (s : State) : State :=
  { s with leg := { s.leg with active := { s.leg.active with fields := smapSet s.leg.active.fields (fieldKey f i) v } } }

/-- The ring with HOST B frozen. -/
def frozenB : State := { ring with portB := { frozen := true, frzRsn := 4, pwFail := 2, flag0 := 5, level := 1, mask0 := 9 } }

/-- The ring with the image of a C-die update of four bytes, in a step of it. -/
def updating (step : Nat) (data : List Byte) (s : State) : State :=
  { s with leg := { s.leg with fw := some ⟨0, step, 4, word (crc32c (body [1, 2, 3, 4])), 0, data, data.length, 0⟩ } }


/-- The ring with a failed modulator 24 at position 1. -/
def failedMod : State := (field' Fld.convCfg 0 0 ring).modDev 1 fun d => { d with mods := modAt d.mods 23 fun m => { m with failed := true } }

/-- The ring with cell 1 of position 1 substituted. -/
def substd : State := ring.modDev 1 fun d => { d with cells := modAt d.cells 0 fun c => { c with subst := some 24 } }

/-- The ring with an accepted zero on channel 0xFF. -/
def zeroed : State := { ring with der := { ring.der with sysCal := [⟨0xFF, some (5, 0), none, {}, .B, 0, 0⟩] } }

/-- The ring with a bleed resistor at the first cells of position 1. -/
def rbs : State := field' Fld.balRb 24 330 (field' Fld.balRb 25 330 ring)


/-- A loop record: T_hot controls PW1 between 0 and 100 %. -/
def loopRec : List Nat := [1, 0xE0, 1, 0] ++ List.replicate 24 0 ++ [0, 0, 100, 0] ++ List.replicate 32 0

/-- The ring in RUN with the loop in slot 1 in MANUAL. -/
def manual : State := field' Fld.loopRec 0 (field (body loopRec) 0 64)
  { ring with loops := { mode := .manual } :: ring.loops.drop 1, ctr := { ring.ctr with tHot := some 2500 } }

/-- The ring with two contactor channels in use, armed. -/
def contacts : State := field' Fld.contCfg 0 1 (field' Fld.contCfg 1 1 (field' Fld.contCfg 2 1
  { ring with saf := { ring.saf with tripLatch := false, armed := true, weldDue := false } }))

/-- The ring with an accepted session. -/
def accepted : State := { ring with ses := { ring.ses with st := .accepted, number := 7, partSeq := 1 } }

/-- The body of a LOGIN. -/
def login (op level : Nat) (pw new : List Nat) : List Nat :=
  [1, 2, op, level, pw.length, new.length] ++ pw ++ List.replicate (16 - pw.length) 0 ++ new ++ List.replicate (16 - new.length) 0

/-- A PARTNER frame that an accepted session takes. -/
def partnerFrame : List Nat :=
  let f := [0x54, 1, 7, 0, 2, 0, 1, 0, 0, 0, 0, 0, 0, 0, 0, 0, 0, 0, 0, 0]
  f ++ (leBytes 4 (safeCrc (accepted.par Fld.sfIdPart 0) (accepted.par Fld.sfIdOwn 0) (body f))).map (·.toNat)

/-- A staged LOGIN_TMO. -/
def stagedTmo : State := { ring with leg := { ring.leg with staged := [(fieldKey Fld.loginTmo 0, 7)] } }


/-- The ring, its power changed. -/
def pw (f : PowerSt → PowerSt) : State := { ring with pw := f ring.pw }

/-- The ring, its device changed. -/
def dv (d : Nat) (f : Dev → Dev) : State := ring.modDev d f


/-- Legend copy B is complete and newer. -/
def copyB (s : State) : State := { s with leg := { s.leg with copyB := ⟨2, 5, 0, 2, true, true, false, []⟩ } }


/-- A port of the member changed. -/
def port1 (p : RPort) (f : PortSt → PortSt) : State := dv 1 fun d => d.modPort p f

/-- A downstream frame of the head to every device. -/
def down (p : Payload) : Frame := mkFrame 0xFF 0 31 7 p

/-- A frame to the neighbour. -/
def near (p : Payload) : Frame := mkFrame 0xFE 0 1 7 p

/-- A header. -/
def header1 : HeaderMsg := ⟨11, 4, 1, 0, false, false, false, 2, 48, 0, 0, 1⟩


/-- A pass of a Traverse that both tokens have come back from. -/
def pass (trav n : Nat) (prev : Option PassResult) : State :=
  let k : Token := ⟨trav, 1, false, false, false, n, Config.factoryId 0, 4000, 13500, [⟨6, 1, false, false, 4000, 0, 0⟩]⟩
  { ring with trv := { ring.trv with
      running := true, passOpen := true, trav := trav, pass := 1, passAt := 58000000, sentE := true, sentW := true
      backE := some (k, .W), backW := some ({ k with dirW := true }, .E), prev := prev } }


/-- Cell `k` of position 1 changed. -/
def cell1 (k : Nat) (f : Cell → Cell) (s : State) : State := s.modDev 1 fun d => { d with cells := modAt d.cells k f }

/-- The Survey of a device changed. -/
def sv (d : Nat) (f : Survey → Survey) : State := dv d fun x => { x with sv := f x.sv }

/-- A measured calibration. -/
def cal1 : SelfCal := ⟨List.replicate 27 ⟨3, 0x40000001, 0⟩, 25, 1250000, 2500000⟩

/-- A Sounding of cells 1 and 3 in bin 7. -/
def snd1 : Sounding := ⟨5, 128, [0, 0, 0, 0, 0, 0, 0, 0], 0, some 7, 59000000, 0, 1, [], [], []⟩

/-- A self-test at step `k`. -/
def test1 (full : Bool) (k : Nat) : SelfTest := ⟨full, k, [], true, [], 58000000⟩


/-- BAL_QUIET at its largest: bleeding up to the quiet time. -/
def bleedy (s : State) : State := s


/-- What the head tracks of position 1 changed. -/
def trk (f : PosTrack → PosTrack) : State := { ring with poss := modAt ring.poss 1 f }

/-- What the head tracks of position 1 after a frame of this sweep. -/
def at1 (n : Nat) : PosTrack := { nextSeq := some n, lastSweep := 10 }


/-- The sweep block of the ring changed. -/
def swp (f : SweepSt → SweepSt) : State := { ring with swp := f ring.swp }

/-- Channel 1, of the ring with two channels in use, changed. -/
def ch0 (f : Channel → Channel) : State := contacts.modChan 0 f

/-- SI1 as a trip input without automatic restart word `w`, changed. -/
def si (w : Nat) (f : SafeIn → SafeIn) : State := field' Fld.siCfg 0 w (ring.modInput 0 f)

/-- RESTART changed. -/
def rst (f : SafeIn → SafeIn) : State := ring.modInput 4 f

/-- The session changed. -/
def ses (f : SessionSt → SessionSt) : State := { ring with ses := f ring.ses }

/-- SENT channel 1, in use, changed. -/
def sent0 (f : SentCh → SentCh) : State := field' Fld.sentCfg 0 0x615 (ring.modSent 0 f)

/-- A SENT message with a right CRC where `c` is 2. -/
def msg (c : Nat) : SentMsg := ⟨168000, [12, 13, 14, 15, 16, 17, 18, 12 + c].map (· * 3000), some 240000⟩


/-- A relay tuning of loop 1. -/
def tuning0 : Tuning := ⟨⟨0, 1, 65536, 0, 655360, 0, 60, 4, 0, 0, .A, 3, 5⟩, false, 0, 59000000, 4, true, none, [], 0, 0, [], 0, 1⟩

/-- The ring with that tuning. -/
def tuning1 : State := { manual with tuning := some tuning0, loops := { mode := .tune, tune := 1 } :: manual.loops.drop 1 }

/-- A zero of the shunt, measured. -/
def zero1 : SysCal := ⟨0xFF, none, some (0, 58000000, 0), { sum := 5000, min := 4, max := 6, count := 1000 }, .B, 2, 99⟩

/-- The ring with that measurement. -/
def zeroing : State := { ring with der := { ring.der with sysCal := [zero1] } }


/-- A read transaction of `n + 1` words from address `a`, with its CRC. -/
def rd (n a : Nat) : List Byte :=
  let b := body [n, a / 256, a % 256]
  b ++ [BitVec.ofNat 8 (crc8 b)] ++ List.replicate (4 * n + 8) 0

/-- `Taken` as a conjunction. -/
theorem taken_iff (s : State) (h : HostId) (pair code : Nat) (b : List Byte) :
    Taken s h pair code b ↔ s.coreUp ∧ s.atRest ∧ (s.port h).frozen = false ∧ s.offer h pair = some (code, b) ∧
      s.pick = some (h, pair) ∧ ((s.takeMsg h pair).queue (cmdQ h pair)).words = [] :=
  ⟨fun x => ⟨x.up, x.rest, x.thawed, x.offered, x.turn, x.last⟩, fun ⟨a, b, c, d, e, f⟩ => ⟨a, b, c, d, e, f⟩⟩

/-- A LEGEND_COMMIT of the staged LOGIN_TMO that waits at pair 3, its CRC as given. -/
def committing (w : Word) : State :=
  (service .A stagedTmo).modQueue (cmdQ .A 3) fun q => { q with words := [msgHeader 8 0x0304 false false, 0x201, w] }

/-- Its body. -/
def commitBody (w : Word) : List Byte := wordsToBytes [0x201, w]

theorem committing_taken (w : Word) : Taken (committing w) .A 3 0x0304 (commitBody w) := by
  rw [taken_iff]
  refine ⟨?_, ?_, rfl, rfl, by with_unfolding_all rfl, rfl⟩
  · unfold State.coreUp; exact ⟨rfl, rfl⟩
  · have m : (committing w).tripMask = 0 := (State.tripMask_congr ring rfl rfl rfl rfl rfl rfl rfl rfl).trans (by decide +kernel)
    have e : ((committing w).dev 0).cErr = false := rfl
    unfold State.atRest
    refine ⟨m ▸ rfl, fun h => absurd m h, fun _ h => by rw [e] at h; cases h⟩

theorem crcRefl_lt (p : Nat) (hp : p < 2 ^ 32) : ∀ n c, c < 2 ^ 32 → crcRefl p n c < 2 ^ 32
  | 0, _, h => h
  | n + 1, c, h => crcRefl_lt p hp n _ (by
      split
      · exact Nat.xor_lt_two_pow (by omega) hp
      · omega)

theorem crcFold_lt (p : Nat) (hp : p < 2 ^ 32) : ∀ (bs : List Byte) (c : Nat), c < 2 ^ 32 →
    bs.foldl (fun c b => crcRefl p 8 (c ^^^ b.toNat)) c < 2 ^ 32
  | [], _, h => h
  | b :: bs, c, h => crcFold_lt p hp bs _ (crcRefl_lt p hp 8 _ (Nat.xor_lt_two_pow h (by omega)))

theorem image_crc_lt (i : Image) : i.crc < 2 ^ 32 :=
  Nat.xor_lt_two_pow (crcFold_lt _ (by decide) _ _ (by decide)) (by decide)

theorem commitBody_crc (c : Nat) (h : c < 2 ^ 32) : field (commitBody (BitVec.ofNat 32 c)) 4 4 = c := by
  have e : (BitVec.ofNat 32 c).toNat = c := by simp; omega
  simp [commitBody, wordsToBytes, leBytes, field, ofLe, e]
  omega

theorem committing_meets (w : Word) (h : field (commitBody w) 4 4 = stagedTmo.stagedCrc) :
    (Taken (committing w) HostId.A 3 772 (commitBody w)) ∧
    ((commitBody w).length = 8) ∧
    (field (commitBody w) 2 1 = 0) ∧
    ((committing w).may HostId.A (some 0) 2) ∧
    ((committing w).leg.bulk = []) ∧
    (field (commitBody w) 4 4 = (committing w).stagedCrc) ∧
    ¬ ((committing w).leg.staged = [] ∧ (committing w).leg.loaded = none) ∧
    (recordsFit (committing w).stagedFields = true) ∧
    (firstBreak (committing w).stagedFields = none) ∧
    (∀ (p : Nat), p < (committing w).trv.n → fieldsOfPos (committing w).commitFields p = []) ∧
    ((committing w).commitFull (Landed.legend { fields := (committing w).commitFields, version := 0, host := 0, level := 0, bulk := true, drop := [] : ChangeSet }) = false) ∧
    (settingsSize (landedSettings (committing w).effect (Landed.legend { fields := (committing w).commitFields, version := 0, host := 0, level := 0, bulk := true, drop := [] : ChangeSet })) ≤ 1008) := by
  have e : (committing w).commitFields = stagedTmo.commitFields := rfl
  refine ⟨committing_taken w, rfl, rfl, ⟨rfl, (by decide : 2 ≤ 2)⟩, rfl, h.trans rfl,
    fun x => by have y : [(fieldKey Fld.loginTmo 0, 7)] = [] := x.1; simp at y, ?_, ?_, ?_, ?_, ?_⟩
  · exact (by decide +kernel : recordsFit stagedTmo.stagedFields = true)
  · exact (by decide +kernel : firstBreak stagedTmo.stagedFields = none)
  · rw [e]; exact (by decide +kernel : ∀ p, p < 2 → fieldsOfPos stagedTmo.commitFields p = [])
  · rw [e]
    exact (by decide +kernel : stagedTmo.commitFull (.legend ⟨stagedTmo.commitFields, 0, 0, 0, true, []⟩) = false)
  · rw [e]
    exact (by decide +kernel : settingsSize (landedSettings stagedTmo.effect
      (.legend ⟨stagedTmo.commitFields, 0, 0, 0, true, []⟩)) ≤ 1008)

theorem token_valid (t : Token) (h : t.recs = []) : frameValid (near (.token t)) = true := by
  have e : (payloadBytes (.token t)).length = 16 := by simp [payloadBytes, leBytes, h]
  have c : frameCrc (near (.token t)) = frameCrc { near (.token t) with crc := 0 } := rfl
  unfold frameValid
  rw [c]
  simp [near, mkFrame, e, payloadListed, codeErrors]

/-- The CRC of the staged image as a word. -/
def stagedWord : Word := .ofNat 32 stagedTmo.stagedCrc

/-! ### Hypotheses met -/

/-- States and operands that meet the hypotheses of every clause of EveryStepAnswers. -/
theorem witness_EveryStepAnswers :
    ((ring.pending = [])) :=
  (by decide +kernel)

/-- States and operands that meet the hypotheses of every clause of PagesHoldWhatIsWritten. -/
theorem witness_PagesHoldWhatIsWritten :
    ((smapWf unpopulated ring.atlas = true)) ∧
    ((smapWf noChassis ring.chassis = true)) :=
  ⟨(by decide +kernel),
   (by decide +kernel)⟩

/-- States and operands that meet the hypotheses of every clause of EntriesAreLaidOut. -/
theorem witness_EntriesAreLaidOut :
    ((-2 ^ 47 ≤ { sum := -2 ^ 47, min := -2 ^ 23, max := 2 ^ 23 - 1, count := 65535, flags := { prm := true : Flags } : Entry }.sum) ∧
      ({ sum := -2 ^ 47, min := -2 ^ 23, max := 2 ^ 23 - 1, count := 65535, flags := { prm := true : Flags } : Entry }.sum < 2 ^ 47) ∧
      (-2 ^ 23 ≤ { sum := -2 ^ 47, min := -2 ^ 23, max := 2 ^ 23 - 1, count := 65535, flags := { prm := true : Flags } : Entry }.min) ∧
      ({ sum := -2 ^ 47, min := -2 ^ 23, max := 2 ^ 23 - 1, count := 65535, flags := { prm := true : Flags } : Entry }.min < 2 ^ 23) ∧
      (-2 ^ 23 ≤ { sum := -2 ^ 47, min := -2 ^ 23, max := 2 ^ 23 - 1, count := 65535, flags := { prm := true : Flags } : Entry }.max) ∧
      ({ sum := -2 ^ 47, min := -2 ^ 23, max := 2 ^ 23 - 1, count := 65535, flags := { prm := true : Flags } : Entry }.max < 2 ^ 23) ∧
      ({ sum := -2 ^ 47, min := -2 ^ 23, max := 2 ^ 23 - 1, count := 65535, flags := { prm := true : Flags } : Entry }.count < 2 ^ 16)) ∧
    ((-2 ^ 47 ≤ { sum := 2 ^ 47 - 1, min := 2 ^ 23 - 1, max := -2 ^ 23, count := 0, flags := { : Flags } : Entry }.sum) ∧
      ({ sum := 2 ^ 47 - 1, min := 2 ^ 23 - 1, max := -2 ^ 23, count := 0, flags := { : Flags } : Entry }.sum < 2 ^ 47) ∧
      (-2 ^ 23 ≤ { sum := 2 ^ 47 - 1, min := 2 ^ 23 - 1, max := -2 ^ 23, count := 0, flags := { : Flags } : Entry }.min) ∧
      ({ sum := 2 ^ 47 - 1, min := 2 ^ 23 - 1, max := -2 ^ 23, count := 0, flags := { : Flags } : Entry }.min < 2 ^ 23) ∧
      (-2 ^ 23 ≤ { sum := 2 ^ 47 - 1, min := 2 ^ 23 - 1, max := -2 ^ 23, count := 0, flags := { : Flags } : Entry }.max) ∧
      ({ sum := 2 ^ 47 - 1, min := 2 ^ 23 - 1, max := -2 ^ 23, count := 0, flags := { : Flags } : Entry }.max < 2 ^ 23) ∧
      ({ sum := 2 ^ 47 - 1, min := 2 ^ 23 - 1, max := -2 ^ 23, count := 0, flags := { : Flags } : Entry }.count < 2 ^ 16)) :=
  ⟨(by decide +kernel),
   (by decide +kernel)⟩

/-- States and operands that meet the hypotheses of every clause of TraverseAnswers. -/
theorem witness_TraverseAnswers :
    ((Taken (host 257 [1, 2, 0, 0]) HostId.A 3 257 (body [1, 2, 0, 0])) ∧
      ((body [1, 2, 0, 0]).length = 4) ∧
      (field (body [1, 2, 0, 0]) 2 1 = 0) ∧
      ((host 257 [1, 2, 0, 0]).may HostId.A (some 8) 1) ∧
      ((host 257 [1, 2, 0, 0]).commitFull Landed.traverse = false)) ∧
    ((Taken (host 257 [1, 2, 1, 0]) HostId.A 3 257 (body [1, 2, 1, 0])) ∧
      ((body [1, 2, 1, 0]).length = 4) ∧
      (field (body [1, 2, 1, 0]) 2 1 = 1)) :=
  ⟨(by simp only [taken_iff, State.may, State.coreUp, State.atRest]; decide +kernel),
   (by simp only [taken_iff, State.coreUp, State.atRest]; decide +kernel)⟩

/-- States and operands that meet the hypotheses of every clause of ReadsAnswer. -/
theorem witness_ReadsAnswer :
    (((body [1, 2, 255, 23, 1, 0]).length = 6) ∧
      (1 ≤ field (body [1, 2, 255, 23, 1, 0]) 4 2) ∧
      (Taken (host 259 [1, 2, 255, 23, 1, 0]) HostId.A 3 259 (body [1, 2, 255, 23, 1, 0])) ∧
      (field (body [1, 2, 255, 23, 1, 0]) 4 2 ≤ 255) ∧
      (field (body [1, 2, 255, 23, 1, 0]) 2 2 + field (body [1, 2, 255, 23, 1, 0]) 4 2 ≤ 6144)) ∧
    (((body [1, 2, 0, 0, 128, 0]).length = 6) ∧
      (1 ≤ field (body [1, 2, 0, 0, 128, 0]) 4 2) ∧
      (Taken (host 260 [1, 2, 0, 0, 128, 0]) HostId.A 3 260 (body [1, 2, 0, 0, 128, 0])) ∧
      (field (body [1, 2, 0, 0, 128, 0]) 4 2 ≤ 128) ∧
      (field (body [1, 2, 0, 0, 128, 0]) 2 2 + field (body [1, 2, 0, 0, 128, 0]) 4 2 ≤ 128)) ∧
    ((Taken (host 769 [1, 2]) HostId.A 3 769 (body [1, 2])) ∧
      ((body [1, 2]).length = 2)) ∧
    ((Taken (host 773 [1, 2, 0, 0, 0, 0, 0, 0, 255, 0]) HostId.A 3 773 (body [1, 2, 0, 0, 0, 0, 0, 0, 255, 0])) ∧
      ((body [1, 2, 0, 0, 0, 0, 0, 0, 255, 0]).length = 10) ∧
      (field (body [1, 2, 0, 0, 0, 0, 0, 0, 255, 0]) 2 1 = 0) ∧
      (1 ≤ field (body [1, 2, 0, 0, 0, 0, 0, 0, 255, 0]) 8 2) ∧
      (field (body [1, 2, 0, 0, 0, 0, 0, 0, 255, 0]) 8 2 ≤ 255)) ∧
    ((Taken (host 773 [1, 2, 1, 0, 0, 0, 0, 0, 204, 0]) HostId.A 3 773 (body [1, 2, 1, 0, 0, 0, 0, 0, 204, 0])) ∧
      ((body [1, 2, 1, 0, 0, 0, 0, 0, 204, 0]).length = 10) ∧
      (field (body [1, 2, 1, 0, 0, 0, 0, 0, 204, 0]) 2 1 = 1) ∧
      (1 ≤ field (body [1, 2, 1, 0, 0, 0, 0, 0, 204, 0]) 8 2) ∧
      (field (body [1, 2, 1, 0, 0, 0, 0, 0, 204, 0]) 8 2 ≤ 204)) ∧
    ((Taken (host 518 [1, 2, 0, 0, 0, 0, 0, 0]) HostId.A 3 518 (body [1, 2, 0, 0, 0, 0, 0, 0])) ∧
      ((body [1, 2, 0, 0, 0, 0, 0, 0]).length = 8) ∧
      (field (body [1, 2, 0, 0, 0, 0, 0, 0]) 2 1 = 0)) ∧
    ((Taken (host 518 [1, 2, 1, 31, 1, 0, 0, 0]) HostId.A 3 518 (body [1, 2, 1, 31, 1, 0, 0, 0])) ∧
      ((body [1, 2, 1, 31, 1, 0, 0, 0]).length = 8) ∧
      (field (body [1, 2, 1, 31, 1, 0, 0, 0]) 2 1 = 1) ∧
      (1 ≤ field (body [1, 2, 1, 31, 1, 0, 0, 0]) 3 1) ∧
      (field (body [1, 2, 1, 31, 1, 0, 0, 0]) 3 1 ≤ 31) ∧
      (field (body [1, 2, 1, 31, 1, 0, 0, 0]) 4 1 = 0 ∨ (host 518 [1, 2, 1, 31, 1, 0, 0, 0]).posStatus (field (body [1, 2, 1, 31, 1, 0, 0, 0]) 4 1) = 0)) ∧
    ((Taken (host 518 [1, 2, 2, 0, 0, 0, 0, 0]) HostId.A 3 518 (body [1, 2, 2, 0, 0, 0, 0, 0])) ∧
      ((body [1, 2, 2, 0, 0, 0, 0, 0]).length = 8) ∧
      (field (body [1, 2, 2, 0, 0, 0, 0, 0]) 2 1 = 2)) :=
  ⟨(by simp only [taken_iff, State.coreUp, State.atRest]; decide +kernel),
   (by simp only [taken_iff, State.coreUp, State.atRest]; decide +kernel),
   (by simp only [taken_iff, State.coreUp, State.atRest]; decide +kernel),
   (by simp only [taken_iff, State.coreUp, State.atRest]; decide +kernel),
   (by simp only [taken_iff, State.coreUp, State.atRest]; decide +kernel),
   (by simp only [taken_iff, State.coreUp, State.atRest]; decide +kernel),
   (by simp only [taken_iff, State.coreUp, State.atRest]; decide +kernel),
   (by simp only [taken_iff, State.coreUp, State.atRest]; decide +kernel)⟩

/-- States and operands that meet the hypotheses of every clause of WindowSetLands. -/
theorem witness_WindowSetLands :
    ((Taken (host 258 [1, 2, 1, 0, 5, 0, 0, 0]) HostId.A 3 258 (body [1, 2, 1, 0, 5, 0, 0, 0])) ∧
      ((body [1, 2, 1, 0, 5, 0, 0, 0]).length = 8) ∧
      ((host 258 [1, 2, 1, 0, 5, 0, 0, 0]).may HostId.A (some 0) 1) ∧
      (field (body [1, 2, 1, 0, 5, 0, 0, 0]) 4 2 ≠ 0) ∧
      (16 ≤ field (body [1, 2, 1, 0, 5, 0, 0, 0]) 3 1 ∧ field (body [1, 2, 1, 0, 5, 0, 0, 0]) 3 1 < 24 ∧ [1] = [0] ∨ field (body [1, 2, 1, 0, 5, 0, 0, 0]) 3 1 < 9 ∧ field (body [1, 2, 1, 0, 5, 0, 0, 0]) 2 1 = 255 ∧ [1] = List.range (host 258 [1, 2, 1, 0, 5, 0, 0, 0]).trv.n ∨ field (body [1, 2, 1, 0, 5, 0, 0, 0]) 3 1 < 9 ∧ field (body [1, 2, 1, 0, 5, 0, 0, 0]) 2 1 ≠ 255 ∧ (host 258 [1, 2, 1, 0, 5, 0, 0, 0]).posStatus (field (body [1, 2, 1, 0, 5, 0, 0, 0]) 2 1) = 0 ∧ [1] = [field (body [1, 2, 1, 0, 5, 0, 0, 0]) 2 1]) ∧
      ((host 258 [1, 2, 1, 0, 5, 0, 0, 0]).commitFull (Landed.legend { fields := List.map (fun q => (fieldKey Fld.win (winIndex q (field (body [1, 2, 1, 0, 5, 0, 0, 0]) 3 1)), field (body [1, 2, 1, 0, 5, 0, 0, 0]) 4 2)) [1], version := 0, host := 0, level := 0, bulk := false, drop := [] : ChangeSet }) = false)) ∧
    ((Taken (host 258 [1, 2, 255, 8, 5, 0, 0, 0]) HostId.A 3 258 (body [1, 2, 255, 8, 5, 0, 0, 0])) ∧
      ((body [1, 2, 255, 8, 5, 0, 0, 0]).length = 8) ∧
      ((host 258 [1, 2, 255, 8, 5, 0, 0, 0]).may HostId.A (some 0) 1) ∧
      (field (body [1, 2, 255, 8, 5, 0, 0, 0]) 4 2 ≠ 0) ∧
      (16 ≤ field (body [1, 2, 255, 8, 5, 0, 0, 0]) 3 1 ∧ field (body [1, 2, 255, 8, 5, 0, 0, 0]) 3 1 < 24 ∧ [0, 1] = [0] ∨ field (body [1, 2, 255, 8, 5, 0, 0, 0]) 3 1 < 9 ∧ field (body [1, 2, 255, 8, 5, 0, 0, 0]) 2 1 = 255 ∧ [0, 1] = List.range (host 258 [1, 2, 255, 8, 5, 0, 0, 0]).trv.n ∨ field (body [1, 2, 255, 8, 5, 0, 0, 0]) 3 1 < 9 ∧ field (body [1, 2, 255, 8, 5, 0, 0, 0]) 2 1 ≠ 255 ∧ (host 258 [1, 2, 255, 8, 5, 0, 0, 0]).posStatus (field (body [1, 2, 255, 8, 5, 0, 0, 0]) 2 1) = 0 ∧ [0, 1] = [field (body [1, 2, 255, 8, 5, 0, 0, 0]) 2 1]) ∧
      ((host 258 [1, 2, 255, 8, 5, 0, 0, 0]).commitFull (Landed.legend { fields := List.map (fun q => (fieldKey Fld.win (winIndex q (field (body [1, 2, 255, 8, 5, 0, 0, 0]) 3 1)), field (body [1, 2, 255, 8, 5, 0, 0, 0]) 4 2)) [0, 1], version := 0, host := 0, level := 0, bulk := false, drop := [] : ChangeSet }) = false)) ∧
    ((Taken (host 258 [1, 2, 0, 16, 255, 255, 0, 0]) HostId.A 3 258 (body [1, 2, 0, 16, 255, 255, 0, 0])) ∧
      ((body [1, 2, 0, 16, 255, 255, 0, 0]).length = 8) ∧
      ((host 258 [1, 2, 0, 16, 255, 255, 0, 0]).may HostId.A (some 0) 1) ∧
      (field (body [1, 2, 0, 16, 255, 255, 0, 0]) 4 2 ≠ 0) ∧
      (16 ≤ field (body [1, 2, 0, 16, 255, 255, 0, 0]) 3 1 ∧ field (body [1, 2, 0, 16, 255, 255, 0, 0]) 3 1 < 24 ∧ [0] = [0] ∨ field (body [1, 2, 0, 16, 255, 255, 0, 0]) 3 1 < 9 ∧ field (body [1, 2, 0, 16, 255, 255, 0, 0]) 2 1 = 255 ∧ [0] = List.range (host 258 [1, 2, 0, 16, 255, 255, 0, 0]).trv.n ∨ field (body [1, 2, 0, 16, 255, 255, 0, 0]) 3 1 < 9 ∧ field (body [1, 2, 0, 16, 255, 255, 0, 0]) 2 1 ≠ 255 ∧ (host 258 [1, 2, 0, 16, 255, 255, 0, 0]).posStatus (field (body [1, 2, 0, 16, 255, 255, 0, 0]) 2 1) = 0 ∧ [0] = [field (body [1, 2, 0, 16, 255, 255, 0, 0]) 2 1]) ∧
      ((host 258 [1, 2, 0, 16, 255, 255, 0, 0]).commitFull (Landed.legend { fields := List.map (fun q => (fieldKey Fld.win (winIndex q (field (body [1, 2, 0, 16, 255, 255, 0, 0]) 3 1)), field (body [1, 2, 0, 16, 255, 255, 0, 0]) 4 2)) [0], version := 0, host := 0, level := 0, bulk := false, drop := [] : ChangeSet }) = false)) :=
  ⟨(by simp only [taken_iff, State.may, State.coreUp, State.atRest]; decide +kernel),
   (by simp only [taken_iff, State.may, State.coreUp, State.atRest]; decide +kernel),
   (by simp only [taken_iff, State.may, State.coreUp, State.atRest]; decide +kernel)⟩

/-- States and operands that meet the hypotheses of every clause of FaultAckActs. -/
theorem witness_FaultAckActs :
    ((Taken (on alarmed 519 [1, 2, 0, 0, 255, 255, 255, 255]) HostId.A 3 519 (body [1, 2, 0, 0, 255, 255, 255, 255])) ∧
      ((body [1, 2, 0, 0, 255, 255, 255, 255]).length = 8) ∧
      (field (body [1, 2, 0, 0, 255, 255, 255, 255]) 2 1 = 0) ∧
      ((on alarmed 519 [1, 2, 0, 0, 255, 255, 255, 255]).may HostId.A none 1)) ∧
    ((Taken (on alarmed 519 [1, 2, 1, 0, 2, 0, 1, 0]) HostId.A 3 519 (body [1, 2, 1, 0, 2, 0, 1, 0])) ∧
      ((body [1, 2, 1, 0, 2, 0, 1, 0]).length = 8) ∧
      (field (body [1, 2, 1, 0, 2, 0, 1, 0]) 2 1 = 1) ∧
      ((on alarmed 519 [1, 2, 1, 0, 2, 0, 1, 0]).may HostId.A (some 10) 1) ∧
      (∀ (c : Nat), c ∈ classesOf (field (body [1, 2, 1, 0, 2, 0, 1, 0]) 4 4) → ((on alarmed 519 [1, 2, 1, 0, 2, 0, 1, 0]).latch c).latched = true → (on alarmed 519 [1, 2, 1, 0, 2, 0, 1, 0]).causeOf c = false)) :=
  ⟨(by simp only [taken_iff, State.may, State.coreUp, State.atRest]; decide +kernel),
   (by simp only [taken_iff, State.may, State.coreUp, State.atRest]; decide +kernel)⟩

/-- States and operands that meet the hypotheses of every clause of DormantLands. -/
theorem witness_DormantLands :
    ((Taken (on config 776 [1, 2, 0, 0, 77, 82, 79, 68]) HostId.A 3 776 (body [1, 2, 0, 0, 77, 82, 79, 68])) ∧
      ((body [1, 2, 0, 0, 77, 82, 79, 68]).length = 8) ∧
      ((on config 776 [1, 2, 0, 0, 77, 82, 79, 68]).may HostId.A (some 11) 1) ∧
      (field (body [1, 2, 0, 0, 77, 82, 79, 68]) 4 4 = 1146049101) ∧
      ((on config 776 [1, 2, 0, 0, 77, 82, 79, 68]).dormantFit = true) ∧
      ((on config 776 [1, 2, 0, 0, 77, 82, 79, 68]).commitFull Landed.dormant = false)) ∧
    ((Taken (host 776 [1, 2, 0, 0, 77, 82, 79, 69]) HostId.A 3 776 (body [1, 2, 0, 0, 77, 82, 79, 69])) ∧
      ((body [1, 2, 0, 0, 77, 82, 79, 69]).length = 8) ∧
      ((host 776 [1, 2, 0, 0, 77, 82, 79, 69]).may HostId.A (some 11) 1) ∧
      (field (body [1, 2, 0, 0, 77, 82, 79, 69]) 4 4 ≠ 1146049101)) ∧
    ((Taken (on unfit 776 [1, 2, 0, 0, 77, 82, 79, 68]) HostId.A 3 776 (body [1, 2, 0, 0, 77, 82, 79, 68])) ∧
      ((body [1, 2, 0, 0, 77, 82, 79, 68]).length = 8) ∧
      ((on unfit 776 [1, 2, 0, 0, 77, 82, 79, 68]).may HostId.A (some 11) 1) ∧
      (field (body [1, 2, 0, 0, 77, 82, 79, 68]) 4 4 = 1146049101) ∧
      ((on unfit 776 [1, 2, 0, 0, 77, 82, 79, 68]).dormantFit = false)) :=
  ⟨(by simp only [taken_iff, State.may, State.coreUp, State.atRest]; decide +kernel),
   (by simp only [taken_iff, State.may, State.coreUp, State.atRest]; decide +kernel),
   (by simp only [taken_iff, State.may, State.coreUp, State.atRest]; decide +kernel)⟩

/-- States and operands that meet the hypotheses of every clause of UnfreezeReleasesTheOtherPort. -/
theorem witness_UnfreezeReleasesTheOtherPort :
    ((Taken (on frozenB 775 [1, 2, 1, 0]) HostId.A 3 775 (body [1, 2, 1, 0])) ∧
      ((body [1, 2, 1, 0]).length = 4) ∧
      ((on frozenB 775 [1, 2, 1, 0]).may HostId.A none 1) ∧
      (field (body [1, 2, 1, 0]) 2 1 = hostNum (hostOther HostId.A)) ∧
      (((on frozenB 775 [1, 2, 1, 0]).port (hostOther HostId.A)).frozen = true)) ∧
    ((Taken (on frozenB 775 [1, 2, 0, 0]) HostId.A 3 775 (body [1, 2, 0, 0])) ∧
      ((body [1, 2, 0, 0]).length = 4) ∧
      ((on frozenB 775 [1, 2, 0, 0]).may HostId.A none 1) ∧
      (field (body [1, 2, 0, 0]) 2 1 = hostNum HostId.A)) ∧
    ((Taken (host 775 [1, 2, 1, 0]) HostId.A 3 775 (body [1, 2, 1, 0])) ∧
      ((body [1, 2, 1, 0]).length = 4) ∧
      ((host 775 [1, 2, 1, 0]).may HostId.A none 1) ∧
      (field (body [1, 2, 1, 0]) 2 1 = hostNum (hostOther HostId.A)) ∧
      (((host 775 [1, 2, 1, 0]).port (hostOther HostId.A)).frozen = false)) :=
  ⟨(by simp only [taken_iff, State.may, State.coreUp, State.atRest]; decide +kernel),
   (by simp only [taken_iff, State.may, State.coreUp, State.atRest]; decide +kernel),
   (by simp only [taken_iff, State.may, State.coreUp, State.atRest]; decide +kernel)⟩

/-- States and operands that meet the hypotheses of every clause of SurveyLoadStages. -/
theorem witness_SurveyLoadStages :
    ((Taken (host 261 [1, 2, 1, 0, 2, 0, 0, 0, 0, 0, 0, 0]) HostId.A 3 261 (body [1, 2, 1, 0, 2, 0, 0, 0, 0, 0, 0, 0])) ∧
      ((body [1, 2, 1, 0, 2, 0, 0, 0, 0, 0, 0, 0]).length = 12 + 4 * field (body [1, 2, 1, 0, 2, 0, 0, 0, 0, 0, 0, 0]) 8 2) ∧
      (field (body [1, 2, 1, 0, 2, 0, 0, 0, 0, 0, 0, 0]) 2 1 = 1) ∧
      (positionsOf (field (body [1, 2, 1, 0, 2, 0, 0, 0, 0, 0, 0, 0]) 4 4) = [1]) ∧
      (field (body [1, 2, 1, 0, 2, 0, 0, 0, 0, 0, 0, 0]) 8 2 = 0) ∧
      ((host 261 [1, 2, 1, 0, 2, 0, 0, 0, 0, 0, 0, 0]).deviceAt 1 = (0, some (ring.dev 1)))) ∧
    ((Taken (host 261 [1, 2, 0, 0, 2, 0, 0, 0, 1, 0, 0, 0, 128, 20, 7, 0]) HostId.A 3 261 (body [1, 2, 0, 0, 2, 0, 0, 0, 1, 0, 0, 0, 128, 20, 7, 0])) ∧
      ((body [1, 2, 0, 0, 2, 0, 0, 0, 1, 0, 0, 0, 128, 20, 7, 0]).length = 12 + 4 * field (body [1, 2, 0, 0, 2, 0, 0, 0, 1, 0, 0, 0, 128, 20, 7, 0]) 8 2) ∧
      (field (body [1, 2, 0, 0, 2, 0, 0, 0, 1, 0, 0, 0, 128, 20, 7, 0]) 2 1 = 0) ∧
      ((host 261 [1, 2, 0, 0, 2, 0, 0, 0, 1, 0, 0, 0, 128, 20, 7, 0]).may HostId.A (some 5) 2) ∧
      (1 ≤ field (body [1, 2, 0, 0, 2, 0, 0, 0, 1, 0, 0, 0, 128, 20, 7, 0]) 8 2) ∧
      (field (body [1, 2, 0, 0, 2, 0, 0, 0, 1, 0, 0, 0, 128, 20, 7, 0]) 8 2 ≤ 256) ∧
      (((List.map (request HostId.A 3 261 (body [1, 2, 0, 0, 2, 0, 0, 0, 1, 0, 0, 0, 128, 20, 7, 0])).entry (List.range (field (body [1, 2, 0, 0, 2, 0, 0, 0, 1, 0, 0, 0, 128, 20, 7, 0]) 8 2))).any fun w => eEnd w) = true) ∧
      (badEntry (List.map (request HostId.A 3 261 (body [1, 2, 0, 0, 2, 0, 0, 0, 1, 0, 0, 0, 128, 20, 7, 0])).entry (List.range (field (body [1, 2, 0, 0, 2, 0, 0, 0, 1, 0, 0, 0, 128, 20, 7, 0]) 8 2))) (field (body [1, 2, 0, 0, 2, 0, 0, 0, 1, 0, 0, 0, 128, 20, 7, 0]) 4 4) (periodUs (host 261 [1, 2, 0, 0, 2, 0, 0, 0, 1, 0, 0, 0, 128, 20, 7, 0]).swp.period) = none) ∧
      (positionsOf (field (body [1, 2, 0, 0, 2, 0, 0, 0, 1, 0, 0, 0, 128, 20, 7, 0]) 4 4) ≠ []) ∧
      (∀ (p : Nat), p ∈ positionsOf (field (body [1, 2, 0, 0, 2, 0, 0, 0, 1, 0, 0, 0, 128, 20, 7, 0]) 4 4) → p ≠ 0 ∧ (host 261 [1, 2, 0, 0, 2, 0, 0, 0, 1, 0, 0, 0, 128, 20, 7, 0]).adopted p = true ∧ (host 261 [1, 2, 0, 0, 2, 0, 0, 0, 1, 0, 0, 0, 128, 20, 7, 0]).unreachable p = false) ∧
      ((host 261 [1, 2, 0, 0, 2, 0, 0, 0, 1, 0, 0, 0, 128, 20, 7, 0]).ringHead = true) ∧
      ((host 261 [1, 2, 0, 0, 2, 0, 0, 0, 1, 0, 0, 0, 128, 20, 7, 0]).leg.bulk = [])) :=
  ⟨(by simp only [taken_iff, State.coreUp, State.atRest]; decide +kernel),
   (by simp only [taken_iff, State.may, State.coreUp, State.atRest]; decide +kernel)⟩

/-- States and operands that meet the hypotheses of every clause of SpotReadTakesASlot. -/
theorem witness_SpotReadTakesASlot :
    ((Taken (host 262 [1, 2, 1, 0, 0, 20, 7, 0]) HostId.A 3 262 (body [1, 2, 1, 0, 0, 20, 7, 0])) ∧
      ((body [1, 2, 1, 0, 0, 20, 7, 0]).length = 8) ∧
      ((host 262 [1, 2, 1, 0, 0, 20, 7, 0]).may HostId.A none 1) ∧
      ((host 262 [1, 2, 1, 0, 0, 20, 7, 0]).freeSpot = some 0) ∧
      ((host 262 [1, 2, 1, 0, 0, 20, 7, 0]).posStatus (field (body [1, 2, 1, 0, 0, 20, 7, 0]) 2 1) = 0) ∧
      ((host 262 [1, 2, 1, 0, 0, 20, 7, 0]).unreachable (field (body [1, 2, 1, 0, 0, 20, 7, 0]) 2 1) = false) ∧
      (spotAllowed (word (field (body [1, 2, 1, 0, 0, 20, 7, 0]) 4 4)) (field (body [1, 2, 1, 0, 0, 20, 7, 0]) 2 1) (periodUs (host 262 [1, 2, 1, 0, 0, 20, 7, 0]).swp.period) = true) ∧
      ((host 262 [1, 2, 1, 0, 0, 20, 7, 0]).slotOf (field (body [1, 2, 1, 0, 0, 20, 7, 0]) 2 1) = some 1) ∧
      (((host 262 [1, 2, 1, 0, 0, 20, 7, 0]).dev 1).calibrated = true) ∧
      (((host 262 [1, 2, 1, 0, 0, 20, 7, 0]).dev 1).sv.recalWaited < 64) ∧
      (((host 262 [1, 2, 1, 0, 0, 20, 7, 0]).dev 1).sv.testWaited < 64)) ∧
    ((Taken (host 262 [1, 2, 0, 0, 0, 20, 7, 0]) HostId.A 3 262 (body [1, 2, 0, 0, 0, 20, 7, 0])) ∧
      ((body [1, 2, 0, 0, 0, 20, 7, 0]).length = 8) ∧
      ((host 262 [1, 2, 0, 0, 0, 20, 7, 0]).may HostId.A none 1) ∧
      ((host 262 [1, 2, 0, 0, 0, 20, 7, 0]).freeSpot = some 0) ∧
      ((host 262 [1, 2, 0, 0, 0, 20, 7, 0]).posStatus (field (body [1, 2, 0, 0, 0, 20, 7, 0]) 2 1) = 0) ∧
      ((host 262 [1, 2, 0, 0, 0, 20, 7, 0]).unreachable (field (body [1, 2, 0, 0, 0, 20, 7, 0]) 2 1) = false) ∧
      (spotAllowed (word (field (body [1, 2, 0, 0, 0, 20, 7, 0]) 4 4)) (field (body [1, 2, 0, 0, 0, 20, 7, 0]) 2 1) (periodUs (host 262 [1, 2, 0, 0, 0, 20, 7, 0]).swp.period) = true) ∧
      ((host 262 [1, 2, 0, 0, 0, 20, 7, 0]).slotOf (field (body [1, 2, 0, 0, 0, 20, 7, 0]) 2 1) = some 0) ∧
      (((host 262 [1, 2, 0, 0, 0, 20, 7, 0]).dev 0).calibrated = true) ∧
      (((host 262 [1, 2, 0, 0, 0, 20, 7, 0]).dev 0).sv.recalWaited < 64) ∧
      (((host 262 [1, 2, 0, 0, 0, 20, 7, 0]).dev 0).sv.testWaited < 64)) :=
  ⟨(by simp only [taken_iff, State.may, State.coreUp, State.atRest]; decide +kernel),
   (by simp only [taken_iff, State.may, State.coreUp, State.atRest]; decide +kernel)⟩

/-- States and operands that meet the hypotheses of every clause of CalibrateActs. -/
theorem witness_CalibrateActs :
    ((Taken (host 263 [1, 2, 0, 1, 0, 0, 0, 0]) HostId.A 3 263 (body [1, 2, 0, 1, 0, 0, 0, 0])) ∧
      ((body [1, 2, 0, 1, 0, 0, 0, 0]).length = 8) ∧
      (field (body [1, 2, 0, 1, 0, 0, 0, 0]) 2 1 = 0) ∧
      ((host 263 [1, 2, 0, 1, 0, 0, 0, 0]).deviceAt (field (body [1, 2, 0, 1, 0, 0, 0, 0]) 3 1) = (0, some (ring.dev 1)))) ∧
    ((Taken (host 263 [1, 2, 1, 1, 0, 0, 0, 0]) HostId.A 3 263 (body [1, 2, 1, 1, 0, 0, 0, 0])) ∧
      ((body [1, 2, 1, 1, 0, 0, 0, 0]).length = 8) ∧
      ((host 263 [1, 2, 1, 1, 0, 0, 0, 0]).may HostId.A (some 7) 2) ∧
      (field (body [1, 2, 1, 1, 0, 0, 0, 0]) 2 1 = 1 ∧ SettingVal.calHalt = SettingVal.calHalt ∨ field (body [1, 2, 1, 1, 0, 0, 0, 0]) 2 1 = 2 ∧ SettingVal.calHalt = SettingVal.calResume) ∧
      (field (body [1, 2, 1, 1, 0, 0, 0, 0]) 3 1 = 255 ∨ (host 263 [1, 2, 1, 1, 0, 0, 0, 0]).posStatus (field (body [1, 2, 1, 1, 0, 0, 0, 0]) 3 1) = 0) ∧
      ((host 263 [1, 2, 1, 1, 0, 0, 0, 0]).commitFull (Landed.device { target := field (body [1, 2, 1, 1, 0, 0, 0, 0]) 3 1, val := SettingVal.calHalt : Setting }) = false)) ∧
    ((Taken (host 263 [1, 2, 2, 255, 0, 0, 0, 0]) HostId.A 3 263 (body [1, 2, 2, 255, 0, 0, 0, 0])) ∧
      ((body [1, 2, 2, 255, 0, 0, 0, 0]).length = 8) ∧
      ((host 263 [1, 2, 2, 255, 0, 0, 0, 0]).may HostId.A (some 7) 2) ∧
      (field (body [1, 2, 2, 255, 0, 0, 0, 0]) 2 1 = 1 ∧ SettingVal.calResume = SettingVal.calHalt ∨ field (body [1, 2, 2, 255, 0, 0, 0, 0]) 2 1 = 2 ∧ SettingVal.calResume = SettingVal.calResume) ∧
      (field (body [1, 2, 2, 255, 0, 0, 0, 0]) 3 1 = 255 ∨ (host 263 [1, 2, 2, 255, 0, 0, 0, 0]).posStatus (field (body [1, 2, 2, 255, 0, 0, 0, 0]) 3 1) = 0) ∧
      ((host 263 [1, 2, 2, 255, 0, 0, 0, 0]).commitFull (Landed.device { target := field (body [1, 2, 2, 255, 0, 0, 0, 0]) 3 1, val := SettingVal.calResume : Setting }) = false)) ∧
    ((Taken (on failedMod 263 [1, 2, 3, 1, 24, 0, 0, 0]) HostId.A 3 263 (body [1, 2, 3, 1, 24, 0, 0, 0])) ∧
      ((body [1, 2, 3, 1, 24, 0, 0, 0]).length = 8) ∧
      ((on failedMod 263 [1, 2, 3, 1, 24, 0, 0, 0]).may HostId.A (some 7) 2) ∧
      ((on failedMod 263 [1, 2, 3, 1, 24, 0, 0, 0]).deviceAt (field (body [1, 2, 3, 1, 24, 0, 0, 0]) 3 1) = (0, some (failedMod.dev 1))) ∧
      (1 ≤ field (body [1, 2, 3, 1, 24, 0, 0, 0]) 4 1) ∧
      (field (body [1, 2, 3, 1, 24, 0, 0, 0]) 4 1 ≤ 24) ∧
      (field (body [1, 2, 3, 1, 24, 0, 0, 0]) 2 1 = 3 ∧ SettingVal.substitute 24 = SettingVal.substitute (field (body [1, 2, 3, 1, 24, 0, 0, 0]) 4 1) ∧ bit ((on failedMod 263 [1, 2, 3, 1, 24, 0, 0, 0]).par Fld.convCfg 0) 7 = false ∧ ((failedMod.dev 1).mod (field (body [1, 2, 3, 1, 24, 0, 0, 0]) 4 1 - 1)).failed = true ∧ ((failedMod.dev 1).cell (field (body [1, 2, 3, 1, 24, 0, 0, 0]) 4 1 - 1)).subst = none ∧ (reliefTaken (failedMod.dev 1).rm1 && reliefTaken (failedMod.dev 1).rm2) = false ∨ field (body [1, 2, 3, 1, 24, 0, 0, 0]) 2 1 = 4 ∧ SettingVal.substitute 24 = SettingVal.revert (field (body [1, 2, 3, 1, 24, 0, 0, 0]) 4 1) ∧ ((failedMod.dev 1).cell (field (body [1, 2, 3, 1, 24, 0, 0, 0]) 4 1 - 1)).subst ≠ none) ∧
      ((on failedMod 263 [1, 2, 3, 1, 24, 0, 0, 0]).commitFull (Landed.device { target := field (body [1, 2, 3, 1, 24, 0, 0, 0]) 3 1, val := SettingVal.substitute 24 : Setting }) = false)) ∧
    ((Taken (on substd 263 [1, 2, 4, 1, 1, 0, 0, 0]) HostId.A 3 263 (body [1, 2, 4, 1, 1, 0, 0, 0])) ∧
      ((body [1, 2, 4, 1, 1, 0, 0, 0]).length = 8) ∧
      ((on substd 263 [1, 2, 4, 1, 1, 0, 0, 0]).may HostId.A (some 7) 2) ∧
      ((on substd 263 [1, 2, 4, 1, 1, 0, 0, 0]).deviceAt (field (body [1, 2, 4, 1, 1, 0, 0, 0]) 3 1) = (0, some (substd.dev 1))) ∧
      (1 ≤ field (body [1, 2, 4, 1, 1, 0, 0, 0]) 4 1) ∧
      (field (body [1, 2, 4, 1, 1, 0, 0, 0]) 4 1 ≤ 24) ∧
      (field (body [1, 2, 4, 1, 1, 0, 0, 0]) 2 1 = 3 ∧ SettingVal.revert 1 = SettingVal.substitute (field (body [1, 2, 4, 1, 1, 0, 0, 0]) 4 1) ∧ bit ((on substd 263 [1, 2, 4, 1, 1, 0, 0, 0]).par Fld.convCfg 0) 7 = false ∧ ((substd.dev 1).mod (field (body [1, 2, 4, 1, 1, 0, 0, 0]) 4 1 - 1)).failed = true ∧ ((substd.dev 1).cell (field (body [1, 2, 4, 1, 1, 0, 0, 0]) 4 1 - 1)).subst = none ∧ (reliefTaken (substd.dev 1).rm1 && reliefTaken (substd.dev 1).rm2) = false ∨ field (body [1, 2, 4, 1, 1, 0, 0, 0]) 2 1 = 4 ∧ SettingVal.revert 1 = SettingVal.revert (field (body [1, 2, 4, 1, 1, 0, 0, 0]) 4 1) ∧ ((substd.dev 1).cell (field (body [1, 2, 4, 1, 1, 0, 0, 0]) 4 1 - 1)).subst ≠ none) ∧
      ((on substd 263 [1, 2, 4, 1, 1, 0, 0, 0]).commitFull (Landed.device { target := field (body [1, 2, 4, 1, 1, 0, 0, 0]) 3 1, val := SettingVal.revert 1 : Setting }) = false)) ∧
    ((Taken (host 263 [1, 2, 5, 1, 24, 0, 0, 0]) HostId.A 3 263 (body [1, 2, 5, 1, 24, 0, 0, 0])) ∧
      ((body [1, 2, 5, 1, 24, 0, 0, 0]).length = 8) ∧
      ((host 263 [1, 2, 5, 1, 24, 0, 0, 0]).may HostId.A (some 7) 2) ∧
      ((host 263 [1, 2, 5, 1, 24, 0, 0, 0]).deviceAt (field (body [1, 2, 5, 1, 24, 0, 0, 0]) 3 1) = (0, some (ring.dev 1))) ∧
      (field (body [1, 2, 5, 1, 24, 0, 0, 0]) 2 1 = 5) ∧
      (1 ≤ field (body [1, 2, 5, 1, 24, 0, 0, 0]) 4 1) ∧
      (field (body [1, 2, 5, 1, 24, 0, 0, 0]) 4 1 ≤ 24)) ∧
    ((Taken (host 263 [1, 2, 6, 1, 0, 0, 0, 0]) HostId.A 3 263 (body [1, 2, 6, 1, 0, 0, 0, 0])) ∧
      ((body [1, 2, 6, 1, 0, 0, 0, 0]).length = 8) ∧
      ((host 263 [1, 2, 6, 1, 0, 0, 0, 0]).may HostId.A (some 7) 2) ∧
      ((host 263 [1, 2, 6, 1, 0, 0, 0, 0]).deviceAt (field (body [1, 2, 6, 1, 0, 0, 0, 0]) 3 1) = (0, some (ring.dev 1))) ∧
      (field (body [1, 2, 6, 1, 0, 0, 0, 0]) 2 1 = 6) ∧
      ((host 263 [1, 2, 6, 1, 0, 0, 0, 0]).pw.op = OpState.run ∨ (host 263 [1, 2, 6, 1, 0, 0, 0, 0]).pw.op = OpState.safe ∨ (host 263 [1, 2, 6, 1, 0, 0, 0, 0]).pw.op = OpState.config) ∧
      ((ring.dev 1).sv.test = none) ∧
      (smapGet (host 263 [1, 2, 6, 1, 0, 0, 0, 0]).der.tests (field (body [1, 2, 6, 1, 0, 0, 0, 0]) 3 1) = none) ∧
      ((host 263 [1, 2, 6, 1, 0, 0, 0, 0]).commitFull (Landed.device { target := field (body [1, 2, 6, 1, 0, 0, 0, 0]) 3 1, val := SettingVal.selfTest (decide ((host 263 [1, 2, 6, 1, 0, 0, 0, 0]).pw.op = OpState.config)) : Setting }) = false)) :=
  ⟨(by simp only [taken_iff, State.coreUp, State.atRest]; decide +kernel),
   (by simp only [taken_iff, State.may, State.coreUp, State.atRest]; decide +kernel),
   (by simp only [taken_iff, State.may, State.coreUp, State.atRest]; decide +kernel),
   (by simp only [taken_iff, State.may, State.coreUp, State.atRest]; decide +kernel),
   (by simp only [taken_iff, State.may, State.coreUp, State.atRest]; decide +kernel),
   (by simp only [taken_iff, State.may, State.coreUp, State.atRest]; decide +kernel),
   (by simp only [taken_iff, State.may, State.coreUp, State.atRest]; decide +kernel)⟩

/-- States and operands that meet the hypotheses of every clause of SysCalMeasures. -/
theorem witness_SysCalMeasures :
    ((Taken (host 264 [1, 2, 0, 255, 1, 0, 0, 0]) HostId.A 3 264 (body [1, 2, 0, 255, 1, 0, 0, 0])) ∧
      ((body [1, 2, 0, 255, 1, 0, 0, 0]).length = 8) ∧
      ((host 264 [1, 2, 0, 255, 1, 0, 0, 0]).may HostId.A (some 7) 2) ∧
      ((host 264 [1, 2, 0, 255, 1, 0, 0, 0]).calChannel (field (body [1, 2, 0, 255, 1, 0, 0, 0]) 3 1) = true) ∧
      (((host 264 [1, 2, 0, 255, 1, 0, 0, 0]).calOf (field (body [1, 2, 0, 255, 1, 0, 0, 0]) 3 1)).measuring = none) ∧
      (field (body [1, 2, 0, 255, 1, 0, 0, 0]) 2 1 = 0)) ∧
    ((Taken (on zeroed 264 [1, 2, 1, 255, 1, 0, 0, 0]) HostId.A 3 264 (body [1, 2, 1, 255, 1, 0, 0, 0])) ∧
      ((body [1, 2, 1, 255, 1, 0, 0, 0]).length = 8) ∧
      ((on zeroed 264 [1, 2, 1, 255, 1, 0, 0, 0]).may HostId.A (some 7) 2) ∧
      ((on zeroed 264 [1, 2, 1, 255, 1, 0, 0, 0]).calChannel (field (body [1, 2, 1, 255, 1, 0, 0, 0]) 3 1) = true) ∧
      (((on zeroed 264 [1, 2, 1, 255, 1, 0, 0, 0]).calOf (field (body [1, 2, 1, 255, 1, 0, 0, 0]) 3 1)).measuring = none) ∧
      (field (body [1, 2, 1, 255, 1, 0, 0, 0]) 2 1 = 1) ∧
      (((on zeroed 264 [1, 2, 1, 255, 1, 0, 0, 0]).calOf (field (body [1, 2, 1, 255, 1, 0, 0, 0]) 3 1)).zero = some (5, 0)) ∧
      ((on zeroed 264 [1, 2, 1, 255, 1, 0, 0, 0]).now ≤ (5, 0).snd + 600000000000)) ∧
    ((Taken (on zeroed 264 [1, 2, 2, 255, 1, 0, 0, 0]) HostId.A 3 264 (body [1, 2, 2, 255, 1, 0, 0, 0])) ∧
      ((body [1, 2, 2, 255, 1, 0, 0, 0]).length = 8) ∧
      ((on zeroed 264 [1, 2, 2, 255, 1, 0, 0, 0]).may HostId.A (some 7) 2) ∧
      ((on zeroed 264 [1, 2, 2, 255, 1, 0, 0, 0]).calChannel (field (body [1, 2, 2, 255, 1, 0, 0, 0]) 3 1) = true) ∧
      (((on zeroed 264 [1, 2, 2, 255, 1, 0, 0, 0]).calOf (field (body [1, 2, 2, 255, 1, 0, 0, 0]) 3 1)).measuring = none) ∧
      (field (body [1, 2, 2, 255, 1, 0, 0, 0]) 2 1 = 2)) :=
  ⟨(by simp only [taken_iff, State.may, State.coreUp, State.atRest]; decide +kernel),
   (by simp only [taken_iff, State.may, State.coreUp, State.atRest]; decide +kernel),
   (by simp only [taken_iff, State.may, State.coreUp, State.atRest]; decide +kernel)⟩

/-- States and operands that meet the hypotheses of every clause of BalanceSetLands. -/
theorem witness_BalanceSetLands :
    ((Taken (host 265 [1, 2, 1, 1, 0, 0, 0, 0, 0, 0, 0, 0]) HostId.A 3 265 (body [1, 2, 1, 1, 0, 0, 0, 0, 0, 0, 0, 0])) ∧
      ((body [1, 2, 1, 1, 0, 0, 0, 0, 0, 0, 0, 0]).length = 12) ∧
      (field (body [1, 2, 1, 1, 0, 0, 0, 0, 0, 0, 0, 0]) 2 1 = 1) ∧
      ((host 265 [1, 2, 1, 1, 0, 0, 0, 0, 0, 0, 0, 0]).deviceAt (field (body [1, 2, 1, 1, 0, 0, 0, 0, 0, 0, 0, 0]) 3 1) = (0, some (ring.dev 1)))) ∧
    ((Taken (on rbs 265 [1, 2, 0, 1, 0, 0, 2, 0, 0, 0, 0, 15]) HostId.A 3 265 (body [1, 2, 0, 1, 0, 0, 2, 0, 0, 0, 0, 15])) ∧
      ((body [1, 2, 0, 1, 0, 0, 2, 0, 0, 0, 0, 15]).length = 12) ∧
      (field (body [1, 2, 0, 1, 0, 0, 2, 0, 0, 0, 0, 15]) 2 1 = 0) ∧
      ((on rbs 265 [1, 2, 0, 1, 0, 0, 2, 0, 0, 0, 0, 15]).may HostId.A (some 1) 1) ∧
      ((on rbs 265 [1, 2, 0, 1, 0, 0, 2, 0, 0, 0, 0, 15]).pw.op = OpState.run ∨ (on rbs 265 [1, 2, 0, 1, 0, 0, 2, 0, 0, 0, 0, 15]).pw.op = OpState.safe) ∧
      ((on rbs 265 [1, 2, 0, 1, 0, 0, 2, 0, 0, 0, 0, 15]).posStatus (field (body [1, 2, 0, 1, 0, 0, 2, 0, 0, 0, 0, 15]) 3 1) = 0) ∧
      (field (body [1, 2, 0, 1, 0, 0, 2, 0, 0, 0, 0, 15]) 10 2 ≤ 3840) ∧
      (field (body [1, 2, 0, 1, 0, 0, 2, 0, 0, 0, 0, 15]) 10 2 = 0 ∨ ∀ (k : Nat), k < 24 → (field (body [1, 2, 0, 1, 0, 0, 2, 0, 0, 0, 0, 15]) 6 4).testBit k = true → (on rbs 265 [1, 2, 0, 1, 0, 0, 2, 0, 0, 0, 0, 15]).par Fld.balRb (24 * field (body [1, 2, 0, 1, 0, 0, 2, 0, 0, 0, 0, 15]) 3 1 + k) ≠ 0) ∧
      ((on rbs 265 [1, 2, 0, 1, 0, 0, 2, 0, 0, 0, 0, 15]).commitFull (Landed.device { target := field (body [1, 2, 0, 1, 0, 0, 2, 0, 0, 0, 0, 15]) 3 1, val := SettingVal.balance (field (body [1, 2, 0, 1, 0, 0, 2, 0, 0, 0, 0, 15]) 6 4 % 2 ^ 24) (field (body [1, 2, 0, 1, 0, 0, 2, 0, 0, 0, 0, 15]) 10 2) : Setting }) = false)) ∧
    ((Taken (host 265 [1, 2, 0, 1, 0, 0, 255, 255, 255, 0, 0, 0]) HostId.A 3 265 (body [1, 2, 0, 1, 0, 0, 255, 255, 255, 0, 0, 0])) ∧
      ((body [1, 2, 0, 1, 0, 0, 255, 255, 255, 0, 0, 0]).length = 12) ∧
      (field (body [1, 2, 0, 1, 0, 0, 255, 255, 255, 0, 0, 0]) 2 1 = 0) ∧
      ((host 265 [1, 2, 0, 1, 0, 0, 255, 255, 255, 0, 0, 0]).may HostId.A (some 1) 1) ∧
      ((host 265 [1, 2, 0, 1, 0, 0, 255, 255, 255, 0, 0, 0]).pw.op = OpState.run ∨ (host 265 [1, 2, 0, 1, 0, 0, 255, 255, 255, 0, 0, 0]).pw.op = OpState.safe) ∧
      ((host 265 [1, 2, 0, 1, 0, 0, 255, 255, 255, 0, 0, 0]).posStatus (field (body [1, 2, 0, 1, 0, 0, 255, 255, 255, 0, 0, 0]) 3 1) = 0) ∧
      (field (body [1, 2, 0, 1, 0, 0, 255, 255, 255, 0, 0, 0]) 10 2 ≤ 3840) ∧
      (field (body [1, 2, 0, 1, 0, 0, 255, 255, 255, 0, 0, 0]) 10 2 = 0 ∨ ∀ (k : Nat), k < 24 → (field (body [1, 2, 0, 1, 0, 0, 255, 255, 255, 0, 0, 0]) 6 4).testBit k = true → (host 265 [1, 2, 0, 1, 0, 0, 255, 255, 255, 0, 0, 0]).par Fld.balRb (24 * field (body [1, 2, 0, 1, 0, 0, 255, 255, 255, 0, 0, 0]) 3 1 + k) ≠ 0) ∧
      ((host 265 [1, 2, 0, 1, 0, 0, 255, 255, 255, 0, 0, 0]).commitFull (Landed.device { target := field (body [1, 2, 0, 1, 0, 0, 255, 255, 255, 0, 0, 0]) 3 1, val := SettingVal.balance (field (body [1, 2, 0, 1, 0, 0, 255, 255, 255, 0, 0, 0]) 6 4 % 2 ^ 24) (field (body [1, 2, 0, 1, 0, 0, 255, 255, 255, 0, 0, 0]) 10 2) : Setting }) = false)) :=
  ⟨(by simp only [taken_iff, State.coreUp, State.atRest]; decide +kernel),
   (by simp only [taken_iff, State.may, State.coreUp, State.atRest]; decide +kernel),
   (by simp only [taken_iff, State.may, State.coreUp, State.atRest]; decide +kernel)⟩

/-- States and operands that meet the hypotheses of every clause of SoundStartLands. -/
theorem witness_SoundStartLands :
    ((Taken (on rbs 266 [1, 2, 1, 1, 2, 0, 0, 0, 0, 0, 0, 0, 0, 0, 0, 0, 0, 0, 0, 0, 0, 0, 0, 0]) HostId.A 3 266 (body [1, 2, 1, 1, 2, 0, 0, 0, 0, 0, 0, 0, 0, 0, 0, 0, 0, 0, 0, 0, 0, 0, 0, 0])) ∧
      ((body [1, 2, 1, 1, 2, 0, 0, 0, 0, 0, 0, 0, 0, 0, 0, 0, 0, 0, 0, 0, 0, 0, 0, 0]).length = 24) ∧
      ((on rbs 266 [1, 2, 1, 1, 2, 0, 0, 0, 0, 0, 0, 0, 0, 0, 0, 0, 0, 0, 0, 0, 0, 0, 0, 0]).may HostId.A (some 2) 1) ∧
      ((on rbs 266 [1, 2, 1, 1, 2, 0, 0, 0, 0, 0, 0, 0, 0, 0, 0, 0, 0, 0, 0, 0, 0, 0, 0, 0]).pw.op = OpState.run ∨ (on rbs 266 [1, 2, 1, 1, 2, 0, 0, 0, 0, 0, 0, 0, 0, 0, 0, 0, 0, 0, 0, 0, 0, 0, 0, 0]).pw.op = OpState.safe) ∧
      ((on rbs 266 [1, 2, 1, 1, 2, 0, 0, 0, 0, 0, 0, 0, 0, 0, 0, 0, 0, 0, 0, 0, 0, 0, 0, 0]).soundBusy (field (body [1, 2, 1, 1, 2, 0, 0, 0, 0, 0, 0, 0, 0, 0, 0, 0, 0, 0, 0, 0, 0, 0, 0, 0]) 2 1) = false) ∧
      ((on rbs 266 [1, 2, 1, 1, 2, 0, 0, 0, 0, 0, 0, 0, 0, 0, 0, 0, 0, 0, 0, 0, 0, 0, 0, 0]).posStatus (field (body [1, 2, 1, 1, 2, 0, 0, 0, 0, 0, 0, 0, 0, 0, 0, 0, 0, 0, 0, 0, 0, 0, 0, 0]) 2 1) = 0) ∧
      (2 = field (body [1, 2, 1, 1, 2, 0, 0, 0, 0, 0, 0, 0, 0, 0, 0, 0, 0, 0, 0, 0, 0, 0, 0, 0]) 4 4 % 2 ^ 24) ∧
      (2 ≠ 0) ∧
      (field (body [1, 2, 1, 1, 2, 0, 0, 0, 0, 0, 0, 0, 0, 0, 0, 0, 0, 0, 0, 0, 0, 0, 0, 0]) 3 1 ≠ 0) ∧
      (∀ (k : Nat), k < 24 → Nat.testBit 2 k = true → (on rbs 266 [1, 2, 1, 1, 2, 0, 0, 0, 0, 0, 0, 0, 0, 0, 0, 0, 0, 0, 0, 0, 0, 0, 0, 0]).soundBlocked (field (body [1, 2, 1, 1, 2, 0, 0, 0, 0, 0, 0, 0, 0, 0, 0, 0, 0, 0, 0, 0, 0, 0, 0, 0]) 2 1) k = false ∧ (on rbs 266 [1, 2, 1, 1, 2, 0, 0, 0, 0, 0, 0, 0, 0, 0, 0, 0, 0, 0, 0, 0, 0, 0, 0, 0]).par Fld.balRb (24 * field (body [1, 2, 1, 1, 2, 0, 0, 0, 0, 0, 0, 0, 0, 0, 0, 0, 0, 0, 0, 0, 0, 0, 0, 0]) 2 1 + k) ≠ 0) ∧
      (∀ (b : Nat), b < 8 → (field (body [1, 2, 1, 1, 2, 0, 0, 0, 0, 0, 0, 0, 0, 0, 0, 0, 0, 0, 0, 0, 0, 0, 0, 0]) 3 1).testBit b = true → cyclesFit b (field (body [1, 2, 1, 1, 2, 0, 0, 0, 0, 0, 0, 0, 0, 0, 0, 0, 0, 0, 0, 0, 0, 0, 0, 0]) (8 + 2 * b) 2) = true) ∧
      (0 = maskOf (List.filter (fun k => Nat.testBit 2 k && (on rbs 266 [1, 2, 1, 1, 2, 0, 0, 0, 0, 0, 0, 0, 0, 0, 0, 0, 0, 0, 0, 0, 0, 0, 0, 0]).soundLow (field (body [1, 2, 1, 1, 2, 0, 0, 0, 0, 0, 0, 0, 0, 0, 0, 0, 0, 0, 0, 0, 0, 0, 0, 0]) 2 1) k) (List.range 24))) ∧
      (2 - 0 ≠ 0) ∧
      ((on rbs 266 [1, 2, 1, 1, 2, 0, 0, 0, 0, 0, 0, 0, 0, 0, 0, 0, 0, 0, 0, 0, 0, 0, 0, 0]).commitFull (Landed.device { target := field (body [1, 2, 1, 1, 2, 0, 0, 0, 0, 0, 0, 0, 0, 0, 0, 0, 0, 0, 0, 0, 0, 0, 0, 0]) 2 1, val := SettingVal.sounding (2 - 0) (field (body [1, 2, 1, 1, 2, 0, 0, 0, 0, 0, 0, 0, 0, 0, 0, 0, 0, 0, 0, 0, 0, 0, 0, 0]) 3 1) (List.map (fun b => field (body [1, 2, 1, 1, 2, 0, 0, 0, 0, 0, 0, 0, 0, 0, 0, 0, 0, 0, 0, 0, 0, 0, 0, 0]) (8 + 2 * b) 2) (List.range 8)) : Setting }) = false)) ∧
    ((Taken (on rbs 266 [1, 2, 1, 129, 2, 0, 0, 0, 0, 0, 0, 0, 0, 0, 0, 0, 0, 0, 0, 0, 0, 0, 255, 255]) HostId.A 3 266 (body [1, 2, 1, 129, 2, 0, 0, 0, 0, 0, 0, 0, 0, 0, 0, 0, 0, 0, 0, 0, 0, 0, 255, 255])) ∧
      ((body [1, 2, 1, 129, 2, 0, 0, 0, 0, 0, 0, 0, 0, 0, 0, 0, 0, 0, 0, 0, 0, 0, 255, 255]).length = 24) ∧
      ((on rbs 266 [1, 2, 1, 129, 2, 0, 0, 0, 0, 0, 0, 0, 0, 0, 0, 0, 0, 0, 0, 0, 0, 0, 255, 255]).may HostId.A (some 2) 1) ∧
      ((on rbs 266 [1, 2, 1, 129, 2, 0, 0, 0, 0, 0, 0, 0, 0, 0, 0, 0, 0, 0, 0, 0, 0, 0, 255, 255]).pw.op = OpState.run ∨ (on rbs 266 [1, 2, 1, 129, 2, 0, 0, 0, 0, 0, 0, 0, 0, 0, 0, 0, 0, 0, 0, 0, 0, 0, 255, 255]).pw.op = OpState.safe) ∧
      ((on rbs 266 [1, 2, 1, 129, 2, 0, 0, 0, 0, 0, 0, 0, 0, 0, 0, 0, 0, 0, 0, 0, 0, 0, 255, 255]).soundBusy (field (body [1, 2, 1, 129, 2, 0, 0, 0, 0, 0, 0, 0, 0, 0, 0, 0, 0, 0, 0, 0, 0, 0, 255, 255]) 2 1) = false) ∧
      ((on rbs 266 [1, 2, 1, 129, 2, 0, 0, 0, 0, 0, 0, 0, 0, 0, 0, 0, 0, 0, 0, 0, 0, 0, 255, 255]).posStatus (field (body [1, 2, 1, 129, 2, 0, 0, 0, 0, 0, 0, 0, 0, 0, 0, 0, 0, 0, 0, 0, 0, 0, 255, 255]) 2 1) = 0) ∧
      (2 = field (body [1, 2, 1, 129, 2, 0, 0, 0, 0, 0, 0, 0, 0, 0, 0, 0, 0, 0, 0, 0, 0, 0, 255, 255]) 4 4 % 2 ^ 24) ∧
      (2 ≠ 0) ∧
      (field (body [1, 2, 1, 129, 2, 0, 0, 0, 0, 0, 0, 0, 0, 0, 0, 0, 0, 0, 0, 0, 0, 0, 255, 255]) 3 1 ≠ 0) ∧
      (∀ (k : Nat), k < 24 → Nat.testBit 2 k = true → (on rbs 266 [1, 2, 1, 129, 2, 0, 0, 0, 0, 0, 0, 0, 0, 0, 0, 0, 0, 0, 0, 0, 0, 0, 255, 255]).soundBlocked (field (body [1, 2, 1, 129, 2, 0, 0, 0, 0, 0, 0, 0, 0, 0, 0, 0, 0, 0, 0, 0, 0, 0, 255, 255]) 2 1) k = false ∧ (on rbs 266 [1, 2, 1, 129, 2, 0, 0, 0, 0, 0, 0, 0, 0, 0, 0, 0, 0, 0, 0, 0, 0, 0, 255, 255]).par Fld.balRb (24 * field (body [1, 2, 1, 129, 2, 0, 0, 0, 0, 0, 0, 0, 0, 0, 0, 0, 0, 0, 0, 0, 0, 0, 255, 255]) 2 1 + k) ≠ 0) ∧
      (∀ (b : Nat), b < 8 → (field (body [1, 2, 1, 129, 2, 0, 0, 0, 0, 0, 0, 0, 0, 0, 0, 0, 0, 0, 0, 0, 0, 0, 255, 255]) 3 1).testBit b = true → cyclesFit b (field (body [1, 2, 1, 129, 2, 0, 0, 0, 0, 0, 0, 0, 0, 0, 0, 0, 0, 0, 0, 0, 0, 0, 255, 255]) (8 + 2 * b) 2) = true) ∧
      (0 = maskOf (List.filter (fun k => Nat.testBit 2 k && (on rbs 266 [1, 2, 1, 129, 2, 0, 0, 0, 0, 0, 0, 0, 0, 0, 0, 0, 0, 0, 0, 0, 0, 0, 255, 255]).soundLow (field (body [1, 2, 1, 129, 2, 0, 0, 0, 0, 0, 0, 0, 0, 0, 0, 0, 0, 0, 0, 0, 0, 0, 255, 255]) 2 1) k) (List.range 24))) ∧
      (2 - 0 ≠ 0) ∧
      ((on rbs 266 [1, 2, 1, 129, 2, 0, 0, 0, 0, 0, 0, 0, 0, 0, 0, 0, 0, 0, 0, 0, 0, 0, 255, 255]).commitFull (Landed.device { target := field (body [1, 2, 1, 129, 2, 0, 0, 0, 0, 0, 0, 0, 0, 0, 0, 0, 0, 0, 0, 0, 0, 0, 255, 255]) 2 1, val := SettingVal.sounding (2 - 0) (field (body [1, 2, 1, 129, 2, 0, 0, 0, 0, 0, 0, 0, 0, 0, 0, 0, 0, 0, 0, 0, 0, 0, 255, 255]) 3 1) (List.map (fun b => field (body [1, 2, 1, 129, 2, 0, 0, 0, 0, 0, 0, 0, 0, 0, 0, 0, 0, 0, 0, 0, 0, 0, 255, 255]) (8 + 2 * b) 2) (List.range 8)) : Setting }) = false)) :=
  ⟨(by simp only [taken_iff, State.may, State.coreUp, State.atRest]; decide +kernel),
   (by simp only [taken_iff, State.may, State.coreUp, State.atRest]; decide +kernel)⟩

/-- States and operands that meet the hypotheses of every clause of LoopConfigActs. -/
theorem witness_LoopConfigActs :
    ((Taken (on config 513 ([1, 2, 16, 0] ++ loopRec)) HostId.A 3 513 (body ([1, 2, 16, 0] ++ loopRec))) ∧
      (15 < 16) ∧
      (field (body ([1, 2, 16, 0] ++ loopRec)) 2 1 = 15 + 1) ∧
      (field (body ([1, 2, 16, 0] ++ loopRec)) 3 1 = 0) ∧
      ((body ([1, 2, 16, 0] ++ loopRec)).length = 68) ∧
      ((on config 513 ([1, 2, 16, 0] ++ loopRec)).may HostId.A (some 4) 2) ∧
      ((on config 513 ([1, 2, 16, 0] ++ loopRec)).loopRefusal 15 (field (body ([1, 2, 16, 0] ++ loopRec)) 4 64) = 0) ∧
      ((on config 513 ([1, 2, 16, 0] ++ loopRec)).commitFull (Landed.legend { fields := [(fieldKey Fld.loopRec 15, field (body ([1, 2, 16, 0] ++ loopRec)) 4 64)], version := 0, host := 0, level := 0, bulk := false, drop := [] : ChangeSet }) = false)) ∧
    ((Taken (host 513 [1, 2, 1, 1]) HostId.A 3 513 (body [1, 2, 1, 1])) ∧
      (0 < 16) ∧
      (field (body [1, 2, 1, 1]) 2 1 = 0 + 1) ∧
      (field (body [1, 2, 1, 1]) 3 1 = 1) ∧
      ((body [1, 2, 1, 1]).length = 4)) ∧
    ((Taken (host 513 [1, 2, 16, 2]) HostId.A 3 513 (body [1, 2, 16, 2])) ∧
      (15 < 16) ∧
      (field (body [1, 2, 16, 2]) 2 1 = 15 + 1) ∧
      (field (body [1, 2, 16, 2]) 3 1 = 2) ∧
      ((body [1, 2, 16, 2]).length = 4)) :=
  ⟨(by simp only [taken_iff, State.may, State.coreUp, State.atRest]; decide +kernel),
   (by simp only [taken_iff, State.coreUp, State.atRest]; decide +kernel),
   (by simp only [taken_iff, State.coreUp, State.atRest]; decide +kernel)⟩

/-- States and operands that meet the hypotheses of every clause of LoopOrdersLand. -/
theorem witness_LoopOrdersLand :
    ((15 < 16) ∧
      (field (body [1, 2, 16, 0, 0, 0, 0, 0, 0, 0, 0, 0, 0, 0, 0, 0]) 2 1 = 15 + 1) ∧
      (Taken (host 514 [1, 2, 16, 0, 0, 0, 0, 0, 0, 0, 0, 0, 0, 0, 0, 0]) HostId.A 3 514 (body [1, 2, 16, 0, 0, 0, 0, 0, 0, 0, 0, 0, 0, 0, 0, 0])) ∧
      ((body [1, 2, 16, 0, 0, 0, 0, 0, 0, 0, 0, 0, 0, 0, 0, 0]).length = 16) ∧
      (0 = field (body [1, 2, 16, 0, 0, 0, 0, 0, 0, 0, 0, 0, 0, 0, 0, 0]) 3 1 % 16) ∧
      (0 = 0)) ∧
    ((0 < 16) ∧
      (field (body [1, 2, 1, 1, 1, 0, 0, 0, 0, 0, 1, 0, 0, 0, 1, 0]) 2 1 = 0 + 1) ∧
      (Taken (on manual 514 [1, 2, 1, 1, 1, 0, 0, 0, 0, 0, 1, 0, 0, 0, 1, 0]) HostId.A 3 514 (body [1, 2, 1, 1, 1, 0, 0, 0, 0, 0, 1, 0, 0, 0, 1, 0])) ∧
      ((body [1, 2, 1, 1, 1, 0, 0, 0, 0, 0, 1, 0, 0, 0, 1, 0]).length = 16) ∧
      (1 = field (body [1, 2, 1, 1, 1, 0, 0, 0, 0, 0, 1, 0, 0, 0, 1, 0]) 3 1 % 16) ∧
      (1 ≠ 0) ∧
      ((on manual 514 [1, 2, 1, 1, 1, 0, 0, 0, 0, 0, 1, 0, 0, 0, 1, 0]).may HostId.A (some 4) 1) ∧
      ((on manual 514 [1, 2, 1, 1, 1, 0, 0, 0, 0, 0, 1, 0, 0, 0, 1, 0]).modeRefusal (request HostId.A 3 514 (body [1, 2, 1, 1, 1, 0, 0, 0, 0, 0, 1, 0, 0, 0, 1, 0])) 0 = 0)) ∧
    ((0 < 16) ∧
      (field (body [1, 2, 1, 2, 0, 0, 5, 0, 0, 0, 0, 0, 0, 0, 0, 0, 0, 0, 0, 0, 0, 0, 0, 1, 0, 0, 0, 0]) 2 1 = 0 + 1) ∧
      (Taken (on manual 515 [1, 2, 1, 2, 0, 0, 5, 0, 0, 0, 0, 0, 0, 0, 0, 0, 0, 0, 0, 0, 0, 0, 0, 1, 0, 0, 0, 0]) HostId.A 3 515 (body [1, 2, 1, 2, 0, 0, 5, 0, 0, 0, 0, 0, 0, 0, 0, 0, 0, 0, 0, 0, 0, 0, 0, 1, 0, 0, 0, 0])) ∧
      ((body [1, 2, 1, 2, 0, 0, 5, 0, 0, 0, 0, 0, 0, 0, 0, 0, 0, 0, 0, 0, 0, 0, 0, 1, 0, 0, 0, 0]).length = 28) ∧
      ((on manual 515 [1, 2, 1, 2, 0, 0, 5, 0, 0, 0, 0, 0, 0, 0, 0, 0, 0, 0, 0, 0, 0, 0, 0, 1, 0, 0, 0, 0]).may HostId.A (some 4) 2) ∧
      ((on manual 515 [1, 2, 1, 2, 0, 0, 5, 0, 0, 0, 0, 0, 0, 0, 0, 0, 0, 0, 0, 0, 0, 0, 0, 1, 0, 0, 0, 0]).tuneRefusal ((request HostId.A 3 515 (body [1, 2, 1, 2, 0, 0, 5, 0, 0, 0, 0, 0, 0, 0, 0, 0, 0, 0, 0, 0, 0, 0, 0, 1, 0, 0, 0, 0])).tune 0) = 0) ∧
      ((on manual 515 [1, 2, 1, 2, 0, 0, 5, 0, 0, 0, 0, 0, 0, 0, 0, 0, 0, 0, 0, 0, 0, 0, 0, 1, 0, 0, 0, 0]).commitFull (Landed.loopTune ((request HostId.A 3 515 (body [1, 2, 1, 2, 0, 0, 5, 0, 0, 0, 0, 0, 0, 0, 0, 0, 0, 0, 0, 0, 0, 0, 0, 1, 0, 0, 0, 0])).tune 0)) = false)) :=
  ⟨(by simp only [taken_iff, State.coreUp, State.atRest]; decide +kernel),
   (by simp only [taken_iff, State.may, State.coreUp, State.atRest]; decide +kernel),
   (by simp only [taken_iff, State.may, State.coreUp, State.atRest]; decide +kernel)⟩

/-- States and operands that meet the hypotheses of every clause of ContactorCmdLands. -/
theorem witness_ContactorCmdLands :
    ((Taken (host 516 [1, 2, 1, 0, 0, 0]) HostId.A 3 516 (body [1, 2, 1, 0, 0, 0])) ∧
      ((body [1, 2, 1, 0, 0, 0]).length = 6) ∧
      (field (body [1, 2, 1, 0, 0, 0]) 2 1 = 1)) ∧
    ((Taken (on contacts 516 [1, 2, 0, 0, 0, 1]) HostId.A 3 516 (body [1, 2, 0, 0, 0, 1])) ∧
      ((body [1, 2, 0, 0, 0, 1]).length = 6) ∧
      (field (body [1, 2, 0, 0, 0, 1]) 2 1 = 0) ∧
      ((on contacts 516 [1, 2, 0, 0, 0, 1]).may HostId.A (some 3) 1) ∧
      (0 = field (body [1, 2, 0, 0, 0, 1]) 4 1 % 64) ∧
      (1 = field (body [1, 2, 0, 0, 0, 1]) 5 1 % 64) ∧
      ([0] = List.filter (fun n => (Nat.testBit 0 n || Nat.testBit 1 n) && decide (((on contacts 516 [1, 2, 0, 0, 0, 1]).contactCodes 0 1).getD n 0 = 0)) (List.range 6))) ∧
    ((Taken (on contacts 516 [1, 2, 0, 0, 3, 4]) HostId.A 3 516 (body [1, 2, 0, 0, 3, 4])) ∧
      ((body [1, 2, 0, 0, 3, 4]).length = 6) ∧
      (field (body [1, 2, 0, 0, 3, 4]) 2 1 = 0) ∧
      ((on contacts 516 [1, 2, 0, 0, 3, 4]).may HostId.A (some 3) 1) ∧
      (3 = field (body [1, 2, 0, 0, 3, 4]) 4 1 % 64) ∧
      (4 = field (body [1, 2, 0, 0, 3, 4]) 5 1 % 64)) :=
  ⟨(by simp only [taken_iff, State.coreUp, State.atRest]; decide +kernel),
   (by simp only [taken_iff, State.may, State.coreUp, State.atRest]; decide +kernel),
   (by simp only [taken_iff, State.may, State.coreUp, State.atRest]; decide +kernel)⟩

/-- States and operands that meet the hypotheses of every clause of SafeSessionActs. -/
theorem witness_SafeSessionActs :
    ((Taken (host 517 [1, 2, 1, 0]) HostId.A 3 517 (body [1, 2, 1, 0])) ∧
      (field (body [1, 2, 1, 0]) 2 1 = 1) ∧
      ((body [1, 2, 1, 0]).length = 4)) ∧
    ((Taken (on ring 517 ([1, 2, 0, 0] ++ List.replicate 24 0)) HostId.A 3 517 (body ([1, 2, 0, 0] ++ List.replicate 24 0))) ∧
      (field (body ([1, 2, 0, 0] ++ List.replicate 24 0)) 2 1 = 0) ∧
      ((body ([1, 2, 0, 0] ++ List.replicate 24 0)).length = 28) ∧
      ((on ring 517 ([1, 2, 0, 0] ++ List.replicate 24 0)).checkFrame (List.drop 4 (body ([1, 2, 0, 0] ++ List.replicate 24 0))) ≠ 0) ∧
      ((on ring 517 ([1, 2, 0, 0] ++ List.replicate 24 0)).ses.st = SState.accepted → (on ring 517 ([1, 2, 0, 0] ++ List.replicate 24 0)).ses.failCnt + 1 < (on ring 517 ([1, 2, 0, 0] ++ List.replicate 24 0)).par Fld.sfBadn 0) ∧
      ((on ring 517 ([1, 2, 0, 0] ++ List.replicate 24 0)).ses.st ≠ SState.connecting)) ∧
    ((Taken (on accepted 517 ([1, 2, 0, 0] ++ List.replicate 24 0)) HostId.A 3 517 (body ([1, 2, 0, 0] ++ List.replicate 24 0))) ∧
      (field (body ([1, 2, 0, 0] ++ List.replicate 24 0)) 2 1 = 0) ∧
      ((body ([1, 2, 0, 0] ++ List.replicate 24 0)).length = 28) ∧
      ((on accepted 517 ([1, 2, 0, 0] ++ List.replicate 24 0)).checkFrame (List.drop 4 (body ([1, 2, 0, 0] ++ List.replicate 24 0))) ≠ 0) ∧
      ((on accepted 517 ([1, 2, 0, 0] ++ List.replicate 24 0)).ses.st = SState.accepted → (on accepted 517 ([1, 2, 0, 0] ++ List.replicate 24 0)).ses.failCnt + 1 < (on accepted 517 ([1, 2, 0, 0] ++ List.replicate 24 0)).par Fld.sfBadn 0) ∧
      ((on accepted 517 ([1, 2, 0, 0] ++ List.replicate 24 0)).ses.st ≠ SState.connecting)) ∧
    ((Taken (on accepted 517 ([1, 2, 0, 0] ++ partnerFrame)) HostId.A 3 517 (body ([1, 2, 0, 0] ++ partnerFrame))) ∧
      (field (body ([1, 2, 0, 0] ++ partnerFrame)) 2 1 = 0) ∧
      ((body ([1, 2, 0, 0] ++ partnerFrame)).length = 28) ∧
      ((on accepted 517 ([1, 2, 0, 0] ++ partnerFrame)).checkFrame (List.drop 4 (body ([1, 2, 0, 0] ++ partnerFrame))) = 0) ∧
      (field (List.drop 4 (body ([1, 2, 0, 0] ++ partnerFrame))) 0 1 = 84) ∧
      (field (List.drop 4 (body ([1, 2, 0, 0] ++ partnerFrame))) 10 1 % 2 = 0)) ∧
    ((Taken (on accepted 517 [1, 2, 2, 0]) HostId.A 3 517 (body [1, 2, 2, 0])) ∧
      (field (body [1, 2, 2, 0]) 2 1 = 2) ∧
      ((body [1, 2, 2, 0]).length = 4) ∧
      ((on accepted 517 [1, 2, 2, 0]).may HostId.A (some 9) 1) ∧
      ((on accepted 517 [1, 2, 2, 0]).ses.st = SState.accepted)) :=
  ⟨(by simp only [taken_iff, State.coreUp, State.atRest]; decide +kernel),
   (by simp only [taken_iff, State.coreUp, State.atRest]; decide +kernel),
   (by simp only [taken_iff, State.coreUp, State.atRest]; decide +kernel),
   (by simp only [taken_iff, State.coreUp, State.atRest]; decide +kernel),
   (by simp only [taken_iff, State.may, State.coreUp, State.atRest]; decide +kernel)⟩

/-- States and operands that meet the hypotheses of every clause of LoginActs. -/
theorem witness_LoginActs :
    ((Taken (on ring 770 (login 1 0 [] [])) HostId.A 3 770 (body (login 1 0 [] []))) ∧
      ((body (login 1 0 [] [])).length = 38) ∧
      (0 = field (body (login 1 0 [] [])) 3 1) ∧
      (field (body (login 1 0 [] [])) 2 1 = 1)) ∧
    ((Taken (on ring 770 (login 0 2 [83, 118, 45, 50, 52, 52, 56, 97] [])) HostId.A 3 770 (body (login 0 2 [83, 118, 45, 50, 52, 52, 56, 97] []))) ∧
      ((body (login 0 2 [83, 118, 45, 50, 52, 52, 56, 97] [])).length = 38) ∧
      (2 = field (body (login 0 2 [83, 118, 45, 50, 52, 52, 56, 97] [])) 3 1) ∧
      (field (body (login 0 2 [83, 118, 45, 50, 52, 52, 56, 97] [])) 2 1 = 0) ∧
      (2 = 1 ∨ 2 = 2) ∧
      (pwLength (field (body (login 0 2 [83, 118, 45, 50, 52, 52, 56, 97] [])) 4 1) = true) ∧
      (List.take (field (body (login 0 2 [83, 118, 45, 50, 52, 52, 56, 97] [])) 4 1) (List.drop 6 (body (login 0 2 [83, 118, 45, 50, 52, 52, 56, 97] []))) = (on ring 770 (login 0 2 [83, 118, 45, 50, 52, 52, 56, 97] [])).passwordOf 2)) ∧
    ((Taken (on ring 770 (login 0 2 [83, 118, 45, 50, 52, 52, 56, 98] [])) HostId.A 3 770 (body (login 0 2 [83, 118, 45, 50, 52, 52, 56, 98] []))) ∧
      ((body (login 0 2 [83, 118, 45, 50, 52, 52, 56, 98] [])).length = 38) ∧
      (2 = field (body (login 0 2 [83, 118, 45, 50, 52, 52, 56, 98] [])) 3 1) ∧
      (field (body (login 0 2 [83, 118, 45, 50, 52, 52, 56, 98] [])) 2 1 = 0) ∧
      (2 = 1 ∨ 2 = 2) ∧
      (pwLength (field (body (login 0 2 [83, 118, 45, 50, 52, 52, 56, 98] [])) 4 1) = true) ∧
      (List.take (field (body (login 0 2 [83, 118, 45, 50, 52, 52, 56, 98] [])) 4 1) (List.drop 6 (body (login 0 2 [83, 118, 45, 50, 52, 52, 56, 98] []))) ≠ (on ring 770 (login 0 2 [83, 118, 45, 50, 52, 52, 56, 98] [])).passwordOf 2) ∧
      (((on ring 770 (login 0 2 [83, 118, 45, 50, 52, 52, 56, 98] [])).port HostId.A).pwFail < 4)) ∧
    ((Taken (on ring 770 (login 2 1 [79, 112, 45, 50, 52, 52, 56, 97] [65, 66, 67, 68, 69, 70, 71, 72])) HostId.A 3 770 (body (login 2 1 [79, 112, 45, 50, 52, 52, 56, 97] [65, 66, 67, 68, 69, 70, 71, 72]))) ∧
      ((body (login 2 1 [79, 112, 45, 50, 52, 52, 56, 97] [65, 66, 67, 68, 69, 70, 71, 72])).length = 38) ∧
      (1 = field (body (login 2 1 [79, 112, 45, 50, 52, 52, 56, 97] [65, 66, 67, 68, 69, 70, 71, 72])) 3 1) ∧
      (field (body (login 2 1 [79, 112, 45, 50, 52, 52, 56, 97] [65, 66, 67, 68, 69, 70, 71, 72])) 2 1 = 2) ∧
      ((on ring 770 (login 2 1 [79, 112, 45, 50, 52, 52, 56, 97] [65, 66, 67, 68, 69, 70, 71, 72])).may HostId.A (some 12) 2) ∧
      (1 = 1 ∨ 1 = 2) ∧
      (pwLength (field (body (login 2 1 [79, 112, 45, 50, 52, 52, 56, 97] [65, 66, 67, 68, 69, 70, 71, 72])) 4 1) = true) ∧
      (pwLength (field (body (login 2 1 [79, 112, 45, 50, 52, 52, 56, 97] [65, 66, 67, 68, 69, 70, 71, 72])) 5 1) = true) ∧
      (pwChars (List.take (field (body (login 2 1 [79, 112, 45, 50, 52, 52, 56, 97] [65, 66, 67, 68, 69, 70, 71, 72])) 5 1) (List.drop 22 (body (login 2 1 [79, 112, 45, 50, 52, 52, 56, 97] [65, 66, 67, 68, 69, 70, 71, 72])))) = true) ∧
      (List.take (field (body (login 2 1 [79, 112, 45, 50, 52, 52, 56, 97] [65, 66, 67, 68, 69, 70, 71, 72])) 4 1) (List.drop 6 (body (login 2 1 [79, 112, 45, 50, 52, 52, 56, 97] [65, 66, 67, 68, 69, 70, 71, 72]))) = (on ring 770 (login 2 1 [79, 112, 45, 50, 52, 52, 56, 97] [65, 66, 67, 68, 69, 70, 71, 72])).passwordOf 1)) :=
  ⟨(by simp only [taken_iff, State.coreUp, State.atRest]; decide +kernel),
   (by simp only [taken_iff, State.coreUp, State.atRest]; decide +kernel),
   (by simp only [taken_iff, State.coreUp, State.atRest]; decide +kernel),
   (by simp only [taken_iff, State.may, State.coreUp, State.atRest]; decide +kernel)⟩

/-- States and operands that meet the hypotheses of every clause of LegendWriteStages. -/
theorem witness_LegendWriteStages :
    ((Taken (host 771 [1, 2, 0, 0, 1, 0, 5, 0, 0, 0, 1, 7]) HostId.A 3 771 (body [1, 2, 0, 0, 1, 0, 5, 0, 0, 0, 1, 7])) ∧
      (field (body [1, 2, 0, 0, 1, 0, 5, 0, 0, 0, 1, 7]) 2 1 = 0) ∧
      (6 ≤ (body [1, 2, 0, 0, 1, 0, 5, 0, 0, 0, 1, 7]).length) ∧
      (badRec ((fun x => { fid := field (List.drop 6 (body [1, 2, 0, 0, 1, 0, 5, 0, 0, 0, 1, 7])) 0 2, idx := field (List.drop 6 (body [1, 2, 0, 0, 1, 0, 5, 0, 0, 0, 1, 7])) 2 2, value := List.take (field (List.drop 6 (body [1, 2, 0, 0, 1, 0, 5, 0, 0, 0, 1, 7])) 4 1) (List.drop 5 (List.drop 6 (body [1, 2, 0, 0, 1, 0, 5, 0, 0, 0, 1, 7]))) : FieldRec } :: x) []) = none) ∧
      ((host 771 [1, 2, 0, 0, 1, 0, 5, 0, 0, 0, 1, 7]).may HostId.A (some 0) 2)) ∧
    ((Taken (host 771 [1, 2, 1, 0, 0, 0, 5, 0, 0, 0]) HostId.A 3 771 (body [1, 2, 1, 0, 0, 0, 5, 0, 0, 0])) ∧
      (field (body [1, 2, 1, 0, 0, 0, 5, 0, 0, 0]) 2 1 = 1) ∧
      (6 ≤ (body [1, 2, 1, 0, 0, 0, 5, 0, 0, 0]).length) ∧
      ((List.drop 6 (body [1, 2, 1, 0, 0, 0, 5, 0, 0, 0])).length % 4 = 0) ∧
      ((List.drop 6 (body [1, 2, 1, 0, 0, 0, 5, 0, 0, 0])).length ≤ 4088) ∧
      ((host 771 [1, 2, 1, 0, 0, 0, 5, 0, 0, 0]).may HostId.A (some 0) 2) ∧
      (4 * field (body [1, 2, 1, 0, 0, 0, 5, 0, 0, 0]) 4 2 + (List.drop 6 (body [1, 2, 1, 0, 0, 0, 5, 0, 0, 0])).length ≤ 16384) ∧
      ((buildBlock ((host 771 [1, 2, 1, 0, 0, 0, 5, 0, 0, 0]).leg.build.getD ([], [])) (4 * field (body [1, 2, 1, 0, 0, 0, 5, 0, 0, 0]) 4 2) (List.drop 6 (body [1, 2, 1, 0, 0, 0, 5, 0, 0, 0]))).snd.length < 4096)) ∧
    ((Taken (host 771 [1, 2, 2, 0, 0, 0]) HostId.A 3 771 (body [1, 2, 2, 0, 0, 0])) ∧
      (field (body [1, 2, 2, 0, 0, 0]) 2 1 = 2) ∧
      ((body [1, 2, 2, 0, 0, 0]).length = 6) ∧
      ((host 771 [1, 2, 2, 0, 0, 0]).may HostId.A (some 0) 2)) ∧
    ((Taken (host 771 [1, 2, 3, 0, 1, 0, 5, 0, 0, 0]) HostId.A 3 771 (body [1, 2, 3, 0, 1, 0, 5, 0, 0, 0])) ∧
      (field (body [1, 2, 3, 0, 1, 0, 5, 0, 0, 0]) 2 1 = 3) ∧
      ((body [1, 2, 3, 0, 1, 0, 5, 0, 0, 0]).length = 6 + 4 * field (body [1, 2, 3, 0, 1, 0, 5, 0, 0, 0]) 4 2) ∧
      (field (body [1, 2, 3, 0, 1, 0, 5, 0, 0, 0]) 3 1 = 0) ∧
      (∀ (x : Nat × Nat), x ∈ readNames (List.drop 6 (body [1, 2, 3, 0, 1, 0, 5, 0, 0, 0])) (field (body [1, 2, 3, 0, 1, 0, 5, 0, 0, 0]) 4 2) → indicesFit x.fst x.snd 1 = true) ∧
      ((readResult (host 771 [1, 2, 3, 0, 1, 0, 5, 0, 0, 0]).leg.active.fields (readNames (List.drop 6 (body [1, 2, 3, 0, 1, 0, 5, 0, 0, 0])) (field (body [1, 2, 3, 0, 1, 0, 5, 0, 0, 0]) 4 2))).length ≤ 4092)) ∧
    ((Taken (host 771 [1, 2, 3, 1, 1, 0, 5, 0, 0, 0]) HostId.A 3 771 (body [1, 2, 3, 1, 1, 0, 5, 0, 0, 0])) ∧
      (field (body [1, 2, 3, 1, 1, 0, 5, 0, 0, 0]) 2 1 = 3) ∧
      ((body [1, 2, 3, 1, 1, 0, 5, 0, 0, 0]).length = 6 + 4 * field (body [1, 2, 3, 1, 1, 0, 5, 0, 0, 0]) 4 2) ∧
      (field (body [1, 2, 3, 1, 1, 0, 5, 0, 0, 0]) 3 1 = 1) ∧
      (∀ (x : Nat × Nat), x ∈ readNames (List.drop 6 (body [1, 2, 3, 1, 1, 0, 5, 0, 0, 0])) (field (body [1, 2, 3, 1, 1, 0, 5, 0, 0, 0]) 4 2) → indicesFit x.fst x.snd 1 = true) ∧
      ((readResult (host 771 [1, 2, 3, 1, 1, 0, 5, 0, 0, 0]).stagedFields (readNames (List.drop 6 (body [1, 2, 3, 1, 1, 0, 5, 0, 0, 0])) (field (body [1, 2, 3, 1, 1, 0, 5, 0, 0, 0]) 4 2))).length ≤ 4092)) :=
  ⟨(by simp only [taken_iff, State.may, State.coreUp, State.atRest]; decide +kernel),
   (by simp only [taken_iff, State.may, State.coreUp, State.atRest]; decide +kernel),
   (by simp only [taken_iff, State.may, State.coreUp, State.atRest]; decide +kernel),
   (by simp only [taken_iff, State.coreUp, State.atRest]; decide +kernel),
   (by simp only [taken_iff, State.coreUp, State.atRest]; decide +kernel)⟩

/-- States and operands that meet the hypotheses of every clause of LegendCommitLands. -/
theorem witness_LegendCommitLands :
    ((Taken (host 772 [1, 2, 1, 0, 0, 0, 0, 0]) HostId.A 3 772 (body [1, 2, 1, 0, 0, 0, 0, 0])) ∧
      ((body [1, 2, 1, 0, 0, 0, 0, 0]).length = 8) ∧
      (field (body [1, 2, 1, 0, 0, 0, 0, 0]) 2 1 = 1)) ∧
    ((Taken (committing stagedWord) HostId.A 3 772 (commitBody stagedWord)) ∧ ((commitBody stagedWord).length = 8) ∧ (field (commitBody stagedWord) 2 1 = 0) ∧ ((committing stagedWord).may HostId.A (some 0) 2) ∧ ((committing stagedWord).leg.bulk = []) ∧ (field (commitBody stagedWord) 4 4 = (committing stagedWord).stagedCrc) ∧ ¬ ((committing stagedWord).leg.staged = [] ∧ (committing stagedWord).leg.loaded = none) ∧ (recordsFit (committing stagedWord).stagedFields = true) ∧ (firstBreak (committing stagedWord).stagedFields = none) ∧ (∀ (p : Nat), p < (committing stagedWord).trv.n → fieldsOfPos (committing stagedWord).commitFields p = []) ∧ ((committing stagedWord).commitFull (Landed.legend { fields := (committing stagedWord).commitFields, version := 0, host := 0, level := 0, bulk := true, drop := [] : ChangeSet }) = false) ∧ (settingsSize (landedSettings (committing stagedWord).effect (Landed.legend { fields := (committing stagedWord).commitFields, version := 0, host := 0, level := 0, bulk := true, drop := [] : ChangeSet })) ≤ 1008)) :=
  ⟨(by simp only [taken_iff, State.coreUp, State.atRest]; decide +kernel),
   committing_meets _ (commitBody_crc _ (image_crc_lt _))⟩

/-- States and operands that meet the hypotheses of every clause of FwUpdateActs. -/
theorem witness_FwUpdateActs :
    ((Taken (on ring 774 [1, 2, 0, 0, 4, 0, 0, 0, 9, 9, 9, 9]) HostId.A 3 774 (body [1, 2, 0, 0, 4, 0, 0, 0, 9, 9, 9, 9])) ∧
      (0 = field (body [1, 2, 0, 0, 4, 0, 0, 0, 9, 9, 9, 9]) 3 1) ∧
      (0 ≤ 1) ∧
      (field (body [1, 2, 0, 0, 4, 0, 0, 0, 9, 9, 9, 9]) 2 1 = 0) ∧
      ((body [1, 2, 0, 0, 4, 0, 0, 0, 9, 9, 9, 9]).length = if 0 = 1 then 16 else 12) ∧
      ((on ring 774 [1, 2, 0, 0, 4, 0, 0, 0, 9, 9, 9, 9]).may HostId.A (some 6) 2) ∧
      (∀ (f : FwUpdate), (on ring 774 [1, 2, 0, 0, 4, 0, 0, 0, 9, 9, 9, 9]).leg.fw = some f → f.step ≠ 5) ∧
      (field (body [1, 2, 0, 0, 4, 0, 0, 0, 9, 9, 9, 9]) 4 4 ≤ fwSlot 0) ∧
      (0 = 1 → field (body [1, 2, 0, 0, 4, 0, 0, 0, 9, 9, 9, 9]) 12 4 ≠ 0) ∧
      (∀ (p : Nat), p ∈ positionsOf (if 0 = 1 then field (body [1, 2, 0, 0, 4, 0, 0, 0, 9, 9, 9, 9]) 12 4 else 0) → (on ring 774 [1, 2, 0, 0, 4, 0, 0, 0, 9, 9, 9, 9]).adopted p = true)) ∧
    ((Taken (on ring 774 [1, 2, 0, 1, 4, 0, 0, 0, 9, 9, 9, 9, 2, 0, 0, 0]) HostId.A 3 774 (body [1, 2, 0, 1, 4, 0, 0, 0, 9, 9, 9, 9, 2, 0, 0, 0])) ∧
      (1 = field (body [1, 2, 0, 1, 4, 0, 0, 0, 9, 9, 9, 9, 2, 0, 0, 0]) 3 1) ∧
      (1 ≤ 1) ∧
      (field (body [1, 2, 0, 1, 4, 0, 0, 0, 9, 9, 9, 9, 2, 0, 0, 0]) 2 1 = 0) ∧
      ((body [1, 2, 0, 1, 4, 0, 0, 0, 9, 9, 9, 9, 2, 0, 0, 0]).length = if 1 = 1 then 16 else 12) ∧
      ((on ring 774 [1, 2, 0, 1, 4, 0, 0, 0, 9, 9, 9, 9, 2, 0, 0, 0]).may HostId.A (some 6) 2) ∧
      (∀ (f : FwUpdate), (on ring 774 [1, 2, 0, 1, 4, 0, 0, 0, 9, 9, 9, 9, 2, 0, 0, 0]).leg.fw = some f → f.step ≠ 5) ∧
      (field (body [1, 2, 0, 1, 4, 0, 0, 0, 9, 9, 9, 9, 2, 0, 0, 0]) 4 4 ≤ fwSlot 1) ∧
      (1 = 1 → field (body [1, 2, 0, 1, 4, 0, 0, 0, 9, 9, 9, 9, 2, 0, 0, 0]) 12 4 ≠ 0) ∧
      (∀ (p : Nat), p ∈ positionsOf (if 1 = 1 then field (body [1, 2, 0, 1, 4, 0, 0, 0, 9, 9, 9, 9, 2, 0, 0, 0]) 12 4 else 0) → (on ring 774 [1, 2, 0, 1, 4, 0, 0, 0, 9, 9, 9, 9, 2, 0, 0, 0]).adopted p = true)) ∧
    ((Taken (on (updating 1 (body [1, 2]) ring) 774 [1, 2, 1, 0, 2, 0, 0, 0, 3, 4]) HostId.A 3 774 (body [1, 2, 1, 0, 2, 0, 0, 0, 3, 4])) ∧
      (0 = field (body [1, 2, 1, 0, 2, 0, 0, 0, 3, 4]) 3 1) ∧
      (0 ≤ 1) ∧
      (field (body [1, 2, 1, 0, 2, 0, 0, 0, 3, 4]) 2 1 = 1) ∧
      (8 ≤ (body [1, 2, 1, 0, 2, 0, 0, 0, 3, 4]).length) ∧
      ((body [1, 2, 1, 0, 2, 0, 0, 0, 3, 4]).length ≤ 4096) ∧
      ((on (updating 1 (body [1, 2]) ring) 774 [1, 2, 1, 0, 2, 0, 0, 0, 3, 4]).may HostId.A (some 6) 2) ∧
      ((on (updating 1 (body [1, 2]) ring) 774 [1, 2, 1, 0, 2, 0, 0, 0, 3, 4]).fwOf 0 = some { target := 0, step := 1, size := 4, crc := word (crc32c (body [1, 2, 3, 4])), positions := 0, data := body [1, 2], done := 2, posOk := 0 : FwUpdate }) ∧
      ({ target := 0, step := 1, size := 4, crc := word (crc32c (body [1, 2, 3, 4])), positions := 0, data := body [1, 2], done := 2, posOk := 0 : FwUpdate }.step = 1) ∧
      (field (body [1, 2, 1, 0, 2, 0, 0, 0, 3, 4]) 4 4 = { target := 0, step := 1, size := 4, crc := word (crc32c (body [1, 2, 3, 4])), positions := 0, data := body [1, 2], done := 2, posOk := 0 : FwUpdate }.done) ∧
      ({ target := 0, step := 1, size := 4, crc := word (crc32c (body [1, 2, 3, 4])), positions := 0, data := body [1, 2], done := 2, posOk := 0 : FwUpdate }.done + ((body [1, 2, 1, 0, 2, 0, 0, 0, 3, 4]).length - 8) ≤ { target := 0, step := 1, size := 4, crc := word (crc32c (body [1, 2, 3, 4])), positions := 0, data := body [1, 2], done := 2, posOk := 0 : FwUpdate }.size)) ∧
    ((Taken (on (updating 1 (body [1, 2, 3, 4]) ring) 774 [1, 2, 2, 0]) HostId.A 3 774 (body [1, 2, 2, 0])) ∧
      (0 = field (body [1, 2, 2, 0]) 3 1) ∧
      (0 ≤ 1) ∧
      (field (body [1, 2, 2, 0]) 2 1 = 2) ∧
      ((body [1, 2, 2, 0]).length = 4) ∧
      ((on (updating 1 (body [1, 2, 3, 4]) ring) 774 [1, 2, 2, 0]).may HostId.A (some 6) 2) ∧
      ((on (updating 1 (body [1, 2, 3, 4]) ring) 774 [1, 2, 2, 0]).fwOf 0 = some { target := 0, step := 1, size := 4, crc := word (crc32c (body [1, 2, 3, 4])), positions := 0, data := body [1, 2, 3, 4], done := 4, posOk := 0 : FwUpdate }) ∧
      (0 = 0) ∧
      ({ target := 0, step := 1, size := 4, crc := word (crc32c (body [1, 2, 3, 4])), positions := 0, data := body [1, 2, 3, 4], done := 4, posOk := 0 : FwUpdate }.step = 1) ∧
      ({ target := 0, step := 1, size := 4, crc := word (crc32c (body [1, 2, 3, 4])), positions := 0, data := body [1, 2, 3, 4], done := 4, posOk := 0 : FwUpdate }.done = { target := 0, step := 1, size := 4, crc := word (crc32c (body [1, 2, 3, 4])), positions := 0, data := body [1, 2, 3, 4], done := 4, posOk := 0 : FwUpdate }.size) ∧
      (word (crc32c { target := 0, step := 1, size := 4, crc := word (crc32c (body [1, 2, 3, 4])), positions := 0, data := body [1, 2, 3, 4], done := 4, posOk := 0 : FwUpdate }.data) = { target := 0, step := 1, size := 4, crc := word (crc32c (body [1, 2, 3, 4])), positions := 0, data := body [1, 2, 3, 4], done := 4, posOk := 0 : FwUpdate }.crc)) ∧
    ((Taken (on (updating 2 (body [1, 2, 3, 4]) config) 774 [1, 2, 3, 0]) HostId.A 3 774 (body [1, 2, 3, 0])) ∧
      (0 = field (body [1, 2, 3, 0]) 3 1) ∧
      (0 ≤ 1) ∧
      (field (body [1, 2, 3, 0]) 2 1 = 3) ∧
      ((body [1, 2, 3, 0]).length = 4) ∧
      ((on (updating 2 (body [1, 2, 3, 4]) config) 774 [1, 2, 3, 0]).may HostId.A (some 6) 2) ∧
      ((on (updating 2 (body [1, 2, 3, 4]) config) 774 [1, 2, 3, 0]).fwOf 0 = some { target := 0, step := 2, size := 4, crc := word (crc32c (body [1, 2, 3, 4])), positions := 0, data := body [1, 2, 3, 4], done := 4, posOk := 0 : FwUpdate }) ∧
      ({ target := 0, step := 2, size := 4, crc := word (crc32c (body [1, 2, 3, 4])), positions := 0, data := body [1, 2, 3, 4], done := 4, posOk := 0 : FwUpdate }.step = if 0 = 0 then 2 else 4) ∧
      ((on (updating 2 (body [1, 2, 3, 4]) config) 774 [1, 2, 3, 0]).pw.op = OpState.config ∨ (on (updating 2 (body [1, 2, 3, 4]) config) 774 [1, 2, 3, 0]).pw.op = OpState.safe ∧ (on (updating 2 (body [1, 2, 3, 4]) config) 774 [1, 2, 3, 0]).allSafe = true) ∧
      ((on (updating 2 (body [1, 2, 3, 4]) config) 774 [1, 2, 3, 0]).commitFull (Landed.firmware (decide (0 = 1)) (positionsOf { target := 0, step := 2, size := 4, crc := word (crc32c (body [1, 2, 3, 4])), positions := 0, data := body [1, 2, 3, 4], done := 4, posOk := 0 : FwUpdate }.positions) HostId.A ((on (updating 2 (body [1, 2, 3, 4]) config) 774 [1, 2, 3, 0]).levelOf HostId.A)) = false)) ∧
    ((Taken (on ring 774 [1, 2, 4, 1]) HostId.A 3 774 (body [1, 2, 4, 1])) ∧
      (1 = field (body [1, 2, 4, 1]) 3 1) ∧
      (1 ≤ 1) ∧
      (field (body [1, 2, 4, 1]) 2 1 = 4) ∧
      ((body [1, 2, 4, 1]).length = 4)) ∧
    ((Taken (on (updating 2 (body [1, 2, 3, 4]) config) 774 [1, 2, 5, 0]) HostId.A 3 774 (body [1, 2, 5, 0])) ∧
      (0 = field (body [1, 2, 5, 0]) 3 1) ∧
      (0 ≤ 1) ∧
      (field (body [1, 2, 5, 0]) 2 1 = 5) ∧
      ((body [1, 2, 5, 0]).length = 4) ∧
      ((on (updating 2 (body [1, 2, 3, 4]) config) 774 [1, 2, 5, 0]).may HostId.A (some 6) 2)) :=
  ⟨(by simp only [taken_iff, State.may, State.coreUp, State.atRest]; decide +kernel),
   (by simp only [taken_iff, State.may, State.coreUp, State.atRest]; decide +kernel),
   (by simp only [taken_iff, State.may, State.coreUp, State.atRest]; decide +kernel),
   (by simp only [taken_iff, State.may, State.coreUp, State.atRest]; decide +kernel),
   (by simp only [taken_iff, State.may, State.coreUp, State.atRest]; decide +kernel),
   (by simp only [taken_iff, State.coreUp, State.atRest]; decide +kernel),
   (by simp only [taken_iff, State.may, State.coreUp, State.atRest]; decide +kernel)⟩

/-- A state for SuppliesAct. -/
def at_SuppliesAct_1 : State := (pw fun x => { x with vsup := false, vsupFell := some 5, running := false })

/-- A state for SuppliesAct. -/
def at_SuppliesAct_2 : State := (pw fun x => { x with resetN := false, running := false })

/-- A state for SuppliesAct. -/
def at_SuppliesAct_3 : State := (pw fun x => { x with vsup := false, vsupFell := some 5, running := false, locked := true })

/-- A state for SuppliesAct. -/
def at_SuppliesAct_4 : State := (pw fun x => { x with locked := true, prevSession := 9 })

/-- States and operands that meet the hypotheses of every clause of SuppliesAct. -/
theorem witness_SuppliesAct :
    ((at_SuppliesAct_1.pw.vsup = false)) ∧
    ((at_SuppliesAct_2.pw.resetN = false)) ∧
    ((at_SuppliesAct_3.pw.vsup = false) ∧
      (at_SuppliesAct_3.pw.vsupFell = some 5)) ∧
    ((Instr.vsupFall = Instr.vsupFall ∧ at_SuppliesAct_4.pw.vsup = true ∨ Instr.vsupFall = Instr.resetNAssert ∧ at_SuppliesAct_4.pw.resetN = true)) ∧
    ((Instr.resetNAssert = Instr.vsupFall ∧ ring.pw.vsup = true ∨ Instr.resetNAssert = Instr.resetNAssert ∧ ring.pw.resetN = true)) :=
  ⟨(by decide +kernel),
   (by decide +kernel),
   (by decide +kernel),
   (by decide +kernel),
   (by decide +kernel)⟩

/-- A state for CDieStarts. -/
def at_CDieStarts_1 : State := (pw fun x => { x with running := false, readyAt := 59000000 })

/-- A state for CDieStarts. -/
def at_CDieStarts_2 : State := (pw fun x => { x with running := false, op := .dormant })

/-- A state for CDieStarts. -/
def at_CDieStarts_3 : State := (copyB (pw fun x => { x with running := false, readyAt := 0 }))

/-- A state for CDieStarts. -/
def at_CDieStarts_4 : State := (pw fun x => { x with op := .wake })

/-- A state for CDieStarts. -/
def at_CDieStarts_5 : State := (pw fun x => { x with op := .wake, locked := true })

/-- States and operands that meet the hypotheses of every clause of CDieStarts. -/
theorem witness_CDieStarts :
    ((Instr.cDieStart = Instr.cDieStart ∧ at_CDieStarts_1.pw.vsup = true ∧ at_CDieStarts_1.pw.resetN = true ∧ at_CDieStarts_1.pw.running = false ∧ at_CDieStarts_1.pw.op ≠ OpState.dormant ∧ 61000000 = max at_CDieStarts_1.now (at_CDieStarts_1.pw.readyAt + 2000000) ∨ (∃ w, Instr.cDieStart = Instr.cDieWake w) ∧ at_CDieStarts_1.pw.op = OpState.dormant ∧ 61000000 = at_CDieStarts_1.now) ∧
      (at_CDieStarts_1.pw.vsup = true) ∧
      (at_CDieStarts_1.pw.resetN = true) ∧
      (at_CDieStarts_1.pw.running = false) ∧
      (at_CDieStarts_1.pw.op ≠ OpState.dormant) ∧
      (61000000 = max at_CDieStarts_1.now (at_CDieStarts_1.pw.readyAt + 2000000))) ∧
    ((Instr.cDieWake WakeCause.csnA = Instr.cDieStart ∧ at_CDieStarts_2.pw.vsup = true ∧ at_CDieStarts_2.pw.resetN = true ∧ at_CDieStarts_2.pw.running = false ∧ at_CDieStarts_2.pw.op ≠ OpState.dormant ∧ 59000100 = max at_CDieStarts_2.now (at_CDieStarts_2.pw.readyAt + 2000000) ∨ (∃ w, Instr.cDieWake WakeCause.csnA = Instr.cDieWake w) ∧ at_CDieStarts_2.pw.op = OpState.dormant ∧ 59000100 = at_CDieStarts_2.now) ∧
      (at_CDieStarts_2.pw.op = OpState.dormant) ∧
      (59000100 = at_CDieStarts_2.now)) ∧
    ((Instr.cDieStart = Instr.cDieStart ∧ at_CDieStarts_3.pw.vsup = true ∧ at_CDieStarts_3.pw.resetN = true ∧ at_CDieStarts_3.pw.running = false ∧ at_CDieStarts_3.pw.op ≠ OpState.dormant ∧ 59000100 = max at_CDieStarts_3.now (at_CDieStarts_3.pw.readyAt + 2000000) ∨ (∃ w, Instr.cDieStart = Instr.cDieWake w) ∧ at_CDieStarts_3.pw.op = OpState.dormant ∧ 59000100 = at_CDieStarts_3.now) ∧
      (at_CDieStarts_3.pw.vsup = true) ∧
      (at_CDieStarts_3.pw.resetN = true) ∧
      (at_CDieStarts_3.pw.running = false) ∧
      (at_CDieStarts_3.pw.op ≠ OpState.dormant) ∧
      (59000100 = max at_CDieStarts_3.now (at_CDieStarts_3.pw.readyAt + 2000000))) ∧
    ((at_CDieStarts_4.pw.running = true) ∧
      (at_CDieStarts_4.pw.op = OpState.wake)) ∧
    ((at_CDieStarts_5.pw.running = true) ∧
      (at_CDieStarts_5.pw.op = OpState.wake)) :=
  ⟨⟨Or.inl (by decide +kernel), (by decide +kernel), (by decide +kernel), (by decide +kernel), (by decide +kernel), (by decide +kernel)⟩,
   ⟨Or.inr ⟨⟨_, rfl⟩, by decide +kernel, by decide +kernel⟩, (by decide +kernel), (by decide +kernel)⟩,
   ⟨Or.inl (by decide +kernel), (by decide +kernel), (by decide +kernel), (by decide +kernel), (by decide +kernel), (by decide +kernel)⟩,
   (by decide +kernel),
   (by decide +kernel)⟩

/-- A state for BarrierLossesAreReported. -/
def at_BarrierLossesAreReported_2 : State := (pw fun x => { x with lostLanes := [.U1, .D1] })

/-- A state for BarrierLossesAreReported. -/
def at_BarrierLossesAreReported_4 : State := { ring with saf := { ring.saf with sErr := true, sErrAt := some 59000000, tripLatch := true, lastSrc := 4 } }

/-- States and operands that meet the hypotheses of every clause of BarrierLossesAreReported. -/
theorem witness_BarrierLossesAreReported :
    ((ring.pw.running = true) ∧
      (¬Lane.U2 ∈ ring.pw.lostLanes)) ∧
    ((at_BarrierLossesAreReported_2.pw.running = true) ∧
      (Lane.D1 ∈ at_BarrierLossesAreReported_2.pw.lostLanes)) ∧
    ((ring.pw.running = true) ∧
      ((ring.dev 0).awake = true) ∧
      ((ring.dev 0).isHead = true) ∧
      (ring.pw.markLost = false)) ∧
    ((at_BarrierLossesAreReported_4.pw.running = true) ∧
      (at_BarrierLossesAreReported_4.saf.sErr = true) ∧
      (at_BarrierLossesAreReported_4.saf.sErrAt = some 59000000) ∧
      (∀ (c : Cause), c ∈ at_BarrierLossesAreReported_4.flt.causes → ¬(c.src.cls = 14 ∧ c.src.detail = 0) ∧ ¬(c.src.cls = 23 ∧ c.src.sub = 1 ∧ c.src.pos = 0))) :=
  ⟨(by decide +kernel),
   (by decide +kernel),
   (by decide +kernel),
   (by decide +kernel)⟩

/-- A state for SeamLinesAct. -/
def at_SeamLinesAct_0 : State := { ring with saf := { ring.saf with slEqual := (true, false), lastSrc := 4, tripLatch := true } }

/-- A state for SeamLinesAct. -/
def at_SeamLinesAct_3 : State := { ring with saf := { ring.saf with slEqual := (false, true) } }

/-- A state for SeamLinesAct. -/
def at_SeamLinesAct_4 : State := { ring with saf := { ring.saf with overTemp := true, lastSrc := 64 } }

/-- States and operands that meet the hypotheses of every clause of SeamLinesAct. -/
theorem witness_SeamLinesAct :
    ((at_SeamLinesAct_0.pw.running = true)) ∧
    ((ring.pw.running = true)) ∧
    (((ring.dev 0).awake = true) ∧
      ((ring.dev 0).isHead = true) ∧
      (Instr.slPairEqual { pair := SlPair.cErr, equal := true : SlLevels } = Instr.slPairEqual { pair := SlPair.cErr, equal := true : SlLevels } ∨ Instr.slPairEqual { pair := SlPair.cErr, equal := true : SlLevels } = Instr.cErrAssert ∧ (ring.saf.slEqual.snd = true ∨ ring.atRest ∧ ring.tripMask ≠ 0 ∨ ring.pw.running = false))) ∧
    (((at_SeamLinesAct_3.dev 0).awake = true) ∧
      ((at_SeamLinesAct_3.dev 0).isHead = true) ∧
      (Instr.cErrAssert = Instr.slPairEqual { pair := SlPair.cErr, equal := true : SlLevels } ∨ Instr.cErrAssert = Instr.cErrAssert ∧ (at_SeamLinesAct_3.saf.slEqual.snd = true ∨ at_SeamLinesAct_3.atRest ∧ at_SeamLinesAct_3.tripMask ≠ 0 ∨ at_SeamLinesAct_3.pw.running = false))) ∧
    (((at_SeamLinesAct_4.dev 0).awake = true) ∧
      ((at_SeamLinesAct_4.dev 0).isHead = true) ∧
      (Instr.cErrAssert = Instr.slPairEqual { pair := SlPair.cErr, equal := true : SlLevels } ∨ Instr.cErrAssert = Instr.cErrAssert ∧ (at_SeamLinesAct_4.saf.slEqual.snd = true ∨ at_SeamLinesAct_4.atRest ∧ at_SeamLinesAct_4.tripMask ≠ 0 ∨ at_SeamLinesAct_4.pw.running = false))) :=
  ⟨(by decide +kernel),
   (by decide +kernel),
   (by simp only [State.atRest]; decide +kernel),
   (by simp only [State.atRest]; decide +kernel),
   (by simp only [State.atRest]; decide +kernel)⟩

/-- A state for ClocksAreWatched. -/
def at_ClocksAreWatched_2 : State := ((pw fun x => { x with refClock := false }).modDev 0 fun d => { d with power := .dormant })

/-- A state for ClocksAreWatched. -/
def at_ClocksAreWatched_3 : State := (pw fun x => { x with refAt := some 58000000 })

/-- States and operands that meet the hypotheses of every clause of ClocksAreWatched. -/
theorem witness_ClocksAreWatched :
    ((ring.pw.running = true) ∧
      (ring.pw.refClock = true) ∧
      ((ring.dev 0).awake = true) ∧
      ((ring.dev 0).isHead = true)) ∧
    ((at_ClocksAreWatched_2.pw.running = true) ∧
      (at_ClocksAreWatched_2.pw.refClock = false)) ∧
    ((at_ClocksAreWatched_3.pw.running = true) ∧
      (at_ClocksAreWatched_3.pw.refAt = some 58000000)) ∧
    ((ring.pw.running = true)) ∧
    ((ring.pw.running = true)) :=
  ⟨(by decide +kernel),
   (by decide +kernel),
   (by decide +kernel),
   (by decide +kernel),
   (by decide +kernel)⟩

/-- A state for OverTemperatureActs. -/
def at_OverTemperatureActs_3 : State := (dv 0 fun d => { d with overTemp := true, sErr := true })

/-- A state for OverTemperatureActs. -/
def at_OverTemperatureActs_5 : State := { ring with saf := { ring.saf with overTemp := true, lastSrc := 64 } }

/-- States and operands that meet the hypotheses of every clause of OverTemperatureActs. -/
theorem witness_OverTemperatureActs :
    (((ring.dev 1).awake = true) ∧
      ((ring.dev 1).overTemp = false)) ∧
    (((ring.dev 0).awake = true) ∧
      ((ring.dev 0).overTemp = false)) ∧
    (((at_OverTemperatureActs_3.dev 0).awake = true) ∧
      ((at_OverTemperatureActs_3.dev 0).overTemp = true)) ∧
    ((ring.pw.running = true) ∧
      (ring.saf.overTemp = false)) ∧
    ((at_OverTemperatureActs_5.pw.running = true) ∧
      (at_OverTemperatureActs_5.saf.overTemp = true)) :=
  ⟨(by decide +kernel),
   (by decide +kernel),
   (by decide +kernel),
   (by decide +kernel),
   (by decide +kernel)⟩

/-- A state for SupervisorResets. -/
def at_SupervisorResets_1 : State := { ring with saf := { ring.saf with ch := [{ phase := .hold }] ++ ring.saf.ch.drop 1, tripLatch := false } }

/-- A state for SupervisorResets. -/
def at_SupervisorResets_2 : State := { (pw fun x => { x with coreReset := some (58000000, 5000000), coreWd := true }) with saf := { ring.saf with watchdog := true, lastSrc := 128 } }

/-- A state for SupervisorResets. -/
def at_SupervisorResets_3 : State := { (pw fun x => { x with coreReset := some (58000000, 5000000) }) with portA := { frozen := true }, portB := { frozen := true } }

/-- States and operands that meet the hypotheses of every clause of SupervisorResets. -/
theorem witness_SupervisorResets :
    ((at_SupervisorResets_1.pw.running = true) ∧
      (at_SupervisorResets_1.leg.firstStart = none)) ∧
    ((at_SupervisorResets_2.pw.running = true) ∧
      (at_SupervisorResets_2.pw.coreReset = some (58000000, 5000000)) ∧
      (at_SupervisorResets_2.pw.coreWd = true)) ∧
    ((at_SupervisorResets_3.pw.running = true) ∧
      (at_SupervisorResets_3.pw.coreReset = some (58000000, 5000000)) ∧
      (at_SupervisorResets_3.pw.coreWd = false) ∧
      (at_SupervisorResets_3.portA.frozen = true) ∧
      (at_SupervisorResets_3.portB.frozen = true)) :=
  ⟨(by decide +kernel),
   (by decide +kernel),
   (by decide +kernel)⟩

/-- A state for SDieCoresReset. -/
def at_SDieCoresReset_1 : State := (dv 1 fun d => { d with commitPend := [⟨4, 11, []⟩], cells := d.cells.map fun c => { c with gate := true, active := true, remain := 9 } })

/-- A state for SDieCoresReset. -/
def at_SDieCoresReset_3 : State := (dv 1 fun d => { d with coreReset := some 5, wdReport := true })

/-- States and operands that meet the hypotheses of every clause of SDieCoresReset. -/
theorem witness_SDieCoresReset :
    (((at_SDieCoresReset_1.dev 1).awake = true) ∧
      ((at_SDieCoresReset_1.dev 1).coreReset = none) ∧
      ((at_SDieCoresReset_1.dev 1).firstStart = none)) ∧
    (((ring.dev 0).awake = true) ∧
      ((ring.dev 0).coreReset = none) ∧
      ((ring.dev 0).firstStart = none)) ∧
    (((at_SDieCoresReset_3.dev 1).awake = true) ∧
      ((at_SDieCoresReset_3.dev 1).coreReset = some 5) ∧
      ((at_SDieCoresReset_3.dev 1).overTemp = false)) :=
  ⟨(by decide +kernel),
   (by decide +kernel),
   (by decide +kernel)⟩

/-- A state for ErrOutAndMaskingEnd. -/
def at_ErrOutAndMaskingEnd_2 : State := { ring with saf := { ring.saf with tripLatch := false }, flt := { ring.flt with beforeFirst := false } }

/-- A state for ErrOutAndMaskingEnd. -/
def at_ErrOutAndMaskingEnd_3 : State := { ring with flt := { ring.flt with masks := [⟨.lane .U1, 59000000⟩, ⟨.lane .D1, 60000000⟩] } }

/-- A state for ErrOutAndMaskingEnd. -/
def at_ErrOutAndMaskingEnd_4 : State := { ring with saf := { ring.saf with tripLatch := false }, flt := { ring.flt with beforeFirst := false, ctrl := 0x00050A01 } }

/-- States and operands that meet the hypotheses of every clause of ErrOutAndMaskingEnd. -/
theorem witness_ErrOutAndMaskingEnd :
    ((ring.pw.running = true)) ∧
    ((at_ErrOutAndMaskingEnd_2.pw.running = true) ∧
      (at_ErrOutAndMaskingEnd_2.flt.errLow = true) ∧
      (at_ErrOutAndMaskingEnd_2.errCond = false) ∧
      ¬ (at_ErrOutAndMaskingEnd_2.errCompat = true ∧ at_ErrOutAndMaskingEnd_2.flt.stalled = true)) ∧
    ((at_ErrOutAndMaskingEnd_3.pw.running = true) ∧
      (List.find? (fun x => decide (x.kind = MaskKind.lane Lane.D1)) at_ErrOutAndMaskingEnd_3.flt.masks = some { kind := MaskKind.lane Lane.D1, untilNs := 60000000 : MaskRec })) ∧
    ((at_ErrOutAndMaskingEnd_4.pw.running = true)) :=
  ⟨(by decide +kernel),
   (by decide +kernel),
   (by decide +kernel),
   (by decide +kernel)⟩

/-- A state for SDiesStartAndStop. -/
def at_SDiesStartAndStop_3 : State := dv 0 fun d => { d with role := .undetermined }

/-- States and operands that meet the hypotheses of every clause of SDiesStartAndStop. -/
theorem witness_SDiesStartAndStop :
    ((31 < ring.devs.length) ∧
      ((ring.dev 31).power = SPower.por)) ∧
    (((ring.dev 1).power ≠ SPower.por)) ∧
    (((at_SDiesStartAndStop_3.dev 0).awake = true) ∧
      ((at_SDiesStartAndStop_3.dev 0).role = Role.undetermined)) ∧
    (((ring.dev 1).awake = true)) :=
  ⟨(by decide +kernel),
   (by decide +kernel),
   (by decide +kernel),
   (by decide +kernel)⟩

/-- A state for WakePatternsAct. -/
def at_WakePatternsAct_1 : State := dv 1 fun d => { d with power := .dormant }

/-- A state for WakePatternsAct. -/
def at_WakePatternsAct_2 : State := port1 .E fun q => { q with st := .acquire }

/-- A state for WakePatternsAct. -/
def at_WakePatternsAct_3 : State := dv 1 fun d => { d with portE := { st := .wake, wakeAt := some 59000000 }, portW := { st := .wake, wakeAt := some 59000000 } }

/-- A state for WakePatternsAct. -/
def at_WakePatternsAct_4 : State := port1 .W fun q => { q with st := .wake, wakeAt := some 59000000 }

/-- A state for WakePatternsAct. -/
def at_WakePatternsAct_5 : State := port1 .W fun q => { q with st := .down }

/-- States and operands that meet the hypotheses of every clause of WakePatternsAct. -/
theorem witness_WakePatternsAct :
    (((at_WakePatternsAct_1.dev 1).power = SPower.dormant)) ∧
    (((at_WakePatternsAct_2.dev 1).awake = true) ∧
      (((at_WakePatternsAct_2.dev 1).port RPort.E).st = PortState.down ∨ ((at_WakePatternsAct_2.dev 1).port RPort.E).st = PortState.acquire) ∧
      ((at_WakePatternsAct_2.dev 1).portE.wakeAt = none) ∧
      ((at_WakePatternsAct_2.dev 1).portW.wakeAt = none)) ∧
    (((at_WakePatternsAct_3.dev 1).awake = true) ∧
      ((at_WakePatternsAct_3.dev 1).portE.wakeAt = some 59000000) ∧
      ((at_WakePatternsAct_3.dev 1).portW.wakeAt = some 59000000)) ∧
    (((at_WakePatternsAct_4.dev 1).awake = true) ∧
      (((at_WakePatternsAct_4.dev 1).port RPort.W).wakeAt = some 59000000) ∧
      (((at_WakePatternsAct_4.dev 1).port (rportOther RPort.W)).wakeAt = none)) ∧
    (((at_WakePatternsAct_5.dev 1).awake = true) ∧
      (((at_WakePatternsAct_5.dev 1).port RPort.W).st = PortState.down)) :=
  ⟨(by decide +kernel),
   (by decide +kernel),
   (by decide +kernel),
   (by decide +kernel),
   (by decide +kernel)⟩

/-- A state for LinksComeUp. -/
def at_LinksComeUp_1 : State := port1 .E fun q => { q with st := .down }

/-- A state for LinksComeUp. -/
def at_LinksComeUp_2 : State := port1 .E fun q => { q with st := .acquire, clkSrc := false }

/-- A state for LinksComeUp. -/
def at_LinksComeUp_3 : State := port1 .E fun q => { q with st := .acquire, okSets := 16, leftUp := true, lost := true }

/-- States and operands that meet the hypotheses of every clause of LinksComeUp. -/
theorem witness_LinksComeUp :
    (((at_LinksComeUp_1.dev 1).awake = true) ∧
      (((at_LinksComeUp_1.dev 1).port RPort.E).st = PortState.down ∨ ((at_LinksComeUp_1.dev 1).port RPort.E).st = PortState.wake ∧ ((at_LinksComeUp_1.dev 1).port RPort.E).wakeAt = none)) ∧
    (((at_LinksComeUp_2.dev 1).awake = true) ∧
      (((at_LinksComeUp_2.dev 1).port RPort.E).st = PortState.acquire)) ∧
    (((at_LinksComeUp_3.dev 1).awake = true) ∧
      (((at_LinksComeUp_3.dev 1).port RPort.E).st = PortState.acquire) ∧
      (((at_LinksComeUp_3.dev 1).port RPort.E).rxGood = true) ∧
      (16 ≤ ((at_LinksComeUp_3.dev 1).port RPort.E).okSets)) :=
  ⟨(by decide +kernel),
   (by decide +kernel),
   (by decide +kernel)⟩

/-- A state for LinksAreWatched. -/
def at_LinksAreWatched_1 : State := port1 .E fun q => { q with st := .acquire, okSets := 254, badSets := 255 }

/-- A state for LinksAreWatched. -/
def at_LinksAreWatched_2 : State := port1 .E fun q => { q with st := .acquire }

/-- A state for LinksAreWatched. -/
def at_LinksAreWatched_4 : State := port1 .E fun q => { q with miswiredAt := some 50000000 }

/-- A state for LinksAreWatched. -/
def at_LinksAreWatched_5 : State := port1 .E fun q => { q with upAll := true }

/-- States and operands that meet the hypotheses of every clause of LinksAreWatched. -/
theorem witness_LinksAreWatched :
    (((at_LinksAreWatched_1.dev 1).awake = true) ∧
      (((at_LinksAreWatched_1.dev 1).port RPort.E).st = PortState.acquire ∨ ((at_LinksAreWatched_1.dev 1).port RPort.E).st = PortState.up)) ∧
    (((at_LinksAreWatched_2.dev 1).awake = true) ∧
      (((at_LinksAreWatched_2.dev 1).port RPort.E).st = PortState.acquire)) ∧
    (((ring.dev 1).awake = true) ∧
      (((ring.dev 1).port RPort.E).st = PortState.up)) ∧
    (((at_LinksAreWatched_4.dev 1).awake = true) ∧
      (((at_LinksAreWatched_4.dev 1).port RPort.E).miswiredAt = some 50000000) ∧
      (((at_LinksAreWatched_4.dev 1).port RPort.E).miswired = false) ∧
      (at_LinksAreWatched_4.alone = false)) ∧
    (((at_LinksAreWatched_5.dev 1).awake = true)) :=
  ⟨(by decide +kernel),
   (by decide +kernel),
   (by decide +kernel),
   (by decide +kernel),
   (by decide +kernel)⟩

/-- States and operands that meet the hypotheses of every clause of DownstreamFramesAct. -/
theorem witness_DownstreamFramesAct :
    (((ring.dev 1).awake = true) ∧
      ((ring.dev 1).actsOn RPort.E (down (Payload.adopt { trav := 1, n := 2, closed := true, sa := 12, ids := [5, 6] : AdoptMsg })) = true)) ∧
    (((ring.dev 1).awake = true) ∧
      ((ring.dev 1).actsOn RPort.E (down (Payload.header header1)) = true)) ∧
    (((ring.dev 1).awake = true) ∧
      ((ring.dev 1).actsOn RPort.E (down (Payload.keepalive 1 2)) = true)) ∧
    (((ring.dev 1).awake = true) ∧
      ((ring.dev 1).actsOn RPort.E (down (Payload.commit { epoch := 4, sweep := 11, settings := [] : CommitMsg })) = true)) ∧
    (((ring.dev 1).awake = true) ∧
      ((ring.dev 1).actsOn RPort.E (down (Payload.reaction { epoch := 0, sweep := 11, settings := [] : CommitMsg })) = true)) ∧
    (((ring.dev 1).awake = true) ∧
      ((ring.dev 1).actsOn RPort.W (down (Payload.command (CommandMsg.spot 3 463872))) = true)) ∧
    (((ring.dev 1).awake = true) ∧
      ((ring.dev 1).actsOn RPort.W (down (Payload.stage { object := 1, offset := 0, total := 8, crc := 5, data := body [1, 2, 3, 4] : StageMsg })) = true)) :=
  ⟨(by decide +kernel),
   (by decide +kernel),
   (by decide +kernel),
   (by decide +kernel),
   (by decide +kernel),
   (by decide +kernel),
   (by decide +kernel)⟩

/-- A state for FramesAreForwarded. -/
def at_FramesAreForwarded_5 : State := port1 .W fun q => { q with busyUntil := 100000000 }

/-- A state for FramesAreForwarded. -/
def at_FramesAreForwarded_6 : State := dv 1 fun d => { d with seen := [7] }

/-- A state for FramesAreForwarded. -/
def at_FramesAreForwarded_7 : State := dv 1 fun d => { d with seen := [7] }

/-- A state for FramesAreForwarded. -/
def at_FramesAreForwarded_8 : State := dv 1 fun d => { d with coreReset := some 5 }

/-- A state for FramesAreForwarded. -/
def at_FramesAreForwarded_11 : State := dv 1 fun d => { d with seen := [7] }

/-- A state for FramesAreForwarded. -/
def at_FramesAreForwarded_12 : State := dv 1 fun d => { d with seen := [7] }

/-- States and operands that meet the hypotheses of every clause of FramesAreForwarded. -/
theorem witness_FramesAreForwarded :
    (((ring.dev 1).awake = true) ∧
      (((ring.dev 1).port RPort.E).carries (near (Payload.probe 3)) = true) ∧
      ((ring.dev 1).isHead = true ∨ (near (Payload.probe 3)).dest = 254 ∨ (near (Payload.probe 3)).dest ≠ 0 ∧ ((ring.dev 1).pos = some (near (Payload.probe 3)).dest ∨ (near (Payload.probe 3)).hops ≤ 1))) ∧
    (((ring.dev 0).awake = true) ∧
      (((ring.dev 0).port RPort.E).carries (mkFrame 0 1 31 7 (Payload.items [])) = true) ∧
      ((ring.dev 0).isHead = true ∨ (mkFrame 0 1 31 7 (Payload.items [])).dest = 254 ∨ (mkFrame 0 1 31 7 (Payload.items [])).dest ≠ 0 ∧ ((ring.dev 0).pos = some (mkFrame 0 1 31 7 (Payload.items [])).dest ∨ (mkFrame 0 1 31 7 (Payload.items [])).hops ≤ 1))) ∧
    (((ring.dev 1).awake = true) ∧
      (((ring.dev 1).port RPort.E).carries (let __src := mkFrame 0 5 31 7 (Payload.items []); { dest := __src.dest, src := __src.src, hops := __src.hops, wrap := __src.wrap, parity := __src.parity, lenField := __src.lenField, seq := __src.seq, payload := __src.payload, crc := __src.crc, framed := __src.framed, hasError := __src.hasError, groups := [{ symbol := Symbol.other, disparity := true, aligned := true : CodeGroup }, { symbol := Symbol.idle, disparity := true, aligned := false : CodeGroup }] : Frame }) = true) ∧
      ((ring.dev 1).isHead = false) ∧
      ((let __src := mkFrame 0 5 31 7 (Payload.items []); { dest := __src.dest, src := __src.src, hops := __src.hops, wrap := __src.wrap, parity := __src.parity, lenField := __src.lenField, seq := __src.seq, payload := __src.payload, crc := __src.crc, framed := __src.framed, hasError := __src.hasError, groups := [{ symbol := Symbol.other, disparity := true, aligned := true : CodeGroup }, { symbol := Symbol.idle, disparity := true, aligned := false : CodeGroup }] : Frame }).dest = 0 ∧ relayed (let __src := mkFrame 0 5 31 7 (Payload.items []); { dest := __src.dest, src := __src.src, hops := __src.hops, wrap := __src.wrap, parity := __src.parity, lenField := __src.lenField, seq := __src.seq, payload := __src.payload, crc := __src.crc, framed := __src.framed, hasError := __src.hasError, groups := [{ symbol := Symbol.other, disparity := true, aligned := true : CodeGroup }, { symbol := Symbol.idle, disparity := true, aligned := false : CodeGroup }] : Frame }) = relayed (let __src := mkFrame 0 5 31 7 (Payload.items []); { dest := __src.dest, src := __src.src, hops := __src.hops, wrap := __src.wrap, parity := __src.parity, lenField := __src.lenField, seq := __src.seq, payload := __src.payload, crc := __src.crc, framed := __src.framed, hasError := __src.hasError, groups := [{ symbol := Symbol.other, disparity := true, aligned := true : CodeGroup }, { symbol := Symbol.idle, disparity := true, aligned := false : CodeGroup }] : Frame }) ∨ (let __src := mkFrame 0 5 31 7 (Payload.items []); { dest := __src.dest, src := __src.src, hops := __src.hops, wrap := __src.wrap, parity := __src.parity, lenField := __src.lenField, seq := __src.seq, payload := __src.payload, crc := __src.crc, framed := __src.framed, hasError := __src.hasError, groups := [{ symbol := Symbol.other, disparity := true, aligned := true : CodeGroup }, { symbol := Symbol.idle, disparity := true, aligned := false : CodeGroup }] : Frame }).dest ≠ 254 ∧ (let __src := mkFrame 0 5 31 7 (Payload.items []); { dest := __src.dest, src := __src.src, hops := __src.hops, wrap := __src.wrap, parity := __src.parity, lenField := __src.lenField, seq := __src.seq, payload := __src.payload, crc := __src.crc, framed := __src.framed, hasError := __src.hasError, groups := [{ symbol := Symbol.other, disparity := true, aligned := true : CodeGroup }, { symbol := Symbol.idle, disparity := true, aligned := false : CodeGroup }] : Frame }).dest ≠ 0 ∧ (ring.dev 1).pos ≠ some (let __src := mkFrame 0 5 31 7 (Payload.items []); { dest := __src.dest, src := __src.src, hops := __src.hops, wrap := __src.wrap, parity := __src.parity, lenField := __src.lenField, seq := __src.seq, payload := __src.payload, crc := __src.crc, framed := __src.framed, hasError := __src.hasError, groups := [{ symbol := Symbol.other, disparity := true, aligned := true : CodeGroup }, { symbol := Symbol.idle, disparity := true, aligned := false : CodeGroup }] : Frame }).dest ∧ 2 ≤ (let __src := mkFrame 0 5 31 7 (Payload.items []); { dest := __src.dest, src := __src.src, hops := __src.hops, wrap := __src.wrap, parity := __src.parity, lenField := __src.lenField, seq := __src.seq, payload := __src.payload, crc := __src.crc, framed := __src.framed, hasError := __src.hasError, groups := [{ symbol := Symbol.other, disparity := true, aligned := true : CodeGroup }, { symbol := Symbol.idle, disparity := true, aligned := false : CodeGroup }] : Frame }).hops ∧ relayed (let __src := mkFrame 0 5 31 7 (Payload.items []); { dest := __src.dest, src := __src.src, hops := __src.hops, wrap := __src.wrap, parity := __src.parity, lenField := __src.lenField, seq := __src.seq, payload := __src.payload, crc := __src.crc, framed := __src.framed, hasError := __src.hasError, groups := [{ symbol := Symbol.other, disparity := true, aligned := true : CodeGroup }, { symbol := Symbol.idle, disparity := true, aligned := false : CodeGroup }] : Frame }) = frameRelay (relayed (let __src := mkFrame 0 5 31 7 (Payload.items []); { dest := __src.dest, src := __src.src, hops := __src.hops, wrap := __src.wrap, parity := __src.parity, lenField := __src.lenField, seq := __src.seq, payload := __src.payload, crc := __src.crc, framed := __src.framed, hasError := __src.hasError, groups := [{ symbol := Symbol.other, disparity := true, aligned := true : CodeGroup }, { symbol := Symbol.idle, disparity := true, aligned := false : CodeGroup }] : Frame })) ((let __src := mkFrame 0 5 31 7 (Payload.items []); { dest := __src.dest, src := __src.src, hops := __src.hops, wrap := __src.wrap, parity := __src.parity, lenField := __src.lenField, seq := __src.seq, payload := __src.payload, crc := __src.crc, framed := __src.framed, hasError := __src.hasError, groups := [{ symbol := Symbol.other, disparity := true, aligned := true : CodeGroup }, { symbol := Symbol.idle, disparity := true, aligned := false : CodeGroup }] : Frame }).hops - 1) (let __src := mkFrame 0 5 31 7 (Payload.items []); { dest := __src.dest, src := __src.src, hops := __src.hops, wrap := __src.wrap, parity := __src.parity, lenField := __src.lenField, seq := __src.seq, payload := __src.payload, crc := __src.crc, framed := __src.framed, hasError := __src.hasError, groups := [{ symbol := Symbol.other, disparity := true, aligned := true : CodeGroup }, { symbol := Symbol.idle, disparity := true, aligned := false : CodeGroup }] : Frame }).wrap) ∧
      ((let __src := mkFrame 0 5 31 7 (Payload.items []); { dest := __src.dest, src := __src.src, hops := __src.hops, wrap := __src.wrap, parity := __src.parity, lenField := __src.lenField, seq := __src.seq, payload := __src.payload, crc := __src.crc, framed := __src.framed, hasError := __src.hasError, groups := [{ symbol := Symbol.other, disparity := true, aligned := true : CodeGroup }, { symbol := Symbol.idle, disparity := true, aligned := false : CodeGroup }] : Frame }).dest = 0)) ∧
    (((ring.dev 1).awake = true) ∧
      (((ring.dev 1).port RPort.E).carries (mkFrame 255 0 31 7 (Payload.keepalive 1 2)) = true) ∧
      ((ring.dev 1).isHead = false) ∧
      ((mkFrame 255 0 31 7 (Payload.keepalive 1 2)).dest = 0 ∧ frameRelay (relayed (mkFrame 255 0 31 7 (Payload.keepalive 1 2))) ((mkFrame 255 0 31 7 (Payload.keepalive 1 2)).hops - 1) (mkFrame 255 0 31 7 (Payload.keepalive 1 2)).wrap = relayed (mkFrame 255 0 31 7 (Payload.keepalive 1 2)) ∨ (mkFrame 255 0 31 7 (Payload.keepalive 1 2)).dest ≠ 254 ∧ (mkFrame 255 0 31 7 (Payload.keepalive 1 2)).dest ≠ 0 ∧ (ring.dev 1).pos ≠ some (mkFrame 255 0 31 7 (Payload.keepalive 1 2)).dest ∧ 2 ≤ (mkFrame 255 0 31 7 (Payload.keepalive 1 2)).hops ∧ frameRelay (relayed (mkFrame 255 0 31 7 (Payload.keepalive 1 2))) ((mkFrame 255 0 31 7 (Payload.keepalive 1 2)).hops - 1) (mkFrame 255 0 31 7 (Payload.keepalive 1 2)).wrap = frameRelay (relayed (mkFrame 255 0 31 7 (Payload.keepalive 1 2))) ((mkFrame 255 0 31 7 (Payload.keepalive 1 2)).hops - 1) (mkFrame 255 0 31 7 (Payload.keepalive 1 2)).wrap) ∧
      ((mkFrame 255 0 31 7 (Payload.keepalive 1 2)).dest ≠ 254) ∧
      ((mkFrame 255 0 31 7 (Payload.keepalive 1 2)).dest ≠ 0) ∧
      ((ring.dev 1).pos ≠ some (mkFrame 255 0 31 7 (Payload.keepalive 1 2)).dest) ∧
      (2 ≤ (mkFrame 255 0 31 7 (Payload.keepalive 1 2)).hops)) ∧
    (((at_FramesAreForwarded_5.dev 1).awake = true) ∧
      (((at_FramesAreForwarded_5.dev 1).port RPort.E).carries (mkFrame 255 0 2 7 (Payload.keepalive 1 2)) = true) ∧
      ((at_FramesAreForwarded_5.dev 1).isHead = false) ∧
      ((mkFrame 255 0 2 7 (Payload.keepalive 1 2)).dest = 0 ∧ frameRelay (relayed (mkFrame 255 0 2 7 (Payload.keepalive 1 2))) ((mkFrame 255 0 2 7 (Payload.keepalive 1 2)).hops - 1) (mkFrame 255 0 2 7 (Payload.keepalive 1 2)).wrap = relayed (mkFrame 255 0 2 7 (Payload.keepalive 1 2)) ∨ (mkFrame 255 0 2 7 (Payload.keepalive 1 2)).dest ≠ 254 ∧ (mkFrame 255 0 2 7 (Payload.keepalive 1 2)).dest ≠ 0 ∧ (at_FramesAreForwarded_5.dev 1).pos ≠ some (mkFrame 255 0 2 7 (Payload.keepalive 1 2)).dest ∧ 2 ≤ (mkFrame 255 0 2 7 (Payload.keepalive 1 2)).hops ∧ frameRelay (relayed (mkFrame 255 0 2 7 (Payload.keepalive 1 2))) ((mkFrame 255 0 2 7 (Payload.keepalive 1 2)).hops - 1) (mkFrame 255 0 2 7 (Payload.keepalive 1 2)).wrap = frameRelay (relayed (mkFrame 255 0 2 7 (Payload.keepalive 1 2))) ((mkFrame 255 0 2 7 (Payload.keepalive 1 2)).hops - 1) (mkFrame 255 0 2 7 (Payload.keepalive 1 2)).wrap) ∧
      ((mkFrame 255 0 2 7 (Payload.keepalive 1 2)).dest ≠ 254) ∧
      ((mkFrame 255 0 2 7 (Payload.keepalive 1 2)).dest ≠ 0) ∧
      ((at_FramesAreForwarded_5.dev 1).pos ≠ some (mkFrame 255 0 2 7 (Payload.keepalive 1 2)).dest) ∧
      (2 ≤ (mkFrame 255 0 2 7 (Payload.keepalive 1 2)).hops)) ∧
    (((at_FramesAreForwarded_6.dev 1).awake = true) ∧
      (reloads (down (Payload.keepalive 1 2)) = true) ∧
      (((at_FramesAreForwarded_6.dev 1).port RPort.E).carries (down (Payload.keepalive 1 2)) = true) ∧
      ((at_FramesAreForwarded_6.dev 1).isHead = true ∨ ((at_FramesAreForwarded_6.dev 1).seen ++ (at_FramesAreForwarded_6.dev 1).seenLast).contains (down (Payload.keepalive 1 2)).seq = true ∨ (down (Payload.keepalive 1 2)).dest ≠ 255 ∧ (at_FramesAreForwarded_6.dev 1).pos ≠ some (down (Payload.keepalive 1 2)).dest ∨ (at_FramesAreForwarded_6.dev 1).coreReset ≠ none) ∧
      ((∃ a, (down (Payload.keepalive 1 2)).payload = Payload.adopt a ∧ Instr.keepalive 1 RPort.E (down (Payload.keepalive 1 2)) = Instr.adopt 1 RPort.E (down (Payload.keepalive 1 2))) ∨ (∃ a, (down (Payload.keepalive 1 2)).payload = Payload.header a ∧ Instr.keepalive 1 RPort.E (down (Payload.keepalive 1 2)) = Instr.sweepHeader 1 RPort.E (down (Payload.keepalive 1 2))) ∨ (∃ a b, (down (Payload.keepalive 1 2)).payload = Payload.keepalive a b ∧ Instr.keepalive 1 RPort.E (down (Payload.keepalive 1 2)) = Instr.keepalive 1 RPort.E (down (Payload.keepalive 1 2))) ∨ (∃ a, (down (Payload.keepalive 1 2)).payload = Payload.commit a ∧ Instr.keepalive 1 RPort.E (down (Payload.keepalive 1 2)) = Instr.commit 1 RPort.E (down (Payload.keepalive 1 2))) ∨ (∃ a, (down (Payload.keepalive 1 2)).payload = Payload.reaction a ∧ Instr.keepalive 1 RPort.E (down (Payload.keepalive 1 2)) = Instr.reaction 1 RPort.E (down (Payload.keepalive 1 2))) ∨ (∃ a, (down (Payload.keepalive 1 2)).payload = Payload.command a ∧ Instr.keepalive 1 RPort.E (down (Payload.keepalive 1 2)) = Instr.command 1 RPort.E (down (Payload.keepalive 1 2))) ∨ ∃ a, (down (Payload.keepalive 1 2)).payload = Payload.stage a ∧ Instr.keepalive 1 RPort.E (down (Payload.keepalive 1 2)) = Instr.stage 1 RPort.E (down (Payload.keepalive 1 2)))) ∧
    (((at_FramesAreForwarded_7.dev 1).awake = true) ∧
      (reloads (down (Payload.adopt { trav := 1, n := 2, closed := true, sa := 12, ids := [5, 6] : AdoptMsg })) = true) ∧
      (((at_FramesAreForwarded_7.dev 1).port RPort.E).carries (down (Payload.adopt { trav := 1, n := 2, closed := true, sa := 12, ids := [5, 6] : AdoptMsg })) = true) ∧
      ((at_FramesAreForwarded_7.dev 1).isHead = true ∨ ((at_FramesAreForwarded_7.dev 1).seen ++ (at_FramesAreForwarded_7.dev 1).seenLast).contains (down (Payload.adopt { trav := 1, n := 2, closed := true, sa := 12, ids := [5, 6] : AdoptMsg })).seq = true ∨ (down (Payload.adopt { trav := 1, n := 2, closed := true, sa := 12, ids := [5, 6] : AdoptMsg })).dest ≠ 255 ∧ (at_FramesAreForwarded_7.dev 1).pos ≠ some (down (Payload.adopt { trav := 1, n := 2, closed := true, sa := 12, ids := [5, 6] : AdoptMsg })).dest ∨ (at_FramesAreForwarded_7.dev 1).coreReset ≠ none) ∧
      ((∃ a, (down (Payload.adopt { trav := 1, n := 2, closed := true, sa := 12, ids := [5, 6] : AdoptMsg })).payload = Payload.adopt a ∧ Instr.adopt 1 RPort.E (down (Payload.adopt { trav := 1, n := 2, closed := true, sa := 12, ids := [5, 6] : AdoptMsg })) = Instr.adopt 1 RPort.E (down (Payload.adopt { trav := 1, n := 2, closed := true, sa := 12, ids := [5, 6] : AdoptMsg }))) ∨ (∃ a, (down (Payload.adopt { trav := 1, n := 2, closed := true, sa := 12, ids := [5, 6] : AdoptMsg })).payload = Payload.header a ∧ Instr.adopt 1 RPort.E (down (Payload.adopt { trav := 1, n := 2, closed := true, sa := 12, ids := [5, 6] : AdoptMsg })) = Instr.sweepHeader 1 RPort.E (down (Payload.adopt { trav := 1, n := 2, closed := true, sa := 12, ids := [5, 6] : AdoptMsg }))) ∨ (∃ a b, (down (Payload.adopt { trav := 1, n := 2, closed := true, sa := 12, ids := [5, 6] : AdoptMsg })).payload = Payload.keepalive a b ∧ Instr.adopt 1 RPort.E (down (Payload.adopt { trav := 1, n := 2, closed := true, sa := 12, ids := [5, 6] : AdoptMsg })) = Instr.keepalive 1 RPort.E (down (Payload.adopt { trav := 1, n := 2, closed := true, sa := 12, ids := [5, 6] : AdoptMsg }))) ∨ (∃ a, (down (Payload.adopt { trav := 1, n := 2, closed := true, sa := 12, ids := [5, 6] : AdoptMsg })).payload = Payload.commit a ∧ Instr.adopt 1 RPort.E (down (Payload.adopt { trav := 1, n := 2, closed := true, sa := 12, ids := [5, 6] : AdoptMsg })) = Instr.commit 1 RPort.E (down (Payload.adopt { trav := 1, n := 2, closed := true, sa := 12, ids := [5, 6] : AdoptMsg }))) ∨ (∃ a, (down (Payload.adopt { trav := 1, n := 2, closed := true, sa := 12, ids := [5, 6] : AdoptMsg })).payload = Payload.reaction a ∧ Instr.adopt 1 RPort.E (down (Payload.adopt { trav := 1, n := 2, closed := true, sa := 12, ids := [5, 6] : AdoptMsg })) = Instr.reaction 1 RPort.E (down (Payload.adopt { trav := 1, n := 2, closed := true, sa := 12, ids := [5, 6] : AdoptMsg }))) ∨ (∃ a, (down (Payload.adopt { trav := 1, n := 2, closed := true, sa := 12, ids := [5, 6] : AdoptMsg })).payload = Payload.command a ∧ Instr.adopt 1 RPort.E (down (Payload.adopt { trav := 1, n := 2, closed := true, sa := 12, ids := [5, 6] : AdoptMsg })) = Instr.command 1 RPort.E (down (Payload.adopt { trav := 1, n := 2, closed := true, sa := 12, ids := [5, 6] : AdoptMsg }))) ∨ ∃ a, (down (Payload.adopt { trav := 1, n := 2, closed := true, sa := 12, ids := [5, 6] : AdoptMsg })).payload = Payload.stage a ∧ Instr.adopt 1 RPort.E (down (Payload.adopt { trav := 1, n := 2, closed := true, sa := 12, ids := [5, 6] : AdoptMsg })) = Instr.stage 1 RPort.E (down (Payload.adopt { trav := 1, n := 2, closed := true, sa := 12, ids := [5, 6] : AdoptMsg })))) ∧
    (((at_FramesAreForwarded_8.dev 1).awake = true) ∧
      (reloads (down (Payload.header header1)) = true) ∧
      (((at_FramesAreForwarded_8.dev 1).port RPort.E).carries (down (Payload.header header1)) = true) ∧
      ((at_FramesAreForwarded_8.dev 1).isHead = true ∨ ((at_FramesAreForwarded_8.dev 1).seen ++ (at_FramesAreForwarded_8.dev 1).seenLast).contains (down (Payload.header header1)).seq = true ∨ (down (Payload.header header1)).dest ≠ 255 ∧ (at_FramesAreForwarded_8.dev 1).pos ≠ some (down (Payload.header header1)).dest ∨ (at_FramesAreForwarded_8.dev 1).coreReset ≠ none) ∧
      ((∃ a, (down (Payload.header header1)).payload = Payload.adopt a ∧ Instr.sweepHeader 1 RPort.E (down (Payload.header header1)) = Instr.adopt 1 RPort.E (down (Payload.header header1))) ∨ (∃ a, (down (Payload.header header1)).payload = Payload.header a ∧ Instr.sweepHeader 1 RPort.E (down (Payload.header header1)) = Instr.sweepHeader 1 RPort.E (down (Payload.header header1))) ∨ (∃ a b, (down (Payload.header header1)).payload = Payload.keepalive a b ∧ Instr.sweepHeader 1 RPort.E (down (Payload.header header1)) = Instr.keepalive 1 RPort.E (down (Payload.header header1))) ∨ (∃ a, (down (Payload.header header1)).payload = Payload.commit a ∧ Instr.sweepHeader 1 RPort.E (down (Payload.header header1)) = Instr.commit 1 RPort.E (down (Payload.header header1))) ∨ (∃ a, (down (Payload.header header1)).payload = Payload.reaction a ∧ Instr.sweepHeader 1 RPort.E (down (Payload.header header1)) = Instr.reaction 1 RPort.E (down (Payload.header header1))) ∨ (∃ a, (down (Payload.header header1)).payload = Payload.command a ∧ Instr.sweepHeader 1 RPort.E (down (Payload.header header1)) = Instr.command 1 RPort.E (down (Payload.header header1))) ∨ ∃ a, (down (Payload.header header1)).payload = Payload.stage a ∧ Instr.sweepHeader 1 RPort.E (down (Payload.header header1)) = Instr.stage 1 RPort.E (down (Payload.header header1)))) ∧
    (((ring.dev 1).awake = true) ∧
      (reloads (mkFrame 9 0 31 7 (Payload.command (CommandMsg.spot 3 463872))) = true) ∧
      (((ring.dev 1).port RPort.E).carries (mkFrame 9 0 31 7 (Payload.command (CommandMsg.spot 3 463872))) = true) ∧
      ((ring.dev 1).isHead = true ∨ ((ring.dev 1).seen ++ (ring.dev 1).seenLast).contains (mkFrame 9 0 31 7 (Payload.command (CommandMsg.spot 3 463872))).seq = true ∨ (mkFrame 9 0 31 7 (Payload.command (CommandMsg.spot 3 463872))).dest ≠ 255 ∧ (ring.dev 1).pos ≠ some (mkFrame 9 0 31 7 (Payload.command (CommandMsg.spot 3 463872))).dest ∨ (ring.dev 1).coreReset ≠ none) ∧
      ((∃ a, (mkFrame 9 0 31 7 (Payload.command (CommandMsg.spot 3 463872))).payload = Payload.adopt a ∧ Instr.command 1 RPort.E (mkFrame 9 0 31 7 (Payload.command (CommandMsg.spot 3 463872))) = Instr.adopt 1 RPort.E (mkFrame 9 0 31 7 (Payload.command (CommandMsg.spot 3 463872)))) ∨ (∃ a, (mkFrame 9 0 31 7 (Payload.command (CommandMsg.spot 3 463872))).payload = Payload.header a ∧ Instr.command 1 RPort.E (mkFrame 9 0 31 7 (Payload.command (CommandMsg.spot 3 463872))) = Instr.sweepHeader 1 RPort.E (mkFrame 9 0 31 7 (Payload.command (CommandMsg.spot 3 463872)))) ∨ (∃ a b, (mkFrame 9 0 31 7 (Payload.command (CommandMsg.spot 3 463872))).payload = Payload.keepalive a b ∧ Instr.command 1 RPort.E (mkFrame 9 0 31 7 (Payload.command (CommandMsg.spot 3 463872))) = Instr.keepalive 1 RPort.E (mkFrame 9 0 31 7 (Payload.command (CommandMsg.spot 3 463872)))) ∨ (∃ a, (mkFrame 9 0 31 7 (Payload.command (CommandMsg.spot 3 463872))).payload = Payload.commit a ∧ Instr.command 1 RPort.E (mkFrame 9 0 31 7 (Payload.command (CommandMsg.spot 3 463872))) = Instr.commit 1 RPort.E (mkFrame 9 0 31 7 (Payload.command (CommandMsg.spot 3 463872)))) ∨ (∃ a, (mkFrame 9 0 31 7 (Payload.command (CommandMsg.spot 3 463872))).payload = Payload.reaction a ∧ Instr.command 1 RPort.E (mkFrame 9 0 31 7 (Payload.command (CommandMsg.spot 3 463872))) = Instr.reaction 1 RPort.E (mkFrame 9 0 31 7 (Payload.command (CommandMsg.spot 3 463872)))) ∨ (∃ a, (mkFrame 9 0 31 7 (Payload.command (CommandMsg.spot 3 463872))).payload = Payload.command a ∧ Instr.command 1 RPort.E (mkFrame 9 0 31 7 (Payload.command (CommandMsg.spot 3 463872))) = Instr.command 1 RPort.E (mkFrame 9 0 31 7 (Payload.command (CommandMsg.spot 3 463872)))) ∨ ∃ a, (mkFrame 9 0 31 7 (Payload.command (CommandMsg.spot 3 463872))).payload = Payload.stage a ∧ Instr.command 1 RPort.E (mkFrame 9 0 31 7 (Payload.command (CommandMsg.spot 3 463872))) = Instr.stage 1 RPort.E (mkFrame 9 0 31 7 (Payload.command (CommandMsg.spot 3 463872))))) ∧
    (((ring.dev 1).awake = true) ∧
      (reloads (mkFrame 9 0 31 7 (Payload.stage { object := 1, offset := 0, total := 8, crc := 5, data := body [1, 2, 3, 4] : StageMsg })) = true) ∧
      (((ring.dev 1).port RPort.E).carries (mkFrame 9 0 31 7 (Payload.stage { object := 1, offset := 0, total := 8, crc := 5, data := body [1, 2, 3, 4] : StageMsg })) = true) ∧
      ((ring.dev 1).isHead = true ∨ ((ring.dev 1).seen ++ (ring.dev 1).seenLast).contains (mkFrame 9 0 31 7 (Payload.stage { object := 1, offset := 0, total := 8, crc := 5, data := body [1, 2, 3, 4] : StageMsg })).seq = true ∨ (mkFrame 9 0 31 7 (Payload.stage { object := 1, offset := 0, total := 8, crc := 5, data := body [1, 2, 3, 4] : StageMsg })).dest ≠ 255 ∧ (ring.dev 1).pos ≠ some (mkFrame 9 0 31 7 (Payload.stage { object := 1, offset := 0, total := 8, crc := 5, data := body [1, 2, 3, 4] : StageMsg })).dest ∨ (ring.dev 1).coreReset ≠ none) ∧
      ((∃ a, (mkFrame 9 0 31 7 (Payload.stage { object := 1, offset := 0, total := 8, crc := 5, data := body [1, 2, 3, 4] : StageMsg })).payload = Payload.adopt a ∧ Instr.stage 1 RPort.E (mkFrame 9 0 31 7 (Payload.stage { object := 1, offset := 0, total := 8, crc := 5, data := body [1, 2, 3, 4] : StageMsg })) = Instr.adopt 1 RPort.E (mkFrame 9 0 31 7 (Payload.stage { object := 1, offset := 0, total := 8, crc := 5, data := body [1, 2, 3, 4] : StageMsg }))) ∨ (∃ a, (mkFrame 9 0 31 7 (Payload.stage { object := 1, offset := 0, total := 8, crc := 5, data := body [1, 2, 3, 4] : StageMsg })).payload = Payload.header a ∧ Instr.stage 1 RPort.E (mkFrame 9 0 31 7 (Payload.stage { object := 1, offset := 0, total := 8, crc := 5, data := body [1, 2, 3, 4] : StageMsg })) = Instr.sweepHeader 1 RPort.E (mkFrame 9 0 31 7 (Payload.stage { object := 1, offset := 0, total := 8, crc := 5, data := body [1, 2, 3, 4] : StageMsg }))) ∨ (∃ a b, (mkFrame 9 0 31 7 (Payload.stage { object := 1, offset := 0, total := 8, crc := 5, data := body [1, 2, 3, 4] : StageMsg })).payload = Payload.keepalive a b ∧ Instr.stage 1 RPort.E (mkFrame 9 0 31 7 (Payload.stage { object := 1, offset := 0, total := 8, crc := 5, data := body [1, 2, 3, 4] : StageMsg })) = Instr.keepalive 1 RPort.E (mkFrame 9 0 31 7 (Payload.stage { object := 1, offset := 0, total := 8, crc := 5, data := body [1, 2, 3, 4] : StageMsg }))) ∨ (∃ a, (mkFrame 9 0 31 7 (Payload.stage { object := 1, offset := 0, total := 8, crc := 5, data := body [1, 2, 3, 4] : StageMsg })).payload = Payload.commit a ∧ Instr.stage 1 RPort.E (mkFrame 9 0 31 7 (Payload.stage { object := 1, offset := 0, total := 8, crc := 5, data := body [1, 2, 3, 4] : StageMsg })) = Instr.commit 1 RPort.E (mkFrame 9 0 31 7 (Payload.stage { object := 1, offset := 0, total := 8, crc := 5, data := body [1, 2, 3, 4] : StageMsg }))) ∨ (∃ a, (mkFrame 9 0 31 7 (Payload.stage { object := 1, offset := 0, total := 8, crc := 5, data := body [1, 2, 3, 4] : StageMsg })).payload = Payload.reaction a ∧ Instr.stage 1 RPort.E (mkFrame 9 0 31 7 (Payload.stage { object := 1, offset := 0, total := 8, crc := 5, data := body [1, 2, 3, 4] : StageMsg })) = Instr.reaction 1 RPort.E (mkFrame 9 0 31 7 (Payload.stage { object := 1, offset := 0, total := 8, crc := 5, data := body [1, 2, 3, 4] : StageMsg }))) ∨ (∃ a, (mkFrame 9 0 31 7 (Payload.stage { object := 1, offset := 0, total := 8, crc := 5, data := body [1, 2, 3, 4] : StageMsg })).payload = Payload.command a ∧ Instr.stage 1 RPort.E (mkFrame 9 0 31 7 (Payload.stage { object := 1, offset := 0, total := 8, crc := 5, data := body [1, 2, 3, 4] : StageMsg })) = Instr.command 1 RPort.E (mkFrame 9 0 31 7 (Payload.stage { object := 1, offset := 0, total := 8, crc := 5, data := body [1, 2, 3, 4] : StageMsg }))) ∨ ∃ a, (mkFrame 9 0 31 7 (Payload.stage { object := 1, offset := 0, total := 8, crc := 5, data := body [1, 2, 3, 4] : StageMsg })).payload = Payload.stage a ∧ Instr.stage 1 RPort.E (mkFrame 9 0 31 7 (Payload.stage { object := 1, offset := 0, total := 8, crc := 5, data := body [1, 2, 3, 4] : StageMsg })) = Instr.stage 1 RPort.E (mkFrame 9 0 31 7 (Payload.stage { object := 1, offset := 0, total := 8, crc := 5, data := body [1, 2, 3, 4] : StageMsg })))) ∧
    (((at_FramesAreForwarded_11.dev 1).awake = true) ∧
      (reloads (down (Payload.commit { epoch := 4, sweep := 11, settings := [] : CommitMsg })) = true) ∧
      (((at_FramesAreForwarded_11.dev 1).port RPort.E).carries (down (Payload.commit { epoch := 4, sweep := 11, settings := [] : CommitMsg })) = true) ∧
      ((at_FramesAreForwarded_11.dev 1).isHead = true ∨ ((at_FramesAreForwarded_11.dev 1).seen ++ (at_FramesAreForwarded_11.dev 1).seenLast).contains (down (Payload.commit { epoch := 4, sweep := 11, settings := [] : CommitMsg })).seq = true ∨ (down (Payload.commit { epoch := 4, sweep := 11, settings := [] : CommitMsg })).dest ≠ 255 ∧ (at_FramesAreForwarded_11.dev 1).pos ≠ some (down (Payload.commit { epoch := 4, sweep := 11, settings := [] : CommitMsg })).dest ∨ (at_FramesAreForwarded_11.dev 1).coreReset ≠ none) ∧
      ((∃ a, (down (Payload.commit { epoch := 4, sweep := 11, settings := [] : CommitMsg })).payload = Payload.adopt a ∧ Instr.commit 1 RPort.E (down (Payload.commit { epoch := 4, sweep := 11, settings := [] : CommitMsg })) = Instr.adopt 1 RPort.E (down (Payload.commit { epoch := 4, sweep := 11, settings := [] : CommitMsg }))) ∨ (∃ a, (down (Payload.commit { epoch := 4, sweep := 11, settings := [] : CommitMsg })).payload = Payload.header a ∧ Instr.commit 1 RPort.E (down (Payload.commit { epoch := 4, sweep := 11, settings := [] : CommitMsg })) = Instr.sweepHeader 1 RPort.E (down (Payload.commit { epoch := 4, sweep := 11, settings := [] : CommitMsg }))) ∨ (∃ a b, (down (Payload.commit { epoch := 4, sweep := 11, settings := [] : CommitMsg })).payload = Payload.keepalive a b ∧ Instr.commit 1 RPort.E (down (Payload.commit { epoch := 4, sweep := 11, settings := [] : CommitMsg })) = Instr.keepalive 1 RPort.E (down (Payload.commit { epoch := 4, sweep := 11, settings := [] : CommitMsg }))) ∨ (∃ a, (down (Payload.commit { epoch := 4, sweep := 11, settings := [] : CommitMsg })).payload = Payload.commit a ∧ Instr.commit 1 RPort.E (down (Payload.commit { epoch := 4, sweep := 11, settings := [] : CommitMsg })) = Instr.commit 1 RPort.E (down (Payload.commit { epoch := 4, sweep := 11, settings := [] : CommitMsg }))) ∨ (∃ a, (down (Payload.commit { epoch := 4, sweep := 11, settings := [] : CommitMsg })).payload = Payload.reaction a ∧ Instr.commit 1 RPort.E (down (Payload.commit { epoch := 4, sweep := 11, settings := [] : CommitMsg })) = Instr.reaction 1 RPort.E (down (Payload.commit { epoch := 4, sweep := 11, settings := [] : CommitMsg }))) ∨ (∃ a, (down (Payload.commit { epoch := 4, sweep := 11, settings := [] : CommitMsg })).payload = Payload.command a ∧ Instr.commit 1 RPort.E (down (Payload.commit { epoch := 4, sweep := 11, settings := [] : CommitMsg })) = Instr.command 1 RPort.E (down (Payload.commit { epoch := 4, sweep := 11, settings := [] : CommitMsg }))) ∨ ∃ a, (down (Payload.commit { epoch := 4, sweep := 11, settings := [] : CommitMsg })).payload = Payload.stage a ∧ Instr.commit 1 RPort.E (down (Payload.commit { epoch := 4, sweep := 11, settings := [] : CommitMsg })) = Instr.stage 1 RPort.E (down (Payload.commit { epoch := 4, sweep := 11, settings := [] : CommitMsg })))) ∧
    (((at_FramesAreForwarded_12.dev 1).awake = true) ∧
      (reloads (down (Payload.reaction { epoch := 4, sweep := 11, settings := [] : CommitMsg })) = true) ∧
      (((at_FramesAreForwarded_12.dev 1).port RPort.E).carries (down (Payload.reaction { epoch := 4, sweep := 11, settings := [] : CommitMsg })) = true) ∧
      ((at_FramesAreForwarded_12.dev 1).isHead = true ∨ ((at_FramesAreForwarded_12.dev 1).seen ++ (at_FramesAreForwarded_12.dev 1).seenLast).contains (down (Payload.reaction { epoch := 4, sweep := 11, settings := [] : CommitMsg })).seq = true ∨ (down (Payload.reaction { epoch := 4, sweep := 11, settings := [] : CommitMsg })).dest ≠ 255 ∧ (at_FramesAreForwarded_12.dev 1).pos ≠ some (down (Payload.reaction { epoch := 4, sweep := 11, settings := [] : CommitMsg })).dest ∨ (at_FramesAreForwarded_12.dev 1).coreReset ≠ none) ∧
      ((∃ a, (down (Payload.reaction { epoch := 4, sweep := 11, settings := [] : CommitMsg })).payload = Payload.adopt a ∧ Instr.reaction 1 RPort.E (down (Payload.reaction { epoch := 4, sweep := 11, settings := [] : CommitMsg })) = Instr.adopt 1 RPort.E (down (Payload.reaction { epoch := 4, sweep := 11, settings := [] : CommitMsg }))) ∨ (∃ a, (down (Payload.reaction { epoch := 4, sweep := 11, settings := [] : CommitMsg })).payload = Payload.header a ∧ Instr.reaction 1 RPort.E (down (Payload.reaction { epoch := 4, sweep := 11, settings := [] : CommitMsg })) = Instr.sweepHeader 1 RPort.E (down (Payload.reaction { epoch := 4, sweep := 11, settings := [] : CommitMsg }))) ∨ (∃ a b, (down (Payload.reaction { epoch := 4, sweep := 11, settings := [] : CommitMsg })).payload = Payload.keepalive a b ∧ Instr.reaction 1 RPort.E (down (Payload.reaction { epoch := 4, sweep := 11, settings := [] : CommitMsg })) = Instr.keepalive 1 RPort.E (down (Payload.reaction { epoch := 4, sweep := 11, settings := [] : CommitMsg }))) ∨ (∃ a, (down (Payload.reaction { epoch := 4, sweep := 11, settings := [] : CommitMsg })).payload = Payload.commit a ∧ Instr.reaction 1 RPort.E (down (Payload.reaction { epoch := 4, sweep := 11, settings := [] : CommitMsg })) = Instr.commit 1 RPort.E (down (Payload.reaction { epoch := 4, sweep := 11, settings := [] : CommitMsg }))) ∨ (∃ a, (down (Payload.reaction { epoch := 4, sweep := 11, settings := [] : CommitMsg })).payload = Payload.reaction a ∧ Instr.reaction 1 RPort.E (down (Payload.reaction { epoch := 4, sweep := 11, settings := [] : CommitMsg })) = Instr.reaction 1 RPort.E (down (Payload.reaction { epoch := 4, sweep := 11, settings := [] : CommitMsg }))) ∨ (∃ a, (down (Payload.reaction { epoch := 4, sweep := 11, settings := [] : CommitMsg })).payload = Payload.command a ∧ Instr.reaction 1 RPort.E (down (Payload.reaction { epoch := 4, sweep := 11, settings := [] : CommitMsg })) = Instr.command 1 RPort.E (down (Payload.reaction { epoch := 4, sweep := 11, settings := [] : CommitMsg }))) ∨ ∃ a, (down (Payload.reaction { epoch := 4, sweep := 11, settings := [] : CommitMsg })).payload = Payload.stage a ∧ Instr.reaction 1 RPort.E (down (Payload.reaction { epoch := 4, sweep := 11, settings := [] : CommitMsg })) = Instr.stage 1 RPort.E (down (Payload.reaction { epoch := 4, sweep := 11, settings := [] : CommitMsg })))) :=
  ⟨(by decide +kernel),
   (by decide +kernel),
   (by decide +kernel),
   (by decide +kernel),
   (by decide +kernel),
   ⟨(by decide +kernel), (by decide +kernel), (by decide +kernel), (by decide +kernel), Or.inr (Or.inr (Or.inl ⟨_, _, rfl, rfl⟩))⟩,
   ⟨(by decide +kernel), (by decide +kernel), (by decide +kernel), (by decide +kernel), Or.inl ⟨_, rfl, rfl⟩⟩,
   ⟨(by decide +kernel), (by decide +kernel), (by decide +kernel), (by decide +kernel), Or.inr (Or.inl ⟨_, rfl, rfl⟩)⟩,
   ⟨(by decide +kernel), (by decide +kernel), (by decide +kernel), (by decide +kernel), Or.inr (Or.inr (Or.inr (Or.inr (Or.inr (Or.inl ⟨_, rfl, rfl⟩)))))⟩,
   ⟨(by decide +kernel), (by decide +kernel), (by decide +kernel), (by decide +kernel), Or.inr (Or.inr (Or.inr (Or.inr (Or.inr (Or.inr (⟨_, rfl, rfl⟩))))))⟩,
   ⟨(by decide +kernel), (by decide +kernel), (by decide +kernel), (by decide +kernel), Or.inr (Or.inr (Or.inr (Or.inl ⟨_, rfl, rfl⟩)))⟩,
   ⟨(by decide +kernel), (by decide +kernel), (by decide +kernel), (by decide +kernel), Or.inr (Or.inr (Or.inr (Or.inr (Or.inl ⟨_, rfl, rfl⟩))))⟩⟩

/-- A state for TokensTravel. -/
def at_TokensTravel_2 : State := { ring with trv := { ring.trv with running := true, passOpen := true, trav := 1, pass := 1, sentE := true, sentW := true } }

/-- A state for TokensTravel. -/
def at_TokensTravel_3 : State := { ring with trv := { ring.trv with running := true, passOpen := true, trav := 1, pass := 1, sentE := true, sentW := true } }

/-- A state for TokensTravel. -/
def at_TokensTravel_5 : State := port1 .W fun q => { q with waiting := some ⟨1, 1, false, false, false, 0, Config.factoryId 0, 0, 13500, []⟩, probes := List.replicate 14 (1, 2) }

/-- A state for TokensTravel. -/
def at_TokensTravel_6 : State := port1 .W fun q => { q with waiting := some ⟨1, 1, false, false, false, 0, Config.factoryId 0, 0, 13500, []⟩, probes := List.replicate 15 (30000, 2000) }

/-- States and operands that meet the hypotheses of every clause of TokensTravel. -/
theorem witness_TokensTravel :
    (((ring.dev 1).awake = true) ∧
      (frameValid (near (Payload.token { trav := 1, pass := 1, dirW := false, ended := false, ovl := false, h := 0, headId := Config.factoryId 0, lsum := 0, fwd := 13500, recs := [] : Token })) = true) ∧
      (((ring.dev 1).port RPort.W).st = PortState.up) ∧
      (1 ≠ 0) ∧
      ((near (Payload.token { trav := 1, pass := 1, dirW := false, ended := false, ovl := false, h := 0, headId := Config.factoryId 0, lsum := 0, fwd := 13500, recs := [] : Token })).dest = 254)) ∧
    (((at_TokensTravel_2.dev 0).awake = true) ∧
      (frameValid (near (Payload.token { trav := 1, pass := 1, dirW := false, ended := false, ovl := false, h := 1, headId := Config.factoryId 0, lsum := 0, fwd := 13500, recs := [] : Token })) = true) ∧
      (((at_TokensTravel_2.dev 0).port RPort.W).st = PortState.up) ∧
      (0 = 0) ∧
      ({ trav := 1, pass := 1, dirW := false, ended := false, ovl := false, h := 1, headId := Config.factoryId 0, lsum := 0, fwd := 13500, recs := [] : Token }.headId = Config.factoryId 0) ∧
      (at_TokensTravel_2.upWorks = true) ∧
      (at_TokensTravel_2.trv.passOpen = true) ∧
      ({ trav := 1, pass := 1, dirW := false, ended := false, ovl := false, h := 1, headId := Config.factoryId 0, lsum := 0, fwd := 13500, recs := [] : Token }.trav = at_TokensTravel_2.trv.trav) ∧
      ({ trav := 1, pass := 1, dirW := false, ended := false, ovl := false, h := 1, headId := Config.factoryId 0, lsum := 0, fwd := 13500, recs := [] : Token }.pass = at_TokensTravel_2.trv.pass)) ∧
    (((at_TokensTravel_3.dev 0).awake = true) ∧
      (frameValid (near (Payload.token { trav := 1, pass := 1, dirW := false, ended := false, ovl := false, h := 1, headId := Config.factoryId 0 + 1, lsum := 0, fwd := 13500, recs := [] : Token })) = true) ∧
      (((at_TokensTravel_3.dev 0).port RPort.W).st = PortState.up) ∧
      (0 = 0) ∧
      ({ trav := 1, pass := 1, dirW := false, ended := false, ovl := false, h := 1, headId := Config.factoryId 0 + 1, lsum := 0, fwd := 13500, recs := [] : Token }.headId ≠ Config.factoryId 0) ∧
      (at_TokensTravel_3.pw.running = true) ∧
      ((at_TokensTravel_3.dev 0).events = [])) ∧
    (((ring.dev 1).awake = true) ∧
      (frameValid (near (Payload.probe 3)) = true) ∧
      (((ring.dev 1).port RPort.W).st = PortState.up) ∧
      ((near (Payload.probe 3)).dest = 254)) ∧
    (((at_TokensTravel_5.dev 1).awake = true) ∧
      (frameValid (near (Payload.probeReply 3 9)) = true) ∧
      (((at_TokensTravel_5.dev 1).port RPort.W).st = PortState.up) ∧
      ((near (Payload.probeReply 3 9)).dest = 254) ∧
      (((at_TokensTravel_5.dev 1).port RPort.W).waiting = some { trav := 1, pass := 1, dirW := false, ended := false, ovl := false, h := 0, headId := Config.factoryId 0, lsum := 0, fwd := 13500, recs := [] : Token }) ∧
      (((at_TokensTravel_5.dev 1).port RPort.W).probes.length < 15)) ∧
    (((at_TokensTravel_6.dev 1).awake = true) ∧
      (frameValid (near (Payload.probeReply 3 9)) = true) ∧
      (((at_TokensTravel_6.dev 1).port RPort.W).st = PortState.up) ∧
      ((near (Payload.probeReply 3 9)).dest = 254) ∧
      (((at_TokensTravel_6.dev 1).port RPort.W).waiting = some { trav := 1, pass := 1, dirW := false, ended := false, ovl := false, h := 0, headId := Config.factoryId 0, lsum := 0, fwd := 13500, recs := [] : Token }) ∧
      (15 ≤ ((at_TokensTravel_6.dev 1).port RPort.W).probes.length) ∧
      (((at_TokensTravel_6.dev 1).port (rportOther RPort.W)).st = PortState.up) ∧
      ({ trav := 1, pass := 1, dirW := false, ended := false, ovl := false, h := 0, headId := Config.factoryId 0, lsum := 0, fwd := 13500, recs := [] : Token }.h + 1 ≠ 31 ∨ at_TokensTravel_6.peer 1 (rportOther RPort.W) = 0)) :=
  ⟨⟨(by decide +kernel), token_valid _ rfl, (by decide +kernel), (by decide +kernel), (by decide +kernel)⟩,
   ⟨(by decide +kernel), token_valid _ rfl, (by decide +kernel), (by decide +kernel), rfl, (by decide +kernel), (by decide +kernel), (by decide +kernel), (by decide +kernel)⟩,
   ⟨(by decide +kernel), token_valid _ rfl, (by decide +kernel), (by decide +kernel), by simp, (by decide +kernel), (by decide +kernel)⟩,
   (by decide +kernel),
   ⟨(by decide +kernel), (by decide +kernel), (by decide +kernel), (by decide +kernel), rfl, (by decide +kernel)⟩,
   ⟨(by decide +kernel), (by decide +kernel), (by decide +kernel), (by decide +kernel), rfl, (by decide +kernel), (by decide +kernel), (by decide +kernel)⟩⟩

/-- A state for TraversesStart. -/
def at_TraversesStart_1 : State := pw fun x => { x with d1 := false }

/-- A state for TraversesStart. -/
def at_TraversesStart_2 : State := dv 0 fun d => { d with role := .member, d1 := false }

/-- A state for TraversesStart. -/
def at_TraversesStart_3 : State := { ring with trv := { ring.trv with retryAt := some 58000000 } }

/-- A state for TraversesStart. -/
def at_TraversesStart_4 : State := { ring with trv := { ring.trv with trigger := true, due := true, trav := 255 } }

/-- States and operands that meet the hypotheses of every clause of TraversesStart. -/
theorem witness_TraversesStart :
    ((at_TraversesStart_1.pw.running = true) ∧
      ((at_TraversesStart_1.dev 0).awake = true) ∧
      ¬ (at_TraversesStart_1.pw.d1 = true ∧ (at_TraversesStart_1.dev 0).d1 = true)) ∧
    ((at_TraversesStart_2.pw.running = true) ∧
      ((at_TraversesStart_2.dev 0).awake = true) ∧
      ((at_TraversesStart_2.dev 0).role = Role.member) ∧
      ((at_TraversesStart_2.dev 0).pos ≠ none)) ∧
    ((at_TraversesStart_3.pw.running = true) ∧
      (at_TraversesStart_3.trv.retryAt = some 58000000)) ∧
    ((at_TraversesStart_4.pw.running = true) ∧
      (at_TraversesStart_4.pw.coreReset = none) ∧
      (at_TraversesStart_4.d1Works = true) ∧
      ((at_TraversesStart_4.dev 0).role ≠ Role.undetermined) ∧
      (at_TraversesStart_4.trv.due = true) ∧
      (at_TraversesStart_4.trv.passOpen = false) ∧
      (at_TraversesStart_4.trv.running = true ∨ at_TraversesStart_4.trv.trigger = true)) ∧
    ((ring.pw.running = true) ∧
      (ring.d1Works = true)) :=
  ⟨(by decide +kernel),
   (by decide +kernel),
   (by decide +kernel),
   (by decide +kernel),
   (by decide +kernel)⟩

/-- A state for TraversePassesEnd. -/
def at_TraversePassesEnd_1 : State := pass 5 1 none

/-- A state for TraversePassesEnd. -/
def at_TraversePassesEnd_2 : State := pass 5 1 (some (pass 5 1 none).passResult)

/-- A state for TraversePassesEnd. -/
def at_TraversePassesEnd_3 : State := pass 5 1 (some { (pass 5 1 none).passResult with n := 9 })

/-- A state for TraversePassesEnd. -/
def at_TraversePassesEnd_4 : State := (fun s => { s with trv := { s.trv with retries := 7 } }) (pass 5 1 (some { (pass 5 1 none).passResult with n := 9 }))

/-- A state for TraversePassesEnd. -/
def at_TraversePassesEnd_5 : State := (fun s => { s with trv := { s.trv with backE := s.trv.backE.map fun k => ({ k.1 with ovl := true }, k.2) } }) (pass 5 1 none)

/-- States and operands that meet the hypotheses of every clause of TraversePassesEnd. -/
theorem witness_TraversePassesEnd :
    ((at_TraversePassesEnd_1.coreUp) ∧
      ((at_TraversePassesEnd_1.dev 0).awake = true) ∧
      (at_TraversePassesEnd_1.trv.passOpen = true)) ∧
    ((at_TraversePassesEnd_2.coreUp) ∧
      ((at_TraversePassesEnd_2.dev 0).awake = true) ∧
      (at_TraversePassesEnd_2.trv.passOpen = true)) ∧
    ((at_TraversePassesEnd_3.coreUp) ∧
      ((at_TraversePassesEnd_3.dev 0).awake = true) ∧
      (at_TraversePassesEnd_3.trv.passOpen = true)) ∧
    ((at_TraversePassesEnd_4.coreUp) ∧
      ((at_TraversePassesEnd_4.dev 0).awake = true) ∧
      (at_TraversePassesEnd_4.trv.passOpen = true)) ∧
    ((at_TraversePassesEnd_5.coreUp) ∧
      ((at_TraversePassesEnd_5.dev 0).awake = true) ∧
      (at_TraversePassesEnd_5.trv.passOpen = true)) :=
  ⟨(by simp only [State.coreUp]; decide +kernel),
   (by simp only [State.coreUp]; decide +kernel),
   (by simp only [State.coreUp]; decide +kernel),
   (by simp only [State.coreUp]; decide +kernel),
   (by simp only [State.coreUp]; decide +kernel)⟩

/-- A state for BoundariesAreKept. -/
def at_BoundariesAreKept_1 : State := dv 1 fun d => { d with sawE := some 59984000, commitPend := [⟨4, 11, []⟩, ⟨5, 12, []⟩] }

/-- A state for BoundariesAreKept. -/
def at_BoundariesAreKept_2 : State := dv 1 fun d => { d with sawW := some 59984000, useW := false, flywheel := 3 }

/-- A state for BoundariesAreKept. -/
def at_BoundariesAreKept_3 : State := dv 1 fun d => { d with flywheel := 7, reactPend := [⟨0, 11, [⟨1, .calHalt⟩]⟩] }

/-- A state for BoundariesAreKept. -/
def at_BoundariesAreKept_4 : State := { ring with now := 59984500 }

/-- A state for BoundariesAreKept. -/
def at_BoundariesAreKept_5 : State := dv 1 fun d => { d with flywheel := 8 }

/-- A state for BoundariesAreKept. -/
def at_BoundariesAreKept_6 : State := dv 1 fun d => { d with prefRun := 64, useW := true }

/-- States and operands that meet the hypotheses of every clause of BoundariesAreKept. -/
theorem witness_BoundariesAreKept :
    (((at_BoundariesAreKept_1.dev 1).awake = true) ∧
      (boundaryOf (if (at_BoundariesAreKept_1.dev 1).useW = true then (at_BoundariesAreKept_1.dev 1).sawW else (at_BoundariesAreKept_1.dev 1).sawE) (if (at_BoundariesAreKept_1.dev 1).useW = true then (at_BoundariesAreKept_1.dev 1).latW else (at_BoundariesAreKept_1.dev 1).latE) = some 59999800 ∧ 0 = 0 ∧ false = (at_BoundariesAreKept_1.dev 1).useW ∨ boundaryOf (if (at_BoundariesAreKept_1.dev 1).useW = true then (at_BoundariesAreKept_1.dev 1).sawW else (at_BoundariesAreKept_1.dev 1).sawE) (if (at_BoundariesAreKept_1.dev 1).useW = true then (at_BoundariesAreKept_1.dev 1).latW else (at_BoundariesAreKept_1.dev 1).latE) = none ∧ boundaryOf (if (at_BoundariesAreKept_1.dev 1).useW = true then (at_BoundariesAreKept_1.dev 1).sawE else (at_BoundariesAreKept_1.dev 1).sawW) (if (at_BoundariesAreKept_1.dev 1).useW = true then (at_BoundariesAreKept_1.dev 1).latE else (at_BoundariesAreKept_1.dev 1).latW) = some 59999800 ∧ 0 = 1 ∧ false = !(at_BoundariesAreKept_1.dev 1).useW ∨ boundaryOf (if (at_BoundariesAreKept_1.dev 1).useW = true then (at_BoundariesAreKept_1.dev 1).sawW else (at_BoundariesAreKept_1.dev 1).sawE) (if (at_BoundariesAreKept_1.dev 1).useW = true then (at_BoundariesAreKept_1.dev 1).latW else (at_BoundariesAreKept_1.dev 1).latE) = none ∧ boundaryOf (if (at_BoundariesAreKept_1.dev 1).useW = true then (at_BoundariesAreKept_1.dev 1).sawE else (at_BoundariesAreKept_1.dev 1).sawW) (if (at_BoundariesAreKept_1.dev 1).useW = true then (at_BoundariesAreKept_1.dev 1).latE else (at_BoundariesAreKept_1.dev 1).latW) = none ∧ (at_BoundariesAreKept_1.dev 1).nextB = some 59999800 ∧ 0 = 2 ∧ false = (at_BoundariesAreKept_1.dev 1).useW) ∧
      (∀ (c : CommitMsg), c ∈ (at_BoundariesAreKept_1.dev 1).commitPend ++ (at_BoundariesAreKept_1.dev 1).reactPend → ∀ (y : Setting), y ∈ c.settings → y.val ≠ SettingVal.dormant)) ∧
    (((at_BoundariesAreKept_2.dev 1).awake = true) ∧
      (boundaryOf (if (at_BoundariesAreKept_2.dev 1).useW = true then (at_BoundariesAreKept_2.dev 1).sawW else (at_BoundariesAreKept_2.dev 1).sawE) (if (at_BoundariesAreKept_2.dev 1).useW = true then (at_BoundariesAreKept_2.dev 1).latW else (at_BoundariesAreKept_2.dev 1).latE) = some 59999700 ∧ 1 = 0 ∧ true = (at_BoundariesAreKept_2.dev 1).useW ∨ boundaryOf (if (at_BoundariesAreKept_2.dev 1).useW = true then (at_BoundariesAreKept_2.dev 1).sawW else (at_BoundariesAreKept_2.dev 1).sawE) (if (at_BoundariesAreKept_2.dev 1).useW = true then (at_BoundariesAreKept_2.dev 1).latW else (at_BoundariesAreKept_2.dev 1).latE) = none ∧ boundaryOf (if (at_BoundariesAreKept_2.dev 1).useW = true then (at_BoundariesAreKept_2.dev 1).sawE else (at_BoundariesAreKept_2.dev 1).sawW) (if (at_BoundariesAreKept_2.dev 1).useW = true then (at_BoundariesAreKept_2.dev 1).latE else (at_BoundariesAreKept_2.dev 1).latW) = some 59999700 ∧ 1 = 1 ∧ true = !(at_BoundariesAreKept_2.dev 1).useW ∨ boundaryOf (if (at_BoundariesAreKept_2.dev 1).useW = true then (at_BoundariesAreKept_2.dev 1).sawW else (at_BoundariesAreKept_2.dev 1).sawE) (if (at_BoundariesAreKept_2.dev 1).useW = true then (at_BoundariesAreKept_2.dev 1).latW else (at_BoundariesAreKept_2.dev 1).latE) = none ∧ boundaryOf (if (at_BoundariesAreKept_2.dev 1).useW = true then (at_BoundariesAreKept_2.dev 1).sawE else (at_BoundariesAreKept_2.dev 1).sawW) (if (at_BoundariesAreKept_2.dev 1).useW = true then (at_BoundariesAreKept_2.dev 1).latE else (at_BoundariesAreKept_2.dev 1).latW) = none ∧ (at_BoundariesAreKept_2.dev 1).nextB = some 59999700 ∧ 1 = 2 ∧ true = (at_BoundariesAreKept_2.dev 1).useW) ∧
      (∀ (c : CommitMsg), c ∈ (at_BoundariesAreKept_2.dev 1).commitPend ++ (at_BoundariesAreKept_2.dev 1).reactPend → ∀ (y : Setting), y ∈ c.settings → y.val ≠ SettingVal.dormant)) ∧
    (((at_BoundariesAreKept_3.dev 1).awake = true) ∧
      (boundaryOf (if (at_BoundariesAreKept_3.dev 1).useW = true then (at_BoundariesAreKept_3.dev 1).sawW else (at_BoundariesAreKept_3.dev 1).sawE) (if (at_BoundariesAreKept_3.dev 1).useW = true then (at_BoundariesAreKept_3.dev 1).latW else (at_BoundariesAreKept_3.dev 1).latE) = some 60000000 ∧ 2 = 0 ∧ false = (at_BoundariesAreKept_3.dev 1).useW ∨ boundaryOf (if (at_BoundariesAreKept_3.dev 1).useW = true then (at_BoundariesAreKept_3.dev 1).sawW else (at_BoundariesAreKept_3.dev 1).sawE) (if (at_BoundariesAreKept_3.dev 1).useW = true then (at_BoundariesAreKept_3.dev 1).latW else (at_BoundariesAreKept_3.dev 1).latE) = none ∧ boundaryOf (if (at_BoundariesAreKept_3.dev 1).useW = true then (at_BoundariesAreKept_3.dev 1).sawE else (at_BoundariesAreKept_3.dev 1).sawW) (if (at_BoundariesAreKept_3.dev 1).useW = true then (at_BoundariesAreKept_3.dev 1).latE else (at_BoundariesAreKept_3.dev 1).latW) = some 60000000 ∧ 2 = 1 ∧ false = !(at_BoundariesAreKept_3.dev 1).useW ∨ boundaryOf (if (at_BoundariesAreKept_3.dev 1).useW = true then (at_BoundariesAreKept_3.dev 1).sawW else (at_BoundariesAreKept_3.dev 1).sawE) (if (at_BoundariesAreKept_3.dev 1).useW = true then (at_BoundariesAreKept_3.dev 1).latW else (at_BoundariesAreKept_3.dev 1).latE) = none ∧ boundaryOf (if (at_BoundariesAreKept_3.dev 1).useW = true then (at_BoundariesAreKept_3.dev 1).sawE else (at_BoundariesAreKept_3.dev 1).sawW) (if (at_BoundariesAreKept_3.dev 1).useW = true then (at_BoundariesAreKept_3.dev 1).latE else (at_BoundariesAreKept_3.dev 1).latW) = none ∧ (at_BoundariesAreKept_3.dev 1).nextB = some 60000000 ∧ 2 = 2 ∧ false = (at_BoundariesAreKept_3.dev 1).useW) ∧
      (∀ (c : CommitMsg), c ∈ (at_BoundariesAreKept_3.dev 1).commitPend ++ (at_BoundariesAreKept_3.dev 1).reactPend → ∀ (y : Setting), y ∈ c.settings → y.val ≠ SettingVal.dormant)) ∧
    (((at_BoundariesAreKept_4.dev 1).awake = true) ∧
      ((at_BoundariesAreKept_4.dev 1).isHead = false) ∧
      (((at_BoundariesAreKept_4.dev 1).port RPort.E).st = PortState.up) ∧
      (((at_BoundariesAreKept_4.dev 1).port RPort.E).held = false) ∧
      ((at_BoundariesAreKept_4.dev 1).unsync = true ∨ (at_BoundariesAreKept_4.dev 1).nextB = none ∨ ∃ b, (at_BoundariesAreKept_4.dev 1).nextB = some b ∧ b + latNs (if RPort.E = RPort.E then (at_BoundariesAreKept_4.dev 1).latW else (at_BoundariesAreKept_4.dev 1).latE) ≤ at_BoundariesAreKept_4.now + 16000 + 200 ∧ at_BoundariesAreKept_4.now + 16000 ≤ b + latNs (if RPort.E = RPort.E then (at_BoundariesAreKept_4.dev 1).latW else (at_BoundariesAreKept_4.dev 1).latE) + 200)) ∧
    (((at_BoundariesAreKept_5.dev 1).awake = true) ∧
      (8 ≤ (at_BoundariesAreKept_5.dev 1).flywheel) ∧
      ((at_BoundariesAreKept_5.dev 1).unsync = false)) ∧
    (((at_BoundariesAreKept_6.dev 1).awake = true) ∧
      (64 ≤ (at_BoundariesAreKept_6.dev 1).prefRun) ∧
      ((at_BoundariesAreKept_6.dev 1).useW ≠ (at_BoundariesAreKept_6.dev 1).prefW)) :=
  ⟨(by decide +kernel),
   (by decide +kernel),
   (by decide +kernel),
   (by decide +kernel),
   (by decide +kernel),
   (by decide +kernel)⟩

/-- A state for SamplesAreTaken. -/
def at_SamplesAreTaken_2 : State := dv 0 fun d => { d with mods := modAt d.mods 26 fun m => { m with conn := some 24 } }

/-- A state for SamplesAreTaken. -/
def at_SamplesAreTaken_3 : State := dv 0 fun d => { d with ocDis := 100 }

/-- A state for SamplesAreTaken. -/
def at_SamplesAreTaken_4 : State := dv 0 fun d => { d with ocChg := 100 }

/-- States and operands that meet the hypotheses of every clause of SamplesAreTaken. -/
theorem witness_SamplesAreTaken :
    (((ring.dev 1).awake = true) ∧
      ((ring.dev 1).calibrated = true) ∧
      ((ring.dev 1).measuring = true) ∧
      ((ring.dev 1).sampleNo < periodSamples (ring.dev 1).period) ∧
      (59062500 = (ring.dev 1).lastB + ((ring.dev 1).sampleNo + 1) * 62500)) ∧
    (((at_SamplesAreTaken_2.dev 0).awake = true) ∧
      ((at_SamplesAreTaken_2.dev 0).calibrated = true) ∧
      ((at_SamplesAreTaken_2.dev 0).measuring = true) ∧
      ((at_SamplesAreTaken_2.dev 0).sampleNo < periodSamples (at_SamplesAreTaken_2.dev 0).period) ∧
      (59062500 = (at_SamplesAreTaken_2.dev 0).lastB + ((at_SamplesAreTaken_2.dev 0).sampleNo + 1) * 62500)) ∧
    (((at_SamplesAreTaken_3.dev 0).awake = true) ∧
      (0 = 0) ∧
      (at_SamplesAreTaken_3.pw.running = true) ∧
      (match Direction.discharge with | Direction.discharge => (at_SamplesAreTaken_3.dev 0).par Fld.ocN 0 ≤ (at_SamplesAreTaken_3.dev 0).ocDis ∧ (at_SamplesAreTaken_3.dev 0).ocCause.fst = false | Direction.charge => (at_SamplesAreTaken_3.dev 0).par Fld.ocN 0 ≤ (at_SamplesAreTaken_3.dev 0).ocChg ∧ (at_SamplesAreTaken_3.dev 0).ocCause.snd = false)) ∧
    (((at_SamplesAreTaken_4.dev 0).awake = true) ∧
      (0 = 0) ∧
      (at_SamplesAreTaken_4.pw.running = true) ∧
      (match Direction.charge with | Direction.discharge => (at_SamplesAreTaken_4.dev 0).par Fld.ocN 0 ≤ (at_SamplesAreTaken_4.dev 0).ocDis ∧ (at_SamplesAreTaken_4.dev 0).ocCause.fst = false | Direction.charge => (at_SamplesAreTaken_4.dev 0).par Fld.ocN 0 ≤ (at_SamplesAreTaken_4.dev 0).ocChg ∧ (at_SamplesAreTaken_4.dev 0).ocCause.snd = false)) :=
  ⟨(by decide +kernel),
   (by decide +kernel),
   (by decide +kernel),
   (by decide +kernel)⟩

/-- A state for SurveyRuns. -/
def at_SurveyRuns_1 : State := sv 1 fun v => { v with running := some ⟨0x71400, none, 59100000⟩, started := true }

/-- A state for SurveyRuns. -/
def at_SurveyRuns_2 : State := sv 1 fun v => { v with slotAt := some 59100000, spots := [⟨2, 0x71400⟩] }

/-- A state for SurveyRuns. -/
def at_SurveyRuns_3 : State := sv 1 fun v => { v with running := some ⟨0x71400, some 2, 59100000⟩, started := true, spots := [⟨2, 0x71400⟩] }

/-- States and operands that meet the hypotheses of every clause of SurveyRuns. -/
theorem witness_SurveyRuns :
    (((at_SurveyRuns_1.dev 1).awake = true) ∧
      ((at_SurveyRuns_1.dev 1).sv.running = some { entry := 463872, spotSlot := none, since := 59100000 : Running }) ∧
      ({ entry := 463872, spotSlot := none, since := 59100000 : Running }.spotSlot = none)) ∧
    (((at_SurveyRuns_2.dev 1).awake = true) ∧
      ((at_SurveyRuns_2.dev 1).sv.running = none) ∧
      ((at_SurveyRuns_2.dev 1).sv.occ = none) ∧
      ((at_SurveyRuns_2.dev 1).sv.slotAt = some 59100000) ∧
      ((at_SurveyRuns_2.dev 1).sv.spots = [{ slot := 2, entry := 463872 : SpotWait }]) ∧
      (59100000 + 1000 * eDuration { slot := 2, entry := 463872 : SpotWait }.entry + 5000 ≤ (at_SurveyRuns_2.dev 1).lastB + 1000 * periodUs (at_SurveyRuns_2.dev 1).period)) ∧
    (((at_SurveyRuns_3.dev 1).awake = true) ∧
      ((at_SurveyRuns_3.dev 1).sv.running = some { entry := 463872, spotSlot := some 2, since := 59100000 : Running }) ∧
      ({ entry := 463872, spotSlot := some 2, since := 59100000 : Running }.spotSlot = some 2)) :=
  ⟨(by decide +kernel),
   (by decide +kernel),
   (by decide +kernel)⟩

/-- A state for CalibrationRuns. -/
def at_CalibrationRuns_1 : State := dv 1 fun d => { d with calibrated := false }

/-- A state for CalibrationRuns. -/
def at_CalibrationRuns_2 : State := dv 1 fun d => { d with cover := some ⟨4, 24, 1, 10, {}⟩ }

/-- A state for CalibrationRuns. -/
def at_CalibrationRuns_3 : State := dv 1 fun d => { d with cover := some ⟨4, 24, 1, 10, {}⟩, fields := [(fieldKey Fld.convCfg 0, 0)] }

/-- A state for CalibrationRuns. -/
def at_CalibrationRuns_4 : State := dv 1 fun d => { d with rollHalt := some 5 }

/-- A state for CalibrationRuns. -/
def at_CalibrationRuns_6 : State := sv 1 fun v => { v with occ := some .recal, started := true }

/-- A state for CalibrationRuns. -/
def at_CalibrationRuns_7 : State := sv 1 fun v => { v with occ := some (.maintenance 8), test := some (test1 false 8) }

/-- A state for CalibrationRuns. -/
def at_CalibrationRuns_8 : State := sv 1 fun v => { v with occ := some .full, test := some (test1 true 0) }

/-- A state for CalibrationRuns. -/
def at_CalibrationRuns_9 : State := (fun s => { s with der := { s.der with tests := [(1, ⟨.B, 2, 77⟩)] } }) (sv 1 fun v => { v with occ := some .full, test := some (test1 true 0) })

/-- A state for CalibrationRuns. -/
def at_CalibrationRuns_10 : State := (fun s => { s with der := { s.der with tests := [(1, ⟨.B, 2, 77⟩)] } }) (sv 1 fun v => { v with occ := some (.maintenance 11), test := some (test1 false 11) })

/-- States and operands that meet the hypotheses of every clause of CalibrationRuns. -/
theorem witness_CalibrationRuns :
    (((at_CalibrationRuns_1.dev 1).awake = true) ∧
      ((at_CalibrationRuns_1.dev 1).calibrated = false)) ∧
    (((at_CalibrationRuns_2.dev 1).awake = true) ∧
      ((at_CalibrationRuns_2.dev 1).cover = some { cell := 4, rm := 24, phase := 1, calEnd := 10, old := { : Modulator } : Cover }) ∧
      ({ cell := 4, rm := 24, phase := 1, calEnd := 10, old := { : Modulator } : Cover }.phase = 1) ∧
      ({ cell := 4, rm := 24, phase := 1, calEnd := 10, old := { : Modulator } : Cover }.calEnd ≤ (at_CalibrationRuns_2.dev 1).sweep)) ∧
    (((at_CalibrationRuns_3.dev 1).awake = true) ∧
      ((at_CalibrationRuns_3.dev 1).cover = some { cell := 4, rm := 24, phase := 1, calEnd := 10, old := { : Modulator } : Cover }) ∧
      ({ cell := 4, rm := 24, phase := 1, calEnd := 10, old := { : Modulator } : Cover }.phase = 1) ∧
      ({ cell := 4, rm := 24, phase := 1, calEnd := 10, old := { : Modulator } : Cover }.calEnd ≤ (at_CalibrationRuns_3.dev 1).sweep)) ∧
    (((at_CalibrationRuns_4.dev 1).awake = true) ∧
      ((at_CalibrationRuns_4.dev 1).rollHalt = some 5)) ∧
    (((ring.dev 1).awake = true) ∧
      ((ring.dev 1).calibrated = true) ∧
      ((ring.dev 1).sv.recalDue = false)) ∧
    (((at_CalibrationRuns_6.dev 1).awake = true) ∧
      ((at_CalibrationRuns_6.dev 1).sv.occ = some Occupation.recal) ∧
      (Occupation.recal = Occupation.recal ∧ 59400000 = (at_CalibrationRuns_6.dev 1).lastB + 400000 ∨ (∃ k, Occupation.recal = Occupation.maintenance k) ∧ 59400000 = (at_CalibrationRuns_6.dev 1).lastB + 1000 * periodUs (at_CalibrationRuns_6.dev 1).period - 5000) ∧
      (59400000 = (at_CalibrationRuns_6.dev 1).lastB + 400000)) ∧
    (((at_CalibrationRuns_7.dev 1).awake = true) ∧
      ((at_CalibrationRuns_7.dev 1).sv.occ = some (Occupation.maintenance 8)) ∧
      ((at_CalibrationRuns_7.dev 1).sv.test = some (test1 false 8)) ∧
      ((test1 false 8).running = true)) ∧
    (((at_CalibrationRuns_8.dev 1).awake = true) ∧
      ((at_CalibrationRuns_8.dev 1).sv.occ = some Occupation.full) ∧
      ((at_CalibrationRuns_8.dev 1).sv.test = some (test1 true 0))) ∧
    (((at_CalibrationRuns_9.dev 1).awake = true) ∧
      (at_CalibrationRuns_9.pw.running = true) ∧
      ((at_CalibrationRuns_9.dev 1).pos = some 1) ∧
      (smapGet at_CalibrationRuns_9.der.tests 1 = some { host := HostId.B, pair := 2, tag := 77 : Asker }) ∧
      ((at_CalibrationRuns_9.port { host := HostId.B, pair := 2, tag := 77 : Asker }.host).frozen = false) ∧
      ((at_CalibrationRuns_9.port { host := HostId.B, pair := 2, tag := 77 : Asker }.host).areaUse true + 28 ≤ 8192) ∧
      ((∃ k y r, (at_CalibrationRuns_9.dev 1).sv.occ = some (Occupation.maintenance k) ∧ 11 ≤ k ∧ (at_CalibrationRuns_9.dev 1).sv.test = some y ∧ y.running = true ∧ Instr.fullSelfTestEnd 1 { steps := List.replicate 11 { pass := true, badTaps := [] : StepResult }, cal := cal1, badGates := [] : FullTest } = Instr.maintenanceSweep 1 r) ∨ ∃ y r, (at_CalibrationRuns_9.dev 1).sv.occ = some Occupation.full ∧ (at_CalibrationRuns_9.dev 1).sv.test = some y ∧ Instr.fullSelfTestEnd 1 { steps := List.replicate 11 { pass := true, badTaps := [] : StepResult }, cal := cal1, badGates := [] : FullTest } = Instr.fullSelfTestEnd 1 r) ∧
      ((at_CalibrationRuns_9.dev 1).sv.occ = some Occupation.full) ∧
      ((at_CalibrationRuns_9.dev 1).sv.test = some (test1 true 0))) ∧
    (((at_CalibrationRuns_10.dev 1).awake = true) ∧
      (at_CalibrationRuns_10.pw.running = true) ∧
      ((at_CalibrationRuns_10.dev 1).pos = some 1) ∧
      (smapGet at_CalibrationRuns_10.der.tests 1 = some { host := HostId.B, pair := 2, tag := 77 : Asker }) ∧
      ((at_CalibrationRuns_10.port { host := HostId.B, pair := 2, tag := 77 : Asker }.host).frozen = false) ∧
      ((at_CalibrationRuns_10.port { host := HostId.B, pair := 2, tag := 77 : Asker }.host).areaUse true + 28 ≤ 8192) ∧
      ((∃ k y r, (at_CalibrationRuns_10.dev 1).sv.occ = some (Occupation.maintenance k) ∧ 11 ≤ k ∧ (at_CalibrationRuns_10.dev 1).sv.test = some y ∧ y.running = true ∧ Instr.maintenanceSweep 1 { pass := true, badTaps := [] : StepResult } = Instr.maintenanceSweep 1 r) ∨ ∃ y r, (at_CalibrationRuns_10.dev 1).sv.occ = some Occupation.full ∧ (at_CalibrationRuns_10.dev 1).sv.test = some y ∧ Instr.maintenanceSweep 1 { pass := true, badTaps := [] : StepResult } = Instr.fullSelfTestEnd 1 r) ∧
      ((at_CalibrationRuns_10.dev 1).sv.occ = some (Occupation.maintenance 11)) ∧
      (11 ≤ 11) ∧
      ((at_CalibrationRuns_10.dev 1).sv.test = some (test1 false 11)) ∧
      ((test1 false 11).running = true)) :=
  ⟨(by decide +kernel),
   (by decide +kernel),
   (by decide +kernel),
   (by decide +kernel),
   (by decide +kernel),
   ⟨(by decide +kernel), (by decide +kernel), Or.inl (by decide +kernel), (by decide +kernel)⟩,
   (by decide +kernel),
   (by decide +kernel),
   ⟨(by decide +kernel), (by decide +kernel), (by decide +kernel), (by decide +kernel), (by decide +kernel), (by decide +kernel), Or.inr ⟨_, _, rfl, rfl, rfl⟩, (by decide +kernel), (by decide +kernel)⟩,
   ⟨(by decide +kernel), (by decide +kernel), (by decide +kernel), (by decide +kernel), (by decide +kernel), (by decide +kernel), Or.inl ⟨_, _, _, rfl, by decide, rfl, rfl, rfl⟩, (by decide +kernel), (by decide +kernel), (by decide +kernel), (by decide +kernel)⟩⟩

/-- A state for BleedingStops. -/
def at_BleedingStops_1 : State := cell1 3 (fun c => { c with active := true, admitted := true, remain := 500000000 }) (bleedy ring)

/-- A state for BleedingStops. -/
def at_BleedingStops_2 : State := cell1 3 (fun c => { c with active := true, admitted := true, gate := true, edgeAt := some 59002000, countedAt := 59002000, remain := 500000000 }) (bleedy ring)

/-- A state for BleedingStops. -/
def at_BleedingStops_3 : State := cell1 3 (fun c => { c with active := true, admitted := true, gate := true, edgeAt := some 59002000, countedAt := 59000100 - 100 }) { ring with now := 59000000 }

/-- A state for BleedingStops. -/
def at_BleedingStops_4 : State := cell1 3 (fun c => { c with active := true, gate := true, remain := 50 }) ring

/-- A state for BleedingStops. -/
def at_BleedingStops_5 : State := cell1 3 (fun c => { c with gateFlt := true, gateBad := true }) ring

/-- A state for BleedingStops. -/
def at_BleedingStops_6 : State := (cell1 3 (fun c => { c with active := true, gate := true, remain := 50 }) ring).modDev 1 fun d => { d with silence := some 58000000 }

/-- States and operands that meet the hypotheses of every clause of BleedingStops. -/
theorem witness_BleedingStops :
    (((at_BleedingStops_1.dev 1).awake = true) ∧
      ((at_BleedingStops_1.dev 1).measuring = true) ∧
      ((at_BleedingStops_1.dev 1).par Fld.balQuiet 0 ≠ 0) ∧
      (0 < (at_BleedingStops_1.dev 1).tc) ∧
      (59002000 = (at_BleedingStops_1.dev 1).lastB + 2000)) ∧
    (((at_BleedingStops_2.dev 1).awake = true) ∧
      ((at_BleedingStops_2.dev 1).measuring = true) ∧
      ((at_BleedingStops_2.dev 1).par Fld.balQuiet 0 ≠ 0) ∧
      (0 < (at_BleedingStops_2.dev 1).tc)) ∧
    (((at_BleedingStops_3.dev 1).awake = true) ∧
      (3 < (at_BleedingStops_3.dev 1).cells.length) ∧
      (((at_BleedingStops_3.dev 1).cell 3).active = true) ∧
      (((at_BleedingStops_3.dev 1).cell 3).remain = 0) ∧
      ((at_BleedingStops_3.dev 1).byKeyed 3 = false) ∧
      ((at_BleedingStops_3.dev 1).keyed 3 = false) ∧
      (at_BleedingStops_3.now = (at_BleedingStops_3.dev 1).lastB)) ∧
    (((at_BleedingStops_4.dev 1).awake = true) ∧
      (3 < (at_BleedingStops_4.dev 1).cells.length)) ∧
    (((at_BleedingStops_5.dev 1).awake = true) ∧
      (((at_BleedingStops_5.dev 1).cell 3).gateBad = true)) ∧
    (((at_BleedingStops_6.dev 1).awake = true) ∧
      ((at_BleedingStops_6.dev 1).silence = some 58000000)) :=
  ⟨(by decide +kernel),
   (by decide +kernel),
   (by decide +kernel),
   (by decide +kernel),
   (by decide +kernel),
   (by decide +kernel)⟩

/-- A state for SoundingsAreKeyed. -/
def at_SoundingsAreKeyed_1 : State := dv 1 fun d => { d with snd := some snd1 }

/-- A state for SoundingsAreKeyed. -/
def at_SoundingsAreKeyed_2 : State := dv 1 fun d => { d with snd := some { snd1 with edges := 9, aborted := [0] } }

/-- States and operands that meet the hypotheses of every clause of SoundingsAreKeyed. -/
theorem witness_SoundingsAreKeyed :
    (((at_SoundingsAreKeyed_1.dev 1).awake = true) ∧
      ((at_SoundingsAreKeyed_1.dev 1).snd = some snd1) ∧
      (snd1.bin = some 7) ∧
      (1 = snd1.edges + 1) ∧
      (1 < 2 * ((at_SoundingsAreKeyed_1.dev 1).par Fld.sndSettle 0 + binCycles snd1.cycles 7))) ∧
    (((at_SoundingsAreKeyed_2.dev 1).awake = true) ∧
      ((at_SoundingsAreKeyed_2.dev 1).snd = some (let __src := snd1; { cells := __src.cells, bins := __src.bins, cycles := __src.cycles, group := __src.group, bin := __src.bin, since := __src.since, edges := 9, tries := __src.tries, aborted := [0], done := __src.done, redo := __src.redo : Sounding })) ∧
      ((let __src := snd1; { cells := __src.cells, bins := __src.bins, cycles := __src.cycles, group := __src.group, bin := __src.bin, since := __src.since, edges := 9, tries := __src.tries, aborted := [0], done := __src.done, redo := __src.redo : Sounding }).bin = some 7)) :=
  ⟨(by decide +kernel),
   (by decide +kernel)⟩

/-- A state for ItemsTravel. -/
def at_ItemsTravel_1 : State := dv 1 fun d => { d with acks := [⟨0xC3, 0, .ack 3 4 0 0⟩] }

/-- A state for ItemsTravel. -/
def at_ItemsTravel_3 : State := trk fun k => { k with nextSeq := some 5 }

/-- A state for ItemsTravel. -/
def at_ItemsTravel_4 : State := trk fun k => { k with nextSeq := some 9 }

/-- A state for ItemsTravel. -/
def at_ItemsTravel_5 : State := trk fun k => { k with nextSeq := some 7 }

/-- A state for ItemsTravel. -/
def at_ItemsTravel_6 : State := trk fun k => { k with nextSeq := some 7 }

/-- A state for ItemsTravel. -/
def at_ItemsTravel_7 : State := trk fun k => { k with nextSeq := some 5, heldF := [(7, [⟨0xC5, 0, .alive⟩])] }

/-- A state for ItemsTravel. -/
def at_ItemsTravel_8 : State := { ring with swp := { ring.swp with count := some 18 } }

/-- A state for ItemsTravel. -/
def at_ItemsTravel_9 : State := { ring with der := { ring.der with spots := [none, some ⟨.B, 4, 99, 1, 0x71400, 9, 58000000, 0, false⟩, none, none] } }

/-- States and operands that meet the hypotheses of every clause of ItemsTravel. -/
theorem witness_ItemsTravel :
    (((at_ItemsTravel_1.dev 1).awake = true) ∧
      ((at_ItemsTravel_1.dev 1).pos = some 1) ∧
      ((at_ItemsTravel_1.dev 1).coreReset = none) ∧
      ((at_ItemsTravel_1.dev 1).unsync = false) ∧
      ((at_ItemsTravel_1.dev 1).nextB ≠ none) ∧
      (59025000 = (at_ItemsTravel_1.dev 1).lastB + 25000) ∧
      ((at_ItemsTravel_1.dev 1).isHead = false)) ∧
    (((ring.dev 0).awake = true) ∧
      ((ring.dev 0).pos = some 0) ∧
      ((ring.dev 0).coreReset = none) ∧
      ((ring.dev 0).unsync = false) ∧
      ((ring.dev 0).nextB ≠ none) ∧
      (59025000 = (ring.dev 0).lastB + 25000) ∧
      (0 = 0) ∧
      (ring.upWorks = true) ∧
      ((ring.dev 0).dropOld.outItems = []) ∧
      (0 < ring.poss.length)) ∧
    ((at_ItemsTravel_3.upWorks = true) ∧
      (frameValid (mkFrame 0 1 31 7 (Payload.items [{ kind := 197, tag := 0, body := ItemBody.alive : Item }])) = true) ∧
      ((mkFrame 0 1 31 7 (Payload.items [{ kind := 197, tag := 0, body := ItemBody.alive : Item }])).dest = 0) ∧
      (((at_ItemsTravel_3.dev 0).port RPort.W).carries (mkFrame 0 1 31 7 (Payload.items [{ kind := 197, tag := 0, body := ItemBody.alive : Item }])) = true) ∧
      (1 = (mkFrame 0 1 31 7 (Payload.items [{ kind := 197, tag := 0, body := ItemBody.alive : Item }])).src) ∧
      (1 ≠ 0) ∧
      (at_ItemsTravel_3.adopted 1 = true) ∧
      (1 < at_ItemsTravel_3.poss.length) ∧
      (1 ≤ [{ kind := 197, tag := 0, body := ItemBody.alive : Item }].length) ∧
      ([{ kind := 197, tag := 0, body := ItemBody.alive : Item }].length ≤ 56) ∧
      ((mkFrame 0 1 31 7 (Payload.items [{ kind := 197, tag := 0, body := ItemBody.alive : Item }])).wrap = false) ∧
      (reportsBreak [{ kind := 197, tag := 0, body := ItemBody.alive : Item }] = false) ∧
      (at_ItemsTravel_3.linkBroken = false) ∧
      (at1 5 = have __src := at_ItemsTravel_3.posTrack 1; { id := __src.id, since := __src.since, trackFrom := __src.trackFrom, nextSeq := __src.nextSeq, heldF := __src.heldF, openLoss := __src.openLoss, lastSweep := at_ItemsTravel_3.sweep, linkE := __src.linkE, linkW := __src.linkW, downE := __src.downE, downW := __src.downW, linkAt := __src.linkAt, dflags := __src.dflags, prefW := __src.prefW, latE := __src.latE, latW := __src.latW, broken := __src.broken, bench := __src.bench : PosTrack }) ∧
      (1 ≤ 2) ∧
      (2 ≤ 64) ∧
      (∀ (y : Nat × List Item), y ∈ (at1 5).heldF → y.fst ≠ 5 ∧ y.fst ≠ (mkFrame 0 1 31 7 (Payload.items [{ kind := 197, tag := 0, body := ItemBody.alive : Item }])).seq)) ∧
    ((at_ItemsTravel_4.upWorks = true) ∧
      (frameValid (mkFrame 0 1 31 7 (Payload.items [{ kind := 197, tag := 0, body := ItemBody.alive : Item }])) = true) ∧
      ((mkFrame 0 1 31 7 (Payload.items [{ kind := 197, tag := 0, body := ItemBody.alive : Item }])).dest = 0) ∧
      (((at_ItemsTravel_4.dev 0).port RPort.W).carries (mkFrame 0 1 31 7 (Payload.items [{ kind := 197, tag := 0, body := ItemBody.alive : Item }])) = true) ∧
      (1 = (mkFrame 0 1 31 7 (Payload.items [{ kind := 197, tag := 0, body := ItemBody.alive : Item }])).src) ∧
      (1 ≠ 0) ∧
      (at_ItemsTravel_4.adopted 1 = true) ∧
      (1 < at_ItemsTravel_4.poss.length) ∧
      (1 ≤ [{ kind := 197, tag := 0, body := ItemBody.alive : Item }].length) ∧
      ([{ kind := 197, tag := 0, body := ItemBody.alive : Item }].length ≤ 56) ∧
      ((mkFrame 0 1 31 7 (Payload.items [{ kind := 197, tag := 0, body := ItemBody.alive : Item }])).wrap = false) ∧
      (reportsBreak [{ kind := 197, tag := 0, body := ItemBody.alive : Item }] = false) ∧
      (at_ItemsTravel_4.linkBroken = false) ∧
      (at1 9 = have __src := at_ItemsTravel_4.posTrack 1; { id := __src.id, since := __src.since, trackFrom := __src.trackFrom, nextSeq := __src.nextSeq, heldF := __src.heldF, openLoss := __src.openLoss, lastSweep := at_ItemsTravel_4.sweep, linkE := __src.linkE, linkW := __src.linkW, downE := __src.downE, downW := __src.downW, linkAt := __src.linkAt, dflags := __src.dflags, prefW := __src.prefW, latE := __src.latE, latW := __src.latW, broken := __src.broken, bench := __src.bench : PosTrack }) ∧
      (32768 ≤ ((mkFrame 0 1 31 7 (Payload.items [{ kind := 197, tag := 0, body := ItemBody.alive : Item }])).seq + 65536 - 9) % 65536)) ∧
    ((at_ItemsTravel_5.upWorks = true) ∧
      (frameValid (mkFrame 0 1 31 7 (Payload.items [{ kind := 197, tag := 0, body := ItemBody.alive : Item }])) = true) ∧
      ((mkFrame 0 1 31 7 (Payload.items [{ kind := 197, tag := 0, body := ItemBody.alive : Item }])).dest = 0) ∧
      (((at_ItemsTravel_5.dev 0).port RPort.W).carries (mkFrame 0 1 31 7 (Payload.items [{ kind := 197, tag := 0, body := ItemBody.alive : Item }])) = true) ∧
      (1 = (mkFrame 0 1 31 7 (Payload.items [{ kind := 197, tag := 0, body := ItemBody.alive : Item }])).src) ∧
      (1 ≠ 0) ∧
      (at_ItemsTravel_5.adopted 1 = true) ∧
      (1 < at_ItemsTravel_5.poss.length) ∧
      (1 ≤ [{ kind := 197, tag := 0, body := ItemBody.alive : Item }].length) ∧
      ([{ kind := 197, tag := 0, body := ItemBody.alive : Item }].length ≤ 56) ∧
      ((mkFrame 0 1 31 7 (Payload.items [{ kind := 197, tag := 0, body := ItemBody.alive : Item }])).wrap = false) ∧
      (reportsBreak [{ kind := 197, tag := 0, body := ItemBody.alive : Item }] = false) ∧
      (at_ItemsTravel_5.linkBroken = false) ∧
      (at1 7 = have __src := at_ItemsTravel_5.posTrack 1; { id := __src.id, since := __src.since, trackFrom := __src.trackFrom, nextSeq := __src.nextSeq, heldF := __src.heldF, openLoss := __src.openLoss, lastSweep := at_ItemsTravel_5.sweep, linkE := __src.linkE, linkW := __src.linkW, downE := __src.downE, downW := __src.downW, linkAt := __src.linkAt, dflags := __src.dflags, prefW := __src.prefW, latE := __src.latE, latW := __src.latW, broken := __src.broken, bench := __src.bench : PosTrack }) ∧
      ((at1 7).nextSeq = none ∨ (at1 7).nextSeq = some (mkFrame 0 1 31 7 (Payload.items [{ kind := 197, tag := 0, body := ItemBody.alive : Item }])).seq) ∧
      ((at1 7).heldF = []) ∧
      ((at1 7).openLoss = false) ∧
      ([{ kind := 197, tag := 0, body := ItemBody.alive : Item }] = [{ kind := 197, tag := 0, body := ItemBody.alive : Item }])) ∧
    ((at_ItemsTravel_6.upWorks = true) ∧
      (frameValid (mkFrame 0 1 31 7 (Payload.items [{ kind := 3, tag := 10, body := ItemBody.entry { sum := 33000, min := 33000, max := 33000, count := 1, flags := { : Flags } : Entry } : Item }])) = true) ∧
      ((mkFrame 0 1 31 7 (Payload.items [{ kind := 3, tag := 10, body := ItemBody.entry { sum := 33000, min := 33000, max := 33000, count := 1, flags := { : Flags } : Entry } : Item }])).dest = 0) ∧
      (((at_ItemsTravel_6.dev 0).port RPort.W).carries (mkFrame 0 1 31 7 (Payload.items [{ kind := 3, tag := 10, body := ItemBody.entry { sum := 33000, min := 33000, max := 33000, count := 1, flags := { : Flags } : Entry } : Item }])) = true) ∧
      (1 = (mkFrame 0 1 31 7 (Payload.items [{ kind := 3, tag := 10, body := ItemBody.entry { sum := 33000, min := 33000, max := 33000, count := 1, flags := { : Flags } : Entry } : Item }])).src) ∧
      (1 ≠ 0) ∧
      (at_ItemsTravel_6.adopted 1 = true) ∧
      (1 < at_ItemsTravel_6.poss.length) ∧
      (1 ≤ [{ kind := 3, tag := 10, body := ItemBody.entry { sum := 33000, min := 33000, max := 33000, count := 1, flags := { : Flags } : Entry } : Item }].length) ∧
      ([{ kind := 3, tag := 10, body := ItemBody.entry { sum := 33000, min := 33000, max := 33000, count := 1, flags := { : Flags } : Entry } : Item }].length ≤ 56) ∧
      ((mkFrame 0 1 31 7 (Payload.items [{ kind := 3, tag := 10, body := ItemBody.entry { sum := 33000, min := 33000, max := 33000, count := 1, flags := { : Flags } : Entry } : Item }])).wrap = false) ∧
      (reportsBreak [{ kind := 3, tag := 10, body := ItemBody.entry { sum := 33000, min := 33000, max := 33000, count := 1, flags := { : Flags } : Entry } : Item }] = false) ∧
      (at_ItemsTravel_6.linkBroken = false) ∧
      (at1 7 = have __src := at_ItemsTravel_6.posTrack 1; { id := __src.id, since := __src.since, trackFrom := __src.trackFrom, nextSeq := __src.nextSeq, heldF := __src.heldF, openLoss := __src.openLoss, lastSweep := at_ItemsTravel_6.sweep, linkE := __src.linkE, linkW := __src.linkW, downE := __src.downE, downW := __src.downW, linkAt := __src.linkAt, dflags := __src.dflags, prefW := __src.prefW, latE := __src.latE, latW := __src.latW, broken := __src.broken, bench := __src.bench : PosTrack }) ∧
      ((at1 7).nextSeq = none ∨ (at1 7).nextSeq = some (mkFrame 0 1 31 7 (Payload.items [{ kind := 3, tag := 10, body := ItemBody.entry { sum := 33000, min := 33000, max := 33000, count := 1, flags := { : Flags } : Entry } : Item }])).seq) ∧
      ((at1 7).heldF = []) ∧
      ((at1 7).openLoss = false) ∧
      ([{ kind := 3, tag := 10, body := ItemBody.entry { sum := 33000, min := 33000, max := 33000, count := 1, flags := { : Flags } : Entry } : Item }] = [{ kind := 3, tag := at_ItemsTravel_6.sweep % 256, body := ItemBody.entry { sum := 33000, min := 33000, max := 33000, count := 1, flags := { : Flags } : Entry } : Item }]) ∧
      (3 < 192) ∧
      (1 ≤ { sum := 33000, min := 33000, max := 33000, count := 1, flags := { : Flags } : Entry }.count) ∧
      ((at_ItemsTravel_6.track (atlasIdx 1 3)).done = none) ∧
      (at_ItemsTravel_6.recPresent 1 3 = true)) ∧
    ((at_ItemsTravel_7.pw.running = true) ∧
      (1 < at_ItemsTravel_7.poss.length) ∧
      ((at_ItemsTravel_7.posTrack 1).heldF = [(7, [{ kind := 197, tag := 0, body := ItemBody.alive : Item }])]) ∧
      ((at_ItemsTravel_7.posTrack 1).nextSeq = some 5)) ∧
    ((at_ItemsTravel_8.pw.running = true) ∧
      (1 ≠ 0) ∧
      (1 < at_ItemsTravel_8.poss.length) ∧
      (at_ItemsTravel_8.adopted 1 = true) ∧
      ((at_ItemsTravel_8.posTrack 1).silent = false) ∧
      ((at_ItemsTravel_8.posTrack 1).lastSweep + 8 ≤ at_ItemsTravel_8.sweep ∨ at_ItemsTravel_8.cutOff 1 = true)) ∧
    ((at_ItemsTravel_9.pw.running = true) ∧
      (at_ItemsTravel_9.der.spots.getD 1 none = some { host := HostId.B, pair := 4, tag := 99, pos := 1, entry := 463872, acceptSweep := 9, acceptAt := 58000000, stale := 0, answered := false : SpotSlot }) ∧
      ({ host := HostId.B, pair := 4, tag := 99, pos := 1, entry := 463872, acceptSweep := 9, acceptAt := 58000000, stale := 0, answered := false : SpotSlot }.answered = false) ∧
      ((at_ItemsTravel_9.port { host := HostId.B, pair := 4, tag := 99, pos := 1, entry := 463872, acceptSweep := 9, acceptAt := 58000000, stale := 0, answered := false : SpotSlot }.host).frozen = false) ∧
      ((at_ItemsTravel_9.port { host := HostId.B, pair := 4, tag := 99, pos := 1, entry := 463872, acceptSweep := 9, acceptAt := 58000000, stale := 0, answered := false : SpotSlot }.host).areaUse true + 36 ≤ 8192)) :=
  ⟨(by decide +kernel),
   (by decide +kernel),
   (by decide +kernel),
   (by decide +kernel),
   (by decide +kernel),
   (by decide +kernel),
   (by decide +kernel),
   (by decide +kernel),
   (by decide +kernel)⟩

/-- A state for SweepsTurn. -/
def at_SweepsTurn_2 : State := swp fun x => { x with hold := true, record := some ⟨4, 11, []⟩ }

/-- A state for SweepsTurn. -/
def at_SweepsTurn_3 : State := swp fun x => { x with reactions := [⟨1, .calHalt⟩] }

/-- States and operands that meet the hypotheses of every clause of SweepsTurn. -/
theorem witness_SweepsTurn :
    ((ring.pw.running = true) ∧
      (ring.swp.hold = false)) ∧
    ((at_SweepsTurn_2.pw.running = true) ∧
      (at_SweepsTurn_2.swp.hold = true) ∧
      (at_SweepsTurn_2.swp.record = some { epoch := 4, sweep := 11, settings := [] : CommitMsg }) ∧
      (∀ (r : CommitMsg), r ∈ at_SweepsTurn_2.swp.sentRecords → r.epoch ≠ { epoch := 4, sweep := 11, settings := [] : CommitMsg }.epoch)) ∧
    ((at_SweepsTurn_3.pw.running = true) ∧
      (at_SweepsTurn_3.swp.reactCut = false) ∧
      (([{ target := 1, val := SettingVal.calHalt : Setting }], []) = splitReactions 56 at_SweepsTurn_3.swp.reactions)) ∧
    ((ring.pw.running = true) ∧
      ((ring.dev 0).awake = true) ∧
      ((ring.dev 0).isHead = true)) ∧
    ((ring.pw.running = true) ∧
      (ring.swp.landed.contains Landed.dormant = false)) ∧
    ((ring.pw.running = true) ∧
      (ring.swp.count ≠ none) ∧
      (ring.swp.deadline = false)) ∧
    ((ring.pw.running = true) ∧
      (2 ≤ 3) ∧
      (3 ≤ 5) ∧
      (ring.swp.count ≠ none)) ∧
    ((ring.pw.running = true) ∧
      ((ring.dev 1).awake = true) ∧
      (6 = 1 ∨ 6 = 6)) :=
  ⟨(by decide +kernel),
   (by decide +kernel),
   (by decide +kernel),
   (by decide +kernel),
   (by decide +kernel),
   (by decide +kernel),
   (by decide +kernel),
   (by decide +kernel)⟩

/-- A state for HeadTimersAct. -/
def at_HeadTimersAct_1 : State := { ring with ctr := { ring.ctr with pubC := 12, dC := some 58000000, tHot := some 3000, tCold := some 3000 } }

/-- A state for HeadTimersAct. -/
def at_HeadTimersAct_2 : State := { ring with ctr := { ring.ctr with pubD := 12, uD := some 58000000 } }

/-- A state for HeadTimersAct. -/
def at_HeadTimersAct_3 : State := { ring with ctr := { ring.ctr with pubD := 12, failed := some (3, 58000000) } }

/-- A state for HeadTimersAct. -/
def at_HeadTimersAct_4 : State := tuning1

/-- A state for HeadTimersAct. -/
def at_HeadTimersAct_5 : State := zeroing

/-- A state for HeadTimersAct. -/
def at_HeadTimersAct_7 : State := { tuning1 with pw := { tuning1.pw with coreReset := some (58000000, 5000000) } }

/-- A state for HeadTimersAct. -/
def at_HeadTimersAct_8 : State := { ring with leg := { ring.leg with gaz := List.replicate 1023 ⟨9, 0, 0, 0, 1, 2, 3⟩, gazPend := [⟨0, 5, 0, 0, 1, 2, 3⟩, ⟨0, 6, 0, 0, 1, 2, 3⟩], gazSeq := 1023, donePend := true } }

/-- States and operands that meet the hypotheses of every clause of HeadTimersAct. -/
theorem witness_HeadTimersAct :
    ((at_HeadTimersAct_1.coreUp) ∧
      ((at_HeadTimersAct_1.ctr.timers Direction.charge).fst = some 58000000) ∧
      (at_HeadTimersAct_1.ctr.tHot = some 3000) ∧
      (at_HeadTimersAct_1.ctr.tCold = some 3000) ∧
      (at_HeadTimersAct_1.ctr.failed = none) ∧
      (at_HeadTimersAct_1.contourDown Direction.charge 3000 3000 < at_HeadTimersAct_1.ctr.pub Direction.charge)) ∧
    ((at_HeadTimersAct_2.coreUp) ∧
      ((at_HeadTimersAct_2.ctr.timers Direction.discharge).snd = some 58000000) ∧
      (at_HeadTimersAct_2.ctr.failed = none) ∧
      (at_HeadTimersAct_2.ctr.pub Direction.discharge < 15)) ∧
    ((at_HeadTimersAct_3.coreUp) ∧
      (at_HeadTimersAct_3.ctr.failed = some (3, 58000000))) ∧
    ((at_HeadTimersAct_4.coreUp) ∧
      (at_HeadTimersAct_4.tuning = some tuning0) ∧
      (tuning0.o.method = 1) ∧
      (tuning0.o.slot < at_HeadTimersAct_4.loops.length)) ∧
    ((at_HeadTimersAct_5.coreUp) ∧
      (List.find? (fun c => decide (c.chan = 255) && c.measuring.isSome) at_HeadTimersAct_5.der.sysCal = some zero1) ∧
      (zero1.measuring = some (0, 58000000, 0)) ∧
      ((at_HeadTimersAct_5.port zero1.host).frozen = false) ∧
      (at_HeadTimersAct_5.calRefusal zero1 0 0 = 0)) ∧
    ((ring.coreUp) ∧
      (ring.tickDue = true)) ∧
    ((at_HeadTimersAct_7.pw.running = true) ∧
      (at_HeadTimersAct_7.tickDue = true) ∧
      (at_HeadTimersAct_7.pw.coreReset ≠ none)) ∧
    ((at_HeadTimersAct_8.pw.running = true) ∧
      (at_HeadTimersAct_8.leg.gazPend ≠ [] ∨ at_HeadTimersAct_8.leg.donePend = true)) :=
  ⟨(by simp only [State.coreUp]; decide +kernel),
   (by simp only [State.coreUp]; decide +kernel),
   (by simp only [State.coreUp]; decide +kernel),
   (by simp only [State.coreUp]; decide +kernel),
   (by simp only [State.coreUp]; decide +kernel),
   (by simp only [State.coreUp]; decide +kernel),
   (by decide +kernel),
   (by decide +kernel)⟩

/-- A state for ContactorsAct. -/
def at_ContactorsAct_1 : State := ch0 fun c => { c with phase := .pull, cmd := true, t0 := 59000000 }

/-- A state for ContactorsAct. -/
def at_ContactorsAct_2 : State := { (ch0 fun c => { c with phase := .pull, cmd := true, t0 := 59000000 }) with now := 59000000 + 100000000 }

/-- A state for ContactorsAct. -/
def at_ContactorsAct_3 : State := ch0 fun c => c

/-- A state for ContactorsAct. -/
def at_ContactorsAct_4 : State := ch0 fun c => { c with phase := .hold, cmd := true, kf := true }

/-- A state for ContactorsAct. -/
def at_ContactorsAct_5 : State := ch0 fun c => { c with phase := .drop, kf := true, t0 := 59000000 }

/-- A state for ContactorsAct. -/
def at_ContactorsAct_6 : State := { (ch0 fun c => { c with phase := .drop, kf := true, t0 := 59000000 }) with now := 59000000 + 1000000000 }

/-- A state for ContactorsAct. -/
def at_ContactorsAct_7 : State := ch0 fun c => { c with phase := .pull, cmd := true, t0 := 59000000 }

/-- A state for ContactorsAct. -/
def at_ContactorsAct_8 : State := ch0 fun c => { c with phase := .pull, cmd := true, kf := true, holdAt := some 60000000 }

/-- A state for ContactorsAct. -/
def at_ContactorsAct_9 : State := ch0 fun c => { c with phase := .pull, cmd := true, holdAt := some 60000000 }

/-- A state for ContactorsAct. -/
def at_ContactorsAct_10 : State := ch0 fun c => { c with phase := .drop, kf := true, t0 := 59000000 }

/-- A state for ContactorsAct. -/
def at_ContactorsAct_11 : State := ch0 fun c => { c with phase := .hold, kf := true, lowAt := some 50000000 }

/-- A state for ContactorsAct. -/
def at_ContactorsAct_12 : State := ch0 fun c => { c with highAt := some 50000000 }

/-- A state for ContactorsAct. -/
def at_ContactorsAct_13 : State := ch0 fun c => { c with phase := .hold, kf := true }

/-- A state for ContactorsAct. -/
def at_ContactorsAct_14 : State := ch0 fun c => { c with pinBad := true }

/-- A state for ContactorsAct. -/
def at_ContactorsAct_15 : State := ch0 fun c => { c with phase := .hold, kf := true }

/-- A state for ContactorsAct. -/
def at_ContactorsAct_16 : State := { ring with saf := { ring.saf with overTemp := true, lastSrc := 64 } }

/-- States and operands that meet the hypotheses of every clause of ContactorsAct. -/
theorem witness_ContactorsAct :
    ((at_ContactorsAct_1.pw.running = true) ∧
      (at_ContactorsAct_1.atRest) ∧
      (at_ContactorsAct_1.contUse 0 = true) ∧
      ((at_ContactorsAct_1.chan 0).kf = false) ∧
      ((true != bit (at_ContactorsAct_1.par Fld.contCfg 0) 1) = true) ∧
      ((at_ContactorsAct_1.chan 0).phase = Phase.pull) ∧
      (at_ContactorsAct_1.now - (at_ContactorsAct_1.chan 0).t0 < at_ContactorsAct_1.tPi 0)) ∧
    ((at_ContactorsAct_2.pw.running = true) ∧
      (at_ContactorsAct_2.atRest) ∧
      (at_ContactorsAct_2.contUse 0 = true) ∧
      ((at_ContactorsAct_2.chan 0).kf = false) ∧
      ((true != bit (at_ContactorsAct_2.par Fld.contCfg 0) 1) = true) ∧
      ((at_ContactorsAct_2.chan 0).phase = Phase.pull) ∧
      (at_ContactorsAct_2.tPi 0 ≤ at_ContactorsAct_2.now - (at_ContactorsAct_2.chan 0).t0)) ∧
    ((at_ContactorsAct_3.pw.running = true) ∧
      (at_ContactorsAct_3.atRest) ∧
      (at_ContactorsAct_3.contUse 0 = true) ∧
      ((at_ContactorsAct_3.chan 0).kf = false) ∧
      ((true != bit (at_ContactorsAct_3.par Fld.contCfg 0) 1) = true) ∧
      ((at_ContactorsAct_3.chan 0).phase = Phase.opened ∨ (at_ContactorsAct_3.chan 0).phase = Phase.blocked) ∧
      (at_ContactorsAct_3.saf.weldDue = false)) ∧
    ((at_ContactorsAct_4.pw.running = true) ∧
      (at_ContactorsAct_4.atRest) ∧
      (at_ContactorsAct_4.contUse 0 = true) ∧
      ((at_ContactorsAct_4.chan 0).kf = true) ∧
      ((false != bit (at_ContactorsAct_4.par Fld.contCfg 0) 1) = false) ∧
      ((at_ContactorsAct_4.chan 0).phase = Phase.hold)) ∧
    ((at_ContactorsAct_5.pw.running = true) ∧
      (at_ContactorsAct_5.atRest) ∧
      (at_ContactorsAct_5.contUse 0 = true) ∧
      ((at_ContactorsAct_5.chan 0).kf = true) ∧
      ((false != bit (at_ContactorsAct_5.par Fld.contCfg 0) 1) = false) ∧
      ((at_ContactorsAct_5.chan 0).phase = Phase.drop) ∧
      (at_ContactorsAct_5.now - (at_ContactorsAct_5.chan 0).t0 < at_ContactorsAct_5.tDo 0)) ∧
    ((at_ContactorsAct_6.pw.running = true) ∧
      (at_ContactorsAct_6.atRest) ∧
      (at_ContactorsAct_6.contUse 0 = true) ∧
      ((at_ContactorsAct_6.chan 0).kf = true) ∧
      ((false != bit (at_ContactorsAct_6.par Fld.contCfg 0) 1) = false) ∧
      ((at_ContactorsAct_6.chan 0).phase = Phase.drop) ∧
      (at_ContactorsAct_6.tDo 0 ≤ at_ContactorsAct_6.now - (at_ContactorsAct_6.chan 0).t0) ∧
      ((at_ContactorsAct_6.chan 0).welded = false)) ∧
    ((at_ContactorsAct_7.pw.running = true) ∧
      (at_ContactorsAct_7.atRest) ∧
      ((at_ContactorsAct_7.chan 0).phase = Phase.pull) ∧
      ((at_ContactorsAct_7.chan 0).holdAt = none)) ∧
    ((at_ContactorsAct_8.pw.running = true) ∧
      (at_ContactorsAct_8.atRest) ∧
      ((at_ContactorsAct_8.chan 0).phase = Phase.pull) ∧
      ((at_ContactorsAct_8.chan 0).holdAt = some 60000000)) ∧
    ((at_ContactorsAct_9.pw.running = true) ∧
      (at_ContactorsAct_9.atRest) ∧
      ((at_ContactorsAct_9.chan 0).phase = Phase.pull) ∧
      ((at_ContactorsAct_9.chan 0).holdAt = some 60000000)) ∧
    ((at_ContactorsAct_10.pw.running = true) ∧
      (at_ContactorsAct_10.atRest) ∧
      ((at_ContactorsAct_10.chan 0).phase = Phase.drop) ∧
      ((at_ContactorsAct_10.chan 0).welded = false)) ∧
    ((at_ContactorsAct_11.pw.running = true) ∧
      (at_ContactorsAct_11.atRest) ∧
      (at_ContactorsAct_11.contUse 0 = true) ∧
      ((at_ContactorsAct_11.chan 0).energised = true) ∧
      ((at_ContactorsAct_11.chan 0).lowAt = some 50000000)) ∧
    ((at_ContactorsAct_12.pw.running = true) ∧
      (at_ContactorsAct_12.atRest) ∧
      (at_ContactorsAct_12.contUse 0 = true) ∧
      ((at_ContactorsAct_12.chan 0).energised = false) ∧
      ((at_ContactorsAct_12.chan 0).highAt = some 50000000)) ∧
    ((at_ContactorsAct_13.pw.running = true) ∧
      (at_ContactorsAct_13.atRest) ∧
      (at_ContactorsAct_13.contUse 0 = true) ∧
      (0 < at_ContactorsAct_13.saf.ch.length)) ∧
    ((at_ContactorsAct_14.pw.running = true) ∧
      (at_ContactorsAct_14.atRest)) ∧
    ((at_ContactorsAct_15.pw.running = true) ∧
      (at_ContactorsAct_15.atRest) ∧
      (TripSource.sErr = TripSource.sErr ∨ at_ContactorsAct_15.tripBit TripSource.sErr = true)) ∧
    ((at_ContactorsAct_16.pw.running = true) ∧
      (at_ContactorsAct_16.atRest) ∧
      (TripSource.overTemp = TripSource.sErr ∨ at_ContactorsAct_16.tripBit TripSource.overTemp = true)) :=
  ⟨(by simp only [State.atRest]; decide +kernel),
   (by simp only [State.atRest]; decide +kernel),
   (by simp only [State.atRest]; decide +kernel),
   (by simp only [State.atRest]; decide +kernel),
   (by simp only [State.atRest]; decide +kernel),
   (by simp only [State.atRest]; decide +kernel),
   (by simp only [State.atRest]; decide +kernel),
   (by simp only [State.atRest]; decide +kernel),
   (by simp only [State.atRest]; decide +kernel),
   (by simp only [State.atRest]; decide +kernel),
   (by simp only [State.atRest]; decide +kernel),
   (by simp only [State.atRest]; decide +kernel),
   (by simp only [State.atRest]; decide +kernel),
   (by simp only [State.atRest]; decide +kernel),
   (by simp only [State.atRest]; decide +kernel),
   (by simp only [State.atRest]; decide +kernel)⟩

/-- A state for InputsAct. -/
def at_InputsAct_1 : State := si 0x140A fun x => { x with a := true, b := true, act := true }

/-- A state for InputsAct. -/
def at_InputsAct_2 : State := si 0x1402 fun x => { x with a := true, discAt := some 1000 }

/-- A state for InputsAct. -/
def at_InputsAct_3 : State := si 0x140A fun x => { x with a := true, discAt := some 59000000 }

/-- A state for InputsAct. -/
def at_InputsAct_4 : State := rst fun x => { x with a := true, idleBefore := true, discAt := some 59000000 }

/-- A state for InputsAct. -/
def at_InputsAct_5 : State := si 0x140A fun x => { x with a := true, discAt := some 59000000 }

/-- A state for InputsAct. -/
def at_InputsAct_6 : State := rst fun x => { x with safeAt := some 59000000 }

/-- A state for InputsAct. -/
def at_InputsAct_7 : State := rst fun x => { x with a := true, b := true, pressedAt := some 59000000 }

/-- A state for InputsAct. -/
def at_InputsAct_8 : State := { ring with saf := { ring.saf with cplAt := some 59000000 } }

/-- A state for InputsAct. -/
def at_InputsAct_9 : State := { (ses fun x => { x with st := .failed }) with saf := { ring.saf with cplAt := some 59000000 } }

/-- States and operands that meet the hypotheses of every clause of InputsAct. -/
theorem witness_InputsAct :
    ((at_InputsAct_1.pw.running = true) ∧
      (0 < at_InputsAct_1.saf.inputs.length) ∧
      (at_InputsAct_1.siActive 0 = (true, true)) ∧
      (((at_InputsAct_1.modInput 0 fun x => match SiChan.A with | SiChan.A => { b := x.b, act := x.act, disc := x.disc, rwait := x.rwait, discAt := x.discAt, wasActive := x.wasActive, skew := x.skew, accepted := x.accepted, wasAct := x.wasAct, safeAt := x.safeAt, idle := x.idle, idleBefore := x.idleBefore, pressedAt := x.pressedAt, stuck := x.stuck : SafeIn } | SiChan.B => { a := x.a, act := x.act, disc := x.disc, rwait := x.rwait, discAt := x.discAt, wasActive := x.wasActive, skew := x.skew, accepted := x.accepted, wasAct := x.wasAct, safeAt := x.safeAt, idle := x.idle, idleBefore := x.idleBefore, pressedAt := x.pressedAt, stuck := x.stuck : SafeIn }).siActive 0).fst ≠ ((at_InputsAct_1.modInput 0 fun x => match SiChan.A with | SiChan.A => { b := x.b, act := x.act, disc := x.disc, rwait := x.rwait, discAt := x.discAt, wasActive := x.wasActive, skew := x.skew, accepted := x.accepted, wasAct := x.wasAct, safeAt := x.safeAt, idle := x.idle, idleBefore := x.idleBefore, pressedAt := x.pressedAt, stuck := x.stuck : SafeIn } | SiChan.B => { a := x.a, act := x.act, disc := x.disc, rwait := x.rwait, discAt := x.discAt, wasActive := x.wasActive, skew := x.skew, accepted := x.accepted, wasAct := x.wasAct, safeAt := x.safeAt, idle := x.idle, idleBefore := x.idleBefore, pressedAt := x.pressedAt, stuck := x.stuck : SafeIn }).siActive 0).snd) ∧
      (0 < 4) ∧
      (at_InputsAct_1.siRole 0 = 1) ∧
      ((at_InputsAct_1.input 0).act = true)) ∧
    ((at_InputsAct_2.pw.running = true) ∧
      (0 < at_InputsAct_2.saf.inputs.length) ∧
      (at_InputsAct_2.siActive 0 ≠ (true, true)) ∧
      ((at_InputsAct_2.modInput 0 fun x => match SiChan.B with | SiChan.A => { a := true, b := x.b, act := x.act, disc := x.disc, rwait := x.rwait, discAt := x.discAt, wasActive := x.wasActive, skew := x.skew, accepted := x.accepted, wasAct := x.wasAct, safeAt := x.safeAt, idle := x.idle, idleBefore := x.idleBefore, pressedAt := x.pressedAt, stuck := x.stuck : SafeIn } | SiChan.B => { a := x.a, b := true, act := x.act, disc := x.disc, rwait := x.rwait, discAt := x.discAt, wasActive := x.wasActive, skew := x.skew, accepted := x.accepted, wasAct := x.wasAct, safeAt := x.safeAt, idle := x.idle, idleBefore := x.idleBefore, pressedAt := x.pressedAt, stuck := x.stuck : SafeIn }).siActive 0 = (true, true)) ∧
      ((at_InputsAct_2.input 0).discAt = some 1000) ∧
      (at_InputsAct_2.siTd 0 ≤ at_InputsAct_2.now - 1000) ∧
      (at_InputsAct_2.siRole 0 = 1) ∧
      (0 < 4)) ∧
    ((at_InputsAct_3.pw.running = true) ∧
      (0 < at_InputsAct_3.saf.inputs.length) ∧
      (at_InputsAct_3.siActive 0 ≠ (true, true)) ∧
      ((at_InputsAct_3.modInput 0 fun x => match SiChan.B with | SiChan.A => { a := true, b := x.b, act := x.act, disc := x.disc, rwait := x.rwait, discAt := x.discAt, wasActive := x.wasActive, skew := x.skew, accepted := x.accepted, wasAct := x.wasAct, safeAt := x.safeAt, idle := x.idle, idleBefore := x.idleBefore, pressedAt := x.pressedAt, stuck := x.stuck : SafeIn } | SiChan.B => { a := x.a, b := true, act := x.act, disc := x.disc, rwait := x.rwait, discAt := x.discAt, wasActive := x.wasActive, skew := x.skew, accepted := x.accepted, wasAct := x.wasAct, safeAt := x.safeAt, idle := x.idle, idleBefore := x.idleBefore, pressedAt := x.pressedAt, stuck := x.stuck : SafeIn }).siActive 0 = (true, true)) ∧
      ((at_InputsAct_3.input 0).discAt = some 59000000) ∧
      (at_InputsAct_3.now - 59000000 < at_InputsAct_3.siTd 0) ∧
      ((at_InputsAct_3.input 0).wasActive = false) ∧
      ((at_InputsAct_3.input 0).disc = false) ∧
      (0 < 4) ∧
      (at_InputsAct_3.siAuto 0 = true) ∧
      ((at_InputsAct_3.input 0).act = false)) ∧
    ((at_InputsAct_4.pw.running = true) ∧
      (4 < at_InputsAct_4.saf.inputs.length) ∧
      (at_InputsAct_4.siActive 4 ≠ (true, true)) ∧
      ((at_InputsAct_4.modInput 4 fun x => match SiChan.B with | SiChan.A => { a := true, b := x.b, act := x.act, disc := x.disc, rwait := x.rwait, discAt := x.discAt, wasActive := x.wasActive, skew := x.skew, accepted := x.accepted, wasAct := x.wasAct, safeAt := x.safeAt, idle := x.idle, idleBefore := x.idleBefore, pressedAt := x.pressedAt, stuck := x.stuck : SafeIn } | SiChan.B => { a := x.a, b := true, act := x.act, disc := x.disc, rwait := x.rwait, discAt := x.discAt, wasActive := x.wasActive, skew := x.skew, accepted := x.accepted, wasAct := x.wasAct, safeAt := x.safeAt, idle := x.idle, idleBefore := x.idleBefore, pressedAt := x.pressedAt, stuck := x.stuck : SafeIn }).siActive 4 = (true, true)) ∧
      ((at_InputsAct_4.input 4).discAt = some 59000000) ∧
      (at_InputsAct_4.now - 59000000 < at_InputsAct_4.siTd 4) ∧
      ((at_InputsAct_4.input 4).wasActive = false) ∧
      ((at_InputsAct_4.input 4).disc = false) ∧
      (4 = 4) ∧
      ((at_InputsAct_4.input 4).idleBefore = true) ∧
      ((at_InputsAct_4.input 4).act = false) ∧
      (at_InputsAct_4.tripMask = 0)) ∧
    ((at_InputsAct_5.pw.running = true) ∧
      (0 < at_InputsAct_5.saf.inputs.length) ∧
      ((at_InputsAct_5.input 0).discAt = some 59000000) ∧
      (0 < 4 ∧ at_InputsAct_5.siRole 0 = 1 ∨ 0 = 4 ∧ at_InputsAct_5.siRole 4 ≠ 2)) ∧
    ((at_InputsAct_6.pw.running = true) ∧
      (4 < at_InputsAct_6.saf.inputs.length) ∧
      ((at_InputsAct_6.input 4).safeAt = some 59000000) ∧
      (at_InputsAct_6.siNone 4 = true) ∧
      ((at_InputsAct_6.input 4).idle = false)) ∧
    ((at_InputsAct_7.pw.running = true) ∧
      (4 < at_InputsAct_7.saf.inputs.length) ∧
      ((at_InputsAct_7.input 4).pressedAt = some 59000000) ∧
      (at_InputsAct_7.siBoth 4 = true)) ∧
    ((at_InputsAct_8.pw.running = true) ∧
      (0 < at_InputsAct_8.saf.inputs.length) ∧
      (at_InputsAct_8.saf.cplAt = some 59000000) ∧
      (at_InputsAct_8.saf.coupled = false)) ∧
    ((at_InputsAct_9.pw.running = true) ∧
      (0 < at_InputsAct_9.saf.inputs.length) ∧
      (at_InputsAct_9.saf.cplAt = some 59000000) ∧
      (at_InputsAct_9.saf.coupled = false)) :=
  ⟨(by decide +kernel),
   (by decide +kernel),
   (by decide +kernel),
   (by decide +kernel),
   (by decide +kernel),
   (by decide +kernel),
   (by decide +kernel),
   (by decide +kernel),
   (by decide +kernel)⟩

/-- A state for SessionTimersAct. -/
def at_SessionTimersAct_1 : State := ses fun x => { x with st := .connecting, number := 8, sentAt := 59000000, ownSeq := 65535 }

/-- A state for SessionTimersAct. -/
def at_SessionTimersAct_2 : State := (ses fun x => { x with st := .accepted, number := 8, sentAt := 59000000 }).modQueue 31 fun q => { q with opened := true }

/-- A state for SessionTimersAct. -/
def at_SessionTimersAct_3 : State := ses fun x => { x with st := .accepted, number := 8, accAt := 59000000 }

/-- A state for SessionTimersAct. -/
def at_SessionTimersAct_4 : State := { (ses fun x => { x with st := .connecting, number := 8, firstAt := 59000000 }) with saf := { ring.saf with coupled := true } }

/-- A state for SessionTimersAct. -/
def at_SessionTimersAct_5 : State := { (ses fun x => { x with reconnectAt := some 59000000 }) with saf := { ring.saf with coupled := true } }

/-- A state for SessionTimersAct. -/
def at_SessionTimersAct_6 : State := ses fun x => { x with reconnectAt := some 59000000 }

/-- States and operands that meet the hypotheses of every clause of SessionTimersAct. -/
theorem witness_SessionTimersAct :
    ((at_SessionTimersAct_1.coreUp) ∧
      (at_SessionTimersAct_1.ses.st = SState.connecting ∧ 81 = 81 ∨ at_SessionTimersAct_1.ses.st = SState.accepted ∧ 81 = 83)) ∧
    ((at_SessionTimersAct_2.coreUp) ∧
      (at_SessionTimersAct_2.ses.st = SState.connecting ∧ 83 = 81 ∨ at_SessionTimersAct_2.ses.st = SState.accepted ∧ 83 = 83)) ∧
    ((at_SessionTimersAct_3.coreUp) ∧
      (at_SessionTimersAct_3.ses.st = SState.accepted ∧ Instr.safeFrameTimeExpectation = Instr.safeFrameTimeExpectation ∧ 6 = 6 ∧ max at_SessionTimersAct_3.now (at_SessionTimersAct_3.ses.accAt + 1000000 * at_SessionTimersAct_3.par Fld.sfTexp 0) = max at_SessionTimersAct_3.now (at_SessionTimersAct_3.ses.accAt + 1000000 * at_SessionTimersAct_3.par Fld.sfTexp 0) ∨ at_SessionTimersAct_3.ses.st = SState.connecting ∧ Instr.safeFrameTimeExpectation = Instr.safeFrameConnectLimit ∧ 6 = 7 ∧ max at_SessionTimersAct_3.now (at_SessionTimersAct_3.ses.accAt + 1000000 * at_SessionTimersAct_3.par Fld.sfTexp 0) = max at_SessionTimersAct_3.now (at_SessionTimersAct_3.ses.firstAt + 1000000000 * at_SessionTimersAct_3.par Fld.sfTcon 0)) ∧
      (at_SessionTimersAct_3.ses.st = SState.accepted)) ∧
    ((at_SessionTimersAct_4.coreUp) ∧
      (at_SessionTimersAct_4.ses.st = SState.accepted ∧ Instr.safeFrameConnectLimit = Instr.safeFrameTimeExpectation ∧ 7 = 6 ∧ max at_SessionTimersAct_4.now (at_SessionTimersAct_4.ses.firstAt + 1000000000 * at_SessionTimersAct_4.par Fld.sfTcon 0) = max at_SessionTimersAct_4.now (at_SessionTimersAct_4.ses.accAt + 1000000 * at_SessionTimersAct_4.par Fld.sfTexp 0) ∨ at_SessionTimersAct_4.ses.st = SState.connecting ∧ Instr.safeFrameConnectLimit = Instr.safeFrameConnectLimit ∧ 7 = 7 ∧ max at_SessionTimersAct_4.now (at_SessionTimersAct_4.ses.firstAt + 1000000000 * at_SessionTimersAct_4.par Fld.sfTcon 0) = max at_SessionTimersAct_4.now (at_SessionTimersAct_4.ses.firstAt + 1000000000 * at_SessionTimersAct_4.par Fld.sfTcon 0)) ∧
      (at_SessionTimersAct_4.ses.st = SState.connecting)) ∧
    ((at_SessionTimersAct_5.coreUp) ∧
      (at_SessionTimersAct_5.ses.reconnectAt = some 59000000)) ∧
    ((at_SessionTimersAct_6.coreUp) ∧
      (at_SessionTimersAct_6.ses.reconnectAt = some 59000000)) :=
  ⟨(by simp only [State.coreUp]; decide +kernel),
   (by simp only [State.coreUp]; decide +kernel),
   (by simp only [State.coreUp]; decide +kernel),
   (by simp only [State.coreUp]; decide +kernel),
   (by simp only [State.coreUp]; decide +kernel),
   (by simp only [State.coreUp]; decide +kernel)⟩

/-- A state for SentChannelsAct. -/
def at_SentChannelsAct_1 : State := sent0 fun c => { c with supply := true, good := 9, bad := 2 }

/-- A state for SentChannelsAct. -/
def at_SentChannelsAct_2 : State := sent0 fun c => { c with supply := true, bad := 2 }

/-- A state for SentChannelsAct. -/
def at_SentChannelsAct_3 : State := sent0 fun c => { c with supply := true }

/-- A state for SentChannelsAct. -/
def at_SentChannelsAct_4 : State := sent0 fun c => { c with supply := true }

/-- A state for SentChannelsAct. -/
def at_SentChannelsAct_5 : State := sent0 fun c => { c with offAt := some 59000000 }

/-- A state for SentChannelsAct. -/
def at_SentChannelsAct_6 : State := sent0 fun c => { c with onAt := some 59000000 }

/-- A state for SentChannelsAct. -/
def at_SentChannelsAct_7 : State := sent0 fun c => { c with supply := true }

/-- A state for SentChannelsAct. -/
def at_SentChannelsAct_8 : State := sent0 fun c => c

/-- States and operands that meet the hypotheses of every clause of SentChannelsAct. -/
theorem witness_SentChannelsAct :
    ((at_SentChannelsAct_1.pw.running = true) ∧
      (0 < 8) ∧
      (0 < at_SentChannelsAct_1.sent.length) ∧
      (at_SentChannelsAct_1.sentUse 0 = true) ∧
      (at_SentChannelsAct_1.sentCheck 0 (msg 2) = 0)) ∧
    ((at_SentChannelsAct_2.pw.running = true) ∧
      (0 < 8) ∧
      (0 < at_SentChannelsAct_2.sent.length) ∧
      (at_SentChannelsAct_2.sentUse 0 = true) ∧
      (at_SentChannelsAct_2.sentCheck 0 (msg 3) ≠ 0)) ∧
    ((at_SentChannelsAct_3.pw.running = true) ∧
      (0 < 8) ∧
      (0 < at_SentChannelsAct_3.sent.length) ∧
      (at_SentChannelsAct_3.sentUse 0 = true) ∧
      ((at_SentChannelsAct_3.sentCh 0).offAt = none) ∧
      (at_SentChannelsAct_3.hasCause { cls := 15, sub := 2, pos := 0, detail := 0 + 1 : Source } = false)) ∧
    ((at_SentChannelsAct_4.pw.running = true) ∧
      (0 < 8) ∧
      (0 < at_SentChannelsAct_4.sent.length) ∧
      ((at_SentChannelsAct_4.sentCh 0).supply = true)) ∧
    ((at_SentChannelsAct_5.pw.running = true) ∧
      (0 < 8) ∧
      (0 < at_SentChannelsAct_5.sent.length) ∧
      ((at_SentChannelsAct_5.sentCh 0).offAt = some 59000000)) ∧
    ((at_SentChannelsAct_6.pw.running = true) ∧
      (0 < 8) ∧
      (0 < at_SentChannelsAct_6.sent.length) ∧
      ((at_SentChannelsAct_6.sentCh 0).onAt = some 59000000)) ∧
    ((at_SentChannelsAct_7.pw.running = true) ∧
      (0 < 8) ∧
      (0 < at_SentChannelsAct_7.sent.length)) ∧
    ((at_SentChannelsAct_8.pw.running = true) ∧
      (0 < 8) ∧
      (0 < at_SentChannelsAct_8.sent.length)) :=
  ⟨(by decide +kernel),
   (by decide +kernel),
   (by decide +kernel),
   (by decide +kernel),
   (by decide +kernel),
   (by decide +kernel),
   (by decide +kernel),
   (by decide +kernel)⟩

/-- A state for RegistersAct. -/
def at_RegistersAct_1 : State := { ring with sems := some .B :: List.replicate 15 none }

/-- A state for RegistersAct. -/
def at_RegistersAct_2 : State := service .A ring

/-- A state for RegistersAct. -/
def at_RegistersAct_3 : State := service .A ring

/-- A state for RegistersAct. -/
def at_RegistersAct_4 : State := service .A ring

/-- A state for RegistersAct. -/
def at_RegistersAct_5 : State := service .A ring

/-- A state for RegistersAct. -/
def at_RegistersAct_6 : State := service .A ring

/-- A state for RegistersAct. -/
def at_RegistersAct_7 : State := service .A ring

/-- A state for RegistersAct. -/
def at_RegistersAct_9 : State := ring.modPort .A fun x => { x with flag0 := 0xFFFF, flag1 := 0xF }

/-- States and operands that meet the hypotheses of every clause of RegistersAct. -/
theorem witness_RegistersAct :
    ((at_RegistersAct_1.pw.running = true) ∧
      ((at_RegistersAct_1.port HostId.A).frozen = false)) ∧
    ((at_RegistersAct_2.pw.running = true) ∧
      ((at_RegistersAct_2.port HostId.A).frozen = false)) ∧
    ((at_RegistersAct_3.pw.running = true) ∧
      ((at_RegistersAct_3.port HostId.A).frozen = false) ∧
      (Instr.swpCtrlWrite HostId.A 2 = Instr.swpCtrlWrite HostId.A 2 ∧ 48 = 48 ∧ Landed.swpCtrl (word (swpBits (2 : Word).toNat)) = Landed.swpCtrl (word (swpBits (2 : Word).toNat)) ∧ swpRefused (2 : Word).toNat = false ∨ Instr.swpCtrlWrite HostId.A 2 = Instr.errCtrlWrite HostId.A 2 ∧ 48 = 64 ∧ Landed.swpCtrl (word (swpBits (2 : Word).toNat)) = Landed.errCtrl (word (errBits (2 : Word).toNat)) ∧ bits (2 : Word).toNat 18 16 < 5) ∧
      (swpRefused (2 : Word).toNat = false) ∧
      (at_RegistersAct_3.holds HostId.A 0 = true) ∧
      (2 ≤ at_RegistersAct_3.levelOf HostId.A) ∧
      (at_RegistersAct_3.par Fld.lockReg 0 ≠ 1)) ∧
    ((at_RegistersAct_4.pw.running = true) ∧
      ((at_RegistersAct_4.port HostId.A).frozen = false) ∧
      (Instr.errCtrlWrite HostId.A 296961 = Instr.swpCtrlWrite HostId.A 296961 ∧ 64 = 48 ∧ Landed.errCtrl (word (errBits (296961 : Word).toNat)) = Landed.swpCtrl (word (swpBits (296961 : Word).toNat)) ∧ swpRefused (296961 : Word).toNat = false ∨ Instr.errCtrlWrite HostId.A 296961 = Instr.errCtrlWrite HostId.A 296961 ∧ 64 = 64 ∧ Landed.errCtrl (word (errBits (296961 : Word).toNat)) = Landed.errCtrl (word (errBits (296961 : Word).toNat)) ∧ bits (296961 : Word).toNat 18 16 < 5) ∧
      (bits (296961 : Word).toNat 18 16 < 5) ∧
      (at_RegistersAct_4.holds HostId.A 0 = true) ∧
      (2 ≤ at_RegistersAct_4.levelOf HostId.A) ∧
      (at_RegistersAct_4.par Fld.lockReg 0 ≠ 1)) ∧
    ((at_RegistersAct_5.pw.running = true) ∧
      ((at_RegistersAct_5.port HostId.B).frozen = false) ∧
      (Instr.errCtrlWrite HostId.B 296961 = Instr.swpCtrlWrite HostId.B 296961 ∧ 64 = 48 ∧ Landed.errCtrl (word (errBits (296961 : Word).toNat)) = Landed.swpCtrl (word (swpBits (296961 : Word).toNat)) ∧ swpRefused (296961 : Word).toNat = false ∨ Instr.errCtrlWrite HostId.B 296961 = Instr.errCtrlWrite HostId.B 296961 ∧ 64 = 64 ∧ Landed.errCtrl (word (errBits (296961 : Word).toNat)) = Landed.errCtrl (word (errBits (296961 : Word).toNat)) ∧ bits (296961 : Word).toNat 18 16 < 5) ∧
      (bits (296961 : Word).toNat 18 16 < 5) ∧
      (at_RegistersAct_5.holds HostId.B 0 = false)) ∧
    ((at_RegistersAct_6.pw.running = true) ∧
      ((at_RegistersAct_6.port HostId.A).frozen = false) ∧
      (Instr.requestConfig HostId.A = Instr.requestConfig HostId.A ∧ Landed.requestConfig = Landed.requestConfig ∧ at_RegistersAct_6.pw.op ≠ OpState.locked ∧ at_RegistersAct_6.allSafe = true ∨ Instr.requestConfig HostId.A = Instr.withdrawConfig HostId.A ∧ Landed.requestConfig = Landed.withdrawConfig) ∧
      (at_RegistersAct_6.pw.op ≠ OpState.locked) ∧
      (at_RegistersAct_6.allSafe = true) ∧
      (2 ≤ at_RegistersAct_6.levelOf HostId.A) ∧
      (at_RegistersAct_6.swp.hold = false)) ∧
    ((at_RegistersAct_7.pw.running = true) ∧
      ((at_RegistersAct_7.port HostId.A).frozen = false) ∧
      (Instr.withdrawConfig HostId.A = Instr.requestConfig HostId.A ∧ Landed.withdrawConfig = Landed.requestConfig ∧ at_RegistersAct_7.pw.op ≠ OpState.locked ∧ at_RegistersAct_7.allSafe = true ∨ Instr.withdrawConfig HostId.A = Instr.withdrawConfig HostId.A ∧ Landed.withdrawConfig = Landed.withdrawConfig) ∧
      (2 ≤ at_RegistersAct_7.levelOf HostId.A) ∧
      (at_RegistersAct_7.swp.hold = false)) ∧
    ((ring.pw.running = true) ∧
      ((ring.port HostId.A).frozen = false)) ∧
    ((at_RegistersAct_9.pw.running = true) ∧
      ((at_RegistersAct_9.port HostId.A).frozen = false)) ∧
    ((ring.pw.running = true) ∧
      ((ring.port HostId.A).frozen = false) ∧
      (128 ≤ BitVec.toNat ((body [128, 0, 2, 1, 2, 3, 4, 0]).headD 0)) ∧
      ((body [128, 0, 2, 1, 2, 3, 4, 0]).length = 4 * (BitVec.toNat ((body [128, 0, 2, 1, 2, 3, 4, 0]).headD 0) % 64 + 1) + 4) ∧
      (crc8 (List.take (4 * (BitVec.toNat ((body [128, 0, 2, 1, 2, 3, 4, 0]).headD 0) % 64 + 1) + 3) (body [128, 0, 2, 1, 2, 3, 4, 0])) ≠ field (body [128, 0, 2, 1, 2, 3, 4, 0]) (4 * (BitVec.toNat ((body [128, 0, 2, 1, 2, 3, 4, 0]).headD 0) % 64 + 1) + 3) 1)) ∧
    ((ring.pw.running = true) ∧
      ((ring.port HostId.A).frozen = false) ∧
      (BitVec.toNat ((rd 2 48).headD 0) < 64) ∧
      (4 ≤ (rd 2 48).length) ∧
      (crc8 (List.take 3 (rd 2 48)) = field (rd 2 48) 3 1) ∧
      (48 = 256 * field (rd 2 48) 1 1 + field (rd 2 48) 2 1) ∧
      (3 = BitVec.toNat ((rd 2 48).headD 0) + 1) ∧
      (∀ (i : Nat), i < 3 → regMapped (48 + i) = true) ∧
      (48 + 3 ≤ 4096)) :=
  ⟨(by decide +kernel),
   (by decide +kernel),
   (by decide +kernel),
   (by decide +kernel),
   (by decide +kernel),
   (by decide +kernel),
   (by decide +kernel),
   (by decide +kernel),
   (by decide +kernel),
   (by decide +kernel),
   (by decide +kernel)⟩

/-- A state for QueuesAct. -/
def at_QueuesAct_2 : State := ring.modQueue 15 fun x => { x with words := msgHeader 1020 0x0303 false false :: List.replicate 255 0 }

/-- A state for QueuesAct. -/
def at_QueuesAct_3 : State := ring.modQueue 19 fun x => { x with words := [1, 2, 3, 4], msgs := [2, 2] }

/-- A state for QueuesAct. -/
def at_QueuesAct_4 : State := ring.modQueue 19 fun x => { x with words := [1, 2, 3, 4], msgs := [2, 2] }

/-- A state for QueuesAct. -/
def at_QueuesAct_5 : State := ring.modPort .A fun x => { x with staged := [⟨4, 0x101, false, body [1], 0⟩, ⟨3, 0x102, false, body [1, 2, 3, 4, 5], 0⟩] }

/-- A state for QueuesAct. -/
def at_QueuesAct_6 : State := service .A ring

/-- A state for QueuesAct. -/
def at_QueuesAct_8 : State := service .A ring

/-- States and operands that meet the hypotheses of every clause of QueuesAct. -/
theorem witness_QueuesAct :
    ((ring.pw.running = true) ∧
      (15 < 16) ∧
      ((ring.port HostId.A).frozen = false) ∧
      (15 = cmdQ HostId.A 15) ∧
      ([msgHeader 4 257 false false] ≠ []) ∧
      ([msgHeader 4 257 false false].length ≤ 64) ∧
      (15 < ring.queues.length) ∧
      (4 * ((ring.queue 15).words.length + [msgHeader 4 257 false false].length) ≤ 64 * (ring.queue 15).size) ∧
      (ring.pw.coreReset ≠ none ∨ headMsg ((ring.queue 15).words ++ [msgHeader 4 257 false false]) ((ring.port HostId.A).reqOf 15) = HeadMsg.partly ∨ ∃ code body n more, headMsg ((ring.queue 15).words ++ [msgHeader 4 257 false false]) ((ring.port HostId.A).reqOf 15) = HeadMsg.whole code body n false more ∧ cmdCodes.contains code = true)) ∧
    ((at_QueuesAct_2.pw.running = true) ∧
      (15 < 16) ∧
      ((at_QueuesAct_2.port HostId.A).frozen = false) ∧
      (15 = cmdQ HostId.A 15) ∧
      ([1] ≠ []) ∧
      ([1].length ≤ 64) ∧
      (15 < at_QueuesAct_2.queues.length) ∧
      (64 * (at_QueuesAct_2.queue 15).size < 4 * ((at_QueuesAct_2.queue 15).words.length + [1].length))) ∧
    ((at_QueuesAct_3.pw.running = true) ∧
      (3 < 16) ∧
      ((at_QueuesAct_3.port HostId.A).frozen = false) ∧
      (19 = rspQ HostId.A 3) ∧
      ((3 : Word).toNat ≤ (at_QueuesAct_3.queue 19).words.length)) ∧
    ((at_QueuesAct_4.pw.running = true) ∧
      (3 < 16) ∧
      ((at_QueuesAct_4.port HostId.A).frozen = false) ∧
      (19 = rspQ HostId.A 3) ∧
      (1 ≤ 2) ∧
      (2 + 2 ≤ 64) ∧
      (2 + 2 ≤ (at_QueuesAct_4.queue 19).words.length)) ∧
    ((at_QueuesAct_5.pw.running = true) ∧
      (3 < 16) ∧
      (at_QueuesAct_5.pw.coreReset = none) ∧
      ((at_QueuesAct_5.port HostId.A).frozen = false) ∧
      (19 = rspQ HostId.A 3) ∧
      (19 < at_QueuesAct_5.queues.length) ∧
      (List.find? (fun m => decide (m.pair = 3)) (at_QueuesAct_5.port HostId.A).staged = some { pair := 3, code := 258, event := false, body := body [1, 2, 3, 4, 5], placed := 0 : Staged }) ∧
      (4 * (at_QueuesAct_5.queue 19).words.length + msgBytes { pair := 3, code := 258, event := false, body := body [1, 2, 3, 4, 5], placed := 0 : Staged }.body.length ≤ 64 * (at_QueuesAct_5.queue 19).size)) ∧
    ((at_QueuesAct_6.pw.running = true) ∧
      (3 < 16)) ∧
    ((frozenB.pw.running = true) ∧
      (3 < 16) ∧
      ((frozenB.port HostId.B).frozen = true) ∧
      (Instr.semTake HostId.B 5 = Instr.semTake HostId.B 5 ∨ Instr.semTake HostId.B 5 = Instr.semGive HostId.B 5 ∨ Instr.semTake HostId.B 5 = Instr.swpCtrlWrite HostId.B 5 ∨ Instr.semTake HostId.B 5 = Instr.errCtrlWrite HostId.B 5 ∨ Instr.semTake HostId.B 5 = Instr.requestConfig HostId.B ∨ Instr.semTake HostId.B 5 = Instr.withdrawConfig HostId.B)) ∧
    ((at_QueuesAct_8.pw.running = true) ∧
      (3 < 16) ∧
      (at_QueuesAct_8.par Fld.loginTmo 0 ≠ 0) ∧
      (at_QueuesAct_8.levelOf HostId.A ≠ 0)) :=
  ⟨⟨(by decide +kernel), (by decide +kernel), (by decide +kernel), (by decide +kernel), (by decide +kernel), (by decide +kernel), (by decide +kernel), (by decide +kernel), Or.inr (Or.inl rfl)⟩,
   (by decide +kernel),
   (by decide +kernel),
   (by decide +kernel),
   (by decide +kernel),
   (by decide +kernel),
   (by decide +kernel),
   (by decide +kernel)⟩

/-- A state for HardwareFormsComplete. -/
def at_HardwareFormsComplete_1 : State := dv 0 fun d => { d with d1 := false }

/-- A state for HardwareFormsComplete. -/
def at_HardwareFormsComplete_2 : State := dv 0 fun d => { d with role := .member, d1 := false }

/-- A state for HardwareFormsComplete. -/
def at_HardwareFormsComplete_3 : State := { ring with trv := { ring.trv with retryAt := some 58000000 } }

/-- A state for HardwareFormsComplete. -/
def at_HardwareFormsComplete_5 : State := { ring with trv := { ring.trv with trigger := true, due := true, trav := 255 } }

/-- A state for HardwareFormsComplete. -/
def at_HardwareFormsComplete_6 : State := pass 5 1 none

/-- A state for HardwareFormsComplete. -/
def at_HardwareFormsComplete_8 : State := dv 1 fun d => { d with flywheel := 8 }

/-- A state for HardwareFormsComplete. -/
def at_HardwareFormsComplete_9 : State := dv 1 fun d => { d with prefRun := 64, useW := true }

/-- A state for HardwareFormsComplete. -/
def at_HardwareFormsComplete_10 : State := { ring with now := 59984500 }

/-- A state for HardwareFormsComplete. -/
def at_HardwareFormsComplete_12 : State := sv 1 fun v => { v with running := some ⟨0x71400, none, 59100000⟩, started := true }

/-- A state for HardwareFormsComplete. -/
def at_HardwareFormsComplete_13 : State := sv 1 fun v => { v with running := some ⟨0x71400, some 2, 59100000⟩, started := true, spots := [⟨2, 0x71400⟩] }

/-- A state for HardwareFormsComplete. -/
def at_HardwareFormsComplete_14 : State := sv 1 fun v => { v with slotAt := some 59100000, spots := [⟨2, 0x71400⟩] }

/-- A state for HardwareFormsComplete. -/
def at_HardwareFormsComplete_15 : State := dv 1 fun d => { d with acks := [⟨0xC3, 0, .ack 3 4 0 0⟩] }

/-- A state for HardwareFormsComplete. -/
def at_HardwareFormsComplete_16 : State := dv 1 fun d => { d with snd := some snd1 }

/-- A state for HardwareFormsComplete. -/
def at_HardwareFormsComplete_17 : State := cell1 3 (fun c => { c with active := true, admitted := true, remain := 500000000 }) ring

/-- A state for HardwareFormsComplete. -/
def at_HardwareFormsComplete_18 : State := cell1 3 (fun c => { c with active := true, admitted := true, gate := true, remain := 500000000 }) ring

/-- A state for HardwareFormsComplete. -/
def at_HardwareFormsComplete_21 : State := port1 .W fun q => { q with waiting := some ⟨1, 1, false, false, false, 0, Config.factoryId 0, 0, 13500, []⟩, probes := List.replicate 14 (1, 2) }

/-- A state for HardwareFormsComplete. -/
def at_HardwareFormsComplete_22 : State := dv 0 fun d => { d with ocDis := 100 }

/-- A state for HardwareFormsComplete. -/
def at_HardwareFormsComplete_24 : State := swp fun x => { x with hold := true, record := some ⟨4, 11, []⟩ }

/-- A state for HardwareFormsComplete. -/
def at_HardwareFormsComplete_25 : State := swp fun x => { x with reactions := [⟨1, .calHalt⟩] }

/-- A state for HardwareFormsComplete. -/
def at_HardwareFormsComplete_30 : State := { ring with der := { ring.der with spots := [none, some ⟨.B, 4, 99, 1, 0x71400, 9, 58000000, 0, false⟩, none, none] } }

/-- A state for HardwareFormsComplete. -/
def at_HardwareFormsComplete_31 : State := { ring with swp := { ring.swp with count := some 18 } }

/-- A state for HardwareFormsComplete. -/
def at_HardwareFormsComplete_32 : State := trk fun k => { k with nextSeq := some 5, heldF := [(7, [⟨0xC5, 0, .alive⟩])] }

/-- A state for HardwareFormsComplete. -/
def at_HardwareFormsComplete_33 : State := trk fun k => { k with nextSeq := none }

/-- A state for HardwareFormsComplete. -/
def at_HardwareFormsComplete_34 : State := { ring with ctr := { ring.ctr with pubC := 12, dC := some 58000000, tHot := some 3000, tCold := some 3000 } }

/-- A state for HardwareFormsComplete. -/
def at_HardwareFormsComplete_35 : State := { ring with ctr := { ring.ctr with pubD := 12, uD := some 58000000 } }

/-- A state for HardwareFormsComplete. -/
def at_HardwareFormsComplete_36 : State := { ring with ctr := { ring.ctr with pubD := 12, failed := some (3, 58000000) } }

/-- A state for HardwareFormsComplete. -/
def at_HardwareFormsComplete_37 : State := tuning1

/-- A state for HardwareFormsComplete. -/
def at_HardwareFormsComplete_38 : State := zeroing

/-- A state for HardwareFormsComplete. -/
def at_HardwareFormsComplete_40 : State := { ring with leg := { ring.leg with gazPend := [⟨0, 5, 0, 0, 1, 2, 3⟩] } }

/-- A state for HardwareFormsComplete. -/
def at_HardwareFormsComplete_41 : State := ch0 fun c => { c with phase := .pull, cmd := true, t0 := 59000000 }

/-- A state for HardwareFormsComplete. -/
def at_HardwareFormsComplete_42 : State := ch0 fun c => { c with phase := .pull, cmd := true, t0 := 59000000 }

/-- A state for HardwareFormsComplete. -/
def at_HardwareFormsComplete_43 : State := ch0 fun c => { c with phase := .pull, cmd := true, kf := true, holdAt := some 60000000 }

/-- A state for HardwareFormsComplete. -/
def at_HardwareFormsComplete_44 : State := ch0 fun c => { c with phase := .drop, kf := true, t0 := 59000000 }

/-- A state for HardwareFormsComplete. -/
def at_HardwareFormsComplete_45 : State := ch0 fun c => { c with phase := .hold, kf := true, lowAt := some 50000000 }

/-- A state for HardwareFormsComplete. -/
def at_HardwareFormsComplete_46 : State := ch0 fun c => { c with phase := .hold, kf := true }

/-- A state for HardwareFormsComplete. -/
def at_HardwareFormsComplete_47 : State := ch0 fun c => { c with pinBad := true }

/-- A state for HardwareFormsComplete. -/
def at_HardwareFormsComplete_48 : State := { contacts with saf := { contacts.saf with overTemp := true, lastSrc := 64, tripLatch := true, armed := false } }

/-- A state for HardwareFormsComplete. -/
def at_HardwareFormsComplete_49 : State := si 0x140A fun x => { x with a := true, b := true, act := true }

/-- A state for HardwareFormsComplete. -/
def at_HardwareFormsComplete_50 : State := si 0x140A fun x => { x with a := true, discAt := some 59000000 }

/-- A state for HardwareFormsComplete. -/
def at_HardwareFormsComplete_51 : State := rst fun x => { x with safeAt := some 59000000 }

/-- A state for HardwareFormsComplete. -/
def at_HardwareFormsComplete_52 : State := rst fun x => { x with a := true, b := true, pressedAt := some 59000000 }

/-- A state for HardwareFormsComplete. -/
def at_HardwareFormsComplete_53 : State := { ring with saf := { ring.saf with cplAt := some 59000000 } }

/-- A state for HardwareFormsComplete. -/
def at_HardwareFormsComplete_54 : State := ses fun x => { x with st := .connecting, number := 8, sentAt := 59000000, ownSeq := 65535 }

/-- A state for HardwareFormsComplete. -/
def at_HardwareFormsComplete_55 : State := ses fun x => { x with st := .accepted, number := 8, accAt := 59000000 }

/-- A state for HardwareFormsComplete. -/
def at_HardwareFormsComplete_56 : State := { (ses fun x => { x with st := .connecting, number := 8, firstAt := 59000000 }) with saf := { ring.saf with coupled := true } }

/-- A state for HardwareFormsComplete. -/
def at_HardwareFormsComplete_57 : State := ses fun x => { x with reconnectAt := some 59000000 }

/-- A state for HardwareFormsComplete. -/
def at_HardwareFormsComplete_58 : State := sent0 fun c => { c with supply := true, good := 9, bad := 2 }

/-- A state for HardwareFormsComplete. -/
def at_HardwareFormsComplete_59 : State := sent0 fun c => { c with supply := true }

/-- A state for HardwareFormsComplete. -/
def at_HardwareFormsComplete_60 : State := sent0 fun c => { c with supply := true }

/-- A state for HardwareFormsComplete. -/
def at_HardwareFormsComplete_61 : State := sent0 fun c => { c with offAt := some 59000000 }

/-- A state for HardwareFormsComplete. -/
def at_HardwareFormsComplete_62 : State := sent0 fun c => { c with onAt := some 59000000 }

/-- A state for HardwareFormsComplete. -/
def at_HardwareFormsComplete_63 : State := sent0 fun c => { c with supply := true }

/-- A state for HardwareFormsComplete. -/
def at_HardwareFormsComplete_64 : State := { ring with sems := some .B :: List.replicate 15 none }

/-- A state for HardwareFormsComplete. -/
def at_HardwareFormsComplete_65 : State := service .A ring

/-- A state for HardwareFormsComplete. -/
def at_HardwareFormsComplete_66 : State := service .A ring

/-- A state for HardwareFormsComplete. -/
def at_HardwareFormsComplete_67 : State := service .A ring

/-- A state for HardwareFormsComplete. -/
def at_HardwareFormsComplete_68 : State := service .A ring

/-- A state for HardwareFormsComplete. -/
def at_HardwareFormsComplete_69 : State := service .A ring

/-- A state for HardwareFormsComplete. -/
def at_HardwareFormsComplete_73 : State := ring.modQueue 19 fun x => { x with words := [1, 2, 3, 4], msgs := [2, 2] }

/-- A state for HardwareFormsComplete. -/
def at_HardwareFormsComplete_74 : State := ring.modQueue 19 fun x => { x with words := [1, 2, 3, 4], msgs := [2, 2] }

/-- A state for HardwareFormsComplete. -/
def at_HardwareFormsComplete_75 : State := ring.modPort .A fun x => { x with staged := [⟨4, 0x101, false, body [1], 0⟩, ⟨3, 0x102, false, body [1, 2, 3, 4, 5], 0⟩] }

/-- A state for HardwareFormsComplete. -/
def at_HardwareFormsComplete_76 : State := service .B frozenB

/-- A state for HardwareFormsComplete. -/
def at_HardwareFormsComplete_77 : State := service .A ring

/-- States and operands that meet the hypotheses of every clause of HardwareFormsComplete. -/
theorem witness_HardwareFormsComplete :
    ((at_HardwareFormsComplete_1.pw.running = true) ∧
      ((at_HardwareFormsComplete_1.dev 0).awake = true) ∧
      ((at_HardwareFormsComplete_1.dev 0).d1 = false)) ∧
    ((at_HardwareFormsComplete_2.pw.running = true) ∧
      ((at_HardwareFormsComplete_2.dev 0).awake = true) ∧
      ((at_HardwareFormsComplete_2.dev 0).role = Role.member) ∧
      ((at_HardwareFormsComplete_2.dev 0).pos ≠ none)) ∧
    ((at_HardwareFormsComplete_3.pw.running = true) ∧
      ((at_HardwareFormsComplete_3.dev 0).awake = true) ∧
      (at_HardwareFormsComplete_3.trv.retryAt ≠ none)) ∧
    ((ring.pw.running = true) ∧
      ((ring.dev 0).awake = true) ∧
      (ring.d1Works = true)) ∧
    ((at_HardwareFormsComplete_5.coreUp) ∧
      (at_HardwareFormsComplete_5.d1Works = true) ∧
      ((at_HardwareFormsComplete_5.dev 0).isHead = true) ∧
      (at_HardwareFormsComplete_5.trv.due = true) ∧
      (at_HardwareFormsComplete_5.trv.trigger = true) ∧
      (at_HardwareFormsComplete_5.trv.passOpen = false)) ∧
    ((at_HardwareFormsComplete_6.coreUp) ∧
      (at_HardwareFormsComplete_6.d1Works = true) ∧
      (at_HardwareFormsComplete_6.trv.passOpen = true)) ∧
    (((ring.dev 1).awake = true) ∧
      ((ring.dev 1).place = some (60000000, 2, false)) ∧
      (∀ (c : CommitMsg), c ∈ (ring.dev 1).commitPend ++ (ring.dev 1).reactPend → ∀ (y : Setting), y ∈ c.settings → y.val ≠ SettingVal.dormant)) ∧
    (((at_HardwareFormsComplete_8.dev 1).awake = true) ∧
      (8 ≤ (at_HardwareFormsComplete_8.dev 1).flywheel)) ∧
    (((at_HardwareFormsComplete_9.dev 1).awake = true) ∧
      (64 ≤ (at_HardwareFormsComplete_9.dev 1).prefRun)) ∧
    (((at_HardwareFormsComplete_10.dev 1).awake = true) ∧
      ((at_HardwareFormsComplete_10.dev 1).isHead = false) ∧
      (((at_HardwareFormsComplete_10.dev 1).port RPort.E).st = PortState.up) ∧
      (((at_HardwareFormsComplete_10.dev 1).port RPort.E).held = false) ∧
      ((at_HardwareFormsComplete_10.dev 1).accepts at_HardwareFormsComplete_10.now (decide (RPort.E = RPort.E)) = true)) ∧
    (((ring.dev 1).awake = true) ∧
      ((ring.dev 1).calibrated = true) ∧
      ((ring.dev 1).measuring = true) ∧
      ((ring.dev 1).sampleNo < periodSamples (ring.dev 1).period)) ∧
    (((at_HardwareFormsComplete_12.dev 1).awake = true) ∧
      ((at_HardwareFormsComplete_12.dev 1).sv.running = some { entry := 463872, spotSlot := none, since := 59100000 : Running }) ∧
      ({ entry := 463872, spotSlot := none, since := 59100000 : Running }.spotSlot = none)) ∧
    (((at_HardwareFormsComplete_13.dev 1).awake = true) ∧
      ((at_HardwareFormsComplete_13.dev 1).sv.running = some { entry := 463872, spotSlot := some 2, since := 59100000 : Running }) ∧
      ({ entry := 463872, spotSlot := some 2, since := 59100000 : Running }.spotSlot ≠ none)) ∧
    (((at_HardwareFormsComplete_14.dev 1).awake = true) ∧
      ((at_HardwareFormsComplete_14.dev 1).sv.running = none) ∧
      ((at_HardwareFormsComplete_14.dev 1).sv.occ = none) ∧
      ((at_HardwareFormsComplete_14.dev 1).sv.slotAt = some 59100000) ∧
      ((at_HardwareFormsComplete_14.dev 1).sv.spots = [{ slot := 2, entry := 463872 : SpotWait }]) ∧
      ((at_HardwareFormsComplete_14.dev 1).fits 59100000 { slot := 2, entry := 463872 : SpotWait }.entry = true)) ∧
    (((at_HardwareFormsComplete_15.dev 1).awake = true) ∧
      ((at_HardwareFormsComplete_15.dev 1).isHead = false) ∧
      ((at_HardwareFormsComplete_15.dev 1).pos = some 1) ∧
      ((at_HardwareFormsComplete_15.dev 1).coreReset = none) ∧
      ((at_HardwareFormsComplete_15.dev 1).unsync = false) ∧
      ((at_HardwareFormsComplete_15.dev 1).nextB ≠ none)) ∧
    (((at_HardwareFormsComplete_16.dev 1).awake = true) ∧
      ((at_HardwareFormsComplete_16.dev 1).snd = some snd1) ∧
      (snd1.bin = some 7) ∧
      (snd1.edges + 1 < 2 * ((at_HardwareFormsComplete_16.dev 1).par Fld.sndSettle 0 + binCycles snd1.cycles 7))) ∧
    (((at_HardwareFormsComplete_17.dev 1).awake = true) ∧
      ((at_HardwareFormsComplete_17.dev 1).measuring = true) ∧
      ((at_HardwareFormsComplete_17.dev 1).par Fld.balQuiet 0 ≠ 0) ∧
      ((at_HardwareFormsComplete_17.dev 1).feasible = true) ∧
      (3 < 24) ∧
      (3 < (at_HardwareFormsComplete_17.dev 1).cells.length) ∧
      ((at_HardwareFormsComplete_17.dev 1).keyed 3 = false) ∧
      (((at_HardwareFormsComplete_17.dev 1).cell 3).admitted = true) ∧
      (((at_HardwareFormsComplete_17.dev 1).cell 3).active = true)) ∧
    (((at_HardwareFormsComplete_18.dev 1).awake = true) ∧
      ((at_HardwareFormsComplete_18.dev 1).measuring = true) ∧
      ((at_HardwareFormsComplete_18.dev 1).par Fld.balQuiet 0 ≠ 0) ∧
      ((at_HardwareFormsComplete_18.dev 1).feasible = true) ∧
      (3 < 24) ∧
      (3 < (at_HardwareFormsComplete_18.dev 1).cells.length) ∧
      ((at_HardwareFormsComplete_18.dev 1).keyed 3 = false)) ∧
    (((ring.dev 1).awake = true) ∧
      (frameValid (near (Payload.token { trav := 1, pass := 1, dirW := false, ended := false, ovl := false, h := 0, headId := Config.factoryId 0, lsum := 0, fwd := 13500, recs := [] : Token })) = true) ∧
      (((ring.dev 1).port RPort.W).st = PortState.up) ∧
      ((near (Payload.token { trav := 1, pass := 1, dirW := false, ended := false, ovl := false, h := 0, headId := Config.factoryId 0, lsum := 0, fwd := 13500, recs := [] : Token })).dest = 254) ∧
      (1 ≠ 0)) ∧
    (((ring.dev 1).awake = true) ∧
      (frameValid (near (Payload.probe 3)) = true) ∧
      (((ring.dev 1).port RPort.W).st = PortState.up) ∧
      ((near (Payload.probe 3)).dest = 254)) ∧
    (((at_HardwareFormsComplete_21.dev 1).awake = true) ∧
      (frameValid (near (Payload.probeReply 3 9)) = true) ∧
      (((at_HardwareFormsComplete_21.dev 1).port RPort.W).st = PortState.up) ∧
      ((near (Payload.probeReply 3 9)).dest = 254) ∧
      (((at_HardwareFormsComplete_21.dev 1).port RPort.W).waiting = some { trav := 1, pass := 1, dirW := false, ended := false, ovl := false, h := 0, headId := Config.factoryId 0, lsum := 0, fwd := 13500, recs := [] : Token }) ∧
      (((at_HardwareFormsComplete_21.dev 1).port RPort.W).probes.length < 15)) ∧
    (((at_HardwareFormsComplete_22.dev 0).awake = true) ∧
      (0 = 0) ∧
      (at_HardwareFormsComplete_22.pw.running = true) ∧
      (match Direction.discharge with | Direction.discharge => (at_HardwareFormsComplete_22.dev 0).par Fld.ocN 0 ≤ (at_HardwareFormsComplete_22.dev 0).ocDis ∧ (at_HardwareFormsComplete_22.dev 0).ocCause.fst = false | Direction.charge => (at_HardwareFormsComplete_22.dev 0).par Fld.ocN 0 ≤ (at_HardwareFormsComplete_22.dev 0).ocChg ∧ (at_HardwareFormsComplete_22.dev 0).ocCause.snd = false)) ∧
    ((ring.pw.running = true) ∧
      (ring.swp.hold = false)) ∧
    ((at_HardwareFormsComplete_24.pw.running = true) ∧
      (at_HardwareFormsComplete_24.swp.hold = true) ∧
      (at_HardwareFormsComplete_24.swp.record = some { epoch := 4, sweep := 11, settings := [] : CommitMsg }) ∧
      (∀ (r : CommitMsg), r ∈ at_HardwareFormsComplete_24.swp.sentRecords → r.epoch ≠ { epoch := 4, sweep := 11, settings := [] : CommitMsg }.epoch)) ∧
    ((at_HardwareFormsComplete_25.pw.running = true) ∧
      (at_HardwareFormsComplete_25.swp.reactCut = false)) ∧
    ((ring.pw.running = true) ∧
      ((ring.dev 0).awake = true) ∧
      ((ring.dev 0).isHead = true)) ∧
    ((ring.pw.running = true) ∧
      (ring.swp.landed.contains Landed.dormant = false)) ∧
    ((ring.pw.running = true) ∧
      (ring.swp.count ≠ none) ∧
      (ring.swp.deadline = false)) ∧
    ((ring.pw.running = true) ∧
      (2 ≤ 3) ∧
      (3 ≤ 5) ∧
      (ring.swp.count ≠ none)) ∧
    ((at_HardwareFormsComplete_30.pw.running = true) ∧
      (at_HardwareFormsComplete_30.der.spots.getD 1 none = some { host := HostId.B, pair := 4, tag := 99, pos := 1, entry := 463872, acceptSweep := 9, acceptAt := 58000000, stale := 0, answered := false : SpotSlot }) ∧
      ({ host := HostId.B, pair := 4, tag := 99, pos := 1, entry := 463872, acceptSweep := 9, acceptAt := 58000000, stale := 0, answered := false : SpotSlot }.answered = false)) ∧
    ((at_HardwareFormsComplete_31.pw.running = true) ∧
      (1 ≠ 0) ∧
      (1 < at_HardwareFormsComplete_31.poss.length) ∧
      (at_HardwareFormsComplete_31.adopted 1 = true) ∧
      ((at_HardwareFormsComplete_31.posTrack 1).silent = false) ∧
      ((at_HardwareFormsComplete_31.posTrack 1).lastSweep + 8 ≤ at_HardwareFormsComplete_31.sweep)) ∧
    ((at_HardwareFormsComplete_32.pw.running = true) ∧
      (1 < at_HardwareFormsComplete_32.poss.length) ∧
      ((at_HardwareFormsComplete_32.posTrack 1).heldF = [(7, [{ kind := 197, tag := 0, body := ItemBody.alive : Item }])]) ∧
      ((at_HardwareFormsComplete_32.posTrack 1).nextSeq = some 5)) ∧
    ((at_HardwareFormsComplete_33.pw.running = true) ∧
      (at_HardwareFormsComplete_33.upWorks = true) ∧
      (frameValid (mkFrame 0 1 31 7 (Payload.items [{ kind := 197, tag := 0, body := ItemBody.alive : Item }])) = true) ∧
      ((mkFrame 0 1 31 7 (Payload.items [{ kind := 197, tag := 0, body := ItemBody.alive : Item }])).dest = 0) ∧
      (((at_HardwareFormsComplete_33.dev 0).port RPort.W).carries (mkFrame 0 1 31 7 (Payload.items [{ kind := 197, tag := 0, body := ItemBody.alive : Item }])) = true) ∧
      (1 = (mkFrame 0 1 31 7 (Payload.items [{ kind := 197, tag := 0, body := ItemBody.alive : Item }])).src) ∧
      (1 ≠ 0) ∧
      (at_HardwareFormsComplete_33.adopted 1 = true) ∧
      (1 < at_HardwareFormsComplete_33.poss.length) ∧
      ((mkFrame 0 1 31 7 (Payload.items [{ kind := 197, tag := 0, body := ItemBody.alive : Item }])).wrap = false) ∧
      (at_HardwareFormsComplete_33.linkBroken = false) ∧
      ((at_HardwareFormsComplete_33.posTrack 1).nextSeq = none) ∧
      ((at_HardwareFormsComplete_33.posTrack 1).heldF = []) ∧
      ((at_HardwareFormsComplete_33.posTrack 1).openLoss = false)) ∧
    ((at_HardwareFormsComplete_34.coreUp) ∧
      ((at_HardwareFormsComplete_34.ctr.timers Direction.charge).fst = some 58000000) ∧
      (at_HardwareFormsComplete_34.ctr.tHot = some 3000) ∧
      (at_HardwareFormsComplete_34.ctr.tCold = some 3000) ∧
      (at_HardwareFormsComplete_34.ctr.failed = none) ∧
      (at_HardwareFormsComplete_34.contourDown Direction.charge 3000 3000 < at_HardwareFormsComplete_34.ctr.pub Direction.charge)) ∧
    ((at_HardwareFormsComplete_35.coreUp) ∧
      ((at_HardwareFormsComplete_35.ctr.timers Direction.discharge).snd = some 58000000) ∧
      (at_HardwareFormsComplete_35.ctr.failed = none) ∧
      (at_HardwareFormsComplete_35.ctr.pub Direction.discharge < 15)) ∧
    ((at_HardwareFormsComplete_36.coreUp) ∧
      (at_HardwareFormsComplete_36.ctr.failed.isSome = true)) ∧
    ((at_HardwareFormsComplete_37.coreUp) ∧
      (at_HardwareFormsComplete_37.tuning = some tuning0) ∧
      (tuning0.o.method = 1)) ∧
    ((at_HardwareFormsComplete_38.coreUp) ∧
      (List.find? (fun c => decide (c.chan = 255) && c.measuring.isSome) at_HardwareFormsComplete_38.der.sysCal = some zero1) ∧
      (zero1.measuring = some (0, 58000000, 0)) ∧
      ((at_HardwareFormsComplete_38.port zero1.host).frozen = false) ∧
      (at_HardwareFormsComplete_38.calRefusal zero1 0 0 = 0)) ∧
    ((ring.coreUp) ∧
      (ring.tickDue = true)) ∧
    ((at_HardwareFormsComplete_40.coreUp) ∧
      (at_HardwareFormsComplete_40.leg.gazPend ≠ [])) ∧
    ((at_HardwareFormsComplete_41.pw.running = true) ∧
      (at_HardwareFormsComplete_41.atRest) ∧
      (at_HardwareFormsComplete_41.contUse 0 = true) ∧
      (0 < at_HardwareFormsComplete_41.saf.ch.length) ∧
      ((at_HardwareFormsComplete_41.chan 0).phase = Phase.pull) ∧
      ((at_HardwareFormsComplete_41.chan 0).kf = false) ∧
      ((true != bit (at_HardwareFormsComplete_41.par Fld.contCfg 0) 1) = true) ∧
      (at_HardwareFormsComplete_41.now - (at_HardwareFormsComplete_41.chan 0).t0 < at_HardwareFormsComplete_41.tPi 0)) ∧
    ((at_HardwareFormsComplete_42.pw.running = true) ∧
      (at_HardwareFormsComplete_42.atRest) ∧
      (at_HardwareFormsComplete_42.contUse 0 = true) ∧
      (0 < at_HardwareFormsComplete_42.saf.ch.length) ∧
      ((at_HardwareFormsComplete_42.chan 0).phase = Phase.pull) ∧
      ((at_HardwareFormsComplete_42.chan 0).holdAt = none)) ∧
    ((at_HardwareFormsComplete_43.pw.running = true) ∧
      (at_HardwareFormsComplete_43.atRest) ∧
      (at_HardwareFormsComplete_43.contUse 0 = true) ∧
      (0 < at_HardwareFormsComplete_43.saf.ch.length) ∧
      ((at_HardwareFormsComplete_43.chan 0).phase = Phase.pull) ∧
      ((at_HardwareFormsComplete_43.chan 0).holdAt ≠ none) ∧
      ((at_HardwareFormsComplete_43.chan 0).kf = true)) ∧
    ((at_HardwareFormsComplete_44.pw.running = true) ∧
      (at_HardwareFormsComplete_44.atRest) ∧
      (at_HardwareFormsComplete_44.contUse 0 = true) ∧
      (0 < at_HardwareFormsComplete_44.saf.ch.length) ∧
      ((at_HardwareFormsComplete_44.chan 0).phase = Phase.drop) ∧
      ((at_HardwareFormsComplete_44.chan 0).welded = false)) ∧
    ((at_HardwareFormsComplete_45.pw.running = true) ∧
      (at_HardwareFormsComplete_45.atRest) ∧
      (at_HardwareFormsComplete_45.contUse 0 = true) ∧
      (0 < at_HardwareFormsComplete_45.saf.ch.length) ∧
      ((at_HardwareFormsComplete_45.chan 0).energised = true) ∧
      ((at_HardwareFormsComplete_45.chan 0).lowAt ≠ none)) ∧
    ((at_HardwareFormsComplete_46.pw.running = true) ∧
      (at_HardwareFormsComplete_46.atRest) ∧
      (at_HardwareFormsComplete_46.contUse 0 = true) ∧
      (0 < at_HardwareFormsComplete_46.saf.ch.length)) ∧
    ((at_HardwareFormsComplete_47.pw.running = true) ∧
      (at_HardwareFormsComplete_47.atRest) ∧
      (at_HardwareFormsComplete_47.contUse 0 = true) ∧
      (0 < at_HardwareFormsComplete_47.saf.ch.length)) ∧
    ((at_HardwareFormsComplete_48.pw.running = true) ∧
      (at_HardwareFormsComplete_48.atRest) ∧
      (at_HardwareFormsComplete_48.contUse 0 = true) ∧
      (0 < at_HardwareFormsComplete_48.saf.ch.length) ∧
      (at_HardwareFormsComplete_48.tripBit TripSource.overTemp = true)) ∧
    ((at_HardwareFormsComplete_49.pw.running = true) ∧
      (0 < at_HardwareFormsComplete_49.saf.inputs.length) ∧
      (at_HardwareFormsComplete_49.siActive 0 = (true, true)) ∧
      (((at_HardwareFormsComplete_49.modInput 0 fun x => match SiChan.A with | SiChan.A => { b := x.b, act := x.act, disc := x.disc, rwait := x.rwait, discAt := x.discAt, wasActive := x.wasActive, skew := x.skew, accepted := x.accepted, wasAct := x.wasAct, safeAt := x.safeAt, idle := x.idle, idleBefore := x.idleBefore, pressedAt := x.pressedAt, stuck := x.stuck : SafeIn } | SiChan.B => { a := x.a, act := x.act, disc := x.disc, rwait := x.rwait, discAt := x.discAt, wasActive := x.wasActive, skew := x.skew, accepted := x.accepted, wasAct := x.wasAct, safeAt := x.safeAt, idle := x.idle, idleBefore := x.idleBefore, pressedAt := x.pressedAt, stuck := x.stuck : SafeIn }).siActive 0).fst ≠ ((at_HardwareFormsComplete_49.modInput 0 fun x => match SiChan.A with | SiChan.A => { b := x.b, act := x.act, disc := x.disc, rwait := x.rwait, discAt := x.discAt, wasActive := x.wasActive, skew := x.skew, accepted := x.accepted, wasAct := x.wasAct, safeAt := x.safeAt, idle := x.idle, idleBefore := x.idleBefore, pressedAt := x.pressedAt, stuck := x.stuck : SafeIn } | SiChan.B => { a := x.a, act := x.act, disc := x.disc, rwait := x.rwait, discAt := x.discAt, wasActive := x.wasActive, skew := x.skew, accepted := x.accepted, wasAct := x.wasAct, safeAt := x.safeAt, idle := x.idle, idleBefore := x.idleBefore, pressedAt := x.pressedAt, stuck := x.stuck : SafeIn }).siActive 0).snd) ∧
      (0 < 4) ∧
      (at_HardwareFormsComplete_49.siRole 0 = 1) ∧
      ((at_HardwareFormsComplete_49.input 0).act = true)) ∧
    ((at_HardwareFormsComplete_50.pw.running = true) ∧
      (0 < at_HardwareFormsComplete_50.saf.inputs.length) ∧
      ((at_HardwareFormsComplete_50.input 0).discAt = some 59000000) ∧
      (0 < 4 ∧ at_HardwareFormsComplete_50.siRole 0 = 1 ∨ 0 = 4 ∧ at_HardwareFormsComplete_50.siRole 4 ≠ 2)) ∧
    ((at_HardwareFormsComplete_51.pw.running = true) ∧
      (4 < at_HardwareFormsComplete_51.saf.inputs.length) ∧
      ((at_HardwareFormsComplete_51.input 4).safeAt = some 59000000) ∧
      (at_HardwareFormsComplete_51.siNone 4 = true) ∧
      ((at_HardwareFormsComplete_51.input 4).idle = false)) ∧
    ((at_HardwareFormsComplete_52.pw.running = true) ∧
      (4 < at_HardwareFormsComplete_52.saf.inputs.length) ∧
      ((at_HardwareFormsComplete_52.input 4).pressedAt = some 59000000) ∧
      (at_HardwareFormsComplete_52.siBoth 4 = true)) ∧
    ((at_HardwareFormsComplete_53.pw.running = true) ∧
      (0 < at_HardwareFormsComplete_53.saf.inputs.length) ∧
      (at_HardwareFormsComplete_53.saf.cplAt = some 59000000) ∧
      (at_HardwareFormsComplete_53.saf.coupled = false)) ∧
    ((at_HardwareFormsComplete_54.coreUp) ∧
      (at_HardwareFormsComplete_54.ses.st = SState.connecting ∨ at_HardwareFormsComplete_54.ses.st = SState.accepted)) ∧
    ((at_HardwareFormsComplete_55.coreUp) ∧
      (at_HardwareFormsComplete_55.ses.st = SState.accepted ∧ Instr.safeFrameTimeExpectation = Instr.safeFrameTimeExpectation ∧ 6 = 6 ∨ at_HardwareFormsComplete_55.ses.st = SState.connecting ∧ Instr.safeFrameTimeExpectation = Instr.safeFrameConnectLimit ∧ 6 = 7) ∧
      (at_HardwareFormsComplete_55.ses.st = SState.accepted)) ∧
    ((at_HardwareFormsComplete_56.coreUp) ∧
      (at_HardwareFormsComplete_56.ses.st = SState.accepted ∧ Instr.safeFrameConnectLimit = Instr.safeFrameTimeExpectation ∧ 7 = 6 ∨ at_HardwareFormsComplete_56.ses.st = SState.connecting ∧ Instr.safeFrameConnectLimit = Instr.safeFrameConnectLimit ∧ 7 = 7) ∧
      (at_HardwareFormsComplete_56.ses.st = SState.connecting)) ∧
    ((at_HardwareFormsComplete_57.coreUp) ∧
      (at_HardwareFormsComplete_57.ses.reconnectAt ≠ none)) ∧
    ((at_HardwareFormsComplete_58.pw.running = true) ∧
      (0 < 8) ∧
      (0 < at_HardwareFormsComplete_58.sent.length) ∧
      (at_HardwareFormsComplete_58.sentUse 0 = true) ∧
      (at_HardwareFormsComplete_58.sentCheck 0 (msg 2) = 0)) ∧
    ((at_HardwareFormsComplete_59.pw.running = true) ∧
      (0 < 8) ∧
      (0 < at_HardwareFormsComplete_59.sent.length) ∧
      (at_HardwareFormsComplete_59.sentUse 0 = true) ∧
      ((at_HardwareFormsComplete_59.sentCh 0).offAt = none)) ∧
    ((at_HardwareFormsComplete_60.pw.running = true) ∧
      (0 < 8) ∧
      (0 < at_HardwareFormsComplete_60.sent.length) ∧
      ((at_HardwareFormsComplete_60.sentCh 0).supply = true)) ∧
    ((at_HardwareFormsComplete_61.pw.running = true) ∧
      (0 < 8) ∧
      (0 < at_HardwareFormsComplete_61.sent.length) ∧
      ((at_HardwareFormsComplete_61.sentCh 0).offAt ≠ none)) ∧
    ((at_HardwareFormsComplete_62.pw.running = true) ∧
      (0 < 8) ∧
      (0 < at_HardwareFormsComplete_62.sent.length) ∧
      ((at_HardwareFormsComplete_62.sentCh 0).onAt ≠ none)) ∧
    ((at_HardwareFormsComplete_63.pw.running = true) ∧
      (0 < 8) ∧
      (0 < at_HardwareFormsComplete_63.sent.length)) ∧
    ((at_HardwareFormsComplete_64.pw.running = true) ∧
      ((at_HardwareFormsComplete_64.port HostId.A).frozen = false) ∧
      (1 < 16) ∧
      (1 < at_HardwareFormsComplete_64.sems.length) ∧
      ((32771 : Word).toNat.testBit 1 = true) ∧
      (at_HardwareFormsComplete_64.sems.getD 1 none = none)) ∧
    ((at_HardwareFormsComplete_65.pw.running = true) ∧
      ((at_HardwareFormsComplete_65.port HostId.A).frozen = false) ∧
      (1 < 16) ∧
      ((32770 : Word).toNat.testBit 1 = true) ∧
      (at_HardwareFormsComplete_65.sems.getD 1 none = some HostId.A)) ∧
    ((at_HardwareFormsComplete_66.pw.running = true) ∧
      ((at_HardwareFormsComplete_66.port HostId.A).frozen = false) ∧
      (at_HardwareFormsComplete_66.holds HostId.A 0 = true) ∧
      (2 ≤ at_HardwareFormsComplete_66.levelOf HostId.A) ∧
      (at_HardwareFormsComplete_66.par Fld.lockReg 0 ≠ 1) ∧
      (at_HardwareFormsComplete_66.swp.hold = false) ∧
      (swpRefused (2 : Word).toNat = false)) ∧
    ((at_HardwareFormsComplete_67.pw.running = true) ∧
      ((at_HardwareFormsComplete_67.port HostId.A).frozen = false) ∧
      (at_HardwareFormsComplete_67.holds HostId.A 0 = true) ∧
      (2 ≤ at_HardwareFormsComplete_67.levelOf HostId.A) ∧
      (at_HardwareFormsComplete_67.par Fld.lockReg 0 ≠ 1) ∧
      (at_HardwareFormsComplete_67.swp.hold = false) ∧
      (bits (296961 : Word).toNat 18 16 < 5)) ∧
    ((at_HardwareFormsComplete_68.pw.running = true) ∧
      ((at_HardwareFormsComplete_68.port HostId.A).frozen = false) ∧
      (2 ≤ at_HardwareFormsComplete_68.levelOf HostId.A) ∧
      (at_HardwareFormsComplete_68.swp.hold = false) ∧
      (at_HardwareFormsComplete_68.pw.op ≠ OpState.locked) ∧
      (at_HardwareFormsComplete_68.allSafe = true)) ∧
    ((at_HardwareFormsComplete_69.pw.running = true) ∧
      ((at_HardwareFormsComplete_69.port HostId.A).frozen = false) ∧
      (2 ≤ at_HardwareFormsComplete_69.levelOf HostId.A) ∧
      (at_HardwareFormsComplete_69.swp.hold = false)) ∧
    ((ring.pw.running = true) ∧
      ((ring.port HostId.A).frozen = false)) ∧
    ((ring.pw.running = true) ∧
      ((ring.port HostId.A).frozen = false) ∧
      (BitVec.toNat ((rd 0 48).headD 0) = 0) ∧
      ((rd 0 48).length = 12) ∧
      (crc8 (List.take 3 (rd 0 48)) = field (rd 0 48) 3 1) ∧
      (regMapped (256 * field (rd 0 48) 1 1 + field (rd 0 48) 2 1) = true)) ∧
    ((ring.pw.running = true) ∧
      ((ring.port HostId.A).frozen = false) ∧
      (3 < 16) ∧
      (3 < ring.queues.length) ∧
      (ring.pw.coreReset ≠ none ∨ headMsg ((ring.queue 3).words ++ [msgHeader 4 257 false false]) ((ring.port HostId.A).reqOf 3) = HeadMsg.partly) ∧
      (4 * ((ring.queue 3).words.length + 1) ≤ 64 * (ring.queue 3).size)) ∧
    ((at_HardwareFormsComplete_73.pw.running = true) ∧
      ((at_HardwareFormsComplete_73.port HostId.A).frozen = false) ∧
      (3 < 16) ∧
      (19 = rspQ HostId.A 3) ∧
      ((3 : Word).toNat ≤ (at_HardwareFormsComplete_73.queue 19).words.length)) ∧
    ((at_HardwareFormsComplete_74.pw.running = true) ∧
      ((at_HardwareFormsComplete_74.port HostId.A).frozen = false) ∧
      (3 < 16) ∧
      (19 = rspQ HostId.A 3) ∧
      (1 ≤ (at_HardwareFormsComplete_74.queue 19).words.length)) ∧
    ((at_HardwareFormsComplete_75.pw.running = true) ∧
      ((at_HardwareFormsComplete_75.port HostId.A).frozen = false) ∧
      (3 < 16) ∧
      (at_HardwareFormsComplete_75.pw.coreReset = none) ∧
      (19 = rspQ HostId.A 3) ∧
      (19 < at_HardwareFormsComplete_75.queues.length) ∧
      (List.find? (fun m => decide (m.pair = 3)) (at_HardwareFormsComplete_75.port HostId.A).staged = some { pair := 3, code := 258, event := false, body := body [1, 2, 3, 4, 5], placed := 0 : Staged }) ∧
      (4 * (at_HardwareFormsComplete_75.queue 19).words.length + msgBytes { pair := 3, code := 258, event := false, body := body [1, 2, 3, 4, 5], placed := 0 : Staged }.body.length ≤ 64 * (at_HardwareFormsComplete_75.queue 19).size)) ∧
    ((at_HardwareFormsComplete_76.pw.running = true) ∧
      ((at_HardwareFormsComplete_76.port HostId.A).frozen = false)) ∧
    ((at_HardwareFormsComplete_77.pw.running = true) ∧
      ((at_HardwareFormsComplete_77.port HostId.A).frozen = false) ∧
      (at_HardwareFormsComplete_77.par Fld.loginTmo 0 ≠ 0) ∧
      (at_HardwareFormsComplete_77.levelOf HostId.A ≠ 0)) :=
  ⟨(by decide +kernel),
   (by decide +kernel),
   (by decide +kernel),
   (by decide +kernel),
   (by simp only [State.coreUp]; decide +kernel),
   (by simp only [State.coreUp]; decide +kernel),
   (by decide +kernel),
   (by decide +kernel),
   (by decide +kernel),
   (by decide +kernel),
   (by decide +kernel),
   (by decide +kernel),
   (by decide +kernel),
   (by decide +kernel),
   (by decide +kernel),
   (by decide +kernel),
   (by decide +kernel),
   (by decide +kernel),
   ⟨(by decide +kernel), token_valid _ rfl, (by decide +kernel), (by decide +kernel), (by decide +kernel)⟩,
   (by decide +kernel),
   ⟨(by decide +kernel), (by decide +kernel), (by decide +kernel), (by decide +kernel), rfl, (by decide +kernel)⟩,
   (by decide +kernel),
   (by decide +kernel),
   (by decide +kernel),
   (by decide +kernel),
   (by decide +kernel),
   (by decide +kernel),
   (by decide +kernel),
   (by decide +kernel),
   (by decide +kernel),
   (by decide +kernel),
   (by decide +kernel),
   (by decide +kernel),
   (by simp only [State.coreUp]; decide +kernel),
   (by simp only [State.coreUp]; decide +kernel),
   (by simp only [State.coreUp]; decide +kernel),
   (by simp only [State.coreUp]; decide +kernel),
   (by simp only [State.coreUp]; decide +kernel),
   (by simp only [State.coreUp]; decide +kernel),
   (by simp only [State.coreUp]; decide +kernel),
   (by simp only [State.atRest]; decide +kernel),
   (by simp only [State.atRest]; decide +kernel),
   (by simp only [State.atRest]; decide +kernel),
   (by simp only [State.atRest]; decide +kernel),
   (by simp only [State.atRest]; decide +kernel),
   (by simp only [State.atRest]; decide +kernel),
   (by simp only [State.atRest]; decide +kernel),
   (by simp only [State.atRest]; decide +kernel),
   (by decide +kernel),
   (by decide +kernel),
   (by decide +kernel),
   (by decide +kernel),
   (by decide +kernel),
   (by simp only [State.coreUp]; decide +kernel),
   (by simp only [State.coreUp]; decide +kernel),
   (by simp only [State.coreUp]; decide +kernel),
   (by simp only [State.coreUp]; decide +kernel),
   (by decide +kernel),
   (by decide +kernel),
   (by decide +kernel),
   (by decide +kernel),
   (by decide +kernel),
   (by decide +kernel),
   (by decide +kernel),
   (by decide +kernel),
   (by decide +kernel),
   (by decide +kernel),
   (by decide +kernel),
   (by decide +kernel),
   (by decide +kernel),
   (by decide +kernel),
   (by decide +kernel),
   (by decide +kernel),
   (by decide +kernel),
   (by decide +kernel),
   (by decide +kernel),
   (by decide +kernel)⟩

/-! ### The well-formedness check -/

/-- Commands at the bounds of their operands are well formed. -/
theorem test_wf_bounds :
    ([
      .vsupRise,
      .sDieStart 31,
      .selfCalibrationComplete 1 cal1,
      .sweepBoundary ⟨2500, 12000, 5000, [0, 0, 0, 65535], List.replicate 8 0⟩,
      .sweepOverrun 0 6 65535,
      .fullSelfTestEnd 1 ⟨List.replicate 11 ⟨false, [24]⟩, cal1, [23]⟩,
      .sysCalMeasurementEnd 255,
      .soundingIntegrationEnd 1 [⟨1, 1, 1, 1⟩, ⟨24, 1, 1, 1⟩],
      .maskingIntervalEnd (.sentSupply 8),
      .commandWindowPush .A 0x1FFF (List.replicate 64 0),
      .itemsFrame .E (mkFrame 255 255 31 65535 (.items [])),
      .loopMode .A 15] : List Instr).all Instr.wf = true := by decide +kernel

theorem test_wf_refuses_sDieStart : Instr.wf (.sDieStart 32) = false := by decide +kernel
theorem test_wf_refuses_d1TrainsLate : Instr.wf (.d1TrainsLate 32) = false := by decide +kernel
theorem test_wf_refuses_selfCalibrationComplete_slot : Instr.wf (.selfCalibrationComplete 32 cal1) = false := by decide +kernel
theorem test_wf_refuses_selfCalibrationComplete_mods : Instr.wf (.selfCalibrationComplete 1 ⟨List.replicate 26 ⟨0, 0, 0⟩, 25, 0, 0⟩) = false := by decide +kernel
theorem test_wf_refuses_sweepBoundary_xt : Instr.wf (.sweepBoundary ⟨2500, 12000, 5000, [0, 0, 0], List.replicate 8 0⟩) = false := by decide +kernel
theorem test_wf_refuses_sweepBoundary_xt_width : Instr.wf (.sweepBoundary ⟨2500, 12000, 5000, [0, 0, 0, 65536], List.replicate 8 0⟩) = false := by decide +kernel
theorem test_wf_refuses_sweepBoundary_sp : Instr.wf (.sweepBoundary ⟨2500, 12000, 5000, [0, 0, 0, 0], List.replicate 7 0⟩) = false := by decide +kernel
theorem test_wf_refuses_localBoundary : Instr.wf (.localBoundary 32 ⟨2500, 50000⟩) = false := by decide +kernel
theorem test_wf_refuses_balanceTimerExpiry_cell : Instr.wf (.balanceTimerExpiry 0 24) = false := by decide +kernel
theorem test_wf_refuses_controlTick_inputs : Instr.wf (.controlTick [0, 0, 0, 0, 0]) = false := by decide +kernel
theorem test_wf_refuses_controlTick_width : Instr.wf (.controlTick [0, 0, 0, 0, 0, 65536]) = false := by decide +kernel
theorem test_wf_refuses_sweepOverrun_sub0 : Instr.wf (.sweepOverrun 0 0 0) = false := by decide +kernel
theorem test_wf_refuses_sweepOverrun_sub7 : Instr.wf (.sweepOverrun 0 7 0) = false := by decide +kernel
theorem test_wf_refuses_sweepOverrun_index : Instr.wf (.sweepOverrun 0 1 65536) = false := by decide +kernel
theorem test_wf_refuses_sampleComplete : Instr.wf (.sampleComplete 1 (List.replicate 26 ⟨0, .none⟩)) = false := by decide +kernel
theorem test_wf_refuses_itemsFrame_dest : Instr.wf (.itemsFrame .E (mkFrame 256 0 31 7 (.items []))) = false := by decide +kernel
theorem test_wf_refuses_itemsFrame_src : Instr.wf (.itemsFrame .E (mkFrame 0 256 31 7 (.items []))) = false := by decide +kernel
theorem test_wf_refuses_itemsFrame_hops : Instr.wf (.itemsFrame .E (mkFrame 0 5 32 7 (.items []))) = false := by decide +kernel
theorem test_wf_refuses_itemsFrame_seq : Instr.wf (.itemsFrame .E (mkFrame 0 5 31 65536 (.items []))) = false := by decide +kernel
theorem test_wf_refuses_positionSilent : Instr.wf (.positionSilent 32) = false := by decide +kernel
theorem test_wf_refuses_spotReadingComplete_none : Instr.wf (.spotReadingComplete 1 []) = false := by decide +kernel
theorem test_wf_refuses_spotReadingComplete_more : Instr.wf (.spotReadingComplete 1 (List.replicate 65 0)) = false := by decide +kernel
theorem test_wf_refuses_surveyEntryEnd : Instr.wf (.surveyEntryEnd 1 []) = false := by decide +kernel
theorem test_wf_refuses_spotResultLost : Instr.wf (.spotResultLost 4) = false := by decide +kernel
theorem test_wf_refuses_maintenanceSweep_tap : Instr.wf (.maintenanceSweep 1 ⟨true, [25]⟩) = false := by decide +kernel
theorem test_wf_refuses_fullSelfTestEnd_steps : Instr.wf (.fullSelfTestEnd 1 ⟨List.replicate 10 ⟨true, []⟩, cal1, []⟩) = false := by decide +kernel
theorem test_wf_refuses_fullSelfTestEnd_tap : Instr.wf (.fullSelfTestEnd 1 ⟨List.replicate 11 ⟨false, [25]⟩, cal1, []⟩) = false := by decide +kernel
theorem test_wf_refuses_fullSelfTestEnd_cal : Instr.wf (.fullSelfTestEnd 1 ⟨List.replicate 11 ⟨true, []⟩, ⟨[], 25, 0, 0⟩, []⟩) = false := by decide +kernel
theorem test_wf_refuses_fullSelfTestEnd_gate : Instr.wf (.fullSelfTestEnd 1 ⟨List.replicate 11 ⟨true, []⟩, cal1, [24]⟩) = false := by decide +kernel
theorem test_wf_refuses_sentMessage_input : Instr.wf (.sentMessage 8 (msg 0)) = false := by decide +kernel
theorem test_wf_refuses_sentMessage_cal : Instr.wf (.sentMessage 0 ⟨0, [], none⟩) = false := by decide +kernel
theorem test_wf_refuses_sysCalMeasurementEnd : Instr.wf (.sysCalMeasurementEnd 16) = false := by decide +kernel
theorem test_wf_refuses_soundingIntegrationEnd_cell0 : Instr.wf (.soundingIntegrationEnd 1 [⟨0, 1, 1, 1⟩]) = false := by decide +kernel
theorem test_wf_refuses_soundingIntegrationEnd_cell25 : Instr.wf (.soundingIntegrationEnd 1 [⟨25, 1, 1, 1⟩]) = false := by decide +kernel
theorem test_wf_refuses_gateFault : Instr.wf (.gateFault 1 24 .differs) = false := by decide +kernel
theorem test_wf_refuses_maskingIntervalEnd_supply0 : Instr.wf (.maskingIntervalEnd (.sentSupply 0)) = false := by decide +kernel
theorem test_wf_refuses_maskingIntervalEnd_supply9 : Instr.wf (.maskingIntervalEnd (.sentSupply 9)) = false := by decide +kernel
theorem test_wf_refuses_maskingIntervalEnd_core : Instr.wf (.maskingIntervalEnd (.sDieCore 32)) = false := by decide +kernel
theorem test_wf_refuses_kfRecognised : Instr.wf (.kfRecognised 6 true) = false := by decide +kernel
theorem test_wf_refuses_tripSourceAssert : Instr.wf (.tripSourceAssert (.input 4)) = false := by decide +kernel
theorem test_wf_refuses_safetyChannelRecognised : Instr.wf (.safetyChannelRecognised 5 .A true) = false := by decide +kernel
theorem test_wf_refuses_linkDegraded : Instr.wf (.linkDegraded 1 .E 4294967296) = false := by decide +kernel
theorem test_wf_refuses_probe : Instr.wf (.probe 1 .E (near (.probe 5)) 4294967296) = false := by decide +kernel
theorem test_wf_refuses_probeReply : Instr.wf (.probeReply 1 .E (near (.probeReply 5 9)) 4294967296) = false := by decide +kernel
theorem test_wf_refuses_commandWindowPush_low : Instr.wf (.commandWindowPush .A 0xFFF [0]) = false := by decide +kernel
theorem test_wf_refuses_commandWindowPush_high : Instr.wf (.commandWindowPush .A 0x2000 [0]) = false := by decide +kernel
theorem test_wf_refuses_commandWindowPush_none : Instr.wf (.commandWindowPush .A 0x1000 []) = false := by decide +kernel
theorem test_wf_refuses_commandWindowPush_more : Instr.wf (.commandWindowPush .A 0x1000 (List.replicate 65 0)) = false := by decide +kernel
theorem test_wf_refuses_responseWindowPeek_none : Instr.wf (.responseWindowPeek .A 0x1800 0) = false := by decide +kernel
theorem test_wf_refuses_responseWindowPeek_more : Instr.wf (.responseWindowPeek .A 0x1800 65) = false := by decide +kernel
theorem test_wf_refuses_responsePlacement : Instr.wf (.responsePlacement .A 16) = false := by decide +kernel
theorem test_wf_refuses_registerWrite : Instr.wf (.registerWrite .A []) = false := by decide +kernel
theorem test_wf_refuses_readTransaction : Instr.wf (.readTransaction .A []) = false := by decide +kernel
theorem test_wf_refuses_loopMode : Instr.wf (.loopMode .A 16) = false := by decide +kernel

/-! ### Values that the spec gives -/

/-- The bytes of the ASCII string "123456789". -/
def nineDigits : List Byte := body [0x31, 0x32, 0x33, 0x34, 0x35, 0x36, 0x37, 0x38, 0x39]

/-- R369's check value. -/
theorem test_crc32c : crc32c nineDigits = 0xE3069283 := by decide +kernel

/-- R410's check value. -/
theorem test_crc8 : crc8 nineDigits = 0x20 := by decide +kernel

/-- R241's code errors: a symbol that the device does not use, wrong disparity, K28.1 off the alignment; not an aligned K28.1. -/
theorem test_code_errors :
    ([⟨.other, true, true⟩, ⟨.data 7, false, true⟩, ⟨.meridian, true, false⟩, ⟨.meridian, true, true⟩] : List CodeGroup).map codeError
      = [true, true, true, false] := by decide

/-- R100's worked example: 33 Ω for every cell, 20 mΩ for every tap, the switch of cell 10 conducts. -/
theorem test_compensated_example :
    let fs := (List.range 24).foldl (fun m k => smapSet m (fieldKey Fld.balRb k) 330)
      ((List.range 25).foldl (fun m i => smapSet m (fieldKey Fld.convRtap i) 200) [])
    let d : Dev := { pos := some 0, fields := fs, cells := modAt (List.replicate 24 {}) 9 fun c => { c with gate := true } }
    let m : Nat → Int := fun k => if k = 9 then 3196126 else 3201937
    [8, 9, 10].map (d.corrected m) = [3200000, 3200000, 3200000] := by decide +kernel

/-- R183's worked example: the gain that 601,237 codes give for 300 A on 200 µΩ with an offset of 37. -/
theorem test_span_example :
    let s := field' Fld.shuntR 0 2000 ring
    let c : SysCal := { zero1 with acc := { zero1.acc with sum := 601237000, count := 1000 } }
    roundQ (s.calGain c 300000 37 * 2 ^ 30) = 1071598627 := by decide +kernel

/-- R183's worked example: the sample 200,037 after the factors. -/
theorem test_scaled_example :
    let d : Dev := { fields := smapSet (smapSet [] (fieldKey Fld.scOfs 0) 37) (fieldKey Fld.scGain 0) 1071598627 }
    d.scaleShunt 200037 false = 199601 := by decide +kernel

/-! ### The queue and words of the opcode table -/

theorem test_no_word_spells_a_command : decodeTableWord 32 0xFFFFFFFF = none := by decide

theorem test_word_leaves_the_queue (s : State) (nbits w : Nat) : s.withFetchWord nbits w = s := rfl

/-- The queue holds an event that sets a trip source. -/
def tripping : State := { ring with pending := [.tripSourceAssert .sErr] }

/-- A state and the next one that meet the hypotheses of TripPathFollowsItsSources. -/
theorem witness_TripPathFollowsItsSources :
    (tripping.pw.running = true → tripping.atRest) ∧ ∃ t, step tripping = .next t ∧ t.pw.running = true ∧ t.tripMask ≠ 0 := by
  refine ⟨fun _ => by simp only [State.atRest]; decide +kernel, ?_⟩
  refine ⟨_, rfl, ?_⟩
  decide +kernel

end Sys2Proof.Tests
end

section
/-!
SUPPORT. Tokens and probes on the ring (R4, R38, R278, R280): what an occurrence of a fault and the reports of the head leave
of the time and of the Traverse, what a hop-local frame leaves of a device, and with them O42.
-/

namespace Sys2Proof.Machine

/-! ### What two devices of one body share -/

theorem Dev.port_of_body {x y : Dev} (h : x.body = y.body) (p : RPort) : x.port p = y.port p := by
  have e := congrArg (fun z : Dev => z.port p) h
  exact e

theorem Dev.role_of_body {x y : Dev} (h : x.body = y.body) : x.role = y.role := by
  have e := congrArg (fun z : Dev => z.role) h
  exact e

theorem Dev.hops_of_body {x y : Dev} (h : x.body = y.body) : x.hops = y.hops := by
  have e := congrArg (fun z : Dev => z.hops) h
  exact e

theorem Dev.adoptMsg_of_body {x y : Dev} (h : x.body = y.body) : x.adoptMsg = y.adoptMsg := by
  have e := congrArg (fun z : Dev => z.adoptMsg) h
  exact e

/-! ### Ports of a device -/

@[simp] theorem Dev.port_modPort_self (d : Dev) (p : RPort) (f : PortSt → PortSt) : (d.modPort p f).port p = f (d.port p) := by
  cases p <;> rfl

@[simp] theorem Dev.port_modPort_other (d : Dev) (p : RPort) (f : PortSt → PortSt) :
    (d.modPort p f).port (rportOther p) = d.port (rportOther p) := by
  cases p <;> rfl

@[simp] theorem Dev.port_modPort_rportOther (d : Dev) (p : RPort) (f : PortSt → PortSt) :
    (d.modPort (rportOther p) f).port p = d.port p := by
  cases p <;> rfl

@[simp] theorem Dev.modPort_role (d : Dev) (p : RPort) (f : PortSt → PortSt) : (d.modPort p f).role = d.role := by
  cases p <;> rfl

@[simp] theorem Dev.modPort_hops (d : Dev) (p : RPort) (f : PortSt → PortSt) : (d.modPort p f).hops = d.hops := by
  cases p <;> rfl

@[simp] theorem Dev.modPort_power (d : Dev) (p : RPort) (f : PortSt → PortSt) : (d.modPort p f).power = d.power := by
  cases p <;> rfl

/-- What a change of one port leaves, it leaves at every port. -/
theorem Dev.port_modPort_keep {β : Type} (g : PortSt → β) (d : Dev) (p q : RPort) (f : PortSt → PortSt)
    (h : ∀ x, g (f x) = g x) : g ((d.modPort p f).port q) = g (d.port q) := by
  cases p <;> cases q
  · exact h _
  · rfl
  · rfl
  · exact h _

/-! ### Hop-local frames -/

/-- A frame that leaves a device changes of its ports only what a transmitter holds. -/
theorem Dev.emit_port_keep {β : Type} (g : PortSt → β) (h : ∀ x now own f, g (PortSt.transmit x now own f) = g x)
    (d : Dev) (p q : RPort) (now : Nat) (own : Bool) (f : Frame) : g ((d.emit p now own f).port q) = g (d.port q) := by
  obtain e | ⟨-, -, -, e⟩ | e := d.emit_cases p now own f <;> rw [e]
  · exact Dev.port_modPort_keep g d p q _ fun x => h x _ _ _
  · exact Dev.port_modPort_keep g d _ q _ fun x => h x _ _ _

@[simp] theorem Dev.emit_role (d : Dev) (p : RPort) (now : Nat) (own : Bool) (f : Frame) :
    (d.emit p now own f).role = d.role := by
  obtain e | ⟨-, -, -, e⟩ | e := d.emit_cases p now own f <;> simp [e]

@[simp] theorem Dev.emit_hops (d : Dev) (p : RPort) (now : Nat) (own : Bool) (f : Frame) :
    (d.emit p now own f).hops = d.hops := by
  obtain e | ⟨-, -, -, e⟩ | e := d.emit_cases p now own f <;> simp [e]

@[simp] theorem Dev.hopFrame_waiting (d : Dev) (p q : RPort) (now : Nat) (x : Payload) :
    ((d.hopFrame p now x).port q).waiting = (d.port q).waiting :=
  Dev.emit_port_keep PortSt.waiting PortSt.transmit_waiting d p q now true _

@[simp] theorem Dev.hopFrame_probes (d : Dev) (p q : RPort) (now : Nat) (x : Payload) :
    ((d.hopFrame p now x).port q).probes = (d.port q).probes :=
  Dev.emit_port_keep PortSt.probes PortSt.transmit_probes d p q now true _

@[simp] theorem Dev.hopFrame_role (d : Dev) (p : RPort) (now : Nat) (x : Payload) : (d.hopFrame p now x).role = d.role :=
  Dev.emit_role d p now true _

@[simp] theorem Dev.hopFrame_hops (d : Dev) (p : RPort) (now : Nat) (x : Payload) : (d.hopFrame p now x).hops = d.hops :=
  Dev.emit_hops d p now true _

/-- A port that is UP sends a TOKEN, held or wrapped though it be (R278, R288). -/
theorem Dev.hopFrame_token_up (d : Dev) (p : RPort) (now : Nat) (t : Token) (h : (d.port p).st = .up) :
    d.hopFrame p now (.token t) = d.modPort p (·.transmit now true (mkFrame 0xFE d.src 0 0 (.token t))) := by
  have ht : heldType (mkFrame 0xFE d.src 0 0 (.token t)) = true := rfl
  simp [Dev.hopFrame, Dev.emit, PortSt.carries, ht, h]

/-! ### A member takes a token -/

/-- What a probe leaves of a device, sixteen probes leave. -/
theorem Dev.foldl_probe_keep {β : Type} (g : Dev → β) (p : RPort) (now : Nat)
    (h : ∀ (x : Dev) n, g (x.hopFrame p now (.probe n)) = g x) (l : List Nat) (d : Dev) :
    g (l.foldl (fun x n => x.hopFrame p now (.probe n)) d) = g d := by
  induction l generalizing d with
  | nil => rfl
  | cons n l ih => rw [List.foldl_cons, ih, h]

@[simp] theorem Dev.takeToken_waiting (d : Dev) (p : RPort) (now : Nat) (t : Token) :
    ((d.takeToken p now t).port p).waiting = some t := by
  unfold Dev.takeToken
  rw [Dev.foldl_probe_keep (fun x => (x.port p).waiting) p now (by simp)]
  simp

@[simp] theorem Dev.takeToken_probes (d : Dev) (p : RPort) (now : Nat) (t : Token) :
    ((d.takeToken p now t).port p).probes = [] := by
  unfold Dev.takeToken
  rw [Dev.foldl_probe_keep (fun x => (x.port p).probes) p now (by simp)]
  simp

@[simp] theorem Dev.takeToken_role (d : Dev) (p : RPort) (now : Nat) (t : Token) : (d.takeToken p now t).role = d.role := by
  unfold Dev.takeToken
  rw [Dev.foldl_probe_keep (fun x => x.role) p now (by simp)]
  split <;> simp

/-! ### The measured token goes on -/

/-- The device after a reply on port `p`, with its round trip and its turnaround (R280). -/
def Dev.probed (x : Dev) (p : RPort) (m : Nat × Nat) : Dev := x.modPort p fun q => { q with probes := q.probes ++ [m] }

@[simp] theorem Dev.probed_port_self (x : Dev) (p : RPort) (m : Nat × Nat) :
    (x.probed p m).port p = { x.port p with probes := (x.port p).probes ++ [m] } := Dev.port_modPort_self x p _

@[simp] theorem Dev.probed_port_other (x : Dev) (p : RPort) (m : Nat × Nat) :
    (x.probed p m).port (rportOther p) = x.port (rportOther p) := Dev.port_modPort_other x p _

@[simp] theorem Dev.probed_power (x : Dev) (p : RPort) (m : Nat × Nat) : (x.probed p m).power = x.power :=
  Dev.modPort_power x p _

@[simp] theorem Dev.probed_hops (x : Dev) (p : RPort) (m : Nat × Nat) : (x.probed p m).hops = x.hops :=
  Dev.modPort_hops x p _

/-- The device after the measurement of token `t` on port `p`: nothing waits there, and the hop count and the path latency of
the token's direction stand (R278). -/
def Dev.measured (x : Dev) (p : RPort) (t : Token) : Dev :=
  let l := t.lsum + hopLambda (x.port p).probes t.fwd
  { x.modPort p (fun q => { q with waiting := none, probes := [] }) with
    hops := if t.dirW then (x.hops.1, some (t.h + 1)) else (some (t.h + 1), x.hops.2)
    lat := if t.dirW then (x.lat.1, some l) else (some l, x.lat.2) }

@[simp] theorem Dev.measured_port_self (x : Dev) (p : RPort) (t : Token) :
    (x.measured p t).port p = { x.port p with waiting := none, probes := [] } := by cases p <;> rfl

@[simp] theorem Dev.measured_port_other (x : Dev) (p : RPort) (t : Token) :
    (x.measured p t).port (rportOther p) = x.port (rportOther p) := by cases p <;> rfl

@[simp] theorem Dev.measured_power (x : Dev) (p : RPort) (t : Token) : (x.measured p t).power = x.power := by cases p <;> rfl

theorem Dev.measured_hops (x : Dev) (p : RPort) (t : Token) :
    (x.measured p t).hops = if t.dirW then (x.hops.1, some (t.h + 1)) else (some (t.h + 1), x.hops.2) := rfl

/-- The port opposite to the measured one takes the token that goes on behind all that it holds. -/
theorem Dev.measured_hopFrame_tx (x : Dev) (p : RPort) (now : Nat) (t k : Token) (h : (x.port (rportOther p)).st = .up) :
    (((x.measured p t).hopFrame (rportOther p) now (.token k)).port (rportOther p)).tx
      = ⟨mkFrame 0xFE (x.measured p t).src 0 0 (.token k), max (x.port (rportOther p)).busyUntil now, true⟩
        :: (x.port (rportOther p)).tx := by
  rw [Dev.hopFrame_token_up _ _ _ _ (by simpa using h), Dev.port_modPort_self, Dev.measured_port_other,
    PortSt.transmit_own]

/-- The token that goes on from slot `d` by the port opposite to `p`: one hop further, with the hop's record (R278, R279). -/
def State.measuredToken (s : State) (d : Nat) (p : RPort) (t : Token) : Token :=
  let lam := hopLambda ((s.dev d).port p).probes t.fwd
  { t with
    h := t.h + 1, lsum := t.lsum + lam, recs := t.recs ++ [s.tokenRec d (t.h + 1) lam], fwd := ((s.dev d).port p).fwd }

namespace State

variable (s : State)

/-- Cabling follows the power of the S-dies alone (R3, R6). -/
theorem modDev_peer (d e : Nat) (f : Dev → Dev) (p : RPort) (h : (f (s.dev d)).power = (s.dev d).power) :
    (s.modDev d f).peer e p = s.peer e p := by
  have hpow : ∀ i, ((s.modDev d f).dev i).power = (s.dev i).power := fun i => by
    simp only [State.dev, State.modDev, getD_modAt]
    split
    · next hi => obtain ⟨rfl, -⟩ := hi; exact h
    · rfl
  have hlen : (s.modDev d f).devs.length = s.devs.length := List.length_modify _ _ _
  have hpres : (s.modDev d f).present = s.present := by simp only [State.present, State.slots, hpow, hlen]
  cases p <;> simp only [State.peer, hpres]

/-- With the opposite port UP and a slot left to count, the token leaves by that port (R278 item 2). -/
theorem passToken_onward (d : Nat) (p : RPort) (t : Token) (hd : d < s.devs.length)
    (hup : ((s.dev d).port (rportOther p)).st = .up) (hh : t.h + 1 ≠ 31 ∨ s.peer d (rportOther p) = 0) :
    s.passToken d p t = (s.modDev d fun x => x.measured p t).modDev d
      (·.hopFrame (rportOther p) s.now (.token (s.measuredToken d p t))) := by
  have hconst : s.modDev d (fun _ => (s.dev d).measured p t) = s.modDev d fun x => x.measured p t := by
    simp only [State.modDev, modAt_const s d (fun x => x.measured p t) hd]
  have hfwd : (((s.dev d).measured p t).port p).fwd = ((s.dev d).port p).fwd := by simp
  have hend : ¬ (t.h + 1 = 31 ∧ (s.modDev d fun _ => (s.dev d).measured p t).peer d (rportOther p) ≠ 0) := by
    rw [modDev_peer s d d _ _ (Dev.measured_power _ _ _)]
    tauto
  have hst : ¬ (((s.dev d).measured p t).port (rportOther p)).st ≠ .up := by simp [hup]
  calc s.passToken d p t
    _ = (s.modDev d fun _ => (s.dev d).measured p t).modDev d (·.hopFrame (rportOther p) s.now
          (.token { s.measuredToken d p t with fwd := (((s.dev d).measured p t).port p).fwd })) :=
      (if_neg hst).trans (if_neg hend)
    _ = _ := by rw [hconst, hfwd]; rfl

section
variable {s : State} {d : Nat} {p : RPort} {t : Token} (hd : d < s.devs.length)
  (hup : ((s.dev d).port (rportOther p)).st = .up) (hh : t.h + 1 ≠ 31 ∨ s.peer d (rportOther p) = 0)
include hd hup hh

theorem passToken_dev_self : (s.passToken d p t).dev d
    = ((s.dev d).measured p t).hopFrame (rportOther p) s.now (.token (s.measuredToken d p t)) := by
  have hlen : d < (s.modDev d fun x => x.measured p t).devs.length := hd.trans_eq (List.length_modify _ _ _).symm
  rw [passToken_onward s d p t hd hup hh, dev_modDev_self _ d _ hlen, dev_modDev_self s d _ hd]

theorem passToken_dev_other (e : Nat) (he : e ≠ d) : (s.passToken d p t).dev e = s.dev e := by
  rw [passToken_onward s d p t hd hup hh, dev_modDev_other _ d e _ he, dev_modDev_other s d e _ he]

end

/-! ### Time stands still in an occurrence of a fault -/

@[simp] theorem enter_now (o : OpState) : (s.enter o).now = s.now := by
  unfold State.enter
  dsimp only
  split
  · rfl
  · rw [cond_keep State.now _ _ _ (react_now _ _), cond_keep State.now _ _ _ (react_now _ _)]
    cases decide ((s.pw.op = .run ∧ o = .safe) ∨ (s.pw.op = .safe ∧ o = .run)) <;>
      cases decide (o = .dormant) || (decide (s.pw.op = .run ∨ s.pw.op = .safe) && decide (o = .config ∨ o = .locked)) <;>
      simp

@[simp] theorem lock_now : s.lock.now = s.now := by unfold State.lock; split <;> simp

@[simp] theorem tripFallback_now : s.tripFallback.now = s.now := by
  unfold State.tripFallback
  refine foldNat_keep _ _ State.now (fun t n => ?_) s
  dsimp only
  split <;> simp

@[simp] theorem applySev_now (old : Option Nat) (new : Nat) : (s.applySev old new).now = s.now := by
  unfold State.applySev
  dsimp only
  rw [evalTrip_now, errEval_now, cond_keep State.now _ _ _ (enter_now _ _), cond_keep State.now _ _ _ (tripFallback_now _),
    cond_keep State.now _ _ _ (lock_now _)]

@[simp] theorem furtherReaction_now (x : Source) : (s.furtherReaction x).now = s.now := by
  unfold State.furtherReaction; (repeat' split) <;> simp

@[simp] theorem occur_now (x : Source) (v : Word) (seen : Nat) : (s.occur x v seen).now = s.now := by
  unfold State.occur
  dsimp only
  rw [furtherReaction_now, applySev_now]
  cases (s.latch x.cls).latched
  · rfl
  · simp only [cond_true]
    rw [cond_keep State.now _ _ _ (event_now _ _)]
    rfl

@[simp] theorem raiseAt_now (x : Source) (v : Word) (ev : Bool) (seen : Nat) : (s.raiseAt x v ev seen).now = s.now := by
  unfold State.raiseAt
  split
  · rfl
  · dsimp only
    rw [cond_keep State.now _ _ _ (occur_now _ _ _ _).symm, occur_now]
    cases decide (x.cls = 0x1C ∧ 1 ≤ x.sub ∧ x.sub ≤ 6) <;> rfl

@[simp] theorem raiseOpenAt_now (x : Source) (ev : Bool) (seen : Nat) : (s.raiseOpenAt x ev seen).now = s.now := by
  unfold State.raiseOpenAt
  split
  · rfl
  · exact raiseAt_now s x _ ev seen

/-! ### Reports at the head -/

theorem events_of_bare {s t : State} (h : t.bare = s.bare) (e : Nat) : (t.dev e).events = (s.dev e).events := by
  have hmap : t.devs.map (fun (d : Dev) => { d with cErr := false }) = s.devs.map (fun (d : Dev) => { d with cErr := false }) :=
    congrArg State.devs h
  have hev : ∀ l : List Dev, ((l.map (fun (d : Dev) => { d with cErr := false })).getD e {}).events = (l.getD e {}).events := by
    intro l
    simp only [List.getD_eq_getElem?_getD, List.getElem?_map]
    cases l[e]? <;> rfl
  have := congrArg (fun l : List Dev => (l.getD e {}).events) hmap
  simp only [hev] at this
  exact this

/-- Where no report waits, none reaches the collector. -/
theorem headReports_of_no_events (h : (s.dev 0).events = []) : s.headReports = s := by
  unfold State.headReports
  simp [h]

@[simp] theorem noteEvent_trv (p : Nat) (up : Bool) (c b d : Nat) (v w : Word) : (s.noteEvent p up c b d v w).trv = s.trv := by
  unfold State.noteEvent; (repeat' split) <;> simp

@[simp] theorem headReport_trv (i : Item) : (s.headReport i).trv = s.trv := by
  unfold State.headReport
  split
  · unfold State.takeEvent
    dsimp only
    split
    · rw [trv_of_bare (raiseAt_bare _ _ _ _ _), noteEvent_trv]
    · rw [trv_of_bare (clearAt_bare _ _ _), noteEvent_trv]
  · rfl

/-- A report of the head S-die does not touch the Traverse. -/
@[simp] theorem headReports_trv : s.headReports.trv = s.trv := by
  have hfold : ∀ (l : List Item) (t : State), (l.foldl State.headReport t).trv = t.trv := by
    intro l
    induction l with
    | nil => intro t; rfl
    | cons i l ih => intro t; rw [List.foldl_cons, ih, headReport_trv]
  unfold State.headReports
  dsimp only
  split
  · rw [hfold, modDev_trv]
  · rfl

/-! ### A token of another head -/

/-- The Traverse in progress and an adoption that has been decided are abandoned (R4, R284; log 160). -/
def abandonTraverse : State :=
  ({ s with
    trv := { s.trv with adopting := none }
    devs := s.devs.map (fun (x : Dev) => { x with adoptMsg := none }) }).traverseEnd 2 true

/-- A token of another head is an occurrence, after which a Traverse or an adoption under way is abandoned. -/
theorem alienToken_eq : s.alienToken =
    let u := s.raiseOpenEv 0x0B 1 0 (openDetail 0x0B 1 0)
    if u.trv.running ∨ u.trv.adopting.isSome then u.abandonTraverse else u := rfl

theorem abandonTraverse_dev (e : Nat) : s.abandonTraverse.dev e = { s.dev e with adoptMsg := none } := by
  have hdevs : s.abandonTraverse.devs = s.devs.map (fun (x : Dev) => { x with adoptMsg := none }) := rfl
  simp only [State.dev, hdevs, List.getD_eq_getElem?_getD, List.getElem?_map]
  cases s.devs[e]? <;> rfl

/-- Beside the Traverse and the devices, what is abandoned shows in the interrupt flags alone. -/
theorem kept_abandonTraverse {s u : State} {out : List Part} (h : kept out s u) :
    kept ([.traverse, .devices, .flags] ++ out) s u.abandonTraverse := by
  intro p hp
  rw [List.mem_append, not_or] at hp
  have hk := h p hp.2
  have hn := hp.1
  cases p
  case traverse => simp at hn
  case devices => simp at hn
  case flags => simp at hn
  case host k => cases k <;> exact hk
  all_goals exact hk

theorem raiseOpenEv_bare (c b p d : Nat) : (s.raiseOpenEv c b p d).bare = s.bare := raiseOpenAt_bare s _ _ _

theorem alienToken_hasCause : s.alienToken.hasCause ⟨0x0B, 1, 0, openDetail 0x0B 1 0⟩ = true := by
  have hu : (s.raiseOpenEv 0x0B 1 0 (openDetail 0x0B 1 0)).hasCause ⟨0x0B, 1, 0, openDetail 0x0B 1 0⟩ = true :=
    raiseOpenAt_hasCause s _ _ _
  rw [alienToken_eq]
  dsimp only
  split <;> exact hu

theorem alienToken_kept : kept ([.traverse, .devices] ++ faultParts) s s.alienToken := by
  have hu := kept_of_bare (raiseOpenEv_bare s 0x0B 1 0 (openDetail 0x0B 1 0))
  rw [alienToken_eq]
  dsimp only
  split
  · exact kept_mono (kept_abandonTraverse hu) (by simp [faultParts])
  · exact kept_mono hu fun _ => List.mem_append_right _

theorem alienToken_events (e : Nat) : (s.alienToken.dev e).events = (s.dev e).events := by
  rw [alienToken_eq]
  dsimp only
  split
  · rw [abandonTraverse_dev]; exact events_of_bare (raiseOpenEv_bare s _ _ _ _) e
  · exact events_of_bare (raiseOpenEv_bare s _ _ _ _) e

/-- A Traverse or an adoption under way ends with two heads seen, and is tried again (R277 item 4, R284). -/
theorem alienToken_abandons (h : s.trv.running = true ∨ s.trv.adopting ≠ none) :
    s.alienToken = (s.raiseOpenEv 0x0B 1 0 (openDetail 0x0B 1 0)).abandonTraverse := by
  rw [alienToken_eq]
  dsimp only
  rw [trv_of_bare (raiseOpenEv_bare s _ _ _ _), if_pos]
  exact h.imp_right Option.isSome_iff_ne_none.2

theorem abandonTraverse_trv : s.abandonTraverse.trv.running = false ∧ s.abandonTraverse.trv.result = 2 ∧
    s.abandonTraverse.trv.retryAt = some s.now ∧ s.abandonTraverse.trv.adopting = none := ⟨rfl, rfl, rfl, rfl⟩

/-- The head's own token of the running pass is noted with the port of its return (R278). -/
theorem tokenBack_open (t : Token) (p : RPort) (ho : s.trv.passOpen = true) (ht : t.trav = s.trv.trav)
    (hp : t.pass = s.trv.pass) : s.tokenBack t p = { s with
      trv := if t.dirW then { s.trv with backW := s.trv.backW.or (some (t, p)) }
        else { s.trv with backE := s.trv.backE.or (some (t, p)) } } :=
  if_pos ⟨ho, ht, hp⟩

end State

/-! ### The branches of TOKEN, PROBE and PROBE_REPLY -/

/-- A command at an S-die depends on what its effect makes of this state alone. -/
theorem onS_congr {s : State} {d : Nat} {f g : State → State} (h : f s = g s) : onS s d f = onS s d g := by
  unfold onS; rw [h]

theorem exec_token (d : Nat) (p : RPort) (f : Frame) (s : State) : exec (.token d p f) s = execToken d p f s := rfl

theorem exec_probe (d : Nat) (p : RPort) (f : Frame) (turn : Nat) (s : State) :
    exec (.probe d p f turn) s = execProbe d p f turn s := rfl

theorem exec_probeReply (d : Nat) (p : RPort) (f : Frame) (trip : Nat) (s : State) :
    exec (.probeReply d p f trip) s = execProbeReply d p f trip s := rfl

section
variable {s : State} {d : Nat} {p : RPort} {f : Frame} (hv : frameValid f = true) (hup : ((s.dev d).port p).st = .up)
include hv hup

theorem exec_token_member {k : Token} (hd : d ≠ 0) (hk : f.payload = .token k) (hf : f.dest = 0xFE) :
    exec (.token d p f) s = onS s d fun s => s.modDev d fun x => x.becomeMember.takeToken p s.now k := by
  rw [exec_token, execToken]
  exact onS_congr (by simp [hk, hv, hup, hd, hf])

theorem exec_token_own {k : Token} (hd : d = 0) (hk : f.payload = .token k) (hid : k.headId = Config.factoryId 0)
    (hw : s.upWorks = true) : exec (.token d p f) s = onS s d fun s => s.tokenBack k p := by
  subst hd
  rw [exec_token, execToken]
  exact onS_congr (by simp [hk, hv, hup, hid, hw])

theorem exec_token_alien {k : Token} (hd : d = 0) (hk : f.payload = .token k) (hid : k.headId ≠ Config.factoryId 0)
    (hr : s.pw.running = true) : exec (.token d p f) s = onS s d State.alienToken := by
  subst hd
  rw [exec_token, execToken]
  exact onS_congr (by simp [hk, hv, hup, hid, hr])

theorem exec_probe_replies {n turn : Nat} (hk : f.payload = .probe n) (hf : f.dest = 0xFE) :
    exec (.probe d p f turn) s = onS s d fun s => s.modDev d (·.hopFrame p s.now (.probeReply n turn)) := by
  rw [exec_probe, execProbe]
  exact onS_congr (by simp [hk, hv, hup, hf])

/-- Before the sixteenth, a reply is noted (R280). -/
theorem exec_probeReply_early {n ta trip : Nat} {k : Token} (hl : d < s.devs.length) (hk : f.payload = .probeReply n ta)
    (hf : f.dest = 0xFE) (hw : ((s.dev d).port p).waiting = some k) (hlt : ((s.dev d).port p).probes.length < 15) :
    exec (.probeReply d p f trip) s = onS s d fun s => s.modDev d (·.probed p (trip, ta)) := by
  have hlen : ((s.dev d).port p).probes.length + 1 < 16 := by omega
  rw [exec_probeReply, execProbeReply]
  exact onS_congr (by simp [hk, hv, hup, hf, hw, hl, hlen, Dev.probed])

/-- The sixteenth reply is noted and sends the token that waits on its way (R280). -/
theorem exec_probeReply_last {n ta trip : Nat} {k : Token} (hl : d < s.devs.length) (hk : f.payload = .probeReply n ta)
    (hf : f.dest = 0xFE) (hw : ((s.dev d).port p).waiting = some k) (hge : 15 ≤ ((s.dev d).port p).probes.length) :
    exec (.probeReply d p f trip) s = onS s d fun s => (s.modDev d (·.probed p (trip, ta))).passToken d p k := by
  have hlen : ¬ ((s.dev d).port p).probes.length + 1 < 16 := by omega
  rw [exec_probeReply, execProbeReply]
  exact onS_congr (by simp [hk, hv, hup, hf, hw, hl, hlen, Dev.probed])

end

/-! ### The clauses of O42 -/

section
variable {s : State} {d : Nat} {p : RPort} {f : Frame}
  (ha : (s.dev d).awake = true) (hv : frameValid f = true) (hup : ((s.dev d).port p).st = .up)
include ha hv hup

theorem token_member_answers {k : Token} (hd : d ≠ 0) (hk : f.payload = .token k) (hf : f.dest = 0xFE) :
    answers (.token d p f) s fun t =>
      deviceBecomes s t d ((s.dev d).becomeMember.takeToken p s.now k) s.now ∧
      ((t.dev d).port p).waiting = some k ∧ ((t.dev d).port p).probes = [] ∧ (t.dev d).role = .member := by
  obtain ⟨t, ht, hb⟩ := onS_becomes (n := s.now) (f := fun s => s.modDev d fun x => x.becomeMember.takeToken p s.now k)
    (g := fun x => x.becomeMember.takeToken p s.now k) ha (by rw [State.until_now_self])
  refine ⟨t, (exec_token_member hv hup hd hk hf).trans ht, hb, ?_, ?_, ?_⟩
  · rw [Dev.port_of_body hb.1, Dev.takeToken_waiting]
  · rw [Dev.port_of_body hb.1, Dev.takeToken_probes]
  · rw [Dev.role_of_body hb.1, Dev.takeToken_role, Dev.becomeMember_role]

theorem token_own_answers {k : Token} (hd : d = 0) (hk : f.payload = .token k) (hid : k.headId = Config.factoryId 0)
    (hw : s.upWorks = true) (ho : s.trv.passOpen = true) (htr : k.trav = s.trv.trav) (hpa : k.pass = s.trv.pass) :
    answers (.token d p f) s fun t =>
      t.trv = (if k.dirW then { s.trv with backW := s.trv.backW.or (some (k, p)) }
        else { s.trv with backE := s.trv.backE.or (some (k, p)) }) ∧
      othersKept s t 0 ∧ (t.dev 0).body = (s.dev 0).body := by
  subst hd
  have hbody : ∀ e, ((s.finish (s.tokenBack k p).headReports).dev e).body = (s.dev e).body := fun e => by
    rw [State.finish_body, State.headReports_body, State.tokenBack_open s k p ho htr hpa]; rfl
  refine ⟨_, (exec_token_own hv hup rfl hk hid hw).trans (onS_head ha), ?_, fun e _ => hbody e, hbody 0⟩
  rw [State.finish_trv, State.headReports_trv, State.tokenBack_open s k p ho htr hpa]

theorem token_alien_answers {k : Token} (hd : d = 0) (hk : f.payload = .token k) (hid : k.headId ≠ Config.factoryId 0)
    (hr : s.pw.running = true) (he : (s.dev 0).events = []) :
    answers (.token d p f) s fun t =>
      (s.trv.running = true ∨ s.trv.adopting ≠ none → t.trv.running = false ∧ t.trv.result = 2 ∧ t.trv.retryAt = some s.now ∧
        t.trv.adopting = none ∧ ∀ e, (t.dev e).adoptMsg = none) ∧
      faulted [.traverse, .devices] s t ⟨0x0B, 1, 0, openDetail 0x0B 1 0⟩ := by
  subst hd
  have hquiet : s.alienToken.headReports = s.alienToken :=
    State.headReports_of_no_events _ ((State.alienToken_events s 0).trans he)
  refine ⟨s.finish s.alienToken, ?_, fun hbusy => ?_, ?_, ?_⟩
  · rw [exec_token_alien hv hup rfl hk hid hr, onS_head ha, hquiet]; rfl
  · obtain ⟨hrun, hres, hretry, hadopt⟩ :=
      State.abandonTraverse_trv (s.raiseOpenEv 0x0B 1 0 (openDetail 0x0B 1 0))
    rw [State.finish_trv, State.alienToken_abandons s hbusy]
    refine ⟨hrun, hres, hretry.trans (congrArg some (State.raiseOpenAt_now s _ _ _)), hadopt, fun e => ?_⟩
    rw [Dev.adoptMsg_of_body (State.finish_body s _ e), State.abandonTraverse_dev]
  · rw [State.finish_hasCause, State.alienToken_hasCause]
  · exact State.kept_mono (kept_finish (State.alienToken_kept s)) (by simp [tripParts, faultParts])

theorem probe_answers {n turn : Nat} (hk : f.payload = .probe n) (hf : f.dest = 0xFE) :
    answers (.probe d p f turn) s fun t =>
      deviceBecomes s t d ((s.dev d).hopFrame p s.now (.probeReply n turn)) s.now := by
  obtain ⟨t, ht, hb⟩ := onS_becomes (n := s.now) (f := fun s => s.modDev d (·.hopFrame p s.now (.probeReply n turn)))
    (g := (·.hopFrame p s.now (.probeReply n turn))) ha (by rw [State.until_now_self])
  exact ⟨t, (exec_probe_replies hv hup hk hf).trans ht, hb⟩

theorem probeReply_early_answers {n ta trip : Nat} {k : Token} (hk : f.payload = .probeReply n ta) (hf : f.dest = 0xFE)
    (hw : ((s.dev d).port p).waiting = some k) (hlt : ((s.dev d).port p).probes.length < 15) :
    answers (.probeReply d p f trip) s fun t =>
      deviceBecomes s t d ((s.dev d).modPort p fun q => { q with probes := q.probes ++ [(trip, ta)] }) s.now := by
  obtain ⟨t, ht, hb⟩ := onS_becomes (n := s.now) (f := fun s => s.modDev d (·.probed p (trip, ta)))
    (g := (·.probed p (trip, ta))) ha (by rw [State.until_now_self])
  exact ⟨t, (exec_probeReply_early hv hup (State.lt_of_awake s d ha) hk hf hw hlt).trans ht, hb⟩

theorem probeReply_last_answers {n ta trip : Nat} {k : Token} (hk : f.payload = .probeReply n ta) (hf : f.dest = 0xFE)
    (hw : ((s.dev d).port p).waiting = some k) (hge : 15 ≤ ((s.dev d).port p).probes.length)
    (hoth : ((s.dev d).port (rportOther p)).st = .up) (hh : k.h + 1 ≠ 31 ∨ s.peer d (rportOther p) = 0) :
    answers (.probeReply d p f trip) s fun t =>
      ((t.dev d).port p).waiting = none ∧ ((t.dev d).port p).probes = [] ∧ othersKept s t d ∧
      (t.dev d).hops = (if k.dirW then ((s.dev d).hops.1, some (k.h + 1)) else (some (k.h + 1), (s.dev d).hops.2)) ∧
      ∃ g rec, ((t.dev d).port (rportOther p)).tx
          = ⟨g, max ((s.dev d).port (rportOther p)).busyUntil s.now, true⟩ :: ((s.dev d).port (rportOther p)).tx ∧
        rec.id = Config.factoryId d ∧ rec.dh = k.h + 1 ∧
        rec.lambda = hopLambda (((s.dev d).port p).probes ++ [(trip, ta)]) k.fwd ∧
        g.payload = .token { k with
          h := k.h + 1, lsum := k.lsum + rec.lambda, recs := k.recs ++ [rec], fwd := ((s.dev d).port p).fwd } := by
  have hl : d < s.devs.length := State.lt_of_awake s d ha
  let u : State := s.modDev d (·.probed p (trip, ta))
  have hul : d < u.devs.length := hl.trans_eq (List.length_modify _ _ _).symm
  have hu : u.dev d = (s.dev d).probed p (trip, ta) := State.dev_modDev_self s d _ hl
  have huo : (u.dev d).port (rportOther p) = (s.dev d).port (rportOther p) := by rw [hu, Dev.probed_port_other]
  have huh : k.h + 1 ≠ 31 ∨ u.peer d (rportOther p) = 0 := by
    rwa [State.modDev_peer s d d _ _ (Dev.probed_power _ _ _)]
  have huu : ((u.dev d).port (rportOther p)).st = .up := by rw [huo, hoth]
  obtain ⟨t, ht, hb⟩ := onS_answers (f := fun s => (s.modDev d (·.probed p (trip, ta))).passToken d p k) ha
  have hself : (t.dev d).body
      = (((u.dev d).measured p k).hopFrame (rportOther p) u.now (.token (u.measuredToken d p k))).body := by
    rw [hb]; exact congrArg Dev.body (State.passToken_dev_self hul huu huh)
  have hrec : (u.tokenRec d (k.h + 1) (hopLambda ((u.dev d).port p).probes k.fwd)).lambda
      = hopLambda (((s.dev d).port p).probes ++ [(trip, ta)]) k.fwd := by
    rw [hu, Dev.probed_port_self]; rfl
  refine ⟨t, (exec_probeReply_last hv hup hl hk hf hw hge).trans ht, ?_, ?_, fun e he => ?_, ?_,
    mkFrame 0xFE ((u.dev d).measured p k).src 0 0 (.token (u.measuredToken d p k)),
    u.tokenRec d (k.h + 1) (hopLambda ((u.dev d).port p).probes k.fwd), ?_, rfl, rfl, hrec, ?_⟩
  · rw [Dev.port_of_body hself, Dev.hopFrame_waiting, Dev.measured_port_self]
  · rw [Dev.port_of_body hself, Dev.hopFrame_probes, Dev.measured_port_self]
  · rw [hb, State.passToken_dev_other hul huu huh e he, State.dev_modDev_other s d e _ he]
  · rw [Dev.hops_of_body hself, Dev.hopFrame_hops, Dev.measured_hops, hu, Dev.probed_hops]
  · rw [Dev.port_of_body hself, Dev.measured_hopFrame_tx _ _ _ _ _ huu, huo]; rfl
  · have hfwd : ((u.dev d).port p).fwd = ((s.dev d).port p).fwd := by rw [hu, Dev.probed_port_self]
    rw [← hfwd]; rfl

end

/-- Settles O42: each command takes the branch that its frame names, and the reports of the head S-die and the trip path, with
which it ends, leave the Traverse and the body of each device alone. -/
theorem tokensTravel : Obligations.TokensTravel := by
  intro s d p f ha hv hup
  exact ⟨fun k hd hk hf => token_member_answers ha hv hup hd hk hf,
    fun k hd hk hid hw ho htr hpa => token_own_answers ha hv hup hd hk hid hw ho htr hpa,
    fun k hd hk hid hr he => token_alien_answers ha hv hup hd hk hid hr he,
    fun n turn hk hf => probe_answers ha hv hup hk hf,
    fun n ta k trip hk hf hw => ⟨fun hlt => probeReply_early_answers ha hv hup hk hf hw hlt,
      fun hge hoth hh => probeReply_last_answers ha hv hup hk hf hw hge hoth hh⟩⟩

end Sys2Proof.Machine
end

section
/-!
SUPPORT. Frames put together: a frame of one update per part of the state, two frames one after the other, what an occurrence
of a fault or a clearance adds to a frame (R353, R391 to R394), and what it leaves of the power, the sweep and the time; with
them O5.
-/

namespace Sys2Proof.Machine

/-! ### Frames, one after the other -/

@[simp] theorem Part.same_refl (p : Part) (s : State) : p.same s s := by
  cases p <;> simp [Part.same]

theorem Part.same_trans {p : Part} {s t u : State} (h : p.same s t) (k : p.same t u) : p.same s u := by
  cases p <;> simp_all [Part.same]

theorem kept_refl (out : List Part) (s : State) : kept out s s := fun p _ => p.same_refl s

/-- What two steps leave alone one after the other, both leave alone. -/
theorem kept_trans {a b : List Part} {s t u : State} (h : kept a s t) (k : kept b t u) : kept (a ++ b) s u := fun p hp => by
  rw [List.mem_append, not_or] at hp
  exact Part.same_trans (h p hp.1) (k p hp.2)

/-- Two steps that leave the same parts alone. -/
theorem kept_chain {a : List Part} {s t u : State} (h : kept a s t) (k : kept a t u) : kept a s u :=
  fun p hp => Part.same_trans (h p hp) (k p hp)

/-! ### Frames of single updates -/

theorem kept_until (s : State) (n : Nat) : kept [] s (s.until n) := fun p _ => by
  cases p
  case host k _ => cases k <;> rfl
  all_goals simp [Part.same]

theorem kept_draws (s : State) (n : Nat) : kept [.draws] s { s with draws := n } := fun p hp => by
  cases p <;> simp_all [Part.same, State.port, State.dev]

theorem kept_power (s : State) (x : PowerSt) : kept [.power] s { s with pw := x } := fun p hp => by
  cases p <;> simp_all [Part.same, State.port, State.dev]

theorem kept_sweep (s : State) (x : SweepSt) : kept [.sweep] s { s with swp := x } := fun p hp => by
  cases p <;> simp_all [Part.same, State.port, State.dev]

theorem kept_traverse (s : State) (x : TraverseSt) : kept [.traverse] s { s with trv := x } := fun p hp => by
  cases p <;> simp_all [Part.same, State.port, State.dev]

theorem kept_tracks (s : State) (i : Nat) (f : RecTrack → RecTrack) : kept [.tracks] s (s.modTrack i f) := fun p hp => by
  cases p <;> simp_all [Part.same, State.modTrack, State.port, State.dev]

theorem kept_atlasPut (s : State) (i : Nat) (e : Entry) : kept [.atlas] s (s.atlasPut i e) := fun p hp => by
  cases p <;> simp_all [Part.same, State.atlasPut, State.port, State.dev]

theorem kept_chassisPut (s : State) (i : Nat) (r : ChassisRec) : kept [.chassis] s (s.chassisPut i r) := fun p hp => by
  cases p <;> simp_all [Part.same, State.chassisPut, State.port, State.dev]

theorem kept_modDev (s : State) (d : Nat) (f : Dev → Dev) : kept [.devices] s (s.modDev d f) := fun p hp => by
  cases p <;> simp_all [Part.same, State.modDev, State.port]

theorem kept_inputs (s : State) (x : SafetySt) (h : x.ch = s.saf.ch ∧ x.tripLatch = s.saf.tripLatch ∧ x.armed = s.saf.armed
    ∧ x.lastSrc = s.saf.lastSrc) : kept [.inputs] s { s with saf := x } := fun p hp => by
  cases p <;> simp_all [Part.same, State.port, State.dev]

/-- What each step of a fold leaves, the fold leaves. -/
theorem foldl_keep {α β γ : Type} (g : α → γ) (f : α → β → α) (h : ∀ a b, g (f a b) = g a) (l : List β) (a : α) :
    g (l.foldl f a) = g a := by
  induction l generalizing a with
  | nil => rfl
  | cons b l ih => rw [List.foldl_cons, ih, h]

/-! ### What a fault leaves of the power, the sweep, the derived values and the time -/

/-- The power and reset state but for the operating state and LOCKED. -/
def PowerSt.body (x : PowerSt) : PowerSt := { x with op := .wake, locked := false }

/-- The sweep but for the settings that wait and the overrun's note in SWP_STAT. -/
def SweepSt.body (x : SweepSt) : SweepSt :=
  { x with ovr := false, lastSub := 0, reactions := [], reactNext := [], landed := [], landNext := [] }

/-- What an occurrence leaves of the parts that `State.bare` drops. -/
def State.steady (s : State) : PowerSt × SweepSt × DerivedSt × Nat × List Instr :=
  (s.pw.body, s.swp.body, { s.der with tests := [] }, s.now, s.pending)

namespace State

variable (s : State)

@[simp] theorem event_steady (b : Nat) : (s.event b).steady = s.steady := rfl
@[simp] theorem eventIf_steady (c : Bool) (b : Nat) : (s.eventIf c b).steady = s.steady := by cases c <;> rfl
@[simp] theorem react_steady (x : Setting) : (s.react x).steady = s.steady := by
  unfold State.react; cases s.swp.reactCut <;> rfl
@[simp] theorem land_steady (x : Landed) : (s.land x).steady = s.steady := by
  unfold State.land; cases s.swp.hold <;> rfl
@[simp] theorem landReaction_steady (x : Landed) : (s.landReaction x).steady = s.steady := by
  unfold State.landReaction; cases s.swp.reactCut <;> rfl
@[simp] theorem logAt_steady (k c b p d w : Nat) (v : Word) : (s.logAt k c b p d w v).steady = s.steady := rfl
@[simp] theorem errEval_steady : s.errEval.steady = s.steady := by simp [State.steady]
@[simp] theorem evalTrip_steady : s.evalTrip.steady = s.steady := by simp [State.steady]
@[simp] theorem modDev_steady (d : Nat) (f : Dev → Dev) : (s.modDev d f).steady = s.steady := rfl

/-- A choice that leaves `steady` as it is. -/
theorem cond_steady (c : Bool) {a b : State} (h : a.steady = b.steady) : (cond c a b).steady = b.steady := by
  cases c
  · rfl
  · exact h

@[simp] theorem enter_steady (o : OpState) : (s.enter o).steady = s.steady := by
  unfold State.enter
  dsimp only
  split
  · rfl
  · rw [cond_steady _ (react_steady _ _), cond_steady _ (react_steady _ _)]
    cases decide ((s.pw.op = .run ∧ o = .safe) ∨ (s.pw.op = .safe ∧ o = .run)) <;>
      cases decide (o = .dormant) || (decide (s.pw.op = .run ∨ s.pw.op = .safe) && decide (o = .config ∨ o = .locked)) <;>
      simp only [cond_true, cond_false, react_steady] <;> rfl

@[simp] theorem lock_steady : s.lock.steady = s.steady := by
  unfold State.lock
  split
  · simp
  · rw [enter_steady, event_steady]; rfl

@[simp] theorem tripFallback_steady : s.tripFallback.steady = s.steady := by
  unfold State.tripFallback
  refine foldNat_keep _ _ State.steady (fun t n => ?_) s
  dsimp only
  split <;> rfl

@[simp] theorem applySev_steady (old : Option Nat) (new : Nat) : (s.applySev old new).steady = s.steady := by
  unfold State.applySev
  dsimp only
  rw [evalTrip_steady, errEval_steady, cond_steady _ (enter_steady _ _), cond_steady _ (tripFallback_steady _),
    cond_steady _ (lock_steady _)]

@[simp] theorem furtherReaction_steady (x : Source) : (s.furtherReaction x).steady = s.steady := by
  unfold State.furtherReaction; (repeat' split) <;> simp

@[simp] theorem occur_steady (x : Source) (v : Word) (seen : Nat) : (s.occur x v seen).steady = s.steady := by
  unfold State.occur
  dsimp only
  rw [furtherReaction_steady, applySev_steady]
  cases (s.latch x.cls).latched
  · rfl
  · simp only [cond_true]
    rw [cond_steady _ (event_steady _ _)]
    rfl

@[simp] theorem raiseAt_steady (x : Source) (v : Word) (ev : Bool) (seen : Nat) : (s.raiseAt x v ev seen).steady = s.steady := by
  unfold State.raiseAt
  split
  · rfl
  · dsimp only
    rw [cond_steady _ (occur_steady _ _ _ _).symm, occur_steady]
    cases decide (x.cls = 0x1C ∧ 1 ≤ x.sub ∧ x.sub ≤ 6) <;> rfl

@[simp] theorem raiseOpenAt_steady (x : Source) (ev : Bool) (seen : Nat) : (s.raiseOpenAt x ev seen).steady = s.steady := by
  unfold State.raiseOpenAt
  split
  · rfl
  · exact raiseAt_steady s x (Config.openFaultValue s.draws) ev seen

@[simp] theorem clearAt_steady (x : Source) (seen : Nat) : (s.clearAt x seen).steady = s.steady := by
  unfold State.clearAt
  split <;> rfl

theorem pw_of_steady {s t : State} (h : t.steady = s.steady) : t.pw.body = s.pw.body := congrArg (·.1) h
theorem swp_of_steady {s t : State} (h : t.steady = s.steady) : t.swp.body = s.swp.body := congrArg (·.2.1) h
theorem now_of_steady {s t : State} (h : t.steady = s.steady) : t.now = s.now := congrArg (·.2.2.2.1) h

/-- What an occurrence leaves of the safety path. -/
theorem saf_of_bare {s t : State} (h : t.bare = s.bare) : t.saf.body = s.saf.body := by
  have e := congrArg State.saf h
  exact e

/-! ### Faults, clearances and the end of a command as frames -/

/-- A clearance is a frame of the collector and the interrupt flags. -/
theorem kept_clearAt (x : Source) (seen : Nat) : kept [.collector, .flags] s (s.clearAt x seen) := fun p hp => by
  unfold State.clearAt
  split
  · cases p
    case collector => simp at hp
    case flags => simp at hp
    case errOut => exact ⟨rfl, rfl, rfl⟩
    case host k => cases k <;> rfl
    all_goals simp [Part.same, State.dev]
  · exact p.same_refl s

@[simp] theorem clearAt_pw (x : Source) (seen : Nat) : (s.clearAt x seen).pw = s.pw := by
  unfold State.clearAt; split <;> rfl

end State

/-- The end of a command after a fault that it has raised. -/
theorem faulted_finish {s y : State} {out : List Part} {x : Source} (c : y.hasCause x = true) (h : kept (out ++ faultParts) s y) :
    faulted out s (s.finish y) x := by
  refine ⟨by rw [State.finish_hasCause, c], State.kept_mono (kept_finish h) fun p hp => ?_⟩
  simp only [tripParts, faultParts, List.mem_append, List.mem_cons, List.not_mem_nil, or_false] at hp ⊢
  tauto

/-- A fault after what a command has done before it. -/
theorem faulted_raiseAt {s y : State} {out : List Part} (h : kept out s y) (x : Source) (v : Word) (ev : Bool) (seen : Nat) :
    faulted out s (s.finish (y.raiseAt x v ev seen)) x :=
  faulted_finish (State.raiseAt_hasCause y x v ev seen) (kept_trans h (State.kept_of_bare (State.raiseAt_bare y x v ev seen)))

/-- The same of a fault of free value. -/
theorem faulted_raiseOpenAt {s y : State} {out : List Part} (h : kept out s y) (x : Source) (ev : Bool) (seen : Nat) :
    faulted out s (s.finish (y.raiseOpenAt x ev seen)) x :=
  faulted_finish (State.raiseOpenAt_hasCause y x ev seen)
    (kept_trans h (State.kept_of_bare (State.raiseOpenAt_bare y x ev seen)))

/-- A fault that may name the part which it touches itself. -/
theorem faulted_mono {a b : List Part} {s t : State} {x : Source} (h : faulted a s t x) (hab : ∀ p ∈ a, p ∈ b ++ faultParts) :
    faulted b s t x :=
  ⟨h.1, State.kept_mono h.2 fun p hp => (List.mem_append.1 hp).elim (hab p) fun k => List.mem_append.2 (.inr k)⟩

/-! ### The Atlas and the Chassis page -/

/-- Settles O5: a write to a sparse page is read back whole at its own key and nowhere else. -/
theorem pagesHoldWhatIsWritten : Obligations.PagesHoldWhatIsWritten := by
  unfold Obligations.PagesHoldWhatIsWritten
  refine ⟨fun s i j e hw => ⟨?_, State.atlasPut_wf s i e hw, kept_atlasPut s i e⟩,
    fun s i j r hw => ⟨?_, State.chassisPut_wf s i r hw, kept_chassisPut s i r⟩⟩
  · split
    · next h => subst h; exact smapGet_smapPut_self unpopulated s.atlas j e hw
    · next h => exact congrArg (·.getD unpopulated) (smapGet_smapPut_other unpopulated s.atlas i j e h)
  · split
    · next h => subst h; exact smapGet_smapPut_self noChassis s.chassis j r hw
    · next h => exact congrArg (·.getD noChassis) (smapGet_smapPut_other noChassis s.chassis i j r h)

end Sys2Proof.Machine
end

section
/-!
SUPPORT. The reference clock, the crystal and the memory's errors (R34, R246, R388, R389), and with them O31.
-/

namespace Sys2Proof.Machine

/-- A slot that does not read as an empty one is one of the ring's slots. -/
theorem State.lt_of_power (s : State) (d : Nat) (h : (s.dev d).power ≠ .por) : d < s.devs.length := by
  by_contra hn
  refine h ?_
  rw [State.dev, List.getD_eq_getElem?_getD, List.getElem?_eq_none (Nat.le_of_not_lt hn)]
  rfl

theorem State.startDev_self (s : State) (d : Nat) (h : d < s.devs.length) :
    (s.startDev d).dev d = (s.dev d).start s.now (Config.tableIntact s.draws) :=
  State.dev_modDev_self { s with draws := s.draws + 1 } d _ h

/-- What the start of an S-die touches. -/
theorem kept_startDev (s : State) (d : Nat) : kept [.draws, .devices] s (s.startDev d) :=
  kept_trans (kept_draws s (s.draws + 1)) (kept_modDev _ d _)

theorem referenceClockLoss_clears_refClock {s : State} (hr : s.pw.running = true) (hc : s.pw.refClock = true)
    (ha : (s.dev 0).awake = true) (hh : (s.dev 0).isHead = true) : answers .referenceClockLoss s fun t =>
      t.pw.refClock = false ∧ t.pw.refAt = none ∧ faulted [] s t ⟨0x19, 2, 0, 0⟩ := by
  have e : execReferenceClockLoss s
      = done s ({ s with pw := { s.pw with refClock := false, refAt := none } }.raiseAt ⟨0x19, 2, 0, 0⟩ 0 false s.sweep) := by
    unfold execReferenceClockLoss
    rw [onC_running hr, if_pos hc]
    exact congrArg (done s) (if_pos ⟨ha, hh⟩)
  have hp := State.pw_of_steady (State.raiseAt_steady { s with pw := { s.pw with refClock := false, refAt := none } }
    ⟨0x19, 2, 0, 0⟩ 0 false s.sweep)
  refine ⟨_, e, ?_, ?_, faulted_mono (faulted_raiseAt (kept_power s _) _ _ _ _) (by decide)⟩
  · rw [State.finish_pw]; exact congrArg PowerSt.refClock hp
  · rw [State.finish_pw]; exact congrArg PowerSt.refAt hp

theorem referenceClockReturn_wakes_dormant_head {s : State} (hr : s.pw.running = true) (hc : s.pw.refClock = false) :
    answers .referenceClockReturn s fun t =>
      t.pw = { s.pw with refClock := true, refAt := some s.now } ∧
      (t.dev 0).body = (if (s.dev 0).power = .dormant then (s.dev 0).start s.now (Config.tableIntact s.draws) else s.dev 0).body ∧
      othersKept s t 0 ∧ kept (.draws :: .power :: .devices :: tripParts) s t := by
  have e : execReferenceClockReturn s = done s (if (s.dev 0).power = .dormant
      then { s with pw := { s.pw with refClock := true, refAt := some s.now } }.startDev 0
      else { s with pw := { s.pw with refClock := true, refAt := some s.now } }) := by
    unfold execReferenceClockReturn
    rw [onC_running hr, if_neg (by simp [hc])]
    rfl
  refine ⟨_, e, ?_⟩
  by_cases hd : (s.dev 0).power = .dormant
  · have hl : 0 < s.devs.length := s.lt_of_power 0 (by simp [hd])
    rw [if_pos hd, if_pos hd]
    refine ⟨by rw [State.finish_pw]; rfl, ?_, fun k hk => ?_, ?_⟩
    · rw [State.finish_body]
      exact congrArg Dev.body (State.startDev_self { s with pw := { s.pw with refClock := true, refAt := some s.now } } 0 hl)
    · rw [State.finish_body, State.startDev_others _ 0 k hk]; rfl
    · exact State.kept_mono (kept_finish (kept_trans (kept_power s _) (kept_startDev _ 0))) (by decide)
  · rw [if_neg hd, if_neg hd]
    refine ⟨by rw [State.finish_pw], ?_, fun k _ => ?_, ?_⟩
    · rw [State.finish_body]; rfl
    · rw [State.finish_body]; rfl
    · exact State.kept_mono (kept_finish (kept_power s _)) (by decide)

theorem referenceClockStable_clears_clock {s : State} {n : Nat} (hr : s.pw.running = true) (hn : s.pw.refAt = some n) :
    answers .referenceClockStable s fun t =>
      t.pw = { s.pw with refAt := none } ∧ t.now = max s.now (n + 1000000) ∧ t.hasCause ⟨0x19, 2, 0, 0⟩ = false ∧
      kept (.power :: .collector :: tripParts) s t := by
  have e : execReferenceClockStable s = done s
      ({ s.until (n + ms 1) with pw := { s.pw with refAt := none } }.clearAt ⟨0x19, 2, 0, 0⟩ s.sweep) := by
    unfold execReferenceClockStable
    rw [onC_running hr, hn]
    rfl
  have hw : ({ s.until (n + ms 1) with pw := { s.pw with refAt := none } }.clearAt ⟨0x19, 2, 0, 0⟩ s.sweep).now
      = max s.now (n + 1000000) := State.now_of_steady (State.clearAt_steady _ _ _)
  refine ⟨_, e, by rw [State.finish_pw, State.clearAt_pw], ?_, by rw [State.finish_hasCause, State.clearAt_hasCause], ?_⟩
  · rw [State.finish_now, hw, ← Nat.max_assoc, Nat.max_self]
  · exact State.kept_mono (kept_finish (kept_trans (kept_trans (kept_until s _) (kept_power _ _))
      (State.kept_clearAt _ _ _))) (by decide)

theorem crystalFailure_raises_clock {s : State} (hr : s.pw.running = true) :
    answers .crystalFailure s fun t => t.pw.crystal = false ∧ faulted [] s t ⟨0x19, 1, 0, 0⟩ := by
  have e : execCrystalFailure s
      = done s ({ s with pw := { s.pw with crystal := false } }.raiseAt ⟨0x19, 1, 0, 0⟩ 0 false s.sweep) := by
    unfold execCrystalFailure
    exact onC_running hr
  have hp := State.pw_of_steady (State.raiseAt_steady { s with pw := { s.pw with crystal := false } } ⟨0x19, 1, 0, 0⟩ 0 false
    s.sweep)
  refine ⟨_, e, ?_, faulted_mono (faulted_raiseAt (kept_power s _) _ _ _ _) (by decide)⟩
  rw [State.finish_pw]
  exact congrArg PowerSt.crystal hp

theorem memoryEccError_raises_memory {s : State} (hr : s.pw.running = true) (k : EccKind) :
    answers (.memoryEccError k) s fun t =>
      let sub := match k with | .corrected => 1 | .uncorrectable => 2
      faulted [] s t ⟨0x1E, sub, 0, openDetail 0x1E sub 0⟩ := by
  refine ⟨_, onC_running (f := fun s => match k with
    | .corrected => s.raiseOpenEv 0x1E 1 0 (openDetail 0x1E 1 0)
    | .uncorrectable => s.raiseOpenEv 0x1E 2 0 (openDetail 0x1E 2 0)) hr, ?_⟩
  cases k
  · exact faulted_raiseOpenAt (kept_refl [] s) ⟨0x1E, 1, 0, openDetail 0x1E 1 0⟩ true s.sweep
  · exact faulted_raiseOpenAt (kept_refl [] s) ⟨0x1E, 2, 0, openDetail 0x1E 2 0⟩ true s.sweep

/-- Settles O31: one lemma for each of the clock's commands. -/
theorem clocksAreWatched : Obligations.ClocksAreWatched := fun _ hr =>
  ⟨fun hc ha hh => referenceClockLoss_clears_refClock hr hc ha hh, fun hc => referenceClockReturn_wakes_dormant_head hr hc,
    fun _ hn => referenceClockStable_clears_clock hr hn, crystalFailure_raises_clock hr, memoryEccError_raises_memory hr⟩

end Sys2Proof.Machine
end

section
/-!
SUPPORT. The barrier (R33, R34, R62, R401): what the loss of the entries in flight does to the Atlas and to what the head tracks
of it, and with it O29.
-/

namespace Sys2Proof.Machine

/-! ### A lost entry -/

namespace State

variable (s : State)

/-- An entry that is listed reads back, whatever the page's form. -/
theorem atlasGet_atlasPut_self (i : Nat) {e : Entry} (h : e ≠ unpopulated) : (s.atlasPut i e).atlasGet i = e := by
  simp [State.atlasGet, State.atlasPut, smapPut, h]

theorem atlasGet_atlasPut_other (i j : Nat) (e : Entry) (h : j ≠ i) : (s.atlasPut i e).atlasGet j = s.atlasGet j :=
  congrArg (·.getD unpopulated) (smapGet_smapPut_other unpopulated s.atlas i j e h)

/-- An entry that is lost gets GAP or stays; every other entry stays (R121). -/
theorem markLost_atlasGet (i j : Nat) :
    (s.markLost i).atlasGet j = s.atlasGet j ∨ (j = i ∧ ((s.markLost i).atlasGet j).flags.gap = true) := by
  simp only [State.markLost]
  split
  · exact .inl rfl
  · next h =>
    by_cases hj : j = i
    · subst hj
      refine .inr ⟨rfl, ?_⟩
      have hne : { s.atlasGet j with flags := { (s.atlasGet j).flags with gap := true } } ≠ unpopulated := fun e =>
        h (.inr (by simp only [entrySpecial, decide_eq_true_eq]; exact ⟨congrArg Entry.min e, congrArg Entry.max e⟩))
      exact congrArg (·.flags.gap) (s.atlasGet_atlasPut_self j hne)
    · exact .inl (s.atlasGet_atlasPut_other i j _ hj)

theorem track_modTrack_self (i : Nat) (f : RecTrack → RecTrack) : (s.modTrack i f).track i = f (s.track i) := by
  simp [State.track, State.modTrack]

theorem track_modTrack_other (i j : Nat) (f : RecTrack → RecTrack) (h : j ≠ i) : (s.modTrack i f).track j = s.track j :=
  congrArg (·.getD {}) (smapGet_smapSet_other s.tracks i j _ h)

/-- The next entry of an index that is lost carries GAP; what is tracked of every other index stays. -/
theorem markLost_track (i j : Nat) :
    (s.markLost i).track j = s.track j ∨ ((s.markLost i).track j).gapNext = true := by
  simp only [State.markLost]
  by_cases hj : j = i
  · subst hj
    exact .inr (by rw [track_modTrack_self])
  · refine .inl ?_
    rw [track_modTrack_other _ i j _ hj]
    split <;> rfl

theorem kept_markLost (i : Nat) : kept [.atlas, .tracks] s (s.markLost i) := by
  simp only [State.markLost]
  split
  · exact kept_mono (kept_tracks s i _) (by decide)
  · exact kept_mono (kept_trans (kept_atlasPut s i _) (kept_tracks _ i _)) (by decide)

/-- What the loss of a list of entries does at each index. -/
theorem foldl_markLost (l : List Nat) (i : Nat) :
    (((l.foldl State.markLost s).atlasGet i).flags.gap = true ∨ (l.foldl State.markLost s).atlasGet i = s.atlasGet i) ∧
    (((l.foldl State.markLost s).track i).gapNext = true ∨ (l.foldl State.markLost s).track i = s.track i) ∧
    (i ∉ l → (l.foldl State.markLost s).atlasGet i = s.atlasGet i) ∧ kept [.atlas, .tracks] s (l.foldl State.markLost s) := by
  induction l generalizing s with
  | nil => exact ⟨.inr rfl, .inr rfl, fun _ => rfl, kept_refl _ s⟩
  | cons n l ih =>
    obtain ⟨ha, ht, ho, hk⟩ := ih (s.markLost n)
    have h1 := s.markLost_atlasGet n i
    have h2 := s.markLost_track n i
    rw [List.foldl_cons]
    refine ⟨ha.elim .inl fun e => ?_, ht.elim .inl fun e => ?_, fun hn => ?_, kept_chain (s.kept_markLost n) hk⟩
    · rw [e]
      exact h1.symm.imp_left And.right
    · rw [e]
      exact h2.symm
    · obtain ⟨hin, hil⟩ := not_or.1 (mt List.mem_cons.2 hn)
      rw [ho hil]
      exact h1.resolve_right fun h => hin h.1

theorem loseInFlight_marks (i : Nat) :
    ((s.loseInFlight.atlasGet i).flags.gap = true ∨ s.loseInFlight.atlasGet i = s.atlasGet i) ∧
    ((s.loseInFlight.track i).gapNext = true ∨ s.loseInFlight.track i = s.track i) ∧
    (Config.inFlight s.draws i = false → s.loseInFlight.atlasGet i = s.atlasGet i) ∧
    kept [.draws, .atlas, .tracks] s s.loseInFlight := by
  obtain ⟨ha, ht, ho, hk⟩ := foldl_markLost { s with draws := s.draws + 1 } ((List.range (192 * s.trv.n)).filter fun i =>
    s.recPresent (i / 192) (i % 192) && !(headRecords (i / 192) (groupOf (i % 192))).contains (i % 192)
      && Config.inFlight s.draws i) i
  refine ⟨ha, ht, fun hf => ho fun hm => ?_, kept_trans (kept_draws s (s.draws + 1)) hk⟩
  simp [hf] at hm

end State

/-! ### The commands of the barrier -/

/-- The end of a lane's loss, after what it has done to the entries in flight. -/
theorem laneLost_finish (s y : State) (l : Lane) (out : List Part) (hk : kept out s y) :
    let t := s.finish ({ y with pw := { y.pw with lostLanes := l :: y.pw.lostLanes } }.barrier (laneSub l))
    t.pw.lostLanes = l :: y.pw.lostLanes ∧ (∀ i, t.atlasGet i = y.atlasGet i) ∧ (∀ i, t.track i = y.track i) ∧
      faulted (out ++ [.power]) s t ⟨0x16, laneSub l, 0, openDetail 0x16 (laneSub l) 0⟩ := by
  have hb : ({ y with pw := { y.pw with lostLanes := l :: y.pw.lostLanes } }.barrier (laneSub l)).bare = y.bare :=
    State.raiseOpenAt_bare _ _ _ _
  refine ⟨?_, fun i => ?_, fun i => ?_, faulted_raiseOpenAt (kept_trans hk (kept_power y _)) _ _ _⟩
  · rw [State.finish_pw]
    exact congrArg PowerSt.lostLanes (State.pw_of_steady (State.raiseOpenAt_steady
      { y with pw := { y.pw with lostLanes := l :: y.pw.lostLanes } } _ _ _))
  · simp only [State.atlasGet, State.finish_atlas, State.atlas_of_bare hb]
  · simp only [State.track, State.finish_tracks, State.tracks_of_bare hb]

theorem barrierLaneLoss_raises_barrier {s : State} {l : Lane} (hr : s.pw.running = true) (hl : l ∉ s.pw.lostLanes) :
    answers (.barrierLaneLoss l) s fun t =>
      t.pw.lostLanes = l :: s.pw.lostLanes ∧
      (∀ i, ((t.atlasGet i).flags.gap = true ∨ t.atlasGet i = s.atlasGet i) ∧
        ((t.track i).gapNext = true ∨ t.track i = s.track i) ∧ (Config.inFlight s.draws i = false → t.atlasGet i = s.atlasGet i)) ∧
      faulted [.atlas, .tracks] s t ⟨0x16, laneSub l, 0, openDetail 0x16 (laneSub l) 0⟩ ∧
      (l = .D1 → faulted [] s t ⟨0x16, laneSub l, 0, openDetail 0x16 (laneSub l) 0⟩) := by
  by_cases hd : l = .D1
  · have e : execBarrierLaneLoss l s = done s ({ s with pw := { s.pw with lostLanes := l :: s.pw.lostLanes } }.barrier (laneSub l)) := by
      unfold execBarrierLaneLoss
      rw [onC_running hr, if_neg (by simpa using hl)]
      simp only [if_pos hd]
    obtain ⟨hp, ha, ht, hf⟩ := laneLost_finish s s l [] (kept_refl [] s)
    refine ⟨_, e, hp, fun i => ⟨.inr (ha i), .inr (ht i), fun _ => ha i⟩, ?_, fun _ => ?_⟩
    · exact faulted_mono hf (by decide)
    · exact faulted_mono hf (by decide)
  · have e : execBarrierLaneLoss l s
        = done s ({ s.loseInFlight with pw := { s.loseInFlight.pw with lostLanes := l :: s.loseInFlight.pw.lostLanes } }.barrier
          (laneSub l)) := by
      unfold execBarrierLaneLoss
      rw [onC_running hr, if_neg (by simpa using hl)]
      simp only [if_neg hd]
    obtain ⟨_, _, _, hk⟩ := s.loseInFlight_marks 0
    have hpw : s.loseInFlight.pw = s.pw := hk .power (by decide)
    obtain ⟨hp, ha, ht, hf⟩ := laneLost_finish s s.loseInFlight l _ hk
    refine ⟨_, e, by rw [hp, hpw], fun i => ?_, faulted_mono hf (by decide), fun h => absurd h hd⟩
    obtain ⟨h1, h2, h3, _⟩ := s.loseInFlight_marks i
    rw [ha i, ht i]
    exact ⟨h1, h2, h3⟩

theorem kept_openMask (s : State) (k : MaskKind) (dur : Nat) : kept [.collector] s (s.openMask k dur) := fun p hp => by
  cases p
  case collector => simp at hp
  case errOut => exact ⟨rfl, rfl, rfl⟩
  case host h => cases h <;> rfl
  all_goals simp [Part.same, State.openMask, State.dev]

theorem barrierLaneRetrain_opens_mask {s : State} {l : Lane} {ok : Bool} (hr : s.pw.running = true) (hl : l ∈ s.pw.lostLanes) :
    answers (.barrierLaneRetrain l ok) s fun t =>
      t.pw = { s.pw with lostLanes := if ok then s.pw.lostLanes.filter (fun x => decide (x ≠ l)) else s.pw.lostLanes } ∧
      t.flt.masks = ⟨.lane l, s.now + 1000000 + 2 * s.periodNs⟩ :: s.flt.masks.filter (fun m => decide (m.kind ≠ .lane l)) ∧
      kept (.power :: .collector :: tripParts) s t := by
  have e : execBarrierLaneRetrain l ok s = done s { s.openMask (.lane l) (ms 1) with pw := { s.pw with
      lostLanes := if ok then s.pw.lostLanes.filter (fun x => decide (x ≠ l)) else s.pw.lostLanes } } := by
    unfold execBarrierLaneRetrain
    rw [onC_running hr, if_pos (by simpa using hl)]
    cases ok <;> rfl
  refine ⟨_, e, by rw [State.finish_pw], by rw [State.finish_flt_masks]; rfl, ?_⟩
  exact State.kept_mono (kept_finish (kept_trans (kept_openMask s _ _) (kept_power _ _))) (by decide)

theorem sweepMarkLoss_raises_barrier {s : State} (hr : s.pw.running = true) (ha : (s.dev 0).awake = true)
    (hh : (s.dev 0).isHead = true) (hm : s.pw.markLost = false) : answers .sweepMarkLoss s fun t =>
      t.pw.markLost = true ∧ t.now = max s.now (s.swp.nextB - 16000 + 1000) ∧
      faulted [] s t ⟨0x16, 4, 0, openDetail 0x16 4 0⟩ := by
  let y : State := { s.until (s.swp.nextB - 16000 + 1000) with pw := { s.pw with markLost := true } }
  have e : execSweepMarkLoss s = done s (y.raiseOpenAt ⟨0x16, 4, 0, openDetail 0x16 4 0⟩ true y.sweep) := by
    unfold execSweepMarkLoss
    rw [onC_running hr]
    exact congrArg (done s) (if_pos ⟨ha, hh, hm⟩)
  have hst := State.raiseOpenAt_steady y ⟨0x16, 4, 0, openDetail 0x16 4 0⟩ true y.sweep
  refine ⟨_, e, ?_, ?_, faulted_mono (faulted_raiseOpenAt (kept_trans (kept_until s _) (kept_power _ _)) _ _ _) (by decide)⟩
  · rw [State.finish_pw]; exact congrArg PowerSt.markLost (State.pw_of_steady hst)
  · rw [State.finish_now, State.now_of_steady hst]
    exact (Nat.max_assoc _ _ _).symm.trans (by rw [Nat.max_self])

theorem sErrUnexplained_raises_barrier {s : State} {n : Nat} (hr : s.pw.running = true) (hs : s.saf.sErr = true)
    (hn : s.saf.sErrAt = some n)
    (hc : ∀ c ∈ s.flt.causes, ¬ (c.src.cls = 0x0E ∧ c.src.detail = 0) ∧ ¬ (c.src.cls = 0x17 ∧ c.src.sub = 1 ∧ c.src.pos = 0)) :
    answers .sErrUnexplained s fun t =>
      t.saf.sErrAt = none ∧ t.now = max s.now (n + 1000000) ∧ faulted [.inputs] s t ⟨0x16, 5, 0, openDetail 0x16 5 0⟩ := by
  let y : State := { s.until (n + ms 1) with saf := { s.saf with sErrAt := none } }
  have htold : s.flt.causes.any (fun c => decide (c.src.cls = 0x0E ∧ c.src.detail = 0)
      || decide (c.src.cls = 0x17 ∧ c.src.sub = 1 ∧ c.src.pos = 0)) = false := by
    rw [List.any_eq_false]
    intro c hm
    simpa using hc c hm
  have e : execSErrUnexplained s = done s (y.raiseOpenAt ⟨0x16, 5, 0, openDetail 0x16 5 0⟩ true y.sweep) := by
    unfold execSErrUnexplained
    rw [onC_running hr]
    simp only [hs, hn, htold]
    rfl
  have hst := State.raiseOpenAt_steady y ⟨0x16, 5, 0, openDetail 0x16 5 0⟩ true y.sweep
  refine ⟨_, e, ?_, ?_, faulted_raiseOpenAt (kept_trans (kept_until s _) (kept_inputs (s.until (n + ms 1)) { s.saf with sErrAt := none } ⟨rfl, rfl, rfl, rfl⟩)) _ _ _⟩
  · rw [State.finish_saf_sErrAt]
    exact congrArg SafetySt.sErrAt (State.saf_of_bare (State.raiseOpenAt_bare y ⟨0x16, 5, 0, openDetail 0x16 5 0⟩ true y.sweep))
  · rw [State.finish_now, State.now_of_steady hst]
    exact (Nat.max_assoc _ _ _).symm.trans (by rw [Nat.max_self]; rfl)

/-- Settles O29: one lemma for each of the barrier's commands. -/
theorem barrierLossesAreReported : Obligations.BarrierLossesAreReported := fun _ hr =>
  ⟨fun _ hl => barrierLaneLoss_raises_barrier hr hl, fun _ _ hl => barrierLaneRetrain_opens_mask hr hl,
    fun ha hh hm => sweepMarkLoss_raises_barrier hr ha hh hm, fun _ hs hn hc => sErrUnexplained_raises_barrier hr hs hn hc⟩

end Sys2Proof.Machine
end

section
/-!
SUPPORT. An S-die starts, takes its role, stops and goes DORMANT (R37, R485, R499), and with it O36.
-/

namespace Sys2Proof.Machine

/-- The trip path touches a device at the head alone (C_ERR, R353). -/
theorem State.evalTrip_dev_other (s : State) (e : Nat) (h : e ≠ 0) : s.evalTrip.dev e = s.dev e := by
  unfold State.evalTrip
  dsimp only
  split
  · split
    · exact State.dev_modDev_other _ 0 e _ h
    · rfl
  · split <;> simp [State.dev]

theorem State.finish_dev_other (s t : State) (e : Nat) (h : e ≠ 0) : (s.finish t).dev e = t.dev e := by
  cases hr : t.pw.running
  · rw [State.finish_halted s t hr]; rfl
  · rw [State.finish_running s t hr, State.evalTrip_dev_other _ e h]; rfl

/-- A stored table that passes its CRC, or none, starts without a report (R133). -/
theorem Dev.start_intact (d : Dev) (now : Nat) {intact : Bool}
    (h : d.sv.stored = none ∨ d.sv.storedOk = true ∧ intact = true) : d.start now intact = { d.afterReset with
      power := .awake, startAt := now, lastFrame := now
      portE := { downAt := now : PortSt }, portW := { downAt := now : PortSt } } := by
  have hok : (d.sv.stored.isNone || (d.sv.storedOk && intact)) = true := by
    obtain h | ⟨h, k⟩ := h
    · simp [h]
    · simp [h, k]
  simp only [Dev.start, hok, if_true]

/-- A stored table that fails its CRC is reported, and the default table runs (R133, R543). -/
theorem Dev.start_broken (d : Dev) (now : Nat) (h : d.sv.stored ≠ none) :
    (d.start now false).sv.storedOk = false ∧ (d.start now false).table = defaultTable false ∧
    (d.start now false).events = [Item.mk 0xC2 1 (.event 0x1A 2 0 ((d.start now false).sweep % 2 ^ 32) 0 0)] := by
  obtain ⟨x, hx⟩ := Option.ne_none_iff_exists'.1 h
  have hok : (d.sv.stored.isNone || (d.sv.storedOk && false)) = false := by simp [hx]
  have e : d.start now false = (({ d.afterReset with
      power := .awake, startAt := now, lastFrame := now
      portE := { downAt := now : PortSt }, portW := { downAt := now : PortSt } } : Dev).modSv
        (fun v => { v with storedOk := false })).report true 0x1A 2 0 0 := by
    simp only [Dev.start, hok]
    rfl
  have hs : (d.start now false).sv.stored = some x := by rw [e]; exact hx
  have hk : (d.start now false).sv.storedOk = false := by rw [e]; rfl
  refine ⟨hk, ?_, by rw [e]; rfl⟩
  simp only [Dev.table, hs, hk, cond_false]
  rw [e]
  rfl

theorem Dev.table_of_body {x y : Dev} (h : x.body = y.body) : x.table = y.table := by
  have e := congrArg Dev.table h
  exact e

theorem Dev.sv_of_body {x y : Dev} (h : x.body = y.body) : x.sv = y.sv := by
  have e := congrArg Dev.sv h
  exact e

theorem sDieStart_starts {s : State} {d : Nat} (hl : d < s.devs.length) (hp : (s.dev d).power = .por) :
    answers (.sDieStart d) s fun t =>
      (t.dev d).body = ((s.dev d).start s.now (Config.tableIntact s.draws)).body ∧ othersKept s t d ∧
      ((s.dev d).sv.stored = none ∨ (s.dev d).sv.storedOk = true ∧ Config.tableIntact s.draws = true →
        (t.dev d).body = { (s.dev d).afterReset with
          power := .awake, startAt := s.now, lastFrame := s.now
          portE := { downAt := s.now : PortSt }, portW := { downAt := s.now : PortSt } }.body) ∧
      ((s.dev d).sv.stored ≠ none → Config.tableIntact s.draws = false → (t.dev d).sv.storedOk = false ∧
        (t.dev d).table = defaultTable false ∧
        (d ≠ 0 → (t.dev d).events = [Item.mk 0xC2 1 (.event 0x1A 2 0 ((t.dev d).sweep % 2 ^ 32) 0 0)])) ∧
      kept (.draws :: .devices :: tripParts) s t := by
  have e : execSDieStart d s = done s (s.startDev d) := by
    unfold execSDieStart
    rw [if_pos hp]
  have hb : ((s.finish (s.startDev d)).dev d).body = ((s.dev d).start s.now (Config.tableIntact s.draws)).body := by
    rw [State.finish_body, State.startDev_self s d hl]
  refine ⟨_, e, hb, fun k hk => ?_, fun hi => by rw [hb, Dev.start_intact _ _ hi], fun hs hf => ?_, ?_⟩
  · rw [State.finish_body, State.startDev_others s d k hk]
  · rw [hf] at hb
    obtain ⟨h1, h2, h3⟩ := (s.dev d).start_broken s.now hs
    refine ⟨by rw [Dev.sv_of_body hb, h1], by rw [Dev.table_of_body hb, h2], fun h0 => ?_⟩
    rw [State.finish_dev_other _ _ d h0, State.startDev_self s d hl, hf, h3]
  · exact State.kept_mono (kept_finish (kept_startDev s d)) (by decide)

/-- A command that changes one device and lets no report of the head out. -/
theorem done_becomes (s : State) (d : Nat) (g : Dev → Dev) (hl : d < s.devs.length) :
    deviceBecomes s (s.finish (s.modDev d g)) d (g (s.dev d)) s.now := by
  refine ⟨by rw [State.finish_body, State.dev_modDev_self s d g hl], fun e he => ?_, fun h0 hr => ?_⟩
  · rw [State.finish_body, State.dev_modDev_other s d e g he]
  · rw [State.finish_id s (t := s.modDev d g) hr rfl rfl rfl rfl (by rw [State.dev_modDev_other s d 0 g (Ne.symm h0)]),
      State.modAt_const s d g hl]
    rfl

theorem sDieStop_resets {s : State} {d : Nat} (hp : (s.dev d).power ≠ .por) : answers (.sDieStop d) s fun t =>
    deviceBecomes s t d (s.dev d).afterReset s.now ∧ (t.dev d).power = .por ∧ (t.dev d).portE.st = .down ∧
      (t.dev d).portW.st = .down := by
  have e : execSDieStop d s = done s (s.modDev d (·.afterReset)) := by
    unfold execSDieStop
    rw [if_neg hp]
  have hb := done_becomes s d (·.afterReset) (s.lt_of_power d hp)
  exact ⟨_, e, hb, congrArg (·.power) hb.1, congrArg (·.portE.st) hb.1, congrArg (·.portW.st) hb.1⟩

theorem roleAtPowerUp_takes_role {s : State} {d : Nat} (ha : (s.dev d).awake = true) (hr : (s.dev d).role = .undetermined) :
    answers (.roleAtPowerUp d) s fun t =>
      deviceBecomes s t d (if d = 0 ∧ (s.dev d).d1 = true ∧ s.pw.refClock = true then (s.dev d).becomeHead else (s.dev d).becomeMember)
        ((s.dev d).startAt + 20000000) ∧
      (t.dev d).role = (if d = 0 ∧ (s.dev d).d1 = true ∧ s.pw.refClock = true then .head else .member) ∧
      ((t.dev d).role = .head → (t.dev d).portE.clkSrc = false ∧ (t.dev d).portW.clkSrc = false) := by
  obtain ⟨t, ht, hb⟩ := onS_becomes (s := s) (d := d) (n := (s.dev d).startAt + ms 20)
    (f := fun s => if (s.dev d).role ≠ .undetermined then s
      else (s.until ((s.dev d).startAt + ms 20)).modDev d (fun x => if d = 0 ∧ x.d1 ∧ s.pw.refClock then x.becomeHead else x.becomeMember))
    (g := fun x => if d = 0 ∧ x.d1 ∧ s.pw.refClock then x.becomeHead else x.becomeMember) ha (if_neg (by simp [hr]))
  refine ⟨t, ht, hb, ?_⟩
  have hs := hb.1
  split at hs
  · next h =>
    rw [if_pos h]
    exact ⟨Dev.role_of_body hs, fun _ => ⟨congrArg (·.portE.clkSrc) hs, congrArg (·.portW.clkSrc) hs⟩⟩
  · next h =>
    rw [if_neg h]
    have hm : (t.dev d).role = .member := Dev.role_of_body hs
    exact ⟨hm, fun h' => absurd (hm.symm.trans h') (by decide)⟩

theorem sDieSilenceDormant_goes_dormant {s : State} {d : Nat} (ha : (s.dev d).awake = true) :
    answers (.sDieSilenceDormant d) s fun t =>
      deviceBecomes s t d { (s.dev d).afterReset with power := .dormant, dormantAt := none }
        ((s.dev d).lastFrame + 60000000000) := by
  have hn : ms 60000 = 60000000000 := by simp [ms]
  rw [← hn]
  exact onS_becomes (f := fun s => (s.until ((s.dev d).lastFrame + ms 60000)).modDev d (fun x =>
    { x.goDormant (s.until ((s.dev d).lastFrame + ms 60000)).now with dormantAt := none }))
    (g := fun x => { x.afterReset with power := .dormant, dormantAt := none }) ha rfl

/-- Settles O36: one lemma for each of the S-die's starts and stops. -/
theorem sDiesStartAndStop : Obligations.SDiesStartAndStop := fun _ _ =>
  ⟨fun hl hp => sDieStart_starts hl hp, fun hp => sDieStop_resets hp, fun ha hr => roleAtPowerUp_takes_role ha hr,
    fun ha => sDieSilenceDormant_goes_dormant ha⟩

end Sys2Proof.Machine
end

section
/-!
SUPPORT. D1 trains, a Traverse starts, and a keep-alive leaves (R37, R38, R234, R277, R278): what a port that leaves UP and the
wake pattern leave of a device, a frame of the head's own at each port, and with them O43.
-/

namespace Sys2Proof.Machine

/-! ### What the ports do not touch -/

/-- A device without its ring ports and the reports that wait. -/
def Dev.inner (d : Dev) : Dev := { d with portE := {}, portW := {}, events := [] }

namespace Dev

variable (d : Dev)

@[simp] theorem modPort_inner (p : RPort) (f : PortSt → PortSt) : (d.modPort p f).inner = d.inner := by cases p <;> rfl
@[simp] theorem ringLink_inner (up : Bool) (sub : Nat) (p : RPort) : (d.ringLink up sub p).inner = d.inner := rfl
@[simp] theorem emit_inner (p : RPort) (now : Nat) (own : Bool) (f : Frame) : (d.emit p now own f).inner = d.inner := by
  obtain e | ⟨-, -, -, e⟩ | e := d.emit_cases p now own f <;> simp [e]
@[simp] theorem moveClock_inner (p : RPort) : (d.moveClock p).inner = d.inner := by
  unfold Dev.moveClock; dsimp only; split <;> simp

@[simp] theorem leaveUp_inner (p : RPort) (now : Nat) (st : PortState) (quiet : Bool) :
    (d.leaveUp p now st quiet).inner = d.inner := by
  have h (l : List TxFrame) (x : Dev) := foldl_keep Dev.inner
    (fun (d : Dev) (y : TxFrame) => d.emit p now y.own y.frame) (fun x y => emit_inner x p now y.own y.frame) l x
  unfold Dev.leaveUp
  dsimp only
  (repeat' split) <;> simp only [h, modPort_inner, ringLink_inner]

@[simp] theorem wakePort_inner (p : RPort) (now : Nat) (quiet : Bool) : (d.wakePort p now quiet).inner = d.inner := by
  unfold Dev.wakePort; dsimp only; split <;> simp

@[simp] theorem sendWake_inner (now : Nat) (quiet : RPort → Bool) : (d.sendWake now quiet).inner = d.inner := by
  simp [Dev.sendWake]

theorem role_of_inner {x y : Dev} (h : x.inner = y.inner) : x.role = y.role := by
  have e := congrArg Dev.role h
  exact e
theorem d1_of_inner {x y : Dev} (h : x.inner = y.inner) : x.d1 = y.d1 := by
  have e := congrArg Dev.d1 h
  exact e

/-! ### The state of a port -/

theorem moveClock_st (p q : RPort) : ((d.moveClock p).port q).st = (d.port q).st := by
  unfold Dev.moveClock
  dsimp only
  split
  · exact (port_modPort_keep (·.st) _ (rportOther p) q _ (by intro _; rfl)).trans
      (port_modPort_keep (·.st) d p q _ (by intro _; rfl))
  · exact port_modPort_keep (·.st) d p q _ (by intro _; rfl)

/-- A port that leaves UP touches the state of no other port. -/
theorem leaveUp_st_other (p : RPort) (now : Nat) (st : PortState) (quiet : Bool) :
    ((d.leaveUp p now st quiet).port (rportOther p)).st = (d.port (rportOther p)).st := by
  have h (l : List TxFrame) (x : Dev) := foldl_keep (fun y : Dev => (y.port (rportOther p)).st)
    (fun (d : Dev) (y : TxFrame) => d.emit p now y.own y.frame)
    (fun x y => emit_port_keep (·.st) (fun _ _ _ _ => rfl) x p (rportOther p) now y.own y.frame) l x
  have hr (x : Dev) (up : Bool) (sub : Nat) : ((x.ringLink up sub p).port (rportOther p)).st = (x.port (rportOther p)).st := by
    cases p <;> rfl
  unfold Dev.leaveUp
  dsimp only
  (repeat' split) <;> simp only [hr, h, port_modPort_other]

theorem wakePort_st_self (p : RPort) (now : Nat) (quiet : Bool) : ((d.wakePort p now quiet).port p).st = .wake := by
  unfold Dev.wakePort
  dsimp only
  rw [moveClock_st, port_modPort_self]

theorem wakePort_st_other (p : RPort) (now : Nat) (quiet : Bool) :
    ((d.wakePort p now quiet).port (rportOther p)).st = (d.port (rportOther p)).st := by
  unfold Dev.wakePort
  dsimp only
  rw [moveClock_st, port_modPort_other]
  split
  · exact leaveUp_st_other d p now .wake quiet
  · rfl

/-- The wake pattern stands at both ports (R258). -/
theorem sendWake_st (now : Nat) (quiet : RPort → Bool) (p : RPort) : ((d.sendWake now quiet).port p).st = .wake := by
  unfold Dev.sendWake
  cases p
  · exact (wakePort_st_other _ .W now _).trans (wakePort_st_self d .E now _)
  · exact wakePort_st_self _ .W now _

end Dev

/-! ### D1 trains -/

/-- What the training of D1 makes of the head's S-die: it listens no longer where it turns `head` (R37, R258). -/
def Dev.trainD1 (d : Dev) (head : Bool) (now : Nat) (quiet : RPort → Bool) : Dev :=
  { (if head then d.becomeHead else d) with d1 := true }.sendWake now quiet

theorem Dev.trainD1_d1 (d : Dev) (head : Bool) (now : Nat) (quiet : RPort → Bool) : (d.trainD1 head now quiet).d1 = true :=
  Dev.d1_of_inner (Dev.sendWake_inner _ now quiet)

theorem Dev.trainD1_role (d : Dev) (head : Bool) (now : Nat) (quiet : RPort → Bool) :
    (d.trainD1 head now quiet).role = if head then .head else d.role := by
  refine (Dev.role_of_inner (Dev.sendWake_inner _ now quiet)).trans ?_
  cases head <;> rfl

/-- A change at the C-die and one at the head's S-die that trigger a Traverse. -/
theorem triggered_finish (s : State) (x : PowerSt) (g : Dev → Dev) (hl : 0 < s.devs.length) :
    let t := s.finish ({ s with pw := x }.modDev 0 g).triggerTraverse
    t.pw = x ∧ t.trv = { s.trv with trigger := true, trigAt := s.now } ∧ (t.dev 0).body = (g (s.dev 0)).body ∧
      othersKept s t 0 ∧ kept (.power :: .traverse :: .devices :: tripParts) s t := by
  refine ⟨by rw [State.finish_pw]; rfl, by rw [State.finish_trv]; rfl, ?_, fun e he => ?_, ?_⟩
  · rw [State.finish_body]
    exact congrArg Dev.body (State.dev_modDev_self { s with pw := x } 0 g hl)
  · rw [State.finish_body]
    exact congrArg Dev.body (State.dev_modDev_other { s with pw := x } 0 e g he)
  · exact State.kept_mono (kept_finish (kept_trans (kept_trans (kept_power s x) (kept_modDev _ 0 g)) (kept_traverse _ _)))
      (by decide)

theorem d1Trained_triggers_traverse {s : State} (hr : s.pw.running = true) (ha : (s.dev 0).awake = true)
    (hd : ¬ (s.pw.d1 = true ∧ (s.dev 0).d1 = true)) : answers .d1Trained s fun t =>
      t.pw = { s.pw with d1 := true, woken := true } ∧ t.trv = { s.trv with trigger := true, trigAt := s.now } ∧
      (t.dev 0).d1 = true ∧ (t.dev 0).portE.st = .wake ∧ (t.dev 0).portW.st = .wake ∧ ((s.dev 0).role = .head → (t.dev 0).role = .head) ∧
      ((s.dev 0).role = .member → (t.dev 0).role = .member) ∧
      ((s.dev 0).role = .undetermined → (t.dev 0).role =
        (if s.pw.refClock = true ∧ s.now ≤ (s.dev 0).startAt + 20000000 then .head else .undetermined)) ∧
      othersKept s t 0 ∧ kept (.power :: .traverse :: .devices :: tripParts) s t := by
  have hc : ¬ ((s.dev 0).awake = false ∨ (s.pw.d1 = true ∧ (s.dev 0).d1 = true)) := fun h => h.elim (fun h => by rw [ha] at h; cases h) hd
  obtain ⟨head, hh⟩ : ∃ h : Bool, h = (decide ((s.dev 0).role = Role.undetermined) && s.pw.refClock
      && decide (s.now ≤ (s.dev 0).startAt + ms 20)) := ⟨_, rfl⟩
  have e : execD1Trained s = done s ({ s with pw := { s.pw with d1 := true, woken := true } }.modDev 0
      (·.trainD1 head s.now ({ s with pw := { s.pw with d1 := true, woken := true } }.quietLoss 0))).triggerTraverse := by
    unfold execD1Trained
    rw [onC_running hr, hh]
    simp only [if_neg hc]
    rfl
  obtain ⟨hp, ht, hb, ho, hk⟩ := triggered_finish s { s.pw with d1 := true, woken := true } (·.trainD1 head s.now
    ({ s with pw := { s.pw with d1 := true, woken := true } }.quietLoss 0)) (s.lt_of_awake 0 ha)
  have hrole := (Dev.role_of_body hb).trans (Dev.trainD1_role _ _ _ _)
  refine ⟨_, e, hp, ht, ?_, ?_, ?_, fun h => ?_, fun h => ?_, fun h => ?_, ho, hk⟩
  · exact (congrArg (·.d1) hb).trans (Dev.trainD1_d1 _ _ _ _)
  · exact (congrArg (·.portE.st) hb).trans (Dev.sendWake_st _ _ _ .E)
  · exact (congrArg (·.portW.st) hb).trans (Dev.sendWake_st _ _ _ .W)
  · rw [hrole, hh, h]; simp
  · rw [hrole, hh, h]; simp
  · rw [hrole, hh, h]
    refine if_congr ?_ rfl rfl
    rw [decide_eq_true rfl, Bool.true_and, Bool.and_eq_true, decide_eq_true_eq]
    rfl

theorem d1TrainsLate_triggers_traverse {s : State} (hr : s.pw.running = true) (ha : (s.dev 0).awake = true)
    (hm : (s.dev 0).role = .member) (hp : (s.dev 0).pos ≠ none) : answers (.d1TrainsLate 0) s fun t =>
      t.pw = { s.pw with d1 := true } ∧ t.trv = { s.trv with trigger := true, trigAt := s.now } ∧
      (t.dev 0).body = { s.dev 0 with d1 := true }.body ∧ othersKept s t 0 ∧
      kept (.power :: .traverse :: .devices :: tripParts) s t := by
  have e : execD1TrainsLate 0 s
      = done s ({ s with pw := { s.pw with d1 := true } }.modDev 0 (fun x => { x with d1 := true })).triggerTraverse := by
    unfold execD1TrainsLate
    rw [onC_running hr]
    simp only [ha, hm, hp]
    rfl
  exact ⟨_, e, triggered_finish s { s.pw with d1 := true } (fun x => { x with d1 := true }) (s.lt_of_awake 0 ha)⟩

theorem traverseRetryTimer_triggers {s : State} {n : Nat} (hr : s.pw.running = true) (hn : s.trv.retryAt = some n) :
    answers .traverseRetryTimer s fun t =>
      t.trv = { s.trv with retryAt := none, trigger := true, trigAt := max s.now (n + 1000000000) } ∧
      t.now = max s.now (n + 1000000000) ∧ kept (.traverse :: tripParts) s t := by
  have e : execTraverseRetryTimer s = done s { s.until (n + ms 1000) with
      trv := { s.trv with retryAt := none, trigger := true, trigAt := max s.now (n + ms 1000) } } := by
    unfold execTraverseRetryTimer
    rw [onC_running hr, hn]
    rfl
  refine ⟨_, e, by rw [State.finish_trv]; rfl, ?_, ?_⟩
  · rw [State.finish_now]
    exact (Nat.max_assoc _ _ _).symm.trans (by rw [Nat.max_self]; rfl)
  · exact State.kept_mono (kept_finish (kept_trans (kept_until s _) (kept_traverse _ _))) (by decide)

/-! ### A Traverse starts -/

/-- Two changes of a device that make the same of it. -/
theorem State.modDev_congr (s : State) (d : Nat) (f g : Dev → Dev) (hl : d < s.devs.length) (h : f (s.dev d) = g (s.dev d)) :
    s.modDev d f = s.modDev d g := by
  unfold State.modDev
  rw [← State.modAt_const s d f hl, h, State.modAt_const s d g hl]

theorem State.modDev_id (s : State) (d : Nat) : s.modDev d id = s := by
  unfold State.modDev modAt
  rw [List.modify_id]

theorem State.modDev_modDev (s : State) (d : Nat) (f g : Dev → Dev) : (s.modDev d f).modDev d g = s.modDev d (g ∘ f) := by
  unfold State.modDev modAt
  simp [List.modify_modify_eq]

/-- The token of the running pass, as it leaves by a port that is UP. -/
def Dev.sendTok (d : Dev) (r : TraverseSt) (now : Nat) (p : RPort) : Dev :=
  if (d.port p).st = .up then d.hopFrame p now
    (.token ⟨r.trav, r.pass, decide (p = .W), false, false, 0, Config.factoryId 0, 0, (d.port p).fwd, []⟩) else d

theorem State.sendToken_eq (s : State) (p : RPort) (hl : 0 < s.devs.length) :
    s.sendToken p = s.modDev 0 (·.sendTok s.trv s.now p) := by
  unfold State.sendToken
  dsimp only
  split
  · next h => exact s.modDev_congr 0 _ _ hl (if_pos h).symm
  · next h => exact (s.modDev_id 0).symm.trans (s.modDev_congr 0 id _ hl (if_neg h).symm)

@[simp] theorem Dev.sendTok_role (d : Dev) (r : TraverseSt) (now : Nat) (p : RPort) : (d.sendTok r now p).role = d.role := by
  unfold Dev.sendTok
  split
  · exact Dev.hopFrame_role _ _ _ _
  · rfl

theorem Dev.sendTok_port_other (d : Dev) (r : TraverseSt) (now : Nat) (p : RPort) :
    (d.sendTok r now p).port (rportOther p) = d.port (rportOther p) := by
  unfold Dev.sendTok
  split
  · next h => rw [Dev.hopFrame_token_up d p now _ h, Dev.port_modPort_other]
  · rfl

/-- The token stands behind everything that the port has taken (R255, R278). -/
theorem Dev.sendTok_tx (d : Dev) (r : TraverseSt) (now : Nat) (p : RPort) (h : (d.port p).st = .up) :
    ∃ g : Frame, ((d.sendTok r now p).port p).tx = ⟨g, max (d.port p).busyUntil now, true⟩ :: (d.port p).tx ∧ g.payload =
      .token ⟨r.trav, r.pass, decide (p = .W), false, false, 0, Config.factoryId 0, 0, (d.port p).fwd, []⟩ := by
  refine ⟨mkFrame 0xFE d.src 0 0
    (.token ⟨r.trav, r.pass, decide (p = .W), false, false, 0, Config.factoryId 0, 0, (d.port p).fwd, []⟩), ?_, rfl⟩
  unfold Dev.sendTok
  rw [if_pos h, Dev.hopFrame_token_up d p now _ h, Dev.port_modPort_self, PortSt.transmit_own]

/-- The head's S-die as a pass starts (R278). -/
def Dev.startPass (d : Dev) (r : TraverseSt) (now : Nat) : Dev := (d.becomeHead.sendTok r now .E).sendTok r now .W

theorem Dev.startPass_tx (d : Dev) (r : TraverseSt) (now : Nat) (p : RPort) (h : (d.port p).st = .up) :
    ∃ g : Frame, ((d.startPass r now).port p).tx = ⟨g, max (d.port p).busyUntil now, true⟩ :: (d.port p).tx ∧ g.payload =
      .token ⟨r.trav, r.pass, decide (p = .W), false, false, 0, Config.factoryId 0, 0, (d.port p).fwd, []⟩ := by
  cases p
  · rw [show (d.startPass r now).port .E = (d.becomeHead.sendTok r now .E).port .E from Dev.sendTok_port_other _ r now .W]
    exact Dev.sendTok_tx d.becomeHead r now .E h
  · have hw : (d.becomeHead.sendTok r now .E).port .W = d.becomeHead.port .W := Dev.sendTok_port_other _ r now .E
    obtain ⟨g, hg⟩ := Dev.sendTok_tx (d.becomeHead.sendTok r now .E) r now .W (by rw [hw]; exact h)
    rw [hw] at hg
    exact ⟨g, hg⟩

/-- What the head holds of a Traverse as a pass of it starts (R277, R282). -/
def TraverseSt.startPass (r : TraverseSt) (now : Nat) (e w : Bool) : TraverseSt :=
  let r := { r with due := false, passOpen := true, sentE := e, sentW := w, backE := none, backW := none }
  if r.running then { r with pass := r.pass + 1, prevAt := r.passAt, passAt := now }
  else { r with
    running := true, trigger := false, trav := (r.trav + 1) % 256, pass := 1, prev := none, retries := 0, result := 4
    retryAt := none, settled := false, prevAt := now, passAt := now }

theorem traverseStart_sends_tokens {s : State} (hr : s.pw.running = true) (hcore : s.pw.coreReset = none) (hd : s.d1Works = true)
    (hro : (s.dev 0).role ≠ .undetermined) (hdue : s.trv.due = true) (hop : s.trv.passOpen = false)
    (htr : s.trv.running = true ∨ s.trv.trigger = true) : answers .traverseStart s fun t =>
        t.trv.passOpen = true ∧ t.trv.due = false ∧ t.trv.running = true ∧
        t.trv.sentE = decide ((s.dev 0).portE.st = .up) ∧ t.trv.sentW = decide ((s.dev 0).portW.st = .up) ∧
        t.trv.pass = (if s.trv.running then s.trv.pass + 1 else 1) ∧
        t.trv.trav = (if s.trv.running then s.trv.trav else (s.trv.trav + 1) % 256) ∧
        (t.dev 0).role = .head ∧ othersKept s t 0 ∧
        (∀ p, ((s.dev 0).port p).st = .up → ∃ g, ((t.dev 0).port p).tx
            = ⟨g, max ((s.dev 0).port p).busyUntil s.now, true⟩ :: ((s.dev 0).port p).tx ∧
          g.payload = .token ⟨t.trv.trav, t.trv.pass, decide (p = .W), false, false, 0, Config.factoryId 0, 0,
            ((s.dev 0).port p).fwd, []⟩) ∧
        kept (.traverse :: .devices :: tripParts) s t := by
  have ha : (s.dev 0).awake = true := by
    simp only [State.d1Works, Bool.and_eq_true] at hd
    exact hd.1.1.2
  have hl := s.lt_of_awake 0 ha
  have hc : ¬ (s.d1Works = false ∨ (s.dev 0).role = .undetermined ∨ s.trv.due = false ∨ s.trv.passOpen = true
      ∨ (s.trv.running = false ∧ s.trv.trigger = false)) := by
    simp only [hd, hro, hdue, hop]
    rcases htr with h | h <;> simp [h]
  obtain ⟨r, hrt⟩ : ∃ r, r = s.trv.startPass s.now (decide ((s.dev 0).portE.st = .up)) (decide ((s.dev 0).portW.st = .up)) := ⟨_, rfl⟩
  have e : execTraverseStart s = done s { s.modDev 0 (·.startPass r s.now) with trv := r } := by
    have hs : (s.modDev 0 (·.becomeHead)).dev 0 = (s.dev 0).becomeHead := State.dev_modDev_self s 0 _ hl
    unfold execTraverseStart
    rw [onCore_up ⟨hr, hcore⟩]
    simp only [if_neg hc]
    have hr' : r = s.trv.startPass s.now (decide (((s.modDev 0 (·.becomeHead)).dev 0).portE.st = .up))
        (decide (((s.modDev 0 (·.becomeHead)).dev 0).portW.st = .up)) := by
      rw [hrt, hs]; rfl
    have hm (y : State) (h : 0 < y.devs.length) : (y.sendToken .E).sendToken .W
        = y.modDev 0 (fun d => (d.sendTok y.trv y.now .E).sendTok y.trv y.now .W) := by
      rw [State.sendToken_eq y .E h, State.sendToken_eq _ .W (by simpa [State.modDev, modAt] using h)]
      exact State.modDev_modDev y 0 _ _
    refine congrArg (done s) ((hm _ ?_).trans ?_)
    · simpa [State.modDev, modAt] using hl
    · have hx := State.modDev_modDev { s with trv := r } 0 (·.becomeHead) (fun d => (d.sendTok r s.now .E).sendTok r s.now .W)
      rw [hr'] at hx ⊢
      exact hx
  have hb : ((s.finish { s.modDev 0 (·.startPass r s.now) with trv := r }).dev 0).body = ((s.dev 0).startPass r s.now).body := by
    rw [State.finish_body]
    exact congrArg Dev.body (State.dev_modDev_self s 0 _ hl)
  have htrv : (s.finish { s.modDev 0 (·.startPass r s.now) with trv := r }).trv = r := by rw [State.finish_trv]
  refine ⟨_, e, ?_⟩
  simp only [htrv]
  have hfields : r.passOpen = true ∧ r.due = false ∧ r.running = true ∧
      r.sentE = decide ((s.dev 0).portE.st = .up) ∧ r.sentW = decide ((s.dev 0).portW.st = .up) ∧
      r.pass = (if s.trv.running then s.trv.pass + 1 else 1) ∧
      r.trav = (if s.trv.running then s.trv.trav else (s.trv.trav + 1) % 256) := by
    rw [hrt]
    unfold TraverseSt.startPass
    cases s.trv.running <;> simp
  obtain ⟨h1, h2, h3, h4, h5, h6, h7⟩ := hfields
  refine ⟨h1, h2, h3, h4, h5, h6, h7, ?_, fun k hk => ?_, fun p hp => ?_, ?_⟩
  · exact (Dev.role_of_body hb).trans (by simp [Dev.startPass])
  · rw [State.finish_body]
    exact congrArg Dev.body (State.dev_modDev_other s 0 k _ hk)
  · rw [Dev.port_of_body hb]
    exact Dev.startPass_tx (s.dev 0) r s.now p hp
  · exact State.kept_mono (kept_finish (kept_trans (kept_modDev s 0 _) (kept_traverse _ _))) (by decide)

/-! ### A keep-alive leaves -/

/-- A frame that is not for the head leaves the other port alone (R254). -/
theorem Dev.emit_port_other (d : Dev) (p : RPort) (now : Nat) (own : Bool) (f : Frame) (h : f.dest ≠ 0) :
    (d.emit p now own f).port (rportOther p) = d.port (rportOther p) := by
  obtain e | ⟨h0, -, -, -⟩ | e := d.emit_cases p now own f
  · rw [e, Dev.port_modPort_other]
  · exact absurd h0 h
  · rw [e]

theorem Dev.emit_port_self (d : Dev) (p : RPort) (now : Nat) (own : Bool) (f : Frame) (h : (d.port p).st = .up)
    (hh : (d.port p).held = false) (hw : (d.port p).wrapped = false) :
    (d.emit p now own f).port p = (d.port p).transmit now own f := by
  have hc : (d.port p).carries f = true := by simp [PortSt.carries, h, hh]
  unfold Dev.emit
  dsimp only
  rw [if_pos ⟨hc, by simp [hw]⟩, Dev.port_modPort_self]

/-- The head's S-die as a downstream frame leaves it by both ports (R265). -/
def Dev.sendBoth (d : Dev) (now : Nat) (f : Frame) : Dev := (d.emit .E now true f).emit .W now true f

theorem Dev.sendBoth_tx (d : Dev) (now : Nat) (f : Frame) (p : RPort) (h : (d.port p).st = .up)
    (hh : (d.port p).held = false) (hw : (d.port p).wrapped = false) (hf : f.dest ≠ 0) :
    ((d.sendBoth now f).port p).tx = ⟨f, max (d.port p).busyUntil now, true⟩ :: (d.port p).tx := by
  rw [← PortSt.transmit_own]
  cases p
  · rw [show (d.sendBoth now f).port .E = (d.emit .E now true f).port .E from Dev.emit_port_other _ .W now true f hf,
      Dev.emit_port_self d .E now true f h hh hw]
  · have ho : (d.emit .E now true f).port .W = d.port .W := Dev.emit_port_other d .E now true f hf
    rw [show (d.sendBoth now f).port .W = _ from Dev.emit_port_self _ .W now true f (by rw [ho]; exact h)
      (by rw [ho]; exact hh) (by rw [ho]; exact hw), ho]

theorem State.sendDown_eq (s : State) (f : Frame) : s.sendDown f = s.modDev 0 (·.sendBoth s.now f) := rfl

@[simp] theorem Dev.sendBoth_inner (d : Dev) (now : Nat) (f : Frame) : (d.sendBoth now f).inner = d.inner := by
  simp [Dev.sendBoth]

/-- Sending changes the head's S-die alone, and of it the ports. -/
theorem State.foldl_sendDown (l : List Frame) (s : State) : ∃ g : Dev → Dev,
    l.foldl (fun s f => s.sendDown f) s = s.modDev 0 g ∧ ∀ d, (g d).inner = d.inner := by
  induction l generalizing s with
  | nil => exact ⟨id, (s.modDev_id 0).symm, fun _ => rfl⟩
  | cons f l ih =>
    obtain ⟨g, hg, hi⟩ := ih (s.sendDown f)
    refine ⟨g ∘ (·.sendBoth s.now f), ?_, fun d => by rw [Function.comp_apply, hi, Dev.sendBoth_inner]⟩
    rw [List.foldl_cons, hg, State.sendDown_eq]
    exact State.modDev_modDev s 0 _ g

/-- A sweep leaves room for a short frame, however short the sweep (R52, R266). -/
theorem State.downBudget_le (s : State) : 320 ≤ s.downBudget := by
  unfold State.downBudget State.periodNs
  split
  · exact le_refl _
  · have h : 500 ≤ periodUs s.swp.period := by
      unfold periodUs
      split <;> omega
    simp only [us]
    omega

/-- The keep-alive of the head with the next SEQ (R234, R264). -/
def State.keepaliveFrame (s : State) (n e : Nat) : Frame :=
  mkFrame 0xFF 0 (if s.trv.n = 0 then 31 else s.trv.n - 1) s.swp.seq (.keepalive n e)

theorem State.keepaliveFrame_ns (s : State) (n e : Nat) : frameNs (s.keepaliveFrame n e) / 32 = 24 := by
  have h : (s.keepaliveFrame n e).lenField = 8 := rfl
  rw [frameNs, h]

/-- The head's state once a keep-alive is numbered and waits (R260, R266). -/
def State.keepaliveWaits (s : State) (n e : Nat) : State :=
  { s with swp := { s.swp with seq := (s.swp.seq + 1) % 65536, downWait := queueDown (s.keepaliveFrame n e) s.swp.downWait } }

theorem State.downFrame_keepalive (s : State) (n e : Nat) (h : s.ringHead = true) :
    s.downFrame 0xFF (.keepalive n e) = (s.keepaliveWaits n e).drainDown := by
  have hrank : downRank (s.keepaliveFrame n e) = 4 := rfl
  unfold State.downFrame
  rw [if_pos h]
  exact if_neg (by show ¬ downRank (s.keepaliveFrame n e) ≤ 2; omega)

/-- Waiting frames that leave change the count of them and the ports of the head's S-die. -/
theorem State.drainDown_changes (s : State) (h : s.ringHead = true) : ∃ (l : List Frame) (k : Nat) (g : Dev → Dev),
    s.drainDown = { s with swp := { s.swp with downWait := l, downUsed := k } }.modDev 0 g ∧ ∀ d, (g d).inner = d.inner := by
  unfold State.drainDown
  rw [if_pos h]
  obtain ⟨g, hg, hi⟩ := State.foldl_sendDown (fitDown (s.downBudget - s.swp.downUsed) s.swp.downWait).1
    { s with swp := { s.swp with
      downWait := (fitDown (s.downBudget - s.swp.downUsed) s.swp.downWait).2
      downUsed := s.swp.downUsed + ((fitDown (s.downBudget - s.swp.downUsed) s.swp.downWait).1.map
        (fun f => frameNs f / 32)).foldl (· + ·) 0 } }
  exact ⟨_, _, g, hg, hi⟩

/-- A keep-alive that finds no other frame waiting leaves at once. -/
theorem State.drainDown_keepalive (s : State) (n e : Nat) (h : s.ringHead = true) (hw : s.swp.downWait = [])
    (hu : s.swp.downUsed = 0) : (s.keepaliveWaits n e).drainDown
      = { s with swp := { s.swp with seq := (s.swp.seq + 1) % 65536, downWait := [], downUsed := 24 } }.modDev 0
        (·.sendBoth s.now (s.keepaliveFrame n e)) := by
  have hfit : fitDown ((s.keepaliveWaits n e).downBudget - (s.keepaliveWaits n e).swp.downUsed) (s.keepaliveWaits n e).swp.downWait
      = ([s.keepaliveFrame n e], []) := by
    have hb : 24 ≤ (s.keepaliveWaits n e).downBudget := (by omega : 24 ≤ 320).trans (State.downBudget_le _)
    have hq : (s.keepaliveWaits n e).swp.downWait = [s.keepaliveFrame n e] := by
      simp only [State.keepaliveWaits, hw, queueDown]
    have hu' : (s.keepaliveWaits n e).swp.downUsed = 0 := hu
    rw [hq, hu', Nat.sub_zero]
    simp only [fitDown, State.keepaliveFrame_ns, if_pos hb]
  have hr : (s.keepaliveWaits n e).ringHead = true := h
  unfold State.drainDown
  rw [if_pos hr]
  simp only [hfit]
  simp only [List.map_cons, List.map_nil, List.foldl_cons, List.foldl_nil, State.keepaliveFrame_ns]
  simp only [State.keepaliveWaits, hu, State.sendDown_eq]

/-- What a keep-alive leaves of the state at the head (R266). -/
theorem State.downFrame_changes (s : State) (n e : Nat) : ∃ (x : SweepSt) (g : Dev → Dev),
    s.downFrame 0xFF (.keepalive n e) = { s with swp := x }.modDev 0 g ∧ (∀ d, (g d).inner = d.inner) ∧
      (s.ringHead = true → x.seq = (s.swp.seq + 1) % 65536) := by
  by_cases h : s.ringHead = true
  · obtain ⟨l, k, g, hg, hi⟩ := (s.keepaliveWaits n e).drainDown_changes h
    exact ⟨_, g, (s.downFrame_keepalive n e h).trans hg, hi, fun _ => rfl⟩
  · refine ⟨s.swp, id, ?_, fun _ => rfl, fun k => absurd k h⟩
    unfold State.downFrame
    rw [if_neg h]
    exact (s.modDev_id 0).symm

theorem keepaliveSend_sends {s : State} {n : Nat} (hr : s.pw.running = true) (hd : s.d1Works = true)
    (hn : n = max s.now (s.pw.startAt + (s.now - s.pw.startAt + 10000000 - 1) / 10000000 * 10000000)) :
    answers .keepaliveSend s fun t =>
      t.now = n ∧ (t.dev 0).silence = some n ∧ (t.dev 0).lastFrame = n ∧ othersKept s t 0 ∧
      ((s.dev 0).isHead = true → t.swp.seq = (s.swp.seq + 1) % 65536 ∧
        ∀ p, s.swp.downWait = [] → s.swp.downUsed = 0 → ((s.dev 0).port p).st = .up → ((s.dev 0).port p).held = false →
          ((s.dev 0).port p).wrapped = false → (s.dev 0).portE.wrapped = false → (s.dev 0).portW.wrapped = false →
          ∃ g, ((t.dev 0).port p).tx = ⟨g, max ((s.dev 0).port p).busyUntil n, true⟩ :: ((s.dev 0).port p).tx ∧
            g.payload = .keepalive (s.sweep % 2 ^ 32) ((n - s.swp.boundary) / 1000)) ∧
      kept (.sweep :: .devices :: tripParts) s t := by
  obtain ⟨m, hm⟩ : ∃ m : State, m = s.until (s.pw.startAt + (s.now - s.pw.startAt + ms 10 - 1) / ms 10 * ms 10) := ⟨_, rfl⟩
  have hmn : m.now = n := by rw [hm, hn]; rfl
  have ha : (s.dev 0).awake = true := by
    simp only [State.d1Works, Bool.and_eq_true] at hd
    exact hd.1.1.2
  have hl : 0 < m.devs.length := by rw [hm]; exact s.lt_of_awake 0 ha
  have hm0 : m.dev = s.dev := by rw [hm]; rfl
  obtain ⟨x, g, hx, hi, hseq⟩ := m.downFrame_changes (m.sweep % 2 ^ 32) ((m.now - m.swp.boundary) / 1000)
  have hy0 : ({ m with swp := x }.modDev 0 g).dev 0 = g (s.dev 0) := by
    rw [← hm0]; exact State.dev_modDev_self { m with swp := x } 0 g hl
  have hworks : ({ m with swp := x }.modDev 0 g).d1Works = true := by
    have h1 := congrArg Dev.power (hi (s.dev 0))
    have h2 := congrArg Dev.d1 (hi (s.dev 0))
    simp only [State.d1Works, Bool.and_eq_true] at hd
    simp only [State.d1Works, hy0, Bool.and_eq_true]
    have hp : m.pw = s.pw := by rw [hm]; rfl
    refine ⟨⟨⟨⟨?_, ?_⟩, ?_⟩, ?_⟩, ?_⟩
    · simpa [hp] using hd.1.1.1.1
    · simpa [hp] using hd.1.1.1.2
    · have h3 : (g (s.dev 0)).power = (s.dev 0).power := h1
      simpa [Dev.awake, h3] using ha
    · have h3 : (g (s.dev 0)).d1 = (s.dev 0).d1 := h2
      rw [h3]; exact hd.1.2
    · simpa [hp] using hd.2
  have e : execKeepaliveSend s = done s ({ m with swp := x }.modDev 0 (fun d => (g d).heard n)) := by
    have hnow : ({ m with swp := x }.modDev 0 g).now = n := hmn
    have hh : ({ m with swp := x }.modDev 0 g).overD1 id = { m with swp := x }.modDev 0 (fun d => (g d).heard n) := by
      rw [State.overD1_eq, if_pos hworks, hnow]
      simp only [id, ite_self]
      exact State.modDev_modDev _ 0 _ _
    unfold execKeepaliveSend
    rw [onC_running hr, ← hh, ← hx, hm]
  have hb : ((s.finish ({ m with swp := x }.modDev 0 (fun d => (g d).heard n))).dev 0).body = ((g (s.dev 0)).heard n).body := by
    rw [State.finish_body, ← hm0]
    exact congrArg Dev.body (State.dev_modDev_self { m with swp := x } 0 _ hl)
  have hms : m.swp = s.swp := by rw [hm]; rfl
  have hring (h : (s.dev 0).isHead = true) : m.ringHead = true := by
    rw [hm]
    exact Bool.and_eq_true_iff.2 ⟨hd, h⟩
  refine ⟨_, e, ?_, congrArg (·.silence) hb, congrArg (·.lastFrame) hb, fun k hk => ?_, fun h => ⟨?_, ?_⟩, ?_⟩
  · rw [State.finish_now]
    exact (congrArg (max s.now) hmn).trans (max_eq_right (hn ▸ le_max_left _ _))
  · rw [State.finish_body, ← hm0]
    exact congrArg Dev.body (State.dev_modDev_other { m with swp := x } 0 k _ hk)
  · rw [State.finish_swp]
    exact (hseq (hring h)).trans (by rw [hms])
  · intro p hw hu hup hheld hwr _ _
    have hk := (m.downFrame_keepalive (m.sweep % 2 ^ 32) ((m.now - m.swp.boundary) / 1000) (hring h)).trans
      (m.drainDown_keepalive _ _ (hring h) (by rw [hms]; exact hw) (by rw [hms]; exact hu))
    have hg : g (s.dev 0) = (s.dev 0).sendBoth n (m.keepaliveFrame (m.sweep % 2 ^ 32) ((m.now - m.swp.boundary) / 1000)) := by
      rw [← hy0, ← hx, hk, hmn, ← hm0]
      exact State.dev_modDev_self { m with swp := _ } 0 _ hl
    refine ⟨m.keepaliveFrame (m.sweep % 2 ^ 32) ((m.now - m.swp.boundary) / 1000), ?_, ?_⟩
    · rw [Dev.port_of_body hb, Dev.heard_port, hg]
      exact Dev.sendBoth_tx _ _ _ _ hup hheld hwr (by show (255 : Nat) ≠ 0; decide)
    · have hsw : m.sweep = s.sweep := by rw [hm]; rfl
      rw [hmn, hms, hsw]
      rfl
  · have hk : kept [] s m := by rw [hm]; exact kept_until s _
    exact State.kept_mono (kept_finish (kept_trans hk (kept_trans (kept_sweep m x) (kept_modDev _ 0 _)))) (by decide)

/-- Settles O43: one lemma for each command. -/
theorem traversesStart : Obligations.TraversesStart :=
  ⟨fun _ hr => ⟨fun ha hd => d1Trained_triggers_traverse hr ha hd, fun ha hm hp => d1TrainsLate_triggers_traverse hr ha hm hp,
    fun _ hn => traverseRetryTimer_triggers hr hn,
    fun hc hd hro hdue hop htr => traverseStart_sends_tokens hr hc hd hro hdue hop htr⟩,
  fun _ _ hr hd hn => keepaliveSend_sends hr hd hn⟩

end Sys2Proof.Machine
end

section
/-!
SUPPORT. The seam lines (R35, log 49, log 70): a report of the head's S-die that waits reaches the collector with the next command
at that die, and with it the refutation of O30.
-/

namespace Sys2Proof.Machine

/-- A report that the head's S-die makes over U1 or U2 leaves its cause present (R269, R392). -/
theorem State.headReport_hasCause (s : State) (k cls sub detail sweep : Nat) (v v2 : Word) :
    (s.headReport ⟨k, 1, .event cls sub detail sweep v v2⟩).hasCause ⟨cls, sub, 0, detail⟩ = true :=
  State.raiseAt_hasCause _ _ _ _ _

/-- The one report that waits at the head's S-die reaches the collector (log 49). -/
theorem State.headReports_hasCause (s : State) (k cls sub detail sweep : Nat) (v v2 : Word) (hu : s.upWorks = true)
    (hp : (s.dev 0).pos = some 0) (he : (s.dev 0).events = [⟨k, 1, .event cls sub detail sweep v v2⟩])
    (hw : ¬ (cls = 0x1A ∧ sub = 1)) : s.headReports.hasCause ⟨cls, sub, 0, detail⟩ = true := by
  have hi : itemWaits ⟨k, 1, .event cls sub detail sweep v v2⟩ = false := by simpa [itemWaits] using hw
  have hf : (s.dev 0).events.filter (fun i => !itemWaits i) = [⟨k, 1, .event cls sub detail sweep v v2⟩] := by
    rw [he, List.filter_cons_of_pos (by simp [hi]), List.filter_nil]
  unfold State.headReports
  dsimp only
  rw [if_pos ⟨hu, hp, by simp [he, hi]⟩, hf]
  exact State.headReport_hasCause _ k cls sub detail sweep v v2

/-- The C-die runs, and the head's S-die holds position 0 and one report that waits: DIE_OT 0x01 (R308, log 49). -/
def reportWaits : State :=
  { State.reset with devs := [{
      power := .awake, role := .head, pos := some 0
      events := [⟨0xC2, 1, .event 0x17 1 0 0 0 0⟩] }] }

/-- Refutes O30: where a report of the head's S-die waits, SL_PAIR_EQUAL of the C_ERR pair lets it reach the collector (log 49),
so that the collector does not stay as it was when the pair differs again. -/
theorem not_seamLinesAct : ¬ Obligations.SeamLinesAct := by
  unfold Obligations.SeamLinesAct
  intro h
  obtain ⟨-, hc, -⟩ := h reportWaits
  obtain ⟨t, ht, -, -, hk⟩ := hc rfl rfl
  obtain ⟨y, hy, hyd⟩ : ∃ y : State, execSlPairEqual ⟨.cErr, false⟩ reportWaits = done reportWaits y.headReports ∧
      y.upWorks = true ∧ (y.dev 0).pos = some 0 ∧ (y.dev 0).events = [⟨0xC2, 1, .event 0x17 1 0 0 0 0⟩] :=
    ⟨_, onS_head rfl, by decide, by decide, by decide⟩
  obtain ⟨hu, hp, he⟩ := hyd
  obtain rfl : reportWaits.finish y.headReports = t := Host.Outcome.next.inj (hy.symm.trans ht)
  have hcause : y.headReports.hasCause ⟨0x17, 1, 0, 0⟩ = true := y.headReports_hasCause _ _ _ _ _ _ _ hu hp he (by decide)
  have hsame : y.headReports.flt.causes = reportWaits.flt.causes := by
    rw [← State.finish_flt_causes reportWaits]
    have hb : (reportWaits.finish y.headReports).flt.body = reportWaits.flt.body := hk .collector (by decide)
    have hcs := congrArg Collector.causes hb
    exact hcs
  rw [State.hasCause, hsame] at hcause
  exact absurd hcause (by decide)

end Sys2Proof.Machine
end

section
/-!
SUPPORT. D1, the Traverse and the KEEPALIVE complete (R38, R234, R277, R278): the first clauses of O60.
-/

namespace Sys2Proof.Machine

theorem d1Forms_complete {s : State} (hr : s.pw.running = true) (ha : (s.dev 0).awake = true) :
    ((s.dev 0).d1 = false → answers .d1Trained s fun t => t.pw.d1 = true ∧ (t.dev 0).d1 = true ∧ t.trv.trigger = true) ∧
    ((s.dev 0).role = .member → (s.dev 0).pos ≠ none → answers (.d1TrainsLate 0) s fun t =>
      t.pw.d1 = true ∧ (t.dev 0).d1 = true ∧ (t.dev 0).role = .member ∧ t.trv.trigger = true) ∧
    (s.trv.retryAt ≠ none → answers .traverseRetryTimer s fun t => t.trv.trigger = true ∧ t.trv.retryAt = none) ∧
    (s.d1Works = true → answers .keepaliveSend s fun t => (t.dev 0).silence = some t.now) := by
  refine ⟨fun hd => ?_, fun hm hp => ?_, fun hn => ?_, fun hd => ?_⟩
  · obtain ⟨t, ht, hpw, htrv, h1, -⟩ := d1Trained_triggers_traverse hr ha (by simp [hd])
    exact ⟨t, ht, by rw [hpw], h1, by rw [htrv]⟩
  · obtain ⟨t, ht, hpw, htrv, hb, -⟩ := d1TrainsLate_triggers_traverse hr ha hm hp
    exact ⟨t, ht, by rw [hpw], congrArg (·.d1) hb, (Dev.role_of_body hb).trans hm, by rw [htrv]⟩
  · obtain ⟨n, hn⟩ := Option.ne_none_iff_exists'.1 hn
    obtain ⟨t, ht, htrv, -⟩ := traverseRetryTimer_triggers hr hn
    exact ⟨t, ht, by rw [htrv], by rw [htrv]⟩
  · obtain ⟨t, ht, hnow, hs, -⟩ := keepaliveSend_sends hr hd rfl
    exact ⟨t, ht, hs.trans (congrArg some hnow.symm)⟩

/-- A command of the model as what it makes of the state before its end. -/
theorem answers_done {c : Instr} {s y : State} {P : State → Prop} (e : exec c s = done s y) (h : P (s.finish y)) :
    answers c s P := ⟨_, e, h⟩

theorem State.drainDown_trv (s : State) : s.drainDown.trv = s.trv := by
  by_cases h : s.ringHead = true
  · obtain ⟨l, k, g, e, -⟩ := s.drainDown_changes h
    rw [e]; rfl
  · unfold State.drainDown
    rw [if_neg h]

@[simp] theorem State.downFrame_trv (s : State) (dest : Nat) (p : Payload) : (s.downFrame dest p).trv = s.trv := by
  unfold State.downFrame
  exact iteInduction (motive := fun y : State => y.trv = s.trv)
    (fun _ => iteInduction (motive := fun y : State => y.trv = s.trv) (fun _ => rfl) fun _ => State.drainDown_trv _) fun _ => rfl

theorem State.traverseEnd_trv (s : State) (k : Nat) (retry : Bool) :
    (s.traverseEnd k retry).trv.passOpen = false ∧ (s.traverseEnd k retry).trv.prev = s.trv.prev := ⟨rfl, rfl⟩

theorem State.settle_trv (s : State) (cur : PassResult) :
    (s.settle cur).trv.passOpen = false ∧ (s.settle cur).trv.prev = s.trv.prev := by
  unfold State.settle
  refine ⟨rfl, ?_⟩
  dsimp only
  rw [(State.traverseEnd_trv _ _ _).2]
  simp

/-- A pass has been closed and its result kept (R281). -/
def State.passClosed (s : State) : Prop := s.trv.passOpen = false ∧ s.trv.prev.isSome = true

theorem State.passClosed_raiseOpenEv {s : State} (h : s.passClosed) (c b p d : Nat) : (s.raiseOpenEv c b p d).passClosed := by
  unfold State.passClosed
  rw [State.trv_of_bare (State.raiseOpenEv_bare s c b p d)]
  exact h

theorem traversePassEnd_closes_pass {s : State} (hc : s.coreUp) (hop : s.trv.passOpen = true) :
    answers .traversePassEnd s fun t => t.trv.passOpen = false ∧ t.trv.prev.isSome = true := by
  obtain ⟨y, hy, h⟩ : ∃ y : State, execTraversePassEnd s = done s y ∧ y.passClosed := by
    unfold execTraversePassEnd
    refine ⟨_, onCore_up hc, ?_⟩
    dsimp only
    rw [if_neg (by simp [hop])]
    refine iteInduction (motive := State.passClosed) (fun _ => State.passClosed_raiseOpenEv ⟨rfl, rfl⟩ _ _ _ _) fun _ => ?_
    cases s.trv.prev with
    | none => exact ⟨rfl, rfl⟩
    | some prev =>
      refine iteInduction (motive := State.passClosed) (fun _ => ?_) fun _ => ?_
      · exact ⟨(State.settle_trv _ _).1, (congrArg Option.isSome (State.settle_trv _ _).2).trans rfl⟩
      · exact iteInduction (motive := State.passClosed) (fun _ => State.passClosed_raiseOpenEv ⟨rfl, rfl⟩ _ _ _ _)
          fun _ => ⟨rfl, rfl⟩
  exact answers_done hy (by rw [State.finish_trv]; exact h)

theorem traverseForms_complete {s : State} (hc : s.coreUp) (hd : s.d1Works = true) :
    ((s.dev 0).isHead = true → s.trv.due = true → s.trv.trigger = true → s.trv.passOpen = false → answers .traverseStart s fun t =>
      t.trv.passOpen = true ∧ t.trv.running = true ∧ t.trv.due = false) ∧
    (s.trv.passOpen = true → answers .traversePassEnd s fun t => t.trv.passOpen = false ∧ t.trv.prev.isSome = true) := by
  refine ⟨fun hh hdue htr hop => ?_, traversePassEnd_closes_pass hc⟩
  have hro : (s.dev 0).role ≠ .undetermined := by
    simp only [Dev.isHead, decide_eq_true_eq] at hh
    simp [hh]
  obtain ⟨t, ht, h1, h2, h3, -⟩ := traverseStart_sends_tokens hc.1 hc.2 hd hro hdue hop (.inr htr)
  exact ⟨t, ht, h1, h3, h2⟩

end Sys2Proof.Machine
end

section
/-!
SUPPORT. An S-die's commands complete (R54, R59 to R62, R130, R148, R204, R221, R270, R278, R280): the time and the device after
a command at an S-die, the Survey's scheduler, bleed edges, and with them the clauses of O60 at a device but for its local
boundary.
-/

namespace Sys2Proof.Machine

/-! ### The end of a command at an S-die -/

namespace State

variable (s : State)

@[simp] theorem noteEvent_steady (p : Nat) (up : Bool) (c b d : Nat) (v w : Word) : (s.noteEvent p up c b d v w).steady = s.steady := by
  unfold State.noteEvent; (repeat' split) <;> rfl

@[simp] theorem headReport_steady (i : Item) : (s.headReport i).steady = s.steady := by
  unfold State.headReport
  split
  · unfold State.takeEvent
    dsimp only
    split <;> simp
  · rfl

/-- What each report of the head leaves, all its reports leave. -/
theorem headReports_keep {β : Type} (g : State → β) (hr : ∀ t i, g (State.headReport t i) = g t)
    (hm : ∀ t f, g (State.modDev t 0 f) = g t) : g s.headReports = g s := by
  unfold State.headReports
  dsimp only
  split
  · rw [foldl_keep g State.headReport hr, hm]
  · rfl

@[simp] theorem headReports_steady : s.headReports.steady = s.steady :=
  headReports_keep s State.steady headReport_steady fun t f => t.modDev_steady 0 f

theorem headReport_saf (i : Item) : (s.headReport i).saf.body = s.saf.body := by
  unfold State.headReport
  split
  · unfold State.takeEvent
    dsimp only
    have hn (p : Nat) (up : Bool) (c b d : Nat) (v w : Word) : (s.noteEvent p up c b d v w).saf = s.saf := by
      unfold State.noteEvent; (repeat' split) <;> rfl
    split
    · rw [saf_of_bare (raiseAt_bare _ _ _ _ _), hn]
    · rw [saf_of_bare (clearAt_bare _ _ _), hn]
  · rfl

theorem headReports_saf : s.headReports.saf.body = s.saf.body :=
  headReports_keep s (fun t => t.saf.body) headReport_saf fun t f => by rw [modDev_saf]

end State

/-- A command at an awake S-die: the devices and the time are as `f` leaves them, but for what `Dev.body` leaves out. -/
theorem onS_does {s : State} {d : Nat} (f : State → State) (h : (s.dev d).awake = true) : ∃ t, onS s d f = .next t ∧
    (∀ e, (t.dev e).body = ((f s).dev e).body) ∧ t.now = max s.now (f s).now := by
  by_cases hd : d = 0
  · subst hd
    refine ⟨_, onS_head h, fun e => by rw [State.finish_body, State.headReports_body], ?_⟩
    rw [State.finish_now, State.now_of_steady (State.headReports_steady _)]
  · exact ⟨_, onS_member h hd, fun e => by rw [State.finish_body], by rw [State.finish_now]⟩

/-- A command at an awake S-die that changes that device alone, at the instant `n`. -/
theorem onS_changes {s : State} {d : Nat} (n : Nat) {f : State → State} (g : Dev → Dev) (h : (s.dev d).awake = true)
    (hf : f s = (s.until n).modDev d g) : ∃ t, onS s d f = .next t ∧ (t.dev d).body = (g (s.dev d)).body ∧ t.now = max s.now n := by
  obtain ⟨t, ht, hb, hn⟩ := onS_does f h
  refine ⟨t, ht, ?_, ?_⟩
  · rw [hb, hf, State.dev_modDev_self (s.until n) d g (s.lt_of_awake d h)]; rfl
  · rw [hn, hf]
    exact (Nat.max_assoc _ _ _).symm.trans (by rw [Nat.max_self])

theorem answers_onS {c : Instr} {s : State} {d : Nat} {f : State → State} {P : State → Prop} (e : exec c s = onS s d f)
    (h : (s.dev d).awake = true) (hp : ∀ t, (∀ k, (t.dev k).body = ((f s).dev k).body) → t.now = max s.now (f s).now → P t) :
    answers c s P := by
  obtain ⟨t, ht, hb, hn⟩ := onS_does f h
  exact ⟨t, e.trans ht, hp t hb hn⟩

theorem answers_changes {c : Instr} {s : State} {d n : Nat} {f : State → State} {g : Dev → Dev} {P : State → Prop}
    (e : exec c s = onS s d f) (h : (s.dev d).awake = true) (hf : f s = (s.until n).modDev d g)
    (hp : ∀ t, (t.dev d).body = (g (s.dev d)).body → t.now = max s.now n → P t) : answers c s P := by
  obtain ⟨t, ht, hb, hn⟩ := onS_changes n g h hf
  exact ⟨t, e.trans ht, hp t hb hn⟩

theorem State.unsyncCause_body (s : State) (d : Nat) (on : Bool) (e : Nat) : ((s.unsyncCause d on).dev e).body = (s.dev e).body := by
  unfold State.unsyncCause
  split
  · rfl
  · split
    · cases on
      · exact State.body_of_bare (State.clearAt_bare s _ _) e
      · exact State.body_of_bare (State.raiseAt_bare s _ _ _ _) e
    · rfl

/-- What `Dev.body` keeps, two devices of one body share. -/
theorem Dev.eq_of_body {β : Type} (g : Dev → β) {x y : Dev} (h : x.body = y.body) (hg : ∀ z : Dev, g z.body = g z := by intro _; rfl) :
    g x = g y := by
  rw [← hg x, h, hg]

/-! ### Directions and the Meridian -/

section
variable {s : State} {d : Nat} (ha : (s.dev d).awake = true)
include ha

theorem declareUnsynchronised_completes (h : 8 ≤ (s.dev d).flywheel) :
    answers (.declareUnsynchronised d) s fun t => (t.dev d).unsync = true := by
  obtain ⟨t, ht, hb, -⟩ := onS_does (fun s => if 8 ≤ (s.dev d).flywheel ∧ (s.dev d).unsync = false then
    (s.modDev d (fun x => { x with unsync := true })).unsyncCause d true else s) ha
  refine ⟨t, ht, (Dev.eq_of_body (·.unsync) (hb d)).trans ?_⟩
  cases hu : (s.dev d).unsync
  · rw [if_pos ⟨h, rfl⟩]
    refine (Dev.eq_of_body (·.unsync) (State.unsyncCause_body _ d true d)).trans ?_
    rw [State.dev_modDev_self s d _ (s.lt_of_awake d ha)]
  · rw [if_neg (by simp)]
    exact hu

theorem returnToPreferredDirection_completes (h : 64 ≤ (s.dev d).prefRun) :
    answers (.returnToPreferredDirection d) s fun t => (t.dev d).useW = (s.dev d).prefW := by
  obtain ⟨t, ht, hb, -⟩ := onS_does (fun s => if 64 ≤ (s.dev d).prefRun ∧ (s.dev d).useW ≠ (s.dev d).prefW then
      s.modDev d (fun x => { x with useW := x.prefW }) else s) ha
  refine ⟨t, ht, (Dev.eq_of_body (·.useW) (hb d)).trans ?_⟩
  by_cases hu : (s.dev d).useW = (s.dev d).prefW
  · simp [hu]
  · simp [h, hu, s.lt_of_awake d ha]

theorem meridianArrival_completes {p : RPort} (hh : (s.dev d).isHead = false) (hup : ((s.dev d).port p).st = .up)
    (hheld : ((s.dev d).port p).held = false) (hacc : (s.dev d).accepts s.now (decide (p = .E)) = true) :
    answers (.meridianArrival d p) s fun t => (if p = .E then (t.dev d).sawW else (t.dev d).sawE) = some s.now := by
  have hx (x : Dev) (q : RPort) (f : PortSt → PortSt) : (x.modPort q f).accepts = x.accepts := by cases q <;> rfl
  refine answers_changes (n := s.now) (g := fun x => if p = .E then
      { x.modPort (rportOther p) (·.sendMark (s.now + latNs (some (x.port p).fwd))) with sawW := some s.now }
      else { x.modPort (rportOther p) (·.sendMark (s.now + latNs (some (x.port p).fwd))) with sawE := some s.now })
    (show execMeridianArrival d p s = _ from by unfold execMeridianArrival; rfl) ha ?_ fun t hb _ => ?_
  · rw [State.until_now_self]
    dsimp only
    rw [if_neg (by simp [hh, hup])]
    refine State.modDev_congr s d _ _ (s.lt_of_awake d ha) ?_
    cases p
    · have h : (s.dev d).accepts s.now true = true := hacc
      simp [hheld, hx, h]
    · have h : (s.dev d).accepts s.now false = true := hacc
      simp [hheld, hx, h]
  · split
    · next hp => exact (Dev.eq_of_body (·.sawW) hb).trans (by rw [if_pos hp])
    · next hp => exact (Dev.eq_of_body (·.sawE) hb).trans (by rw [if_neg hp])

end

/-- A Survey after entries that are skipped: what the entries run and what waits stand as they did. -/
theorem Dev.seek_keeps (n : Nat) (d : Dev) : ∃ f : Survey → Survey, (Dev.seek n d).1 = d.modSv f ∧
    ∀ v, (f v).running = v.running ∧ (f v).spots = v.spots := by
  induction n generalizing d with
  | zero => exact ⟨id, rfl, fun _ => ⟨rfl, rfl⟩⟩
  | succ n ih =>
    unfold Dev.seek
    split
    · exact ⟨id, rfl, fun _ => ⟨rfl, rfl⟩⟩
    · split
      · next w _ _ =>
        obtain ⟨f, hf, hk⟩ := ih (d.advance w)
        refine ⟨fun v => f (bif eEnd w then { v with idx := 0, pass := v.pass + 1 } else { v with idx := v.idx + 1 }), hf, fun v => ?_⟩
        rw [(hk _).1, (hk _).2]
        cases eEnd w <;> exact ⟨rfl, rfl⟩
      · exact ⟨id, rfl, fun _ => ⟨rfl, rfl⟩⟩

/-- At an entry boundary nothing runs, or an entry of the table that begins there; no spot reading is lost (R137, R148). -/
theorem Dev.schedule_keeps (d : Dev) (t : Nat) : ∃ f : Survey → Survey, d.schedule t = d.modSv f ∧ (f d.sv).spots = d.sv.spots ∧
    ((f d.sv).running = none ∨ ∃ w, (f d.sv).running = some ⟨w, none, t⟩) := by
  obtain ⟨f, hf, hk⟩ := Dev.seek_keeps 16640 (d.modSv (fun v => { v with running := none, slotAt := none }))
  unfold Dev.schedule
  dsimp only
  split
  · exact ⟨fun v => { v with running := none, slotAt := none }, rfl, rfl, .inl rfl⟩
  · split
    · exact ⟨fun v => { v with running := none, slotAt := some t }, rfl, rfl, .inl rfl⟩
    · have hspots := (hk { d.sv with running := none, slotAt := none }).2
      have hrun := (hk { d.sv with running := none, slotAt := none }).1
      have hidle : (Dev.seek 16640 (d.modSv (fun v => { v with running := none, slotAt := none }))).1
          = d.modSv (fun v => f { v with running := none, slotAt := none }) := hf
      split
      · next w _ =>
        split
        · refine ⟨fun v => { f { v with running := none, slotAt := none } with running := some ⟨w, none, t⟩ }, ?_, hspots,
            .inr ⟨w, rfl⟩⟩
          rw [hidle]; rfl
        · exact ⟨_, hidle, hspots, .inl hrun⟩
      · exact ⟨_, hidle, hspots, .inl hrun⟩

theorem Dev.schedule_running (d : Dev) (t : Nat) :
    (d.schedule t).sv.running = none ∨ ∃ w, (d.schedule t).sv.running = some ⟨w, none, t⟩ := by
  obtain ⟨f, hf, -, hr⟩ := d.schedule_keeps t
  rw [hf]; exact hr

theorem Dev.schedule_spots (d : Dev) (t : Nat) : (d.schedule t).sv.spots = d.sv.spots := by
  obtain ⟨f, hf, hs, -⟩ := d.schedule_keeps t
  rw [hf]; exact hs

theorem Dev.schedule_spotItems (d : Dev) (t : Nat) : (d.schedule t).spotItems = d.spotItems := by
  obtain ⟨f, hf, -, -⟩ := d.schedule_keeps t
  rw [hf]; rfl

/-- The cells that an open-wire current leaves touched are all that its end changes (R139). -/
theorem Dev.owCurrentEnd_keep {β : Type} (g : Dev → β) (hg : ∀ x k f, g (Dev.modCell x k f) = g x) (d : Dev) (w : Word) (t : Nat) :
    g (d.owCurrentEnd w t) = g d := by
  unfold Dev.owCurrentEnd
  split
  · exact foldl_keep g _ (fun x k => hg x k _) _ d
  · rfl

section
variable {s : State} {d : Nat} (ha : (s.dev d).awake = true)
include ha

theorem surveyEntryEnd_completes {r : Running} (results : List Int) (hr : (s.dev d).sv.running = some r) (hs : r.spotSlot = none) :
    answers (.surveyEntryEnd d results) s fun t =>
      t.now = max s.now (r.since + 1000 * eDuration r.entry) ∧ (t.dev d).sv.running ≠ some r := by
  refine answers_changes (n := r.since + us (eDuration r.entry)) (g := fun x =>
      (((x.entryResult r (r.since + us (eDuration r.entry)) (results.take (eRepeats r.entry))).owCurrentEnd r.entry
        (r.since + us (eDuration r.entry))).entryTimely.advance r.entry).schedule (r.since + us (eDuration r.entry)))
    (show execSurveyEntryEnd d results s = _ from by unfold execSurveyEntryEnd; rfl) ha ?_ fun t hb hn => ⟨?_, ?_⟩
  · simp only [hr, hs]
    rfl
  · rw [hn, us, Nat.mul_comm]
  · rw [Dev.sv_of_body hb]
    have hlater : r.since < r.since + us (eDuration r.entry) := by
      simp only [us, eDuration]; omega
    obtain h | ⟨w, h⟩ := Dev.schedule_running ((((s.dev d).entryResult r (r.since + us (eDuration r.entry))
      (results.take (eRepeats r.entry))).owCurrentEnd r.entry (r.since + us (eDuration r.entry))).entryTimely.advance r.entry)
        (r.since + us (eDuration r.entry))
    · rw [h]; simp
    · rw [h]
      intro he
      have hsince := congrArg Running.since (Option.some.inj he)
      exact absurd hsince (Nat.ne_of_gt hlater)

theorem spotReadingComplete_completes {r : Running} (results : List Int) (hr : (s.dev d).sv.running = some r) (hs : r.spotSlot ≠ none) :
    answers (.spotReadingComplete d results) s fun t =>
      t.now = max s.now (r.since + 1000 * eDuration r.entry) ∧
      (t.dev d).spotItems.length = (s.dev d).spotItems.length + 1 ∧ (t.dev d).sv.spots = (s.dev d).sv.spots.drop 1 := by
  obtain ⟨slot, hslot⟩ := Option.ne_none_iff_exists'.1 hs
  refine answers_changes (n := r.since + us (eDuration r.entry)) (g := fun x =>
      (((x.spotResult r slot (r.since + us (eDuration r.entry)) (results.take (eRepeats r.entry))).owCurrentEnd r.entry
        (r.since + us (eDuration r.entry))).modSv (fun v => { v with spots := v.spots.drop 1 })).schedule
          (r.since + us (eDuration r.entry)))
    (show execSpotReadingComplete d results s = _ from by unfold execSpotReadingComplete; rfl) ha ?_ fun t hb hn => ⟨?_, ?_, ?_⟩
  · simp only [hr, hslot]
  · rw [hn, us, Nat.mul_comm]
  · rw [Dev.eq_of_body (·.spotItems) hb, Dev.schedule_spotItems]
    refine (congrArg List.length (Dev.owCurrentEnd_keep (·.spotItems) (fun _ _ _ => rfl) _ _ _)).trans ?_
    simp [Dev.spotResult]
  · rw [Dev.sv_of_body hb, Dev.schedule_spots]
    exact congrArg (fun v => v.spots.drop 1) (Dev.owCurrentEnd_keep (·.sv) (fun _ _ _ => rfl) _ _ _)

theorem spotReadingStart_completes {n : Nat} {p : SpotWait} {l : List SpotWait} (hr : (s.dev d).sv.running = none) (ho : (s.dev d).sv.occ = none)
    (hn : (s.dev d).sv.slotAt = some n) (hp : (s.dev d).sv.spots = p :: l) (hf : (s.dev d).fits n p.entry = true) :
    answers (.spotReadingStart d) s fun t => (t.dev d).sv.running = some ⟨p.entry, some p.slot, n⟩ := by
  refine answers_changes (n := n) (g := (·.modSv (fun v => { v with running := some ⟨p.entry, some p.slot, n⟩, slotAt := none })))
    (show execSpotReadingStart d s = _ from by unfold execSpotReadingStart; rfl) ha ?_ fun t hb _ => congrArg Survey.running (Dev.sv_of_body hb)
  simp only [hn, hp, hr, ho, hf]
  rfl

end

/-! ### Samples -/

/-- What a change of a device leaves, every device keeps. -/
theorem State.dev_modDev_keep {β : Type} (g : Dev → β) (s : State) (d e : Nat) (f : Dev → Dev) (h : ∀ x, g (f x) = g x) :
    g ((s.modDev d f).dev e) = g (s.dev e) := by
  simp only [State.dev, State.modDev, State.getD_modAt]
  split
  · exact h _
  · rfl

/-- The time, and how many samples each device has taken in its running sweep. -/
def State.samples (s : State) : Nat × (Nat → Nat) := (s.now, fun e => (s.dev e).sampleNo)

theorem State.samples_modDev (s : State) (d : Nat) (f : Dev → Dev) (h : ∀ x, (f x).sampleNo = x.sampleNo) :
    (s.modDev d f).samples = s.samples :=
  Prod.ext rfl (funext fun e => State.dev_modDev_keep (·.sampleNo) s d e f h)

theorem State.samples_clearAt (s : State) (x : Source) (seen : Nat) : (s.clearAt x seen).samples = s.samples :=
  Prod.ext (State.now_of_steady (State.clearAt_steady s x seen))
    (funext fun e => Dev.eq_of_body (·.sampleNo) (State.body_of_bare (State.clearAt_bare s x seen) e))

theorem State.samples_evalTrip (s : State) : s.evalTrip.samples = s.samples :=
  Prod.ext (State.evalTrip_now s) (funext fun e => Dev.eq_of_body (·.sampleNo) (State.evalTrip_body s e))

theorem State.samples_sErrUpdate (s : State) : s.sErrUpdate.samples = s.samples := by
  unfold State.sErrUpdate
  dsimp only
  split
  · exact (State.samples_evalTrip _).trans (State.samples_modDev s 0 _ fun _ => rfl)
  · exact State.samples_modDev s 0 _ fun _ => rfl

theorem State.samples_overcurrentClear (s : State) : s.overcurrentClear.samples = s.samples := by
  unfold State.overcurrentClear
  dsimp only
  split
  · rw [State.samples_sErrUpdate]
    refine (State.cond_keep State.samples _ _ _ ?_).trans (State.samples_modDev s 0 _ fun _ => rfl)
    exact (State.samples_clearAt _ _ _).trans (State.samples_clearAt _ _ _)
  · rfl

/-- A shunt sample of code `code` enters record 188 of the head's S-die and its comparator (R118, R192, R197). -/
def Dev.shuntTake (x : Dev) (code : Int) (ovl : Bool) : Dev :=
  let x := if 0 < x.shuntFill then x.modAcc 188 (fun a => { a with row1 := true })
    else x.modAcc 188 (fun a => (a.add code).flag (fun f => { f with ovr := f.ovr || ovl }))
  ({ x with shuntFill := x.shuntFill - 1 }).overcurrent code ovl

theorem Dev.shuntTake_sampleNo (x : Dev) (code : Int) (ovl : Bool) : (x.shuntTake code ovl).sampleNo = x.sampleNo := by
  unfold Dev.shuntTake
  dsimp only
  split <;> rfl

theorem State.samples_shuntSample (s : State) (d t : Nat) (raw : RawSample) : (s.shuntSample d t raw).samples = s.samples := by
  have hd := s.samples_modDev d (·.shuntTake ((s.dev d).scaleShunt (clipShunt raw).1 (clipShunt raw).2) (clipShunt raw).2)
    fun x => x.shuntTake_sampleNo _ _
  unfold State.shuntSample
  dsimp only
  split
  · rfl
  · refine iteInduction (motive := fun y : State => y.samples = s.samples) (fun _ => ?_) fun _ => hd
    exact Eq.trans (State.cond_keep State.samples _ _ _ rfl) hd

section
variable {s : State} {d : Nat} (ha : (s.dev d).awake = true)
include ha

theorem sampleComplete_completes {raw : List RawSample} (hc : (s.dev d).calibrated = true) (hm : (s.dev d).measuring = true)
    (hn : (s.dev d).sampleNo < periodSamples (s.dev d).period) : answers (.sampleComplete d raw) s fun t =>
      (t.dev d).sampleNo = (s.dev d).sampleNo + 1 ∧
      t.now = max s.now ((s.dev d).lastB + ((s.dev d).sampleNo + 1) * 62500) := by
  obtain ⟨f, e, y, hf, hy⟩ : ∃ (f : State → State) (e : execSampleComplete d raw s = onS s d f) (y : State),
      (f s).samples = y.samples ∧ y = (s.until ((s.dev d).lastB + ((s.dev d).sampleNo + 1) * 62500)).modDev d (fun x =>
        { (x.arbSample raw).cellSamples raw ((s.dev d).lastB + ((s.dev d).sampleNo + 1) * 62500) with
          sampleNo := x.sampleNo + 1 }) := by
    refine ⟨_, by unfold execSampleComplete; rfl, _, ?_, rfl⟩
    dsimp only
    rw [if_neg (by simp [hc]), if_neg (by simp [hm]), if_neg (Nat.not_le.2 hn)]
    exact iteInduction (motive := fun z : State => z.samples = _)
      (fun _ => (State.samples_overcurrentClear _).trans (State.samples_shuntSample _ _ _ _))
      fun _ => State.samples_shuntSample _ _ _ _
  refine answers_onS e ha fun t hb hnow => ⟨?_, ?_⟩
  · refine (Dev.eq_of_body (·.sampleNo) (hb d)).trans ((congrArg (fun z => z.2 d) hf).trans ?_)
    refine Eq.trans (congrArg (fun z => (State.dev z d).sampleNo) hy) ?_
    rw [State.dev_modDev_self (s.until _) d _ (s.lt_of_awake d ha)]
    rfl
  · rw [hnow, show (f s).now = y.now from congrArg Prod.fst hf, hy]
    exact (Nat.max_assoc _ _ _).symm.trans (by rw [Nat.max_self])

theorem itemsSend_completes {p : Nat} (hh : (s.dev d).isHead = false) (hp : (s.dev d).pos = some p)
    (hcore : (s.dev d).coreReset = none) (hu : (s.dev d).unsync = false) (hn : (s.dev d).nextB ≠ none) :
    answers (.itemsSend d) s fun t =>
      t.now = max s.now ((s.dev d).lastB + 25000) ∧ (t.dev d).body = ((s.dev d).dropOld.sendItems t.now p).body := by
  have hn' : (s.dev d).nextB.isNone = false := Option.isNone_eq_false_iff.2 (Option.isSome_iff_ne_none.2 hn)
  have hh' : (s.dev d).dropOld.isHead = false := hh
  refine answers_changes (n := (s.dev d).lastB + 25000)
    (g := fun x => x.dropOld.sendItems (max s.now ((s.dev d).lastB + 25000)) p)
    (show execItemsSend d s = _ from by unfold execItemsSend; rfl) ha ?_ fun t hb hnow => ⟨hnow, by rw [hb, hnow]⟩
  simp only [hp, hcore, hu, hn', hh']
  exact State.modDev_congr _ d _ _ (s.lt_of_awake d ha) rfl

theorem soundingKeyingEdge_completes {x : Sounding} {b : Nat} (hs : (s.dev d).snd = some x) (hb : x.bin = some b)
    (he : x.edges + 1 < 2 * ((s.dev d).par Fld.sndSettle 0 + binCycles x.cycles b)) :
    answers (.soundingKeyingEdge d) s fun t => (t.dev d).snd = some { x with edges := x.edges + 1 } := by
  obtain ⟨f, e, n, g, hf, hg⟩ : ∃ (f : State → State) (_ : execSoundingKeyingEdge d s = onS s d f) (n : Nat) (g : Dev → Dev),
      f s = (s.until n).modDev d g ∧ ∀ y, (g y).snd = some { x with edges := x.edges + 1 } := by
    refine ⟨_, by unfold execSoundingKeyingEdge; rfl, x.since + (x.edges + 1) * (binCycle b / 2) * 62500, ?_⟩
    simp only [hs, hb]
    rw [if_neg (Nat.not_le.2 he)]
    refine ⟨_, rfl, fun y => ?_⟩
    refine foldl_keep Dev.snd _ (fun z k => ?_) _ _
    split <;> rfl
  exact answers_changes e ha hf fun t ht _ => (Dev.eq_of_body (·.snd) ht).trans (hg _)

theorem tokenForms_complete {p : RPort} {f : Frame} (hv : frameValid f = true) (hup : ((s.dev d).port p).st = .up)
    (hf : f.dest = 0xFE) :
    (∀ k, d ≠ 0 → f.payload = .token k → answers (.token d p f) s fun t => ((t.dev d).port p).waiting = some k) ∧
    (∀ n turn, f.payload = .probe n → answers (.probe d p f turn) s fun t =>
      ∃ g, ((t.dev d).port p).tx = ⟨g, max ((s.dev d).port p).busyUntil s.now, true⟩ :: ((s.dev d).port p).tx ∧
        g.payload = .probeReply n turn) ∧
    (∀ n ta k trip, f.payload = .probeReply n ta → ((s.dev d).port p).waiting = some k → ((s.dev d).port p).probes.length < 15 →
      answers (.probeReply d p f trip) s fun t => ((t.dev d).port p).probes = ((s.dev d).port p).probes ++ [(trip, ta)]) := by
  refine ⟨fun k hd hk => ?_, fun n turn hk => ?_, fun n ta k trip hk hw hl => ?_⟩
  · obtain ⟨t, ht, -, hw, -⟩ := token_member_answers ha hv hup hd hk hf
    exact ⟨t, ht, hw⟩
  · obtain ⟨t, ht, hb⟩ := probe_answers (turn := turn) ha hv hup hk hf
    refine ⟨t, ht, mkFrame 0xFE (s.dev d).src 0 0 (.probeReply n turn), ?_, rfl⟩
    have hc : ((s.dev d).port p).carries (mkFrame 0xFE (s.dev d).src 0 0 (.probeReply n turn)) = true := by
      have hh : heldType (mkFrame 0xFE (s.dev d).src 0 0 (.probeReply n turn)) = true := rfl
      simp [PortSt.carries, hup, hh]
    have he : (s.dev d).hopFrame p s.now (.probeReply n turn)
        = (s.dev d).modPort p (·.transmit s.now true (mkFrame 0xFE (s.dev d).src 0 0 (.probeReply n turn))) :=
      if_pos ⟨hc, fun h => Bool.noConfusion h.2⟩
    rw [Dev.port_of_body hb.1, he, Dev.port_modPort_self, PortSt.transmit_own]
  · obtain ⟨t, ht, hb⟩ := probeReply_early_answers (trip := trip) ha hv hup hk hf hw hl
    exact ⟨t, ht, by simp only [Dev.port_of_body hb.1, Dev.port_modPort_self]⟩

end

/-! ### Bleed edges -/

/-- What one step of a fold brings about, and no later step undoes, holds after the fold. -/
theorem foldl_reaches {α β : Type} (f : α → β → α) (P Q : α → Prop) (k : β) (hP : ∀ a b, P a → P (f a b))
    (hk : ∀ a, P a → Q (f a k)) (hQ : ∀ a b, P a → Q a → Q (f a b)) :
    ∀ (l : List β), k ∈ l → ∀ a, P a → Q (l.foldl f a) := by
  have hstay : ∀ (l : List β) (a : α), P a → Q a → Q (l.foldl f a) := by
    intro l
    induction l with
    | nil => intro a _ h; exact h
    | cons b l ih => intro a hp hq; exact ih _ (hP a b hp) (hQ a b hp hq)
  intro l
  induction l with
  | nil => intro h; cases h
  | cons b l ih =>
    intro hm a hp
    rcases List.mem_cons.1 hm with h | h
    · subst h; exact hstay l _ (hP a k hp) (hk a hp)
    · exact ih h _ (hP a b hp)

theorem Cell.drive_gate (c : Cell) (on : Bool) (t : Nat) : (c.drive on t).gate = on := by
  unfold Cell.drive
  dsimp only
  split
  · assumption
  · rfl

theorem Cell.drive_admitted (c : Cell) (on : Bool) (t : Nat) : (c.drive on t).admitted = c.admitted := by
  unfold Cell.drive
  dsimp only
  split <;> rfl

theorem Cell.drive_active (c : Cell) (on : Bool) (t : Nat) : (c.drive on t).active = c.active := by
  unfold Cell.drive
  dsimp only
  split <;> rfl

namespace Dev

variable (x : Dev)

theorem keyed_abortCell (c k : Nat) : (x.abortCell c).keyed k = x.keyed k := by
  unfold Dev.keyed Dev.abortCell
  cases x.snd <;> rfl

/-- A switch changes beside its cell only which cells of a Sounding are aborted (R209). -/
theorem switch_eq (j : Nat) (on : Bool) (t : Nat) :
    ∃ y : Dev, x.switch j on t = y.drive j on t ∧ y.cells = x.cells ∧ ∀ k, y.keyed k = x.keyed k := by
  refine ⟨_, rfl, ?_⟩
  split
  · refine ⟨foldl_keep Dev.cells _ (fun a b => ?_) _ x, fun k => foldl_keep (fun z => Dev.keyed z k) _ (fun a b => ?_) _ x⟩
    · split <;> rfl
    · split
      · exact a.keyed_abortCell b k
      · rfl
  · exact ⟨rfl, fun _ => rfl⟩

@[simp] theorem keyed_switch (j : Nat) (on : Bool) (t k : Nat) : (x.switch j on t).keyed k = x.keyed k := by
  obtain ⟨y, hy, -, hk⟩ := x.switch_eq j on t
  rw [hy]; exact hk k

@[simp] theorem length_cells_switch (j : Nat) (on : Bool) (t : Nat) : (x.switch j on t).cells.length = x.cells.length := by
  obtain ⟨y, hy, hc, -⟩ := x.switch_eq j on t
  rw [hy, ← hc]; exact List.length_modify _ _ _

theorem cell_switch (j : Nat) (on : Bool) (t k : Nat) :
    (x.switch j on t).cell k = if j = k ∧ k < x.cells.length then (x.cell k).drive on t else x.cell k := by
  obtain ⟨y, hy, hc, -⟩ := x.switch_eq j on t
  rw [hy, ← hc, show x.cell k = y.cell k by unfold Dev.cell; rw [hc]]
  exact State.getD_modAt _ _ _ _ _

/-- What a switch leaves of every cell, it leaves of cell k. -/
theorem cell_switch_keep {β : Type} (g : Cell → β) (h : ∀ c on t, g (Cell.drive c on t) = g c) (j : Nat) (on : Bool) (t k : Nat) :
    g ((x.switch j on t).cell k) = g (x.cell k) := by
  rw [cell_switch]
  split
  · exact h _ _ _
  · rfl

end Dev

section
variable {s : State} {d : Nat} (ha : (s.dev d).awake = true) (hm : (s.dev d).measuring = true)
  (hq : (s.dev d).par Fld.balQuiet 0 ≠ 0) (hf : (s.dev d).feasible = true) {k : Nat} (h24 : k < 24)
  (hk : k < (s.dev d).cells.length) (hkey : (s.dev d).keyed k = false)
include ha hm hq hf h24 hk hkey

theorem bleedOnEdge_completes (hadm : ((s.dev d).cell k).admitted = true) (hact : ((s.dev d).cell k).active = true) :
    answers (.bleedOnEdge d) s fun t => ((t.dev d).cell k).gate = true := by
  have hc : ¬ ((s.dev d).measuring = false ∨ (s.dev d).par Fld.balQuiet 0 = 0 ∨ (s.dev d).feasible = false) := by
    simp [hm, hq, hf]
  obtain ⟨f, e, hfs⟩ : ∃ (f : State → State) (_ : execBleedOnEdge d s = onS s d f),
      f s = (s.until ((s.dev d).lastB + 2000)).modDev d (fun x => (List.range 24).foldl (fun x k =>
        if (x.cell k).admitted ∧ (x.cell k).active ∧ x.keyed k = false then x.switch k true ((s.dev d).lastB + 2000) else x) x) :=
    ⟨_, by unfold execBleedOnEdge; rfl, if_neg hc⟩
  refine answers_changes e ha hfs fun t ht _ => (Dev.eq_of_body (fun x => (x.cell k).gate) ht).trans ?_
  refine foldl_reaches _ (fun x : Dev => k < x.cells.length ∧ x.keyed k = false ∧ (x.cell k).admitted = true ∧ (x.cell k).active = true)
    (fun x : Dev => (x.cell k).gate = true) k ?_ ?_ ?_ _ (List.mem_range.2 h24) _ ⟨hk, hkey, hadm, hact⟩
  · intro x j hx
    split
    · rw [Dev.length_cells_switch, Dev.keyed_switch, Dev.cell_switch_keep x (·.admitted) Cell.drive_admitted,
        Dev.cell_switch_keep x (·.active) Cell.drive_active]
      exact hx
    · exact hx
  · intro x ⟨hl, hx, ha, hc⟩
    rw [if_pos ⟨ha, hc, hx⟩, Dev.cell_switch, if_pos ⟨rfl, hl⟩, Cell.drive_gate]
  · intro x j _ hx
    split
    · rw [Dev.cell_switch]
      split
      · exact Cell.drive_gate _ _ _
      · exact hx
    · exact hx

theorem bleedOffEdge_completes : answers (.bleedOffEdge d) s fun t => ((t.dev d).cell k).gate = false := by
  have hc : ¬ ((s.dev d).measuring = false ∨ (s.dev d).par Fld.balQuiet 0 = 0 ∨ (s.dev d).feasible = false) := by
    simp [hm, hq, hf]
  obtain ⟨f, e, hfs⟩ : ∃ (f : State → State) (_ : execBleedOffEdge d s = onS s d f),
      f s = (s.until ((s.dev d).lastB + 2000 + (s.dev d).tc)).modDev d (fun x => (List.range 24).foldl (fun x k =>
        if (x.cell k).gate ∧ x.keyed k = false then x.switch k false ((s.dev d).lastB + 2000 + (s.dev d).tc) else x) x) :=
    ⟨_, by unfold execBleedOffEdge; rfl, if_neg hc⟩
  refine answers_changes e ha hfs fun t ht _ => (Dev.eq_of_body (fun x => (x.cell k).gate) ht).trans ?_
  refine foldl_reaches _ (fun x : Dev => k < x.cells.length ∧ x.keyed k = false)
    (fun x : Dev => (x.cell k).gate = false) k ?_ ?_ ?_ _ (List.mem_range.2 h24) _ ⟨hk, hkey⟩
  · intro x j hx
    split
    · rw [Dev.length_cells_switch, Dev.keyed_switch]
      exact hx
    · exact hx
  · intro x ⟨hl, hx⟩
    split
    · rw [Dev.cell_switch, if_pos ⟨rfl, hl⟩, Cell.drive_gate]
    · next h => simpa [hx] using h
  · intro x j _ hx
    split
    · rw [Dev.cell_switch]
      split
      · exact Cell.drive_gate _ _ _
      · exact hx
    · exact hx

end

/-! ### Overcurrent -/

/-- S_ERR is a trip source (R353). -/
theorem State.tripMask_of_sErr (s : State) (h : s.saf.sErr = true) : s.tripMask ≠ 0 := by
  unfold State.tripMask
  simp only [h, Bool.true_or, b2n, cond_true]
  omega

/-- With an overcurrent cause at the head's S-die, S_ERR is asserted and seen (R401). -/
theorem State.sErrUpdate_asserts (s : State) (hr : s.pw.running = true) (hl : 0 < s.devs.length)
    (hc : (s.dev 0).ocCause.1 = true ∨ (s.dev 0).ocCause.2 = true) :
    (s.sErrUpdate.dev 0).sErr = true ∧ s.sErrUpdate.saf.sErr = true ∧ s.sErrUpdate.pw = s.pw := by
  have hon : ((s.dev 0).ocCause.1 || (s.dev 0).ocCause.2 || ((s.dev 0).overTemp && (s.dev 0).isHead)) = true := by
    rcases hc with h | h <;> simp [h]
  unfold State.sErrUpdate
  dsimp only
  rw [State.modDev_pw, if_pos hr]
  refine ⟨(Dev.eq_of_body (·.sErr) (State.evalTrip_body _ 0)).trans ?_, ?_, State.evalTrip_pw _⟩
  · refine (congrArg Dev.sErr (State.dev_modDev_self s 0 _ hl)).trans hon
  · rw [State.evalTrip_saf_sErr, hon]

/-- The end of an overcurrent that the head's S-die has found: `z` holds its cause. -/
theorem overcurrent_finish (s z : State) (k : Nat) (v : Word) (hr : z.pw.running = true) (hl : 0 < z.devs.length)
    (hc : (z.dev 0).ocCause.1 = true ∨ (z.dev 0).ocCause.2 = true) :
    let t := s.finish (cond z.pw.running (z.raise 0x0E k 0 0 v) z).sErrUpdate.headReports
    (t.dev 0).sErr = true ∧ t.saf.sErr = true ∧ t.saf.tripLatch = true := by
  obtain ⟨y, hy⟩ : ∃ y, y = z.raise 0x0E k 0 0 v := ⟨_, rfl⟩
  have hb : y.bare = z.bare := by rw [hy]; exact State.raiseAt_bare z _ _ _ _
  have hyr : y.pw.running = true := by
    rw [hy]
    exact (congrArg PowerSt.running (State.pw_of_steady (State.raiseAt_steady z ⟨0x0E, k, 0, 0⟩ v false z.sweep))).trans hr
  have hyc : (y.dev 0).ocCause = (z.dev 0).ocCause := Dev.eq_of_body (·.ocCause) (State.body_of_bare hb 0)
  have hyl : 0 < y.devs.length := by
    have h := congrArg (List.length ∘ State.devs) hb
    simp only [Function.comp_apply, State.bare, List.length_map] at h
    omega
  obtain ⟨h1, h2, h3⟩ := y.sErrUpdate_asserts hyr hyl (by rw [hyc]; exact hc)
  have hsaf : y.sErrUpdate.headReports.saf.sErr = true :=
    (congrArg SafetySt.sErr (State.headReports_saf y.sErrUpdate)).trans h2
  have hrun : y.sErrUpdate.headReports.pw.running = true :=
    (congrArg PowerSt.running (State.pw_of_steady (State.headReports_steady y.sErrUpdate))).trans (by rw [h3]; exact hyr)
  rw [hr, cond_true, ← hy]
  refine ⟨?_, by rw [State.finish_saf_sErr, hsaf], ?_⟩
  · exact (Dev.eq_of_body (·.sErr) ((State.finish_body s _ 0).trans (State.headReports_body _ 0))).trans h1
  · obtain ⟨-, h, -⟩ := State.finish_atRest s _ hrun
    exact (h (State.tripMask_of_sErr _ (by rw [State.finish_saf_sErr, hsaf]))).1

theorem shuntOvercurrent_completes {s : State} (ha : (s.dev 0).awake = true) (hr : s.pw.running = true) (dir : Direction)
    (hdis : dir = .discharge → (s.dev 0).par Fld.ocN 0 ≤ (s.dev 0).ocDis ∧ (s.dev 0).ocCause.1 = false)
    (hchg : dir = .charge → (s.dev 0).par Fld.ocN 0 ≤ (s.dev 0).ocChg ∧ (s.dev 0).ocCause.2 = false) :
    answers (.shuntOvercurrent dir) s fun t => (t.dev 0).sErr = true ∧ t.saf.sErr = true ∧ t.saf.tripLatch = true := by
  have hl := s.lt_of_awake 0 ha
  have hself (f : Dev → Dev) : (s.modDev 0 f).dev 0 = f (s.dev 0) := State.dev_modDev_self s 0 f hl
  have hlen (f : Dev → Dev) : 0 < (s.modDev 0 f).devs.length := by simpa [State.modDev, modAt] using hl
  obtain ⟨z, k, v, e, hz⟩ : ∃ (z : State) (k : Nat) (v : Word), execShuntOvercurrent dir s
      = done s (cond z.pw.running (z.raise 0x0E k 0 0 v) z).sErrUpdate.headReports ∧ z.pw.running = true ∧ 0 < z.devs.length ∧
        ((z.dev 0).ocCause.1 = true ∨ (z.dev 0).ocCause.2 = true) := by
    unfold execShuntOvercurrent
    rw [onS_head ha]
    cases dir with
    | discharge =>
      dsimp only
      rw [if_pos (hdis rfl)]
      exact ⟨_, _, _, rfl, hr, hlen _, .inl (congrArg (fun x : Dev => x.ocCause.1) (hself _))⟩
    | charge =>
      dsimp only
      rw [if_pos (hchg rfl)]
      exact ⟨_, _, _, rfl, hr, hlen _, .inr (congrArg (fun x : Dev => x.ocCause.2) (hself _))⟩
  obtain ⟨hzr, hzl, hzc⟩ := hz
  exact answers_done e (overcurrent_finish s z k v hzr hzl hzc)

end Sys2Proof.Machine
end

section
/-!
SUPPORT. A device at its local boundary (R59 to R63, R66, R69, R231, R283): what goes on there leaves its power and the reaction
records that it holds, but for a firmware activation, which drops the records (R390, R481), and a DORMANT order (R498); with it
the boundary's clause of O60.
-/

namespace Sys2Proof.Machine.Dev

/-- Two changes that leave the power of a device and the reaction records that it holds. -/
theorem alike_trans {a b c : Dev} (h : a.power = b.power ∧ a.reactPend = b.reactPend)
    (k : b.power = c.power ∧ b.reactPend = c.reactPend) : a.power = c.power ∧ a.reactPend = c.reactPend :=
  ⟨h.1.trans k.1, h.2.trans k.2⟩

theorem foldl_alike {β : Type} (f : Dev → β → Dev) (h : ∀ x b, (f x b).power = x.power ∧ (f x b).reactPend = x.reactPend)
    (l : List β) (x : Dev) : (l.foldl f x).power = x.power ∧ (l.foldl f x).reactPend = x.reactPend :=
  ⟨foldl_keep Dev.power f (fun x b => (h x b).1) l x, foldl_keep Dev.reactPend f (fun x b => (h x b).2) l x⟩

variable (d : Dev)

/-! ### Parts, reports and windows -/

@[simp] theorem modCell_alike (k : Nat) (f : Cell → Cell) :
    (d.modCell k f).power = d.power ∧ (d.modCell k f).reactPend = d.reactPend := ⟨rfl, rfl⟩
@[simp] theorem modAcc_alike (r : Nat) (f : Acc → Acc) :
    (d.modAcc r f).power = d.power ∧ (d.modAcc r f).reactPend = d.reactPend := ⟨rfl, rfl⟩
@[simp] theorem modMod_alike (m : Nat) (f : Modulator → Modulator) :
    (d.modMod m f).power = d.power ∧ (d.modMod m f).reactPend = d.reactPend := ⟨rfl, rfl⟩
@[simp] theorem modSv_alike (f : Survey → Survey) : (d.modSv f).power = d.power ∧ (d.modSv f).reactPend = d.reactPend := ⟨rfl, rfl⟩
@[simp] theorem modTherm_alike (n : Nat) (f : Therm → Therm) :
    (d.modTherm n f).power = d.power ∧ (d.modTherm n f).reactPend = d.reactPend := ⟨rfl, rfl⟩
@[simp] theorem report_alike (up : Bool) (c b k : Nat) (v : Word) :
    (d.report up c b k v).power = d.power ∧ (d.report up c b k v).reactPend = d.reactPend := ⟨rfl, rfl⟩
@[simp] theorem push_alike (b : Backlog) : (d.push b).power = d.power ∧ (d.push b).reactPend = d.reactPend := ⟨rfl, rfl⟩
@[simp] theorem startRec_alike (n r : Nat) : (d.startRec n r).power = d.power ∧ (d.startRec n r).reactPend = d.reactPend := ⟨rfl, rfl⟩
@[simp] theorem startAll_alike (n : Nat) :
    (d.startAll n).power = d.power ∧ (d.startAll n).reactPend = d.reactPend := foldl_alike _ (fun _ _ => startRec_alike _ _ _) _ _

@[simp] theorem learn_alike (r : Nat) (e : Entry) : (d.learn r e).power = d.power ∧ (d.learn r e).reactPend = d.reactPend := by
  unfold Dev.learn; (repeat' split) <;> simp

@[simp] theorem closeRec_alike (n r : Nat) (due opens : Bool) (w : Nat) :
    (d.closeRec n r due opens w).power = d.power ∧ (d.closeRec n r due opens w).reactPend = d.reactPend := by
  unfold Dev.closeRec; dsimp only; split <;> simp

@[simp] theorem closeDue_alike (n : Nat) : (d.closeDue n).power = d.power ∧ (d.closeDue n).reactPend = d.reactPend := by
  refine foldl_alike _ (fun x g => ?_) _ _
  dsimp only
  split
  · exact foldl_alike _ (fun x r => closeRec_alike x _ _ _ _ _) _ _
  · exact ⟨rfl, rfl⟩

@[simp] theorem setWindow_alike (n g : Nat) (w : Window) :
    (d.setWindow n g w).power = d.power ∧ (d.setWindow n g w).reactPend = d.reactPend := by
  unfold Dev.setWindow
  dsimp only
  split
  · exact foldl_alike _ (fun x r => modAcc_alike x _ _) _ _
  · exact foldl_alike _ (fun x r => closeRec_alike x _ _ _ _ _) _ _

/-! ### Sources and relief -/

@[simp] theorem abortCell_alike (c : Nat) : (d.abortCell c).power = d.power ∧ (d.abortCell c).reactPend = d.reactPend := ⟨rfl, rfl⟩
@[simp] theorem connect_alike (m k : Nat) : (d.connect m k).power = d.power ∧ (d.connect m k).reactPend = d.reactPend := ⟨rfl, rfl⟩
@[simp] theorem disconnect_alike (m : Nat) : (d.disconnect m).power = d.power ∧ (d.disconnect m).reactPend = d.reactPend := ⟨rfl, rfl⟩
@[simp] theorem setFill_alike (k : Nat) : (d.setFill k).power = d.power ∧ (d.setFill k).reactPend = d.reactPend := ⟨rfl, rfl⟩

@[simp] theorem setSource_alike (k n : Nat) (m : Option Nat) :
    (d.setSource k n m).power = d.power ∧ (d.setSource k n m).reactPend = d.reactPend := by
  unfold Dev.setSource; dsimp only; (repeat' split) <;> simp

@[simp] theorem setRelief_alike (m : Nat) (x : Relief) :
    (d.setRelief m x).power = d.power ∧ (d.setRelief m x).reactPend = d.reactPend := by
  unfold Dev.setRelief; (repeat' split) <;> simp

@[simp] theorem declareFailed_alike (m : Nat) :
    (d.declareFailed m).power = d.power ∧ (d.declareFailed m).reactPend = d.reactPend := by
  unfold Dev.declareFailed; dsimp only; split <;> simp

@[simp] theorem retire_alike (m : Nat) : (d.retire m).power = d.power ∧ (d.retire m).reactPend = d.reactPend := by
  unfold Dev.retire; split <;> simp

@[simp] theorem freeAgain_alike (m : Nat) : (d.freeAgain m).power = d.power ∧ (d.freeAgain m).reactPend = d.reactPend := by
  unfold Dev.freeAgain; split <;> simp

@[simp] theorem join_alike (m k : Nat) : (d.join m k).power = d.power ∧ (d.join m k).reactPend = d.reactPend := by
  unfold Dev.join; split <;> simp

@[simp] theorem disconnectAll_alike : d.disconnectAll.power = d.power ∧ d.disconnectAll.reactPend = d.reactPend :=
by
  simp [Dev.disconnectAll, foldl_alike]

@[simp] theorem abandonCover_alike (n : Nat) :
    (d.abandonCover n).power = d.power ∧ (d.abandonCover n).reactPend = d.reactPend := by
  unfold Dev.abandonCover
  split
  · dsimp only; split <;> simp
  · simp

@[simp] theorem takeSubst_alike (k m n : Nat) (clean : Bool) :
    (d.takeSubst k m n clean).power = d.power ∧ (d.takeSubst k m n clean).reactPend = d.reactPend := by
  unfold Dev.takeSubst
  cases (d.cell k).source <;> cases clean <;> dsimp only <;> (repeat' split) <;> simp [Bool.cond_decide] <;> split <;> simp

@[simp] theorem loseSource_alike (k n : Nat) :
    (d.loseSource k n).power = d.power ∧ (d.loseSource k n).reactPend = d.reactPend := by
  unfold Dev.loseSource; cases (d.cell k).source <;> simp

@[simp] theorem substitute_alike (k n : Nat) :
    (d.substitute k n).power = d.power ∧ (d.substitute k n).reactPend = d.reactPend := by
  unfold Dev.substitute; dsimp only; (repeat' split) <;> simp

@[simp] theorem substituteDue_alike (n : Nat) :
    (d.substituteDue n).power = d.power ∧ (d.substituteDue n).reactPend = d.reactPend :=
  foldl_alike _ (fun x k => by split <;> simp) _ _

@[simp] theorem revert_alike (k : Nat) : (d.revert k).power = d.power ∧ (d.revert k).reactPend = d.reactPend := by
  unfold Dev.revert; dsimp only; (repeat' split) <;> simp

@[simp] theorem beginCover_alike (n : Nat) : (d.beginCover n).power = d.power ∧ (d.beginCover n).reactPend = d.reactPend := by
  unfold Dev.beginCover; (repeat' split) <;> simp

@[simp] theorem rotate_alike (n rm : Nat) : (d.rotate n rm).power = d.power ∧ (d.rotate n rm).reactPend = d.reactPend := ⟨rfl, rfl⟩

@[simp] theorem advanceCover_alike (n : Nat) :
    (d.advanceCover n).power = d.power ∧ (d.advanceCover n).reactPend = d.reactPend := by
  unfold Dev.advanceCover; dsimp only; (repeat' split) <;> simp

@[simp] theorem advanceReturns_alike (n : Nat) :
    (d.advanceReturns n).power = d.power ∧ (d.advanceReturns n).reactPend = d.reactPend :=
  foldl_alike _ (fun x k => by dsimp only; split <;> simp) _ _

@[simp] theorem ownCalibrate_alike (n : Nat) :
    (d.ownCalibrate n).power = d.power ∧ (d.ownCalibrate n).reactPend = d.reactPend := ⟨rfl, rfl⟩

@[simp] theorem setCellBench_alike (k sub : Nat) :
    (d.setCellBench k sub).power = d.power ∧ (d.setCellBench k sub).reactPend = d.reactPend := by
  unfold Dev.setCellBench; dsimp only; (repeat' split) <;> simp

@[simp] theorem arbitrate_alike (k : Nat) (ordered : Bool) :
    (d.arbitrate k ordered).power = d.power ∧ (d.arbitrate k ordered).reactPend = d.reactPend := by
  unfold Dev.arbitrate; dsimp only; (repeat' split) <;> simp

@[simp] theorem putArb_alike (a : Arbitration) : (d.putArb a).power = d.power ∧ (d.putArb a).reactPend = d.reactPend := ⟨rfl, rfl⟩
@[simp] theorem dropArb_alike (a : Arbitration) : (d.dropArb a).power = d.power ∧ (d.dropArb a).reactPend = d.reactPend := ⟨rfl, rfl⟩

@[simp] theorem endArb_alike (a : Arbitration) : (d.endArb a).power = d.power ∧ (d.endArb a).reactPend = d.reactPend := by
  unfold Dev.endArb; dsimp only; (repeat' split) <;> simp

@[simp] theorem arbSubstitute_alike (a : Arbitration) (n : Nat) :
    (d.arbSubstitute a n).power = d.power ∧ (d.arbSubstitute a n).reactPend = d.reactPend := by
  unfold Dev.arbSubstitute; dsimp only; (repeat' split) <;> simp

@[simp] theorem arbAgreed_alike (a : Arbitration) :
    (d.arbAgreed a).power = d.power ∧ (d.arbAgreed a).reactPend = d.reactPend := by
  unfold Dev.arbAgreed; simp

@[simp] theorem advanceArb_alike (n : Nat) (a : Arbitration) :
    (d.advanceArb n a).power = d.power ∧ (d.advanceArb n a).reactPend = d.reactPend := by
  unfold Dev.advanceArb; (repeat' split) <;> simp

@[simp] theorem advanceArbs_alike (n : Nat) :
    (d.advanceArbs n).power = d.power ∧ (d.advanceArbs n).reactPend = d.reactPend := foldl_alike _ (fun x a => advanceArb_alike x n a) _ _

@[simp] theorem relieve_alike (n : Nat) : (d.relieve n).power = d.power ∧ (d.relieve n).reactPend = d.reactPend := by
  unfold Dev.relieve; simp

/-! ### Bleeding and Soundings -/

@[simp] theorem drive_alike (k : Nat) (on : Bool) (t : Nat) :
    (d.drive k on t).power = d.power ∧ (d.drive k on t).reactPend = d.reactPend := ⟨rfl, rfl⟩
@[simp] theorem bleedAllOff_alike (t : Nat) : (d.bleedAllOff t).power = d.power ∧ (d.bleedAllOff t).reactPend = d.reactPend := ⟨rfl, rfl⟩
@[simp] theorem startSounding_alike (c b : Nat) (l : List Nat) :
    (d.startSounding c b l).power = d.power ∧ (d.startSounding c b l).reactPend = d.reactPend := ⟨rfl, rfl⟩

@[simp] theorem switch_alike (k : Nat) (on : Bool) (t : Nat) :
    (d.switch k on t).power = d.power ∧ (d.switch k on t).reactPend = d.reactPend := by
  unfold Dev.switch
  dsimp only
  split
  · exact alike_trans (drive_alike _ _ _ _) (foldl_alike _ (fun x c => by split <;> simp) _ _)
  · simp

@[simp] theorem endBleed_alike (k t reason : Nat) :
    (d.endBleed k t reason).power = d.power ∧ (d.endBleed k t reason).reactPend = d.reactPend := by
  unfold Dev.endBleed; dsimp only; split <;> simp

@[simp] theorem keyingEnds_alike (cells : List Nat) (t : Nat) :
    (d.keyingEnds cells t).power = d.power ∧ (d.keyingEnds cells t).reactPend = d.reactPend :=
  foldl_alike _ (fun x _ => modCell_alike x _ _) _ _

@[simp] theorem haltSounding_alike (t : Nat) :
    (d.haltSounding t).power = d.power ∧ (d.haltSounding t).reactPend = d.reactPend := by
  unfold Dev.haltSounding; dsimp only; split <;> simp

@[simp] theorem setTimer_alike (k minutes t : Nat) :
    (d.setTimer k minutes t).power = d.power ∧ (d.setTimer k minutes t).reactPend = d.reactPend := by
  unfold Dev.setTimer; dsimp only; split <;> simp

@[simp] theorem setBalance_alike (mask minutes t : Nat) :
    (d.setBalance mask minutes t).power = d.power ∧ (d.setBalance mask minutes t).reactPend = d.reactPend := by
  unfold Dev.setBalance
  dsimp only
  split
  · exact ⟨rfl, rfl⟩
  · exact foldl_alike _ (fun x k => by (repeat' split) <;> simp) _ _

@[simp] theorem bleedSweepEnd_alike (t : Nat) :
    (d.bleedSweepEnd t).power = d.power ∧ (d.bleedSweepEnd t).reactPend = d.reactPend := foldl_alike _ (fun x k => by simp) _ _

@[simp] theorem expireTimers_alike (t : Nat) :
    (d.expireTimers t).power = d.power ∧ (d.expireTimers t).reactPend = d.reactPend := foldl_alike _ (fun x k => by split <;> simp) _ _

@[simp] theorem applyHeld_alike (t : Nat) : (d.applyHeld t).power = d.power ∧ (d.applyHeld t).reactPend = d.reactPend :=
  foldl_alike _ (fun x k => by (repeat' split) <;> simp) _ _

@[simp] theorem vminEnds_alike (t : Nat) : (d.vminEnds t).power = d.power ∧ (d.vminEnds t).reactPend = d.reactPend :=
  foldl_alike _ (fun x k => by (repeat' split) <;> simp) _ _

@[simp] theorem admission_alike (t : Nat) : (d.admission t).power = d.power ∧ (d.admission t).reactPend = d.reactPend := by
  unfold Dev.admission
  refine alike_trans (foldl_alike _ (fun x k => ?_) _ _) (alike_trans (foldl_alike _ (fun x k => ?_) _ _) ⟨rfl, rfl⟩)
  · dsimp only
    exact iteInduction (motive := fun y : Dev => y.power = x.power ∧ y.reactPend = x.reactPend) (fun _ => modCell_alike _ _ _)
      fun _ => alike_trans (switch_alike _ _ _ _) (modCell_alike _ _ _)
  · split <;> simp

@[simp] theorem soundBoundary_alike (t : Nat) :
    (d.soundBoundary t).power = d.power ∧ (d.soundBoundary t).reactPend = d.reactPend := by
  have h (x : Dev) (l : List Nat) := foldl_alike (fun d k => if Dev.keyStop d k then d.abortCell k else d.drive k true t)
    (fun x k => by split <;> simp) l x
  unfold Dev.soundBoundary
  dsimp only
  (repeat' split) <;> simp [h]

@[simp] theorem cutBleed_alike (t : Nat) : (d.cutBleed t).power = d.power ∧ (d.cutBleed t).reactPend = d.reactPend :=
  alike_trans (bleedAllOff_alike _ _) (foldl_alike _ (fun x k => by split <;> simp) _ _)

@[simp] theorem forceOff_alike (t : Nat) : (d.forceOff t).power = d.power ∧ (d.forceOff t).reactPend = d.reactPend := by
  unfold Dev.forceOff; split <;> simp

/-! ### The Survey -/

@[simp] theorem schedule_alike (t : Nat) : (d.schedule t).power = d.power ∧ (d.schedule t).reactPend = d.reactPend := by
  obtain ⟨f, hf, -⟩ := d.schedule_keeps t
  rw [hf]; exact modSv_alike d f

@[simp] theorem countWaits_alike (n : Nat) (b : Option Occupation) :
    (d.countWaits n b).power = d.power ∧ (d.countWaits n b).reactPend = d.reactPend := ⟨rfl, rfl⟩

@[simp] theorem beginOccupation_alike (n t : Nat) (o : Occupation) :
    (d.beginOccupation n t o).power = d.power ∧ (d.beginOccupation n t o).reactPend = d.reactPend := by
  cases o with
  | full =>
    exact alike_trans (disconnectAll_alike _) (alike_trans (foldl_alike _ (fun x k => loseSource_alike x _ _) _ _) ⟨rfl, rfl⟩)
  | _ => exact ⟨rfl, rfl⟩

@[simp] theorem occupy_alike (n t : Nat) : (d.occupy n t).power = d.power ∧ (d.occupy n t).reactPend = d.reactPend := by
  unfold Dev.occupy; dsimp only; (repeat' split) <;> simp

@[simp] theorem surveyBoundary_alike (n t : Nat) :
    (d.surveyBoundary n t).power = d.power ∧ (d.surveyBoundary n t).reactPend = d.reactPend := by
  unfold Dev.surveyBoundary; dsimp only; (repeat' split) <;> simp

@[simp] theorem setBroken_alike (n sub : Nat) :
    (d.setBroken n sub).power = d.power ∧ (d.setBroken n sub).reactPend = d.reactPend := by
  unfold Dev.setBroken; dsimp only; (repeat' split) <;> simp

/-! ### Settings -/

@[simp] theorem refill_alike : d.refill.power = d.power ∧ d.refill.reactPend = d.reactPend := by
  have h (x : Dev) := foldl_alike (fun d k => Dev.setFill d k) (fun x k => setFill_alike x k) (List.range 24) x
  unfold Dev.refill
  dsimp only
  split <;> simp [h]

/-- New windows of every group from sweep `sa`. -/
@[simp] theorem setWindows_alike (n sa : Nat) :
    ((List.range 9).foldl (fun d g => Dev.setWindow d n g ⟨(d.win g).w, sa⟩) d).power = d.power ∧
      ((List.range 9).foldl (fun d g => Dev.setWindow d n g ⟨(d.win g).w, sa⟩) d).reactPend = d.reactPend :=
  foldl_alike _ (fun x _ => setWindow_alike x _ _ _) _ _

@[simp] theorem setPeriod_alike (n code : Nat) :
    (d.setPeriod n code).power = d.power ∧ (d.setPeriod n code).reactPend = d.reactPend := by
  unfold Dev.setPeriod; dsimp only; (repeat' split) <;> simp

@[simp] theorem unfit_alike :
    d.unfit.power = d.power ∧ d.unfit.reactPend = d.reactPend := foldl_alike _ (fun x n => by split <;> simp) _ _

@[simp] theorem setField_alike (n fid idx v : Nat) :
    (d.setField n fid idx v).power = d.power ∧ (d.setField n fid idx v).reactPend = d.reactPend := by
  unfold Dev.setField; dsimp only; (repeat' split) <;> simp

@[simp] theorem newTable_alike (t : List Word) : (d.newTable t).power = d.power ∧ (d.newTable t).reactPend = d.reactPend := by
  unfold Dev.newTable; dsimp only; split <;> simp

@[simp] theorem legendObject_alike (n : Nat) (b : List Byte) :
    (d.legendObject n b).power = d.power ∧ (d.legendObject n b).reactPend = d.reactPend := by
  refine foldl_alike _ (fun x r => ?_) _ _
  dsimp only
  exact iteInduction (motive := fun y : Dev => y.power = x.power ∧ y.reactPend = x.reactPend)
    (fun _ => iteInduction (motive := fun y : Dev => y.power = x.power ∧ y.reactPend = x.reactPend)
      (fun _ => ⟨rfl, rfl⟩) fun _ => setWindow_alike _ _ _ _)
    fun _ => foldl_alike _ (fun x y => setField_alike x _ _ _ _) _ _

@[simp] theorem activate_alike (n object : Nat) :
    (d.activate n object).power = d.power ∧ (d.activate n object).reactPend = d.reactPend := by
  unfold Dev.activate; dsimp only; (repeat' split) <;> simp

@[simp] theorem resetPosition_alike (sa : Nat) :
    (d.resetPosition sa).power = d.power ∧ (d.resetPosition sa).reactPend = d.reactPend := ⟨rfl, rfl⟩

@[simp] theorem applyAdopt_alike (n t : Nat) (id : Word) :
    (d.applyAdopt n t id).power = d.power ∧ (d.applyAdopt n t id).reactPend = d.reactPend := by
  unfold Dev.applyAdopt
  dsimp only
  (repeat' split) <;> simp

/-! ### The parts of a boundary -/

@[simp] theorem markLate_alike : d.markLate.power = d.power ∧ d.markLate.reactPend = d.reactPend := by
  unfold Dev.markLate; split <;> simp

@[simp] theorem reopen_alike (n : Nat) : (d.reopen n).power = d.power ∧ (d.reopen n).reactPend = d.reactPend := ⟨rfl, rfl⟩

@[simp] theorem readings_alike (r : DevReadings) : (d.readings r).power = d.power ∧ (d.readings r).reactPend = d.reactPend := by
  unfold Dev.readings; dsimp only; split <;> simp

@[simp] theorem rebase_alike (n : Nat) : (d.rebase n).power = d.power ∧ (d.rebase n).reactPend = d.reactPend := by
  unfold Dev.rebase; split <;> simp

@[simp] theorem windows_alike (n : Nat) (resync : Bool) :
    (d.windows n resync).power = d.power ∧ (d.windows n resync).reactPend = d.reactPend := by
  unfold Dev.windows; dsimp only; (repeat' split) <;> simp

@[simp] theorem boundaryHard_alike (r : DevReadings) (n t : Nat) (resync : Bool) :
    (d.boundaryHard r n t resync).power = d.power ∧ (d.boundaryHard r n t resync).reactPend = d.reactPend := by
  unfold Dev.boundaryHard; dsimp only; split <;> simp

@[simp] theorem boundaryHalted_alike (n t : Nat) :
    (d.boundaryHalted n t).power = d.power ∧ (d.boundaryHalted n t).reactPend = d.reactPend := by
  unfold Dev.boundaryHalted; simp

/-! ### Settings of records -/

/-- The device is awake, and none of the reaction records that it holds orders DORMANT (R498). -/
def staysAwake : Prop := d.power = .awake ∧ ∀ c ∈ d.reactPend, ∀ y ∈ c.settings, y.val ≠ .dormant

variable {d}

theorem staysAwake_of_alike {e : Dev} (h : d.staysAwake) (k : e.power = d.power ∧ e.reactPend = d.reactPend) : e.staysAwake := by
  unfold Dev.staysAwake
  rw [k.1, k.2]
  exact h

theorem newFirmware_staysAwake (h : d.staysAwake) (t : Nat) : (d.newFirmware t).staysAwake := by
  unfold Dev.newFirmware
  split
  · simp [Dev.staysAwake, Dev.coreStop, h.1]
  · exact h

theorem applyVal_alike (n t : Nat) {x : SettingVal} (hx : x ≠ .dormant) (hf : x ≠ .firmware) :
    (d.applyVal n t x).power = d.power ∧ (d.applyVal n t x).reactPend = d.reactPend := by
  unfold Dev.applyVal
  cases x with
  | dormant => exact absurd rfl hx
  | firmware => exact absurd rfl hf
  | substitute k => dsimp only; split <;> simp
  | selfTest full => dsimp only; split <;> simp
  | sounding c b l => dsimp only; split <;> simp
  | field fid idx v => exact setField_alike d n fid idx v
  | window g w s0 => exact setWindow_alike d n g _
  | balance mask minutes => exact setBalance_alike d mask minutes t
  | revert k => exact revert_alike d _
  | arbitrate k ordered => exact arbitrate_alike d _ _
  | soundHalt => exact haltSounding_alike d t
  | activate o => exact activate_alike d n o
  | bleedOff => exact alike_trans (haltSounding_alike _ t) (cutBleed_alike d t)
  | _ => exact ⟨rfl, rfl⟩

theorem applyVal_staysAwake (h : d.staysAwake) (n t : Nat) {x : SettingVal} (hx : x ≠ .dormant) :
    (d.applyVal n t x).staysAwake := by
  by_cases hf : x = .firmware
  · subst hf; exact newFirmware_staysAwake h t
  · exact staysAwake_of_alike h (applyVal_alike n t hx hf)

theorem applyRecord_staysAwake (h : d.staysAwake) (n t : Nat) {c : CommitMsg} (hc : ∀ y ∈ c.settings, y.val ≠ .dormant) :
    (d.applyRecord n t c).staysAwake := by
  refine List.foldlRecOn c.settings _ h fun x hx y hy => ?_
  split
  · exact applyVal_staysAwake hx n t (hc y hy)
  · exact hx

theorem applyCommits_staysAwake (h : d.staysAwake) (n t : Nat)
    (hc : ∀ c ∈ d.commitPend, ∀ y ∈ c.settings, y.val ≠ .dormant) : (d.applyCommits n t).staysAwake := by
  unfold Dev.applyCommits
  refine List.foldlRecOn (motive := Dev.staysAwake) _ _ h fun x hx c hm => ?_
  dsimp only
  refine applyRecord_staysAwake ?_ n t (hc c (List.mem_of_mem_filter hm))
  exact staysAwake_of_alike hx ⟨rfl, rfl⟩

theorem applyReactions_staysAwake (h : d.staysAwake) (n t : Nat) : (d.applyReactions n t).staysAwake := by
  unfold Dev.applyReactions
  refine List.foldlRecOn (motive := Dev.staysAwake) _ _ ⟨h.1, fun c hc => absurd hc List.not_mem_nil⟩ fun x hx c hm => ?_
  exact applyRecord_staysAwake hx n t (h.2 c hm)

end Sys2Proof.Machine.Dev
end

section
/-!
SUPPORT. A device at its local boundary: it stays awake where no record orders DORMANT (R498), and the boundary is placed there
(R59, R61, R63).
-/

namespace Sys2Proof.Machine

namespace Dev

variable (d : Dev)

/-! ### Commit records until they apply -/

/-- What its parts leave of a device, the close of a record's window leaves. -/
theorem closeRec_keep {β : Type} (g : Dev → β) (hc : ∀ x k f, g (Dev.modCell x k f) = g x) (ha : ∀ x r f, g (Dev.modAcc x r f) = g x)
    (hp : ∀ x b, g (Dev.push x b) = g x) (n r : Nat) (due opens : Bool) (w : Nat) : g (d.closeRec n r due opens w) = g d := by
  have hl (x : Dev) (e : Entry) : g (x.learn r e) = g x := by
    unfold Dev.learn
    split
    · exact hc _ _ _
    · split
      · exact hc _ _ _
      · rfl
  unfold Dev.closeRec
  dsimp only
  rw [ha, hl]
  split
  · exact hp _ _
  · rfl

theorem closeRec_commitPend (n r : Nat) (due opens : Bool) (w : Nat) : (d.closeRec n r due opens w).commitPend = d.commitPend :=
  d.closeRec_keep Dev.commitPend (fun _ _ _ => rfl) (fun _ _ _ => rfl) (fun _ _ => rfl) n r due opens w

theorem windows_commitPend (n : Nat) (resync : Bool) : (d.windows n resync).commitPend = d.commitPend := by
  have hs : (d.startAll n).commitPend = d.commitPend := by
    unfold Dev.startAll
    refine foldl_keep Dev.commitPend _ (fun x r => ?_) _ _
    rfl
  have hc : (d.closeDue n).commitPend = d.commitPend := by
    unfold Dev.closeDue
    refine foldl_keep Dev.commitPend _ (fun x g => ?_) _ _
    exact iteInduction (motive := fun y : Dev => y.commitPend = x.commitPend)
      (fun _ => foldl_keep Dev.commitPend _ (fun x r => closeRec_commitPend x _ _ _ _ _) _ _) fun _ => rfl
  unfold Dev.windows
  dsimp only
  (repeat' split) <;> simp [hs, hc]

theorem boundaryHard_commitPend (r : DevReadings) (n t : Nat) (resync : Bool) :
    (d.boundaryHard r n t resync).commitPend = d.commitPend := by
  have hb (x : Dev) : (x.bleedSweepEnd t).commitPend = x.commitPend := by
    unfold Dev.bleedSweepEnd
    refine foldl_keep Dev.commitPend _ (fun x r => ?_) _ _
    rfl
  have hr (x : Dev) : (x.readings r).commitPend = x.commitPend := by unfold Dev.readings; dsimp only; split <;> rfl
  have he (x : Dev) : (x.rebase n).commitPend = x.commitPend := by unfold Dev.rebase; split <;> rfl
  unfold Dev.boundaryHard
  dsimp only
  rw [windows_commitPend, he]
  split
  · exact (hr _).trans (hb _)
  · rfl

/-! ### What the core does -/

theorem boundaryCore_awake (n t : Nat) (id : Word) {d : Dev} (h : d.staysAwake)
    (hc : ∀ c ∈ d.commitPend, ∀ y ∈ c.settings, y.val ≠ .dormant) : (d.boundaryCore n t id).power = .awake := by
  have h1 := applyCommits_staysAwake h n t hc
  have h2 : (if (d.applyCommits n t).unsync then d.applyCommits n t
      else (d.applyCommits n t).applyAdopt n t id).staysAwake :=
    iteInduction (motive := Dev.staysAwake) (fun _ => h1) fun _ => staysAwake_of_alike h1 (applyAdopt_alike _ n t id)
  have h3 := (applyReactions_staysAwake (staysAwake_of_alike h2
    (alike_trans (expireTimers_alike _ t) (applyHeld_alike _ t))) n t).1
  unfold Dev.boundaryCore
  dsimp only
  refine iteInduction (motive := fun y : Dev => y.power = .awake) (fun _ => ?_) fun _ => ?_
  · exact h3
  · simpa using h3

theorem newSweep_places (n t health : Nat) : (d.newSweep n t health).sweep = n ∧ (d.newSweep n t health).lastB = t ∧
    (d.newSweep n t health).health = health ∧ (d.newSweep n t health).sampleNo = 0 := by
  unfold Dev.newSweep
  dsimp only
  split <;> exact ⟨rfl, rfl, rfl, rfl⟩

/-- A device after what its hardware and its core do at the boundary at t of sweep n, before the next sweep begins. -/
def acted (r : DevReadings) (n t : Nat) (resync : Bool) (id : Word) : Dev :=
  let x := d.boundaryHard r n t resync
  ((if x.coreReset.isSome then x.boundaryHalted n t else x.boundaryCore n t id).markLate).forceOff t

theorem acted_awake (r : DevReadings) (n t : Nat) (resync : Bool) (id : Word) {d : Dev} (h : d.power = .awake)
    (hc : ∀ c ∈ d.commitPend ++ d.reactPend, ∀ y ∈ c.settings, y.val ≠ .dormant) : (d.acted r n t resync id).power = .awake := by
  have hx : (d.boundaryHard r n t resync).staysAwake :=
    staysAwake_of_alike ⟨h, fun c hm => hc c (List.mem_append_right _ hm)⟩ (boundaryHard_alike _ _ _ _ _)
  unfold Dev.acted
  dsimp only
  rw [(forceOff_alike _ _).1, (markLate_alike _).1]
  refine iteInduction (motive := fun y : Dev => y.power = .awake) (fun _ => ?_) fun _ => ?_
  · rw [(boundaryHalted_alike _ _ _).1]; exact hx.1
  · refine boundaryCore_awake n t id hx fun c hm => hc c (List.mem_append_left _ ?_)
    rwa [boundaryHard_commitPend] at hm

end Dev

/-- What an order's entries in the Gazetteer leave of the state (R479). -/
theorem State.gazSubst_devs (s : State) (p : Nat) (old new : Dev) (ordered : List Nat) (n : Nat) :
    (s.gazSubst p old new ordered n).devs = s.devs := by
  unfold State.gazSubst
  refine foldl_keep State.devs _ (fun t k => ?_) _ _
  dsimp only
  split <;> split <;> rfl

/-- The end of a boundary: the device becomes `x`, and the head is told of its clock and its bleed schedule (R62, R222). -/
theorem boundaryEnd_body (s z : State) (d : Nat) (c l g : Bool) (x : Dev) (hz : z.devs = s.devs) (hl : d < s.devs.length) :
    let y := (cond c z s).modDev d (fun _ => x)
    let w := if l then y.unsyncCause d false else y
    ((cond g (w.raiseEv 0x1A 5 0 0 0) w).dev d).body = x.body := by
  dsimp only
  have hy : ((cond c z s).modDev d (fun _ => x)).dev d = x := by
    cases c
    · exact State.dev_modDev_self s d _ hl
    · exact State.dev_modDev_self z d _ (by rw [hz]; exact hl)
  have hw : ((if l then ((cond c z s).modDev d (fun _ => x)).unsyncCause d false
      else (cond c z s).modDev d (fun _ => x)).dev d).body = x.body := by
    refine iteInduction (motive := fun y : State => (y.dev d).body = x.body) (fun _ => ?_) fun _ => by rw [hy]
    rw [State.unsyncCause_body, hy]
  cases g
  · exact hw
  · exact (State.body_of_bare (State.raiseAt_bare _ _ _ _ _) d).trans hw

theorem localBoundary_completes {s : State} {d : Nat} (ha : (s.dev d).awake = true) (r : DevReadings) {n h : Nat} {u : Bool}
    (hp : (s.dev d).place = some (n, h, u)) (hc : ∀ c ∈ (s.dev d).commitPend ++ (s.dev d).reactPend, ∀ y ∈ c.settings, y.val ≠ .dormant) :
    answers (.localBoundary d r) s fun t =>
      (t.dev d).sweep = (s.dev d).nextSweep ∧ (t.dev d).lastB = n ∧ (t.dev d).health = h ∧ (t.dev d).sampleNo = 0 := by
  obtain ⟨x, hx⟩ : ∃ x : Dev, x = Dev.acted { (s.dev d) with
      unsync := (s.dev d).unsync && !((s.dev d).unsync && decide (h ≠ 2)), useW := u } r (s.dev d).nextSweep n
      ((s.dev d).unsync && decide (h ≠ 2)) (Config.factoryId d) := ⟨_, rfl⟩
  have hw : x.awake = true := by
    rw [hx]
    exact decide_eq_true (Dev.acted_awake r _ n _ _ (of_decide_eq_true ha) hc)
  obtain ⟨f, e, b, hf⟩ : ∃ (f : State → State) (_ : execLocalBoundary d r s = onS s d f) (b : Bool),
      ((f s).dev d).body = { (x.newSweep (s.dev d).nextSweep n h).latencyShift (s.dev d) u with infeasible := b }.body := by
    refine ⟨_, by unfold execLocalBoundary; rfl, ?_⟩
    refine ⟨((x.newSweep (s.dev d).nextSweep n h).latencyShift (s.dev d) u).awake &&
      !((x.newSweep (s.dev d).nextSweep n h).latencyShift (s.dev d) u).feasible, ?_⟩
    simp only [hp]
    refine (boundaryEnd_body (s.until n) _ d _ _ _ _ (State.gazSubst_devs _ _ _ _ _ _) (s.lt_of_awake d ha)).trans ?_
    rw [hx] at hw ⊢
    simp only [Dev.acted, show (s.until n).dev d = s.dev d from rfl] at hw ⊢
    rw [if_pos hw]
  refine answers_onS e ha fun t hb _ => ?_
  obtain ⟨h1, h2, h3, h4⟩ := x.newSweep_places (s.dev d).nextSweep n h
  have hd := (hb d).trans hf
  exact ⟨(Dev.eq_of_body (·.sweep) hd).trans h1, (Dev.eq_of_body (·.lastB) hd).trans h2, (Dev.eq_of_body (·.health) hd).trans h3,
    (Dev.eq_of_body (·.sampleNo) hd).trans h4⟩

end Sys2Proof.Machine
end

section
/-!
SUPPORT. What the head's own work at a sweep boundary and at the deadlines leaves of the sweep's pace (R53, R55, R64, R71,
R123): the time, the number and instant of the sweep, the hold, the deadline and the ticks. One lemma per operation of the
state.
-/

namespace Sys2Proof.Machine

/-- The number and instant of the running sweep, its hold, its deadline and its ticks. -/
def SweepSt.pace (x : SweepSt) : Option Nat × Nat × Bool × Bool × Nat := (x.count, x.boundary, x.hold, x.deadline, x.tick)

namespace State

/-- The time and the sweep's pace. -/
def pace (s : State) : Nat × Option Nat × Nat × Bool × Bool × Nat := (s.now, s.swp.pace)

variable (s : State)

/-- What leaves the time and the sweep leaves the pace. -/
theorem pace_of {t : State} (h : t.now = s.now) (k : t.swp.pace = s.swp.pace) : t.pace = s.pace := Prod.ext h k

/-- What an occurrence leaves, its pace among it. -/
theorem pace_of_steady {t : State} (h : t.steady = s.steady) : t.pace = s.pace := by
  have e := congrArg SweepSt.pace (swp_of_steady h)
  exact Prod.ext (now_of_steady h) e

@[simp] theorem pace_ite {c : Prop} [Decidable c] (a b : State) : (if c then a else b).pace = if c then a.pace else b.pace :=
  apply_ite State.pace c a b

@[simp] theorem pace_cond (c : Bool) (a b : State) : (cond c a b).pace = cond c a.pace b.pace := by cases c <;> rfl

theorem ite_pace {c : Prop} [Decidable c] {a b t : State} (h : a.pace = t.pace) (k : b.pace = t.pace) :
    (if c then a else b).pace = t.pace := by rw [pace_ite, h, k, ite_self]

theorem pace_swp (x : SweepSt) (h : x.pace = s.swp.pace) : State.pace { s with swp := x } = s.pace := s.pace_of rfl h

@[simp] theorem pace_draws (x : Nat) : State.pace { s with draws := x } = s.pace := rfl

@[simp] theorem pace_pw (x : PowerSt) : State.pace { s with pw := x } = s.pace := rfl

@[simp] theorem pace_leg (x : LegendSt) : State.pace { s with leg := x } = s.pace := rfl

@[simp] theorem pace_flt (x : Collector) : State.pace { s with flt := x } = s.pace := rfl

@[simp] theorem pace_saf (x : SafetySt) : State.pace { s with saf := x } = s.pace := rfl

@[simp] theorem pace_ses (x : SessionSt) : State.pace { s with ses := x } = s.pace := rfl

@[simp] theorem pace_tuning (x : Option Tuning) : State.pace { s with tuning := x } = s.pace := rfl

@[simp] theorem pace_pwm (x : List Int) : State.pace { s with pwm := x } = s.pace := rfl

@[simp] theorem pace_ctr (x : ContourSt) : State.pace { s with ctr := x } = s.pace := rfl

@[simp] theorem pace_chWins (x : List Window) : State.pace { s with chWins := x } = s.pace := rfl

@[simp] theorem pace_posWins (x : SMap Window) : State.pace { s with posWins := x } = s.pace := rfl

@[simp] theorem pace_tracks (x : SMap RecTrack) : State.pace { s with tracks := x } = s.pace := rfl

@[simp] theorem pace_written (x : List Written) : State.pace { s with written := x } = s.pace := rfl

@[simp] theorem pace_trv (x : TraverseSt) : State.pace { s with trv := x } = s.pace := rfl

@[simp] theorem pace_der (x : DerivedSt) : State.pace { s with der := x } = s.pace := rfl

@[simp] theorem foldl_pace {β : Type} (f : State → β → State) (h : ∀ t x, (f t x).pace = t.pace) (l : List β) :
    (l.foldl f s).pace = s.pace := foldl_keep State.pace f h l s

@[simp] theorem foldNat_pace (f : State → Nat → State) (h : ∀ t x, (f t x).pace = t.pace) (l : List Nat) :
    (s.foldNat l f).pace = s.pace := foldl_keep State.pace f h l s

@[simp] theorem modDev_pace (d : Nat) (f : Dev → Dev) : (s.modDev d f).pace = s.pace := rfl

@[simp] theorem event_pace (b : Nat) : (s.event b).pace = s.pace := s.pace_of_steady (by simp)

@[simp] theorem eventIf_pace (c : Bool) (b : Nat) : (s.eventIf c b).pace = s.pace := s.pace_of_steady (by simp)

@[simp] theorem dropAll_pace : s.dropAll.pace = s.pace := by
  simp [State.dropAll]

@[simp] theorem errDrop_pace : s.errDrop.pace = s.pace := by
  simp [State.errDrop]

@[simp] theorem evalTrip_pace : s.evalTrip.pace = s.pace := s.pace_of_steady (by simp)

@[simp] theorem land_pace (x : Landed) : (s.land x).pace = s.pace := s.pace_of_steady (by simp)

@[simp] theorem quotaDue_pace : s.quotaDue.pace = s.pace := by
  unfold State.quotaDue
  exact ite_pace (s.land_pace _) (ite_pace (s.land_pace _) rfl)

@[simp] theorem overD1_pace (act : Dev → Dev) : (s.overD1 act).pace = s.pace := by
  simp [State.overD1]

@[simp] theorem sendDown_pace (f : Frame) : (s.sendDown f).pace = s.pace := by
  simp [State.sendDown]

@[simp] theorem drainDown_pace : s.drainDown.pace = s.pace := by
  unfold State.drainDown
  split
  · exact foldl_pace _ _ (fun t f => sendDown_pace t f) _
  · rfl

@[simp] theorem downFrame_pace (dest : Nat) (p : Payload) : (s.downFrame dest p).pace = s.pace := by
  unfold State.downFrame
  exact ite_pace (ite_pace (sendDown_pace _ _) (drainDown_pace _)) rfl

@[simp] theorem sendAgain_pace : s.sendAgain.pace = s.pace := by
  unfold State.sendAgain
  exact foldl_pace _ _ (fun t x => by simp) _

@[simp] theorem sendRecord_pace : s.sendRecord.pace = s.pace := by
  unfold State.sendRecord
  dsimp only
  split
  · split
    · exact s.sendAgain_pace
    · rw [overD1_pace, downFrame_pace]
      exact s.sendAgain_pace
  · exact s.sendAgain_pace

@[simp] theorem cutReactions_pace : s.cutReactions.pace = s.pace := by
  unfold State.cutReactions
  dsimp only
  split
  · rfl
  · rw [overD1_pace, downFrame_pace]
    rfl

@[simp] theorem lapseEvents_pace : s.lapseEvents.pace = s.pace := by
  simp [State.lapseEvents]

@[simp] theorem setHeadAcc_pace (i : Nat) (a : Acc) : (s.setHeadAcc i a).pace = s.pace := rfl

@[simp] theorem headClose_pace (n p r : Nat) (due opens : Bool) (w : Nat) : (s.headClose n p r due opens w).pace = s.pace := by
  simp [State.headClose]

@[simp] theorem headBoundary_pace (n : Nat) : (s.headBoundary n).pace = s.pace := by
  simp [State.headBoundary]

@[simp] theorem chassisPut_pace (i : Nat) (r : ChassisRec) : (s.chassisPut i r).pace = s.pace := rfl

@[simp] theorem modCh_pace (i : Nat) (f : ChassisRec → ChassisRec) : (s.modCh i f).pace = s.pace := by
  simp [State.modCh]

@[simp] theorem chClose_pace (i n : Nat) (due opens : Bool) (w : Nat) : (s.chClose i n due opens w).pace = s.pace := by
  simp [State.chClose]

@[simp] theorem chBoundary_pace (n : Nat) : (s.chBoundary n).pace = s.pace := by
  simp [State.chBoundary]

@[simp] theorem headSample_pace (p r : Nat) (code : Int) : (s.headSample p r code).pace = s.pace := by
  simp [State.headSample]

@[simp] theorem chSample_pace (i : Nat) (code : Int) (inv : Bool) : (s.chSample i code inv).pace = s.pace := by
  simp [State.chSample]

@[simp] theorem chInvalid_pace (i : Nat) : (s.chInvalid i).pace = s.pace := by
  simp [State.chInvalid]

@[simp] theorem logAt_pace (kind cls sub pos detail sweep : Nat) (value : Word) :
    (s.logAt kind cls sub pos detail sweep value).pace = s.pace := by
  simp [State.logAt]

@[simp] theorem modLatch_pace (c : Nat) (f : Latch → Latch) : (s.modLatch c f).pace = s.pace := by
  simp [State.modLatch]

@[simp] theorem react_pace (x : Setting) : (s.react x).pace = s.pace := s.pace_of_steady (by simp)

@[simp] theorem landReaction_pace (x : Landed) : (s.landReaction x).pace = s.pace := s.pace_of_steady (by simp)

@[simp] theorem furtherReaction_pace (x : Source) : (s.furtherReaction x).pace = s.pace := s.pace_of_steady (by simp)

@[simp] theorem enter_pace (o : OpState) : (s.enter o).pace = s.pace := s.pace_of_steady (by simp)

@[simp] theorem lock_pace : s.lock.pace = s.pace := s.pace_of_steady (by simp)

@[simp] theorem modLoop_pace (n : Nat) (f : LoopSlot → LoopSlot) : (s.modLoop n f).pace = s.pace := rfl

@[simp] theorem tripFallback_pace : s.tripFallback.pace = s.pace := s.pace_of_steady (by simp)

@[simp] theorem errEval_pace : s.errEval.pace = s.pace := s.pace_of_steady (by simp)

@[simp] theorem raiseAt_pace (x : Source) (value : Word) (ev : Bool) (seen : Nat) :
    (s.raiseAt x value ev seen).pace = s.pace := s.pace_of_steady (by simp)

@[simp] theorem raise_pace (cls sub pos detail : Nat) (value : Word) : (s.raise cls sub pos detail value).pace = s.pace := by
  simp [State.raise]

@[simp] theorem clearAt_pace (x : Source) (seen : Nat) : (s.clearAt x seen).pace = s.pace := s.pace_of_steady (by simp)

@[simp] theorem clear_pace (cls sub pos detail : Nat) : (s.clear cls sub pos detail).pace = s.pace := by
  simp [State.clear]

@[simp] theorem judge_pace (bad : Bool) (cls sub pos detail : Nat) (value : Word) :
    (s.judge bad cls sub pos detail value).pace = s.pace := by
  simp [State.judge]

@[simp] theorem judgeSupply_pace (sub : Nat) (old new : Nat × Nat × Bool) (v : Int) :
    (s.judgeSupply sub old new v).pace = s.pace := by
  simp [State.judgeSupply]

@[simp] theorem chReadings_pace (r : ChassisReadings) : (s.chReadings r).pace = s.pace := by
  simp [State.chReadings]

@[simp] theorem closeCal_pace : s.closeCal.pace = s.pace := by
  simp [State.closeCal]

@[simp] theorem alignCounts_pace : s.alignCounts.pace = s.pace := rfl

@[simp] theorem applyCaps_pace : s.applyCaps.pace = s.pace := by
  simp [State.applyCaps]

@[simp] theorem holdReactions_pace : s.holdReactions.pace = s.pace := by
  simp [State.holdReactions]

@[simp] theorem modPort_pace (h : HostId) (f : HostPort → HostPort) : (s.modPort h f).pace = s.pace := by
  unfold State.modPort; (repeat' split) <;> rfl

@[simp] theorem eventOn_pace (h : HostId) (b : Nat) : (s.eventOn h b).pace = s.pace := by
  simp [State.eventOn]

@[simp] theorem landSwp_pace (h : HostId) (v : Nat) : (s.landSwp h v).pace = s.pace := by
  unfold State.landSwp
  split
  · rw [eventOn_pace]; rfl
  · rfl

@[simp] theorem landErr_pace (h : HostId) (v : Nat) : (s.landErr h v).pace = s.pace := by
  unfold State.landErr
  split
  · simp
  · rfl

@[simp] theorem rejState_pace (h : HostId) : (s.rejState h).pace = s.pace := by
  simp [State.rejState]

@[simp] theorem landReq_pace (h : HostId) (req : Nat) : (s.landReq h req).pace = s.pace := by
  unfold State.landReq
  dsimp only
  split
  · rfl
  · split
    · simp
    · rfl
  · rfl
  · simp

@[simp] theorem landHeld_pace (w : HeldWrite) : (s.landHeld w).pace = s.pace := by
  simp [State.landHeld]

@[simp] theorem raiseOpenAt_pace (x : Source) (ev : Bool) (seen : Nat) :
    (s.raiseOpenAt x ev seen).pace = s.pace := s.pace_of_steady (by simp)

@[simp] theorem raiseOpenEv_pace (cls sub pos detail : Nat) : (s.raiseOpenEv cls sub pos detail).pace = s.pace := by
  simp [State.raiseOpenEv]

@[simp] theorem raiseOpen_pace (cls sub pos detail : Nat) : (s.raiseOpen cls sub pos detail).pace = s.pace := by
  simp [State.raiseOpen]

@[simp] theorem raiseEv_pace (cls sub pos detail : Nat) (value : Word) : (s.raiseEv cls sub pos detail value).pace = s.pace := by
  simp [State.raiseEv]

@[simp] theorem stageMsg_pace (h : HostId) (m : Staged) : (s.stageMsg h m).pace = s.pace := by
  simp [State.stageMsg]

@[simp] theorem eventMsg_pace (h : HostId) (pair code tag status : Nat) (result : List Byte) :
    (s.eventMsg h pair code tag status result).pace = s.pace := by
  simp [State.eventMsg]

@[simp] theorem sndDeliver_pace (r : SndReport) : (s.sndDeliver r).pace = s.pace := by
  simp [State.sndDeliver]

@[simp] theorem sndSettle_pace : s.sndSettle.pace = s.pace := by
  simp [State.sndSettle]

@[simp] theorem restage_pace : s.restage.pace = s.pace := by
  unfold State.restage; dsimp only; (repeat' split) <;> simp

@[simp] theorem restoreStaged_pace (b : Bulk) : (s.restoreStaged b).pace = s.pace := by
  simp [State.restoreStaged]

@[simp] theorem respond_pace (h : HostId) (pair code tag status : Nat) (result : List Byte) :
    (s.respond h pair code tag status result).pace = s.pace := by
  simp [State.respond]

@[simp] theorem refuse_pace (h : HostId) (pair code tag status idx fid : Nat) :
    (s.refuse h pair code tag status idx fid).pace = s.pace := by
  simp [State.refuse]

@[simp] theorem bulkFail_pace (b : Bulk) (p : Nat) : (s.bulkFail b p).pace = s.pace := by
  simp [State.bulkFail]

@[simp] theorem landChange_pace (fields : SMap Nat) (host level : Nat) (bulk : Bool) (drop : List Nat) :
    (s.landChange fields host level bulk drop).pace = s.pace := s.land_pace _

@[simp] theorem bulkLand_pace (b : Bulk) : (s.bulkLand b).pace = s.pace := by
  have h (t : State) (l : List Landed) : (l.foldl (fun s x => State.land s x) t).pace = t.pace := foldl_pace t _ land_pace l
  unfold State.bulkLand
  dsimp only
  split
  · simp
  · split
    · split
      · simp
      · rw [respond_pace]
        exact s.land_pace _
    · split <;> simp [h]

@[simp] theorem settleBulk_pace (b : Bulk) : (s.settleBulk b).1.pace = s.pace := by
  unfold State.settleBulk; dsimp only; (repeat' split) <;> simp

@[simp] theorem settleBulks_pace : s.settleBulks.pace = s.pace := by
  unfold State.settleBulks
  dsimp only
  rw [pace_leg]
  refine foldl_keep (fun x : State × List Bulk => x.1.pace) _ (fun x b => ?_) _ _
  exact settleBulk_pace x.1 b

@[simp] theorem modBulk_pace (i : Nat) (f : Bulk → Bulk) : (s.modBulk i f).pace = s.pace := by
  simp [State.modBulk]

@[simp] theorem stageTo_pace (i p : Nat) : (s.stageTo i p).pace = s.pace := by
  unfold State.stageTo; dsimp only; (repeat' split) <;> simp

@[simp] theorem stageDue_pace : s.stageDue.pace = s.pace := by
  simp [State.stageDue]

@[simp] theorem judgeFlags_pace (p r : Nat) (e : Entry) : (s.judgeFlags p r e).pace = s.pace := by
  simp [State.judgeFlags]

@[simp] theorem modTrack_pace (i : Nat) (f : RecTrack → RecTrack) : (s.modTrack i f).pace = s.pace := by
  simp [State.modTrack]

@[simp] theorem judgeCell_pace (p k : Nat) (e : Entry) : (s.judgeCell p k e).pace = s.pace := by
  simp [State.judgeCell]

@[simp] theorem judgeTherm_pace (p n : Nat) (e : Entry) : (s.judgeTherm p n e).pace = s.pace := by
  simp [State.judgeTherm]

@[simp] theorem evaluateNow_pace (p r : Nat) (e : Entry) : (s.evaluateNow p r e).pace = s.pace := by
  simp [State.evaluateNow]

@[simp] theorem atlasPut_pace (i : Nat) (e : Entry) : (s.atlasPut i e).pace = s.pace := rfl

@[simp] theorem evaluate_pace (p r close : Nat) (e : Entry) : (s.evaluate p r close e).pace = s.pace := by
  simp [State.evaluate]

@[simp] theorem putEntry_pace (p r close : Nat) (e : Entry) : (s.putEntry p r close e).pace = s.pace := by
  unfold State.putEntry
  dsimp only
  rw [evaluate_pace]
  refine (pace_written _ _).trans ?_
  rw [modTrack_pace, atlasPut_pace]

@[simp] theorem writeEntry_pace (p r close : Nat) (e : Entry) : (s.writeEntry p r close e).pace = s.pace := by
  simp [State.writeEntry]

@[simp] theorem catchUp_pace : s.catchUp.pace = s.pace := by
  unfold State.catchUp
  dsimp only
  rw [foldNat_pace _ _ (fun t j => by split <;> simp), foldNat_pace _ _ (fun t j => by split <;> simp)]
  rfl

@[simp] theorem beginSweep_pace : s.beginSweep.pace = s.pace := by
  unfold State.beginSweep
  extract_lets s1 x1 v1 s2 s3 held late x3 s4 s5 x5 s6 s7 x7 s8 s9 s10
  have h1 : s1.pace = s.pace := by simp only [s1, closeCal_pace, alignCounts_pace, applyCaps_pace]
  clear_value s1
  have h3 : s3.pace = s1.pace := (holdReactions_pace s2).trans (pace_of s1 rfl rfl)
  clear_value s3
  have h5 : s5.pace = s3.pace := (foldl_pace s4 _ (fun t w => landHeld_pace t w) held).trans (pace_of s3 rfl rfl)
  clear_value s5
  have h7 : s7.pace = s5.pace := by
    simp only [s7, sndSettle_pace, restage_pace]
    exact pace_of s5 rfl rfl
  clear_value s7
  have h8 : s8.pace = s7.pace := (drainDown_pace _).trans (pace_of s7 rfl rfl)
  rw [errEval_pace, evalTrip_pace, event_pace, catchUp_pace, ite_pace (stageDue_pace s8) rfl, h8, h7, h5, h3, h1]

@[simp] theorem setErr_pace (v : Nat) : (s.setErr v).pace = s.pace := by
  simp [State.setErr]

@[simp] theorem pushWin_pace (p g : Nat) (w : Window) : (s.pushWin p g w).pace = s.pace := rfl

@[simp] theorem setPosWin_pace (n p g : Nat) (w : Window) : (s.setPosWin n p g w).pace = s.pace := by
  simp [State.setPosWin]

@[simp] theorem headWindow_pace (n p g : Nat) (w : Window) : (s.headWindow n p g w).pace = s.pace := by
  simp [State.headWindow]

@[simp] theorem chSetWindow_pace (n g : Nat) (w : Window) : (s.chSetWindow n g w).pace = s.pace := by
  simp [State.chSetWindow]

@[simp] theorem setLoopMode_pace (n : Nat) (m : LoopMode) : (s.setLoopMode n m).pace = s.pace := by
  simp [State.setLoopMode]

@[simp] theorem tuneReturn_pace (t : Tuning) : (s.tuneReturn t).pace = s.pace := by
  simp [State.tuneReturn]

@[simp] theorem tuneSend_pace (t : Tuning) (aborted final : Bool) (reason : Nat) :
    (s.tuneSend t aborted final reason).pace = s.pace := by
  simp [State.tuneSend]

@[simp] theorem tuneClose_pace (t : Tuning) (reason : Nat) : (s.tuneClose t reason).pace = s.pace := by
  simp [State.tuneClose]

@[simp] theorem tuneAbort_pace (reason : Nat) : (s.tuneAbort reason).pace = s.pace := by
  unfold State.tuneAbort; dsimp only; (repeat' split) <;> simp

@[simp] theorem loopRate_pace : s.loopRate.pace = s.pace := by
  unfold State.loopRate
  rw [foldNat_pace _ _ (fun t n => modLoop_pace t n _), tuneAbort_pace]

@[simp] theorem setSwp_pace (n v : Nat) : (s.setSwp n v).pace = s.pace := by
  unfold State.setSwp
  dsimp only
  have h : (if decide (v % 8 ≠ s.swp.period) = true then
      let s := (List.range 288).foldl (fun s i => State.headWindow s n (i / 9) (i % 9) ⟨(s.posWin (i / 9) (i % 9)).w, n⟩)
        { s with swp := { s.swp with period := v % 8, tickdiv := v / 16 } }
      let s := (List.range 8).foldl (fun s g => State.chSetWindow s n g ⟨(s.chWin g).w, n⟩) s
      { s with swp := { s.swp with reduced := false }, der := { s.der with plFrom := n, drFrom := n } }
    else { s with swp := { s.swp with period := v % 8, tickdiv := v / 16 } }).pace = s.pace := by
    refine ite_pace (Eq.trans (pace_of _ rfl rfl) ((foldl_pace _ _ (fun t g => chSetWindow_pace t _ _ _) _).trans
      (foldl_pace _ _ (fun t i => headWindow_pace t _ _ _ _) _))) rfl
  exact ite_pace (ite_pace ((loopRate_pace _).trans h) h) h

@[simp] theorem gazAdd_pace (sweep host level fid old new : Nat) : (s.gazAdd sweep host level fid old new).pace = s.pace := by
  simp [State.gazAdd]

@[simp] theorem gazChange_pace (n : Nat) (old new : SMap Nat) (c : ChangeSet) : (s.gazChange n old new c).pace = s.pace := by
  simp [State.gazChange]

@[simp] theorem modInput_pace (i : Nat) (f : SafeIn → SafeIn) : (s.modInput i f).pace = s.pace := by
  simp [State.modInput]

@[simp] theorem modQueue_pace (q : Nat) (f : Queue → Queue) : (s.modQueue q f).pace = s.pace := rfl

@[simp] theorem placeWords_pace (h : HostId) (pair : Nat) (ws : List Word) (more : Bool) :
    (s.placeWords h pair ws more).pace = s.pace := by
  simp [State.placeWords]

@[simp] theorem placeSafe_pace (h : HostId) : (s.placeSafe h).pace = s.pace := by
  unfold State.placeSafe; dsimp only; (repeat' split) <;> simp

@[simp] theorem formFrame_pace (type : Nat) (payload : List Byte) : (s.formFrame type payload).pace = s.pace := by
  simp [State.formFrame]

@[simp] theorem setSession_pace (st : SState) : (s.setSession st).pace = s.pace := by
  simp [State.setSession]

@[simp] theorem uncouple_pace : s.uncouple.pace = s.pace := by
  simp [State.uncouple]

@[simp] theorem siSafe_pace (i : Nat) : (s.siSafe i).pace = s.pace := by
  simp [State.siSafe]

@[simp] theorem siRefit_pace (i : Nat) : (s.siRefit i).pace = s.pace := by
  simp [State.siRefit]

@[simp] theorem modChan_pace (n : Nat) (f : Channel → Channel) : (s.modChan n f).pace = s.pace := by
  simp [State.modChan]

@[simp] theorem chanRefit_pace (n : Nat) : (s.chanRefit n).pace = s.pace := by
  simp [State.chanRefit]

@[simp] theorem fieldEffect_pace (n : Nat) (bulk : Bool) (fid idx v : Nat) : (s.fieldEffect n bulk fid idx v).pace = s.pace := by
  simp [State.fieldEffect]

@[simp] theorem modSent_pace (n : Nat) (f : SentCh → SentCh) : (s.modSent n f).pace = s.pace := rfl

@[simp] theorem sentClear_pace (n sub : Nat) : (s.sentClear n sub).pace = s.pace := by
  simp [State.sentClear]

@[simp] theorem sentOn_pace (n : Nat) (restarted : Bool) : (s.sentOn n restarted).pace = s.pace := by
  simp [State.sentOn]

@[simp] theorem sentApply_pace : s.sentApply.pace = s.pace := by
  simp [State.sentApply]

@[simp] theorem chStart_pace (i n : Nat) : (s.chStart i n).pace = s.pace := by
  simp [State.chStart]

@[simp] theorem chRefresh_pace (was : List Nat) (n : Nat) : (s.chRefresh was n).pace = s.pace := by
  simp [State.chRefresh]

@[simp] theorem headStart_pace (p r n : Nat) : (s.headStart p r n).pace = s.pace := by
  simp [State.headStart]

@[simp] theorem drRecords_pace (was : List Nat) (n : Nat) : (s.drRecords was n).pace = s.pace := by
  simp [State.drRecords]

@[simp] theorem sentRecord_pace (was : Bool) (n : Nat) : (s.sentRecord was n).pace = s.pace := by
  simp [State.sentRecord]

@[simp] theorem activateSets_pace (n : Nat) (sets : List ChangeSet) : (s.activateSets n sets).pace = s.pace := by
  unfold State.activateSets
  split
  · rfl
  · dsimp only
    rw [event_pace, sentApply_pace, chRefresh_pace, drRecords_pace, sentRecord_pace,
      foldl_pace _ _ (fun t c => foldl_pace _ _ (fun t e => fieldEffect_pace t _ _ _ _ _) _)]
    refine (pace_leg _ _).trans ?_
    refine foldl_keep (fun x : State × SMap Nat => x.1.pace) _ (fun x c => ?_) _ _
    exact gazChange_pace _ _ _ _ _

@[simp] theorem triggerTraverse_pace : s.triggerTraverse.pace = s.pace := by
  simp [State.triggerTraverse]

@[simp] theorem openMask_pace (k : MaskKind) (dur : Nat) : (s.openMask k dur).pace = s.pace := by
  simp [State.openMask]

@[simp] theorem activateFw_pace (n : Nat) (sDies : Bool) (positions : List Nat) (host : HostId) (level : Nat) :
    (s.activateFw n sDies positions host level).pace = s.pace := by
  unfold State.activateFw
  refine ite_pace ?_ ?_
  · dsimp only
    rw [event_pace]
    refine (pace_leg _ _).trans ?_
    rw [gazAdd_pace, foldl_pace _ _ (fun t p => openMask_pace t _ _)]
  · dsimp only
    rw [event_pace, openMask_pace]
    rfl

@[simp] theorem sentRestart_pace (n : Nat) : (s.sentRestart n).pace = s.pace := by
  simp [State.sentRestart]

@[simp] theorem landedEffect_pace (n : Nat) (x : Landed) : (s.landedEffect n x).pace = s.pace := by
  unfold State.landedEffect; dsimp only; (repeat' split) <;> simp

@[simp] theorem modPos_pace (p : Nat) (f : PosTrack → PosTrack) : (s.modPos p f).pace = s.pace := rfl

@[simp] theorem adoptPosition_pace (n : Nat) (r : PassResult) (changed renewed : Bool) (p : Nat) :
    (s.adoptPosition n r changed renewed p).pace = s.pace := by
  simp [State.adoptPosition]

@[simp] theorem dropPosition_pace (p : Nat) : (s.dropPosition p).pace = s.pace := by
  simp [State.dropPosition]

@[simp] theorem stageOwn_pace (p : Nat) : (s.stageOwn p).pace = s.pace := by
  simp [State.stageOwn]

@[simp] theorem adoptNow_pace (n : Nat) (a : AdoptMsg) (r : PassResult) : (s.adoptNow n a r).pace = s.pace := by
  unfold State.adoptNow
  extract_lets first old changed v s1 s2 keep x s3 s4 s5 s6 s7 ringN s8 s9
  have h2 : s2.pace = s.pace := (foldl_pace s1 _ (fun t i => ite_pace (pace_posWins _ _) rfl) _).trans rfl
  clear_value s2
  have h3 : s3.pace = s2.pace := pace_of _ rfl rfl
  clear_value s3
  have h4 : s4.pace = s3.pace := foldl_pace s3 _ (fun t p => ite_pace
    (foldl_pace t _ (fun t g => foldl_pace t _ (fun t r => headStart_pace t p r n) _) _) rfl) _
  have h5 : s5.pace = s4.pace := foldl_pace s4 _ (fun t p => adoptPosition_pace t n r _ _ p) _
  have h6 : s6.pace = s5.pace := foldl_pace s5 _ (fun t i => dropPosition_pace t _) _
  have h7 : s7.pace = s6.pace := ite_pace rfl (foldl_pace s6 _ (fun t p => raiseOpenEv_pace t _ _ _ _) _)
  have h8 : s8.pace = s7.pace := ite_pace rfl (raiseOpenEv_pace s7 _ _ _ _)
  have h9 : s9.pace = s8.pace := foldl_pace s8 _ (fun t p => ite_pace (raiseEv_pace t _ _ _ _ _) rfl) _
  rw [foldl_pace s9 _ (fun t p => stageOwn_pace t p), h9, h8, h7, h6, h5, h4, h3, h2]

@[simp] theorem adoptDue_pace (n : Nat) : (s.adoptDue n).pace = s.pace := by
  unfold State.adoptDue; split <;> simp

@[simp] theorem transitions_pace : s.transitions.pace = s.pace := by
  unfold State.transitions; split <;> simp

@[simp] theorem stateOrders_pace (l : List Landed) : (s.stateOrders l).pace = s.pace := by
  unfold State.stateOrders; dsimp only; (repeat' split) <;> simp

@[simp] theorem chanOpen_pace (n : Nat) : (s.chanOpen n).pace = s.pace := by
  simp [State.chanOpen]

@[simp] theorem chanClose_pace (n : Nat) : (s.chanClose n).pace = s.pace := by
  simp [State.chanClose]

@[simp] theorem channelOrders_pace (l : List Landed) : (s.channelOrders l).pace = s.pace := by
  simp [State.channelOrders]

@[simp] theorem siMakeActive_pace (i : Nat) : (s.siMakeActive i).pace = s.pace := by
  simp [State.siMakeActive]

@[simp] theorem firstInputs_pace : s.firstInputs.pace = s.pace := by
  simp [State.firstInputs]

@[simp] theorem drivePwm_pace (dest : Nat) (v : Int) : (s.drivePwm dest v).pace = s.pace := by
  simp [State.drivePwm]

@[simp] theorem loopStart_pace (n : Nat) : (s.loopStart n).pace = s.pace := by
  simp [State.loopStart]

@[simp] theorem loopStop_pace (n dest : Nat) : (s.loopStop n dest).pace = s.pace := by
  unfold State.loopStop; dsimp only; (repeat' split) <;> simp

@[simp] theorem loopApply_pace (dests : List Nat) : (s.loopApply dests).pace = s.pace := by
  simp [State.loopApply]

@[simp] theorem loopOrder_pace (o : LoopOrder) : (s.loopOrder o).pace = s.pace := by
  unfold State.loopOrder; dsimp only; (repeat' split) <;> simp

@[simp] theorem tuneOrder_pace (o : TuneOrder) : (s.tuneOrder o).pace = s.pace := by
  unfold State.tuneOrder; dsimp only; (repeat' split) <;> simp

@[simp] theorem loopWaiting_pace : s.loopWaiting.pace = s.pace := by
  simp [State.loopWaiting]

@[simp] theorem loopBoundary_pace (dests : List Nat) (l : List Landed) : (s.loopBoundary dests l).pace = s.pace := by
  unfold State.loopBoundary
  refine ite_pace rfl ?_
  rw [loopWaiting_pace, foldl_pace _ _ (fun t x => by split <;> simp), loopApply_pace]

@[simp] theorem formConnect_pace : s.formConnect.pace = s.pace := by
  simp [State.formConnect]

@[simp] theorem newSession_pace : s.newSession.pace = s.pace := by
  unfold State.newSession
  dsimp only
  rw [formConnect_pace, setSession_pace]
  rfl

@[simp] theorem couple_pace : s.couple.pace = s.pace := by
  simp [State.couple]

@[simp] theorem coupleByState_pace : s.coupleByState.pace = s.pace := by
  simp [State.coupleByState]

@[simp] theorem weldCheck_pace : s.weldCheck.pace = s.pace := by
  simp [State.weldCheck]

@[simp] theorem writeHead_pace : s.writeHead.pace = s.pace := by
  simp [State.writeHead]

@[simp] theorem markLost_pace (i : Nat) : (s.markLost i).pace = s.pace := by
  simp [State.markLost]

@[simp] theorem ageRecords_pace (p n : Nat) : (s.ageRecords p n).pace = s.pace := by
  simp [State.ageRecords]

@[simp] theorem serviced_pace : s.serviced.pace = s.pace := by
  simp [State.serviced]

@[simp] theorem triangulate_pace (p n : Nat) (quiet : Bool) (l : List (Nat × (Rat × Rat))) :
    (s.triangulate p n quiet l).pace = s.pace := by
  unfold State.triangulate; dsimp only; (repeat' split) <;> simp

@[simp] theorem cellCheck_pace (p : Nat) (l : List (Nat × (Rat × Rat))) : (s.cellCheck p l).pace = s.pace := by
  simp [State.cellCheck]

@[simp] theorem spanJudge_pace (n p : Nat) : (s.spanJudge n p).pace = s.pace := by
  unfold State.spanJudge; dsimp only; (repeat' split) <;> simp

@[simp] theorem plausibility_pace (n : Nat) : (s.plausibility n).pace = s.pace := by
  simp [State.plausibility]

@[simp] theorem resistance_pace (n p : Nat) : (s.resistance n p).pace = s.pace := by
  unfold State.resistance
  exact ite_pace rfl (foldl_pace _ _ (fun t k => ite_pace rfl (by dsimp only; split <;> simp)) _)

@[simp] theorem contourTimers_pace (dir : Direction) (hot cold : Int) : (s.contourTimers dir hot cold).pace = s.pace := by
  simp [State.contourTimers]

@[simp] theorem contourEvaluate_pace : s.contourEvaluate.pace = s.pace := by
  unfold State.contourEvaluate; dsimp only; (repeat' split) <;> simp

@[simp] theorem countStale_pace (n : Nat) : (s.countStale n).pace = s.pace := by
  simp [State.countStale]

@[simp] theorem deriveAll_pace (n : Nat) : (s.deriveAll n).pace = s.pace := by
  simp [State.deriveAll]

end State
end Sys2Proof.Machine
end

section
/-!
SUPPORT. The commit engine, the items of the positions and the deadlines of the head complete (R64, R66, R69, R74, R123, R151,
R274 to R276): their clauses of O60.
-/

namespace Sys2Proof.Machine

theorem answers_onC {c : Instr} {s : State} {f : State → State} {P : State → Prop} (hr : s.pw.running = true)
    (e : exec c s = onC s f) (h : P (s.finish (f s))) : answers c s P :=
  ⟨_, e.trans (onC_running hr), h⟩

/-! ### Frames downstream -/

/-- The sweep state but for what sending downstream changes. -/
def SweepSt.core (x : SweepSt) : SweepSt := { x with seq := 0, downWait := [], downUsed := 0 }

namespace State

variable (s : State)

@[simp] theorem overD1_swp (act : Dev → Dev) : (s.overD1 act).swp = s.swp := by
  unfold State.overD1; split <;> rfl

theorem drainDown_core : s.drainDown.swp.core = s.swp.core := by
  unfold State.drainDown
  split
  · exact (congrArg SweepSt.core (foldl_keep State.swp _ (fun t f => by rfl) _ _)).trans rfl
  · rfl

theorem downFrame_core (dest : Nat) (p : Payload) : (s.downFrame dest p).swp.core = s.swp.core := by
  unfold State.downFrame
  exact iteInduction (motive := fun y : State => y.swp.core = s.swp.core)
    (fun _ => iteInduction (motive := fun y : State => y.swp.core = s.swp.core) (fun _ => rfl) fun _ => drainDown_core _) fun _ => rfl

/-- The records that are sent again leave nothing else of the sweep changed (R68, R266). -/
theorem sendAgain_core : s.sendAgain.swp.core = { s.swp.core with resends := [] } := by
  unfold State.sendAgain
  refine (foldl_keep (fun t : State => t.swp.core) _ (fun t x => ?_) _ _).trans rfl
  exact iteInduction (motive := fun y : State => y.swp.core = t.swp.core)
    (fun _ => congrArg SweepSt.core (t.overD1_swp _)) fun _ => t.downFrame_core _ _

end State

/-- What `core` keeps, two sweep states of one core share. -/
theorem SweepSt.eq_of_core {β : Type} (g : SweepSt → β) {x y : SweepSt} (h : x.core = y.core)
    (hg : ∀ z : SweepSt, g z.core = g z := by intro _; rfl) : g x = g y := by
  rw [← hg x, h, hg]

/-! ### The commit engine -/

theorem State.land_until (s : State) (n : Nat) (x : Landed) : (s.until n).land x = (s.land x).until n := by
  unfold State.land
  rw [State.until_swp]
  cases s.swp.hold <;> rfl

theorem State.quotaDue_until (s : State) (n : Nat) : (s.until n).quotaDue = s.quotaDue.until n := by
  unfold State.quotaDue
  rw [apply_ite fun t : State => t.until n, apply_ite fun t : State => t.until n]
  simp only [State.land_until]
  rfl

/-- What is frozen at the cut-off does not depend on its instant. -/
theorem State.freezeRecord_record (s : State) (n : Nat) : (s.until n).freezeRecord.swp.record = s.frozenRecord := by
  unfold State.freezeRecord State.frozenRecord
  rw [State.quotaDue_until]
  rfl

section
variable {s : State} (hr : s.pw.running = true)
include hr

theorem commitCutOff_completes (h : s.swp.hold = false) :
    answers .commitCutOff s fun t => t.swp.hold = true ∧ t.swp.record = s.frozenRecord := by
  refine answers_onC (f := fun s => if s.swp.hold then s else (s.until (s.swp.nextB - us 120)).freezeRecord) hr rfl ?_
  rw [if_neg (by simp [h]), State.finish_swp]
  exact ⟨rfl, s.freezeRecord_record _⟩

theorem commitRecordSend_completes {c : CommitMsg} (h : s.swp.hold = true) (hc : s.swp.record = some c)
    (hn : ∀ r ∈ s.swp.sentRecords, r.epoch ≠ c.epoch) :
    answers .commitRecordSend s fun t => t.swp.sentRecords.head? = some { c with sweep := c.sweep % 2 ^ 32 } := by
  refine answers_onC (f := fun s => if s.swp.hold then (s.until (s.swp.nextB - us 100)).sendRecord else s) hr rfl ?_
  obtain ⟨u, hu⟩ : ∃ u, u = s.until (s.swp.nextB - us 100) := ⟨_, rfl⟩
  have hg := u.sendAgain_core
  have hrec : u.sendAgain.swp.record = some c := by
    refine (congrArg SweepSt.record hg : _).trans ?_
    rw [hu]; exact hc
  have hsent : u.sendAgain.swp.sentRecords = s.swp.sentRecords := by
    refine (congrArg SweepSt.sentRecords hg : _).trans ?_
    rw [hu]; rfl
  have hfirst : u.sendAgain.swp.sentRecords.head?.map (·.epoch) ≠ some c.epoch := by
    rw [hsent]
    cases hl : s.swp.sentRecords with
    | nil => simp
    | cons r l => simpa using hn r (by simp [hl])
  rw [if_pos h, State.finish_swp, ← hu]
  unfold State.sendRecord
  simp only [hrec]
  rw [if_neg hfirst, State.overD1_swp]
  exact congrArg List.head? (SweepSt.eq_of_core (·.sentRecords) (State.downFrame_core _ _ _))

theorem reactionCutOff_completes (h : s.swp.reactCut = false) :
    answers .reactionCutOff s fun t => t.swp.reactCut = true ∧ t.swp.reactions = [] := by
  refine answers_onC (f := fun s => if s.swp.reactCut then s else (s.until (s.swp.nextB - us 30)).cutReactions) hr rfl ?_
  rw [if_neg (by simp [h]), State.finish_swp]
  unfold State.cutReactions
  refine iteInduction (motive := fun y : State => y.swp.reactCut = true ∧ y.swp.reactions = []) (fun _ => ⟨rfl, rfl⟩) fun _ => ?_
  dsimp only
  rw [State.overD1_swp]
  exact ⟨SweepSt.eq_of_core (·.reactCut) (State.downFrame_core _ _ _), SweepSt.eq_of_core (·.reactions) (State.downFrame_core _ _ _)⟩

/-! ### Deadlines of the head -/

theorem atlasDeadline_completes (hc : s.swp.count ≠ none) (h : s.swp.deadline = false) :
    answers .atlasDeadline s fun t => t.swp.deadline = true := by
  obtain ⟨n, hn⟩ := Option.ne_none_iff_exists'.1 hc
  obtain ⟨f, e, b, hf⟩ : ∃ (f : State → State) (_ : execAtlasDeadline s = onC s f) (b : State),
      (f s).pace = State.pace { b with swp := { b.swp with deadline := true } } := by
    refine ⟨_, by unfold execAtlasDeadline; rfl, s.until (s.swp.boundary + s.periodNs - us 60), ?_⟩
    rw [hn]
    dsimp -zeta only
    rw [if_neg (by simp [h])]
    extract_lets s1 x s2 late s3 s4 s5
    have h3 : s3.pace = s2.pace := State.ite_pace rfl s2.writeHead_pace
    have h4 : s4.pace = s3.pace := s3.foldNat_pace _ (fun t p => t.ageRecords_pace p n) _
    have h5 : s5.pace = s4.pace := State.ite_pace ((State.serviced_pace _).trans (State.ite_pace rfl (s4.deriveAll_pace n))) rfl
    rw [State.eventIf_pace, h5, h4, h3]
  refine answers_onC hr e ?_
  rw [State.finish_swp]
  exact congrArg (fun x : Nat × Option Nat × Nat × Bool × Bool × Nat => x.2.2.2.2.1) hf

theorem sweepOverrun_completes {sub : Nat} (index : Nat) (h2 : 2 ≤ sub) (h5 : sub ≤ 5) (hc : s.swp.count ≠ none) :
    answers (.sweepOverrun 0 sub index) s fun t => t.hasCause ⟨0x1C, sub, 0, index⟩ = true := by
  have hflt (t : State) : (t.overrunEffect sub index).flt = t.flt := by
    unfold State.overrunEffect
    split <;> (try split) <;> rfl
  obtain ⟨f, e, hf⟩ : ∃ (f : State → State) (_ : execSweepOverrun 0 sub index s = onC s f),
      f s = (s.raiseOpenEv 0x1C sub 0 index).overrunEffect sub index := by
    refine ⟨_, by unfold execSweepOverrun; rw [if_pos ⟨h2, h5⟩], ?_⟩
    rw [if_neg]
    simpa [Option.isNone_iff_eq_none] using hc
  refine answers_onC hr e ?_
  rw [State.finish_hasCause, hf]
  unfold State.hasCause
  rw [hflt]
  exact State.raiseOpenAt_hasCause s _ _ _

theorem spotResultLost_completes {slot : Nat} {x : SpotSlot} (hx : s.der.spots.getD slot none = some x) (ha : x.answered = false) :
    answers (.spotResultLost slot) s fun t => ∀ y, t.der.spots.getD slot none = some y → y.answered = true := by
  obtain ⟨f, e, u, hf⟩ : ∃ (f : State → State) (_ : execSpotResultLost slot s = onC s f) (u : State),
      f s = u.spotAnswer x slot St.lost 0 0 (leBytes 16 0) := by
    refine ⟨_, by unfold execSpotResultLost; rfl, s.until (max (x.acceptAt + 8 * s.periodNs) (x.acceptAt + ms 100)), ?_⟩
    simp only [hx]
    rw [if_neg (by simp [ha])]
  refine answers_onC hr e ?_
  rw [hf, State.finish_der]
  intro y hy
  unfold State.spotAnswer at hy
  dsimp only at hy
  rw [State.getD_modAt] at hy
  split at hy
  · split at hy
    · exact absurd hy (by simp)
    · injection hy with hy
      rw [← hy]
  · next hk =>
    rw [List.getD_eq_default _ _ (by simpa using hk)] at hy
    exact absurd hy (by simp)

end

end Sys2Proof.Machine
end

section
/-!
SUPPORT. The items of the positions, the Meridian and the sweep's boundary at the head complete (R55, R58, R270, R274 to R276,
R495): their clauses of O60.
-/

namespace Sys2Proof.Machine

/-! ### Positions -/

namespace State

variable (s : State)

theorem posTrack_modPos (p q : Nat) (f : PosTrack → PosTrack) :
    (s.modPos p f).posTrack q = if p = q ∧ q < s.poss.length then f (s.posTrack q) else s.posTrack q :=
  getD_modAt s.poss p q f {}

theorem posTrack_modPos_self {p : Nat} (f : PosTrack → PosTrack) (h : p < s.poss.length) :
    (s.modPos p f).posTrack p = f (s.posTrack p) := by
  rw [posTrack_modPos, if_pos ⟨rfl, h⟩]

/-- Two changes of a position's tracking that make the same of it. -/
theorem modPos_congr {p : Nat} {f g : PosTrack → PosTrack} (hp : p < s.poss.length) (h : f (s.posTrack p) = g (s.posTrack p)) :
    s.modPos p f = s.modPos p g := by
  have e : modAt s.poss p f = modAt s.poss p g := by
    refine List.ext_getElem (by simp [modAt]) fun i h1 h2 => ?_
    simp only [modAt, List.getElem_modify]
    split
    · next hi =>
      subst hi
      simpa [State.posTrack, List.getD_eq_getElem?_getD, List.getElem?_eq_getElem hp] using h
    · rfl
  unfold State.modPos
  rw [e]

theorem length_poss_modPos (p : Nat) (f : PosTrack → PosTrack) : (s.modPos p f).poss.length = s.poss.length :=
  List.length_modify _ _ _

/-- A frame that only keeps the connection has no item that acts, and no entry. -/
theorem processItems_alive (p : Nat) : s.processItems p [⟨0xC5, 0, .alive⟩] = s := by
  unfold State.processItems
  have h : firstEntry s.sweep [⟨0xC5, 0, .alive⟩] = none := rfl
  rw [h]
  dsimp only [List.foldl_cons, List.foldl_nil]
  split <;> rfl

theorem drain_empty (p : Nat) (h : (s.posTrack p).heldF = []) (fuel : Nat) : s.drain p fuel = s := by
  cases fuel with
  | zero => rfl
  | succ fuel =>
    unfold State.drain
    dsimp only
    split
    · rfl
    · simp [h]

/-- A held frame that is next in order and only keeps the connection is done with (R274). -/
theorem drain_alive {p n : Nat} (hp : p < s.poss.length) (hn : (s.posTrack p).nextSeq = some n)
    (h : (s.posTrack p).heldF = [(n, [⟨0xC5, 0, .alive⟩])]) (fuel : Nat) :
    s.drain p (fuel + 1) = s.modPos p (fun t => { t with heldF := [], nextSeq := some ((n + 1) % 65536) }) := by
  have hm : s.modPos p (fun t => { t with heldF := t.heldF.filter (fun y => decide (y.1 ≠ n)), nextSeq := some ((n + 1) % 65536) })
      = s.modPos p (fun t => { t with heldF := [], nextSeq := some ((n + 1) % 65536) }) :=
    s.modPos_congr hp (by simp [h])
  unfold State.drain
  simp only [hn, h, List.find?_cons_of_pos, decide_true]
  rw [hm, processItems_alive, drain_empty]
  rw [posTrack_modPos_self _ _ hp]

/-- Nothing of a position but its own report of a break tells where the ring is broken (R274). -/
theorem linkBroken_modPos (p : Nat) (f : PosTrack → PosTrack) (h : ∀ t, (f t).linkAt = t.linkAt) :
    (s.modPos p f).linkBroken = s.linkBroken := by
  have e : (modAt s.poss p f).map PosTrack.linkAt = s.poss.map PosTrack.linkAt := by
    refine List.ext_getElem (by simp [modAt]) fun i h1 h2 => ?_
    simp only [modAt, List.getElem_map, List.getElem_modify]
    split
    · exact h _
    · rfl
  have hl (t : State) : t.linkBroken = (t.poss.map PosTrack.linkAt).any (fun x => match x with
      | some n => decide (t.sweep ≤ n + 1)
      | none => false) := by
    rw [List.any_map]; rfl
  rw [hl, hl]
  exact congrArg (fun l : List (Option Nat) => l.any _) e

/-- A frame in order that only keeps the connection (R274). -/
theorem itemsArrive_alive {p : Nat} (seq : Nat) (hp : p < s.poss.length) (hn : (s.posTrack p).nextSeq = none)
    (hh : (s.posTrack p).heldF = []) (hb : s.linkBroken = false) :
    ((s.itemsArrive p seq false [⟨0xC5, 0, .alive⟩]).posTrack p).nextSeq = some ((seq + 1) % 65536) ∧
      ((s.itemsArrive p seq false [⟨0xC5, 0, .alive⟩]).posTrack p).lastSweep = s.sweep := by
  obtain ⟨v, hv⟩ : ∃ v, v = s.modPos p (fun t : PosTrack => { t with
    lastSweep := s.sweep, silent := false, linkAt := if reportsBreak [⟨0xC5, 0, .alive⟩] then some s.sweep else t.linkAt }) := ⟨_, rfl⟩
  have hvl : p < v.poss.length := by rwa [hv, length_poss_modPos]
  have hvp := s.posTrack_modPos_self (fun t : PosTrack => { t with
    lastSweep := s.sweep, silent := false, linkAt := if reportsBreak [⟨0xC5, 0, .alive⟩] then some s.sweep else t.linkAt }) hp
  rw [← hv] at hvp
  have hvn : (v.posTrack p).nextSeq = none := (congrArg PosTrack.nextSeq hvp).trans hn
  have hvh : (v.posTrack p).heldF = [] := (congrArg PosTrack.heldF hvp).trans hh
  have hahead : seqAhead seq seq = 0 := by unfold seqAhead; omega
  obtain ⟨w, hw⟩ : ∃ w, w = v.modPos p (fun t => { t with nextSeq := some seq, heldF := t.heldF ++ [(seq, [⟨0xC5, 0, .alive⟩])] }) :=
    ⟨_, rfl⟩
  have hwl : p < w.poss.length := by rwa [hw, length_poss_modPos]
  have hwp := v.posTrack_modPos_self (fun t => { t with nextSeq := some seq, heldF := t.heldF ++ [(seq, [⟨0xC5, 0, .alive⟩])] }) hvl
  rw [← hw] at hwp
  have hdrain := w.drain_alive (n := seq) hwl (by rw [hwp]) (by rw [hwp, hvh]; rfl) 65
  have hz : s.itemsArrive p seq false [⟨0xC5, 0, .alive⟩]
      = w.modPos p (fun t => { t with heldF := [], nextSeq := some ((seq + 1) % 65536) }) := by
    unfold State.itemsArrive
    dsimp only
    rw [← hv, hvn, hvh, Option.getD_none, hahead,
      if_neg (show ¬ (32768 ≤ 0 ∨ ([] : List (Nat × List Item)).any (fun x => decide (x.1 = seq)) = true) by simp), ← hw, hdrain,
      if_neg (show ¬ (64 < 0 ∨ false = true) by simp), if_neg]
    have hlw : w.linkBroken = v.linkBroken := by rw [hw]; exact v.linkBroken_modPos p _ fun _ => rfl
    have hlv : v.linkBroken = s.linkBroken := by rw [hv]; exact s.linkBroken_modPos p _ fun _ => rfl
    rw [linkBroken_modPos _ _ _ (by intro _; rfl), hlw, hlv, hb]
    simp
  rw [hz, posTrack_modPos_self _ _ hwl]
  exact ⟨rfl, (congrArg PosTrack.lastSweep hwp).trans (congrArg PosTrack.lastSweep hvp)⟩

theorem flushHeld_empty (p : Nat) (h : (s.posTrack p).heldF = []) (fuel : Nat) : s.flushHeld p fuel = s := by
  cases fuel with
  | zero => rfl
  | succ fuel =>
    have hl : (s.posTrack p).lowest = none := by
      unfold PosTrack.lowest
      split
      · rfl
      · rw [h]; rfl
    unfold State.flushHeld
    rw [hl]

end State

section
variable {s : State} (hr : s.pw.running = true)
include hr

theorem positionSilent_completes {p : Nat} (h0 : p ≠ 0) (hp : p < s.poss.length) (ha : s.adopted p = true)
    (hs : (s.posTrack p).silent = false) (h8 : (s.posTrack p).lastSweep + 8 ≤ s.sweep) :
    answers (.positionSilent p) s fun t => (t.posTrack p).silent = true := by
  obtain ⟨f, e, hf⟩ : ∃ (f : State → State) (_ : execPositionSilent p s = onC s f),
      (f s).poss = (s.modPos p (fun t => { t with silent := true })).poss := by
    refine ⟨_, by unfold execPositionSilent; rfl, ?_⟩
    dsimp only
    rw [if_neg (by simp [h0, ha, hs, h8])]
    refine foldl_keep State.poss _ (fun t n => ?_) _ _
    refine iteInduction (motive := fun y : State => y.poss = t.poss) (fun _ => rfl) fun _ => ?_
    exact (State.poss_of_bare (State.raiseOpenAt_bare _ _ _ _)).trans rfl
  refine answers_onC hr e ?_
  unfold State.posTrack
  rw [State.finish_poss, hf]
  exact congrArg PosTrack.silent (s.posTrack_modPos_self _ hp)

theorem seqLossTimeout_completes {p q m : Nat} (hp : p < s.poss.length) (hh : (s.posTrack p).heldF = [(q, [⟨0xC5, 0, .alive⟩])])
    (hn : (s.posTrack p).nextSeq = some m) :
    answers (.seqLossTimeout p) s fun t => (t.posTrack p).heldF = [] ∧ (t.posTrack p).openLoss = true := by
  obtain ⟨f, e, hf⟩ : ∃ (f : State → State) (_ : execSeqLossTimeout p s = onC s f),
      f s = (s.until (s.swp.nextB - us 70)).flushHeld p 66 :=
    ⟨_, by unfold execSeqLossTimeout; rfl, by exact if_neg (by simp [hh])⟩
  refine answers_onC hr e ?_
  obtain ⟨u, hu⟩ : ∃ u, u = s.until (s.swp.nextB - us 70) := ⟨_, rfl⟩
  have hup : u.posTrack p = s.posTrack p := by rw [hu]; rfl
  have hul : p < u.poss.length := by rw [hu]; exact hp
  have hlow : (u.posTrack p).lowest = some q := by
    unfold PosTrack.lowest
    rw [hup, hn, hh]
    rfl
  have h : u.flushHeld p 66 = (u.modPos p (fun t => { t with openLoss := true, nextSeq := some q })).modPos p
      (fun t => { t with heldF := [], nextSeq := some ((q + 1) % 65536) }) := by
    unfold State.flushHeld
    simp only [hlow]
    rw [State.drain_alive (n := q), State.flushHeld_empty]
    · rw [State.posTrack_modPos_self _ _ (by rwa [State.length_poss_modPos])]
    · rwa [State.length_poss_modPos]
    · rw [State.posTrack_modPos_self _ _ hul]
    · rw [State.posTrack_modPos_self _ _ hul]
      exact (congrArg PosTrack.heldF hup).trans hh
  unfold State.posTrack
  rw [State.finish_poss, hf, ← hu, h]
  have hk := State.posTrack_modPos_self (u.modPos p (fun t => { t with openLoss := true, nextSeq := some q })) (p := p)
    (fun t => { t with heldF := [], nextSeq := some ((q + 1) % 65536) }) (by rwa [State.length_poss_modPos])
  refine ⟨congrArg PosTrack.heldF hk, (congrArg PosTrack.openLoss hk).trans ?_⟩
  exact congrArg PosTrack.openLoss (u.posTrack_modPos_self _ hul)

theorem itemsFrame_completes {q : RPort} {f : Frame} {p : Nat} (hu : s.upWorks = true) (hv : frameValid f = true) (hd : f.dest = 0)
    (hc : ((s.dev 0).port q).carries f = true) (hl : f.payload = .items [⟨0xC5, 0, .alive⟩]) (hf : p = f.src) (h0 : p ≠ 0)
    (ha : s.adopted p = true) (hp : p < s.poss.length) (hw : f.wrap = false) (hb : s.linkBroken = false)
    (hn : (s.posTrack p).nextSeq = none) (hh : (s.posTrack p).heldF = []) (ho : (s.posTrack p).openLoss = false) :
    answers (.itemsFrame q f) s fun t =>
      (t.posTrack p).nextSeq = some ((f.seq + 1) % 65536) ∧ (t.posTrack p).lastSweep = s.sweep := by
  subst hf
  obtain ⟨g, e, hg⟩ : ∃ (g : State → State) (_ : execItemsFrame q f s = onC s g),
      g s = (s.silenceHeard (s.slotOf f.src) [⟨0xC5, 0, .alive⟩]).itemsArrive f.src f.seq false [⟨0xC5, 0, .alive⟩] := by
    refine ⟨_, by unfold execItemsFrame; rfl, ?_⟩
    simp only [hl]
    rw [if_pos (by simp [hu, hv, hd, hc, h0, ha]), hw]
  refine answers_onC hr e ?_
  obtain ⟨u, hu⟩ : ∃ u, u = s.silenceHeard (s.slotOf f.src) [⟨0xC5, 0, .alive⟩] := ⟨_, rfl⟩
  have hk : u.poss = s.poss ∧ u.swp = s.swp := by
    rw [hu]
    unfold State.silenceHeard
    (repeat' split) <;> exact ⟨rfl, rfl⟩
  have ht : u.posTrack f.src = s.posTrack f.src := by
    unfold State.posTrack
    rw [hk.1]
  have hs : u.sweep = s.sweep := by
    unfold State.sweep
    rw [hk.2]
  have hub : u.linkBroken = false := by
    rw [← hb]
    unfold State.linkBroken
    rw [hk.1, hs]
  unfold State.posTrack
  rw [State.finish_poss, hg, ← hu, ← hs]
  exact u.itemsArrive_alive f.seq (by rwa [hk.1]) (by rw [ht, hn]) (by rw [ht, hh]) hub

end

end Sys2Proof.Machine
end

section
/-!
SUPPORT. The Meridian and the sweep's boundary at the head complete (R55, R58, R270, R495): their clauses of O60.
-/

namespace Sys2Proof.Machine

/-! ### SWEEP_HEADER at the head's own S-die -/

namespace Dev

variable (d : Dev)

theorem setPeriod_sawE (n code : Nat) : (d.setPeriod n code).sawE = d.sawE := by
  have hw (x : Dev) (g : Nat) (w : Window) : (x.setWindow n g w).sawE = x.sawE := by
    unfold Dev.setWindow
    dsimp only
    refine iteInduction (motive := fun y : Dev => y.sawE = x.sawE) (fun _ => ?_) fun _ => ?_
    · exact foldl_keep Dev.sawE _ (fun y r => by rfl) _ _
    · refine (foldl_keep Dev.sawE _ (fun y r => ?_) _ _).trans rfl
      exact y.closeRec_keep Dev.sawE (fun _ _ _ => rfl) (fun _ _ _ => rfl) (fun _ _ => rfl) n r _ _ _
  have hf (x : Dev) : ((List.range 9).foldl (fun d g => Dev.setWindow d n g ⟨(d.win g).w, n⟩) x).sawE = x.sawE :=
    foldl_keep Dev.sawE _ (fun y g => hw y g _) _ _
  unfold Dev.setPeriod
  dsimp only
  split
  · rfl
  · split
    · exact hf _
    · exact hf _

/-- Stated for any device, so that no check unfolds the device at hand. -/
theorem sawE_withEpoch (e : Nat) : Dev.sawE { d with epoch := e } = d.sawE := rfl

theorem sawE_of_inner {x y : Dev} (h : x.inner = y.inner) : x.sawE = y.sawE := by
  have e := congrArg Dev.sawE h
  exact e

theorem launchMark_sawE (t : Nat) : (d.launchMark t).sawE = some t := rfl

theorem getHeader_sawE (h : HeaderMsg) : (d.getHeader h).sawE = d.sawE := by
  rw [Dev.getHeader]
  refine iteInduction (motive := fun y : Dev => y.sawE = d.sawE) (fun _ => ?_) fun _ =>
    iteInduction (motive := fun y : Dev => y.sawE = d.sawE) (fun _ => ?_) fun _ => ?_
  · refine (sawE_withEpoch _ _).trans ((setPeriod_sawE _ _ _).trans ?_)
    split <;> rfl
  · refine (foldl_keep Dev.sawE _ (fun y x => by rfl) _ _).trans ?_
    split <;> rfl
  · split <;> rfl

end Dev

namespace State

variable (s : State)

/-- Stated for any state, so that no check unfolds the state at hand. -/
theorem dev_withSwp (x : SweepSt) (e : Nat) : State.dev { s with swp := x } e = s.dev e := rfl

theorem pw_withSwp (x : SweepSt) : State.pw { s with swp := x } = s.pw := rfl

theorem sendDown_dev (f : Frame) (e : Nat) : ((s.sendDown f).dev e).inner = (s.dev e).inner :=
  dev_modDev_keep Dev.inner s 0 e _ fun x => x.sendBoth_inner s.now f

theorem drainDown_dev (e : Nat) : (s.drainDown.dev e).inner = (s.dev e).inner := by
  unfold State.drainDown
  split
  · exact (foldl_keep (fun t : State => (t.dev e).inner) _ (fun t f => t.sendDown_dev f e) _ _).trans rfl
  · rfl

/-- Sending downstream changes a device's ports alone. -/
theorem downFrame_dev (dest : Nat) (p : Payload) (e : Nat) : ((s.downFrame dest p).dev e).inner = (s.dev e).inner := by
  unfold State.downFrame
  exact iteInduction (motive := fun y : State => (y.dev e).inner = (s.dev e).inner)
    (fun _ => iteInduction (motive := fun y : State => (y.dev e).inner = (s.dev e).inner)
      (fun _ => sendDown_dev _ _ _) fun _ => drainDown_dev _ _) fun _ => rfl

theorem downFrame_pw (dest : Nat) (p : Payload) : (s.downFrame dest p).pw = s.pw := by
  have hd (t : State) : t.drainDown.pw = t.pw := by
    unfold State.drainDown
    split
    · exact (foldl_keep State.pw _ (fun t f => by rfl) _ _).trans rfl
    · rfl
  unfold State.downFrame
  exact iteInduction (motive := fun y : State => y.pw = s.pw)
    (fun _ => iteInduction (motive := fun y : State => y.pw = s.pw) (fun _ => rfl) fun _ => hd _) fun _ => rfl

/-- A frame over D1 is for the head's own S-die alone. -/
theorem overD1_keep {β : Type} (g : Dev → β) (act : Dev → Dev) (hg : ∀ d, g (act d) = g d) (hh : ∀ d n, g (Dev.heard d n) = g d)
    (e : Nat) : g ((s.overD1 act).dev e) = g (s.dev e) := by
  unfold State.overD1
  split
  · refine dev_modDev_keep g s 0 e _ fun x => ?_
    dsimp only
    split
    · exact (hg _).trans (hh x _)
    · exact hh x _
  · rfl

end State

/-- What a header over D1 does keeps when the head's own S-die saw the mark: stated for any `act`, so that no check runs
`getHeader`. -/
theorem overD1_sawE (w : State) (h : HeaderMsg) (act : Dev → Dev) (ha : ∀ d, act d = d.getHeader h) :
    ((w.overD1 act).dev 0).sawE = (w.dev 0).sawE :=
  State.overD1_keep w Dev.sawE act (fun d => (congrArg Dev.sawE (ha d)).trans (d.getHeader_sawE h)) (fun _ _ => rfl) 0

/-- The header of a sweep goes downstream and over D1: the head's own S-die keeps when it saw the mark (R264). -/
theorem headerSent (y : State) (c : Bool) (k dest : Nat) (p : Payload) (x : SweepSt) (h : HeaderMsg) (act : Dev → Dev)
    (ha : ∀ d, act d = d.getHeader h) :
    let w : State := { (y.eventIf c k).downFrame dest p with swp := x }
    ((w.overD1 act).dev 0).sawE = (y.dev 0).sawE ∧ (w.overD1 act).pw = y.pw := by
  intro w
  have hev : (y.eventIf c k).devs = y.devs ∧ (y.eventIf c k).pw = y.pw := by simp
  have hd : w.dev 0 = ((y.eventIf c k).downFrame dest p).dev 0 := State.dev_withSwp _ _ _
  have hp : w.pw = ((y.eventIf c k).downFrame dest p).pw := State.pw_withSwp _ _
  clear_value w
  constructor
  · rw [overD1_sawE w h act ha, hd, Dev.sawE_of_inner (State.downFrame_dev _ _ _ 0)]
    unfold State.dev
    rw [hev.1]
  · have ho : (w.overD1 act).pw = w.pw := by unfold State.overD1; split <;> rfl
    rw [ho, hp, State.downFrame_pw, hev.2]

theorem meridianSend_completes {s : State} (hr : s.pw.running = true) (ha : (s.dev 0).awake = true) (hh : (s.dev 0).isHead = true) :
    answers .meridianSend s fun t => (t.dev 0).sawE = some (s.swp.nextB - 16000) ∧ t.pw.markLost = false := by
  obtain ⟨f, e, u, hu, hm, h⟩ : ∃ (f : State → State) (_ : execMeridianSend s = onC s f) (u : State),
      u.devs = s.devs ∧ u.pw.markLost = false ∧
      ((f s).dev 0).sawE = ((u.modDev 0 (·.launchMark (s.swp.nextB - us 16))).dev 0).sawE ∧
      (f s).pw = (u.modDev 0 (·.launchMark (s.swp.nextB - us 16))).pw := by
    refine ⟨_, by unfold execMeridianSend; rfl, { s.until (s.swp.nextB - us 16) with pw := { s.pw with markLost := false } }, rfl,
      rfl, ?_⟩
    dsimp only
    rw [if_neg (by simp [ha, hh])]
    exact headerSent _ _ _ _ _ _ _ _ fun _ => rfl
  refine answers_onC hr e ⟨?_, ?_⟩
  · rw [Dev.eq_of_body (·.sawE) (State.finish_body s _ 0), h.1, State.dev_modDev_self _ _ _ (by rw [hu]; exact s.lt_of_awake 0 ha),
      Dev.launchMark_sawE]
    rfl
  · rw [State.finish_pw, h.2]
    exact hm

end Sys2Proof.Machine
end

section
/-!
SUPPORT. The sweep's boundary at the head completes (R55, R64, R70, R495): its clause of O60.
-/

namespace Sys2Proof.Machine

/-! ### The commit engine's steps that have not come -/

/-- What the boundary reads of the sweep that ends: its number, the next boundary, and whether DORMANT is ordered. -/
def SweepSt.ends (x : SweepSt) : Option Nat × Nat × Bool := (x.count, x.nextB, x.landed.contains .dormant)

namespace State

variable (s : State)

theorem ends_of_core {x y : SweepSt} (h : x.core = y.core) : x.ends = y.ends := SweepSt.eq_of_core SweepSt.ends h

theorem landDevice_ends (d : Setting) : (s.land (.device d)).swp.ends = s.swp.ends := by
  unfold State.land SweepSt.ends
  cases s.swp.hold <;> simp

theorem quotaDue_ends : s.quotaDue.swp.ends = s.swp.ends := by
  unfold State.quotaDue
  exact iteInduction (motive := fun y : State => y.swp.ends = s.swp.ends) (fun _ => s.landDevice_ends _) fun _ =>
    iteInduction (motive := fun y : State => y.swp.ends = s.swp.ends) (fun _ => s.landDevice_ends _) fun _ => rfl

theorem freezeRecord_ends : s.freezeRecord.swp.ends = s.swp.ends := s.quotaDue_ends

theorem freezeRecord_now : s.freezeRecord.now = s.now := congrArg (·.1) s.quotaDue_pace

theorem sendRecord_ends : s.sendRecord.swp.ends = s.swp.ends := by
  have hg : s.sendAgain.swp.ends = s.swp.ends :=
    (congrArg SweepSt.ends s.sendAgain_core : s.sendAgain.swp.core.ends = _)
  unfold State.sendRecord
  dsimp only
  split
  · refine iteInduction (motive := fun y : State => y.swp.ends = s.swp.ends) (fun _ => hg) fun _ => ?_
    rw [overD1_swp, ends_of_core (downFrame_core _ _ _)]
    exact hg
  · exact hg

theorem cutReactions_ends : s.cutReactions.swp.ends = s.swp.ends := by
  unfold State.cutReactions
  refine iteInduction (motive := fun y : State => y.swp.ends = s.swp.ends) (fun _ => rfl) fun _ => ?_
  dsimp only
  rw [overD1_swp, ends_of_core (downFrame_core _ _ _)]
  rfl

/-! ### The boundary itself -/

theorem closeHead_pace (n : Nat) (r : ChassisReadings) :
    (s.closeHead n r).pace = (s.now, some n, s.now, s.swp.hold, false, 0) := by
  unfold State.closeHead
  extract_lets first s1 s2 x s3
  have h2 : s2.pace = s.pace := by
    refine ite_pace s.lapseEvents_pace ?_
    rw [headBoundary_pace, chBoundary_pace, chReadings_pace, s.lapseEvents_pace]
  have hnow : s2.now = s.now := congrArg (·.1) h2
  have hhold : s2.swp.hold = s.swp.hold := congrArg (fun p : Nat × Option Nat × Nat × Bool × Bool × Nat => p.2.2.2.1) h2
  have h3 : s3.pace = (s.now, some n, s.now, s.swp.hold, false, 0) := by
    rw [← hnow, ← hhold]
    rfl
  clear_value s3
  exact (ite_pace (foldl_pace s3 _ (fun t i => t.modCh_pace _ _) _) rfl).trans h3

theorem applyLanded_pace (n : Nat) (l : List Landed) :
    (s.applyLanded n l).pace = (s.now, s.swp.count, s.swp.boundary, false, s.swp.deadline, s.swp.tick) := by
  unfold State.applyLanded
  extract_lets first dests sets swp err regS regE x s1 s2 s3 s4 s5 s6 s7 v s8 s9
  have h1 : s1.pace = (s.now, s.swp.count, s.swp.boundary, false, s.swp.deadline, s.swp.tick) := eventIf_pace _ _ _
  clear_value s1
  have h2 : s2.pace = s1.pace := by simp only [s2, setErr_pace, setSwp_pace]
  have h3 : s3.pace = s2.pace := s2.activateSets_pace n sets
  have h4 : s4.pace = s3.pace := foldl_pace s3 _ (fun t x => t.landedEffect_pace n x) _
  have h5 : s5.pace = s4.pace := s4.adoptDue_pace n
  have h6 : s6.pace = s5.pace := by simp only [s6, transitions_pace, stateOrders_pace]
  have h7 : s7.pace = s6.pace := s6.channelOrders_pace l
  have h8 : s8.pace = s7.pace := rfl
  have h9 : s9.pace = s8.pace := ite_pace s8.firstInputs_pace rfl
  rw [loopBoundary_pace, coupleByState_pace, weldCheck_pace, h9, h8, h7, h6, h5, h4, h3, h2, h1]

end State

theorem sweepBoundary_completes {s : State} (hr : s.pw.running = true) (r : ChassisReadings)
    (hd : s.swp.landed.contains .dormant = false) : answers (.sweepBoundary r) s fun t =>
      t.swp.count = some s.nextCount ∧ t.swp.boundary = max s.now s.swp.nextB ∧ t.swp.hold = false := by
  obtain ⟨f, e, hf⟩ : ∃ (f : State → State) (_ : execSweepBoundary r s = onC s f),
      (f s).pace = (max s.now s.swp.nextB, some s.nextCount, max s.now s.swp.nextB, false, false, 0) := by
    refine ⟨_, by unfold execSweepBoundary; rfl, ?_⟩
    extract_lets s1 s2 s3 s4 n l s5 x s6
    have hends : s3.swp.ends = s.swp.ends := by
      have h1 : s1.swp.ends = s.swp.ends := iteInduction (motive := fun y : State => y.swp.ends = s.swp.ends)
        (fun _ => rfl) fun _ => s.freezeRecord_ends
      have h2 : s2.swp.ends = s1.swp.ends := s1.sendRecord_ends
      have h3 : s3.swp.ends = s2.swp.ends := iteInduction (motive := fun y : State => y.swp.ends = s2.swp.ends)
        (fun _ => rfl) fun _ => s2.cutReactions_ends
      rw [h3, h2, h1]
    have hnow : s3.now = s.now := by
      have h1 : s1.now = s.now := iteInduction (motive := fun y : State => y.now = s.now) (fun _ => rfl) fun _ => s.freezeRecord_now
      have h2 : s2.now = s1.now := congrArg (·.1) s1.sendRecord_pace
      have h3 : s3.now = s2.now := congrArg (·.1) (State.ite_pace (t := s2) rfl s2.cutReactions_pace)
      rw [h3, h2, h1]
    have hn4 : s4.now = max s.now s.swp.nextB := by
      have hb : s3.swp.nextB = s.swp.nextB := congrArg (fun p : Option Nat × Nat × Bool => p.2.1) hends
      rw [← hnow, ← hb]
      rfl
    have hn : n = s.nextCount := by
      have hc : s4.swp.count = s.swp.count := congrArg (fun p : Option Nat × Nat × Bool => p.1) hends
      simp only [n]
      unfold State.nextCount
      rw [hc]
    have hl : ¬ l.contains .dormant = true := by
      have h : l.contains .dormant = s.swp.landed.contains .dormant := congrArg (fun p : Option Nat × Nat × Bool => p.2.2) hends
      rw [h, hd]
      simp
    have h5 : s5.pace = (s4.now, some n, s4.now, s4.swp.hold, false, 0) := s4.closeHead_pace n r
    have h6 : s6 = s5 := if_neg hl
    clear_value s6 s5 s4 n l
    subst h6
    rw [if_neg fun h => hl h.1, State.beginSweep_pace, State.applyLanded_pace, ← hn4, ← hn]
    simp only [State.pace, SweepSt.pace, Prod.mk.injEq] at h5 ⊢
    obtain ⟨ha, hb, hc, _, he, hf⟩ := h5
    exact ⟨ha, hb, hc, trivial, he, hf⟩
  refine answers_onC hr e ?_
  rw [State.finish_swp]
  simp only [State.pace, SweepSt.pace, Prod.mk.injEq] at hf
  obtain ⟨_, hb, hc, he, _, _⟩ := hf
  exact ⟨hb, hc, he⟩

end Sys2Proof.Machine
end

section
/-!
SUPPORT. The head's timers complete (R71, R182, R304, R306, R335, R475): their clauses of O60. A control tick leaves the
sweep's pace but for its own count.
-/

namespace Sys2Proof.Machine

/-! ### The parts of a control tick -/

namespace State

variable (s : State)

@[simp] theorem loopReact_pace (n sub : Nat) : (s.loopReact n sub).pace = s.pace := by
  unfold State.loopReact; dsimp only; split <;> simp

@[simp] theorem loopClear_pace (n : Nat) (y : Option Int) : (s.loopClear n y).pace = s.pace := by
  unfold State.loopClear; dsimp only; (repeat' split) <;> simp

@[simp] theorem loopTrack_pace (n : Nat) (forced : Int) (y : Option Int) : (s.loopTrack n forced y).pace = s.pace := by
  unfold State.loopTrack
  extract_lets l s1
  have h1 : s1.pace = s.pace := s.modLoop_pace n _
  split
  · exact h1
  · split <;> exact (s1.modLoop_pace n _).trans h1

@[simp] theorem loopAuto_pace (n : Nat) (y : Int) (ySat : Bool) (sig : Int) : (s.loopAuto n y ySat sig).pace = s.pace := by
  unfold State.loopAuto
  extract_lets l target c w s1
  have h1 : s1.pace = s.pace := ite_pace ((tuneAbort_pace _ 2).trans (s.modLoop_pace n _)) rfl
  exact ite_pace ((loopReact_pace _ n 2).trans ((s1.modLoop_pace n _).trans h1)) (s.modLoop_pace n _)

@[simp] theorem relayTick_pace (t : Tuning) (y : Int) : (s.relayTick t y).pace = s.pace := by
  unfold State.relayTick
  extract_lets n r e high switch u cycles fresh t' s1 s2 s3
  have h1 : s1.pace = s.pace := s.modLoop_pace n _
  have h3 : s3.pace = s1.pace := (tuneReturn_pace _ t').trans (s1.eventMsg_pace _ _ _ _ _ _)
  exact ite_pace (s.tuneAbort_pace 3) (ite_pace ((s3.modLoop_pace n _).trans (h3.trans h1)) h1)

@[simp] theorem injectTick_pace (t : Tuning) (y : Int) (ySat : Bool) : (s.injectTick t y ySat).pace = s.pace := by
  unfold State.injectTick
  extract_lets n sig r e u s1 take t' all s2
  have h1 : s1.pace = s.pace := ite_pace (s.loopAuto_pace n y ySat _) (s.modLoop_pace n _)
  have h2 : s2.pace = s1.pace := (tuneReturn_pace _ t').trans (s1.tuneSend_pace t' _ _ _)
  refine Eq.trans (ite_pace rfl (ite_pace ((modLoop_pace _ n _).trans h2) (ite_pace (s1.tuneSend_pace t' _ _ _) rfl))) h1

@[simp] theorem loopTick_pace (n : Nat) : (s.loopTick n).pace = s.pace := by
  unfold State.loopTick
  dsimp only
  (repeat' split) <;> simp

@[simp] theorem loopCompute_pace (n : Nat) : (s.loopCompute n).pace = s.pace := by
  unfold State.loopCompute State.loopRest
  dsimp only
  split <;> simp

@[simp] theorem loopApplyOut_pace (n : Nat) : (s.loopApplyOut n).pace = s.pace := by
  unfold State.loopApplyOut State.loopSamples
  split <;> simp

@[simp] theorem fixedDuty_pace (k : Nat) : (s.fixedDuty k).pace = s.pace := by
  unfold State.fixedDuty; split <;> simp

@[simp] theorem chanFault_pace (n cls sub : Nat) : (s.chanFault n cls sub).pace = s.pace := by simp [State.chanFault]

@[simp] theorem coilReading_pace (k v : Nat) : (s.coilReading k v).pace = s.pace := by simp [State.coilReading]

@[simp] theorem tuneOrphan_pace : s.tuneOrphan.pace = s.pace := by
  unfold State.tuneOrphan
  split
  · split <;> simp
  · rfl

end State

/-! ### The clauses -/

theorem ContourSt.pub_setTimers (c : ContourSt) (dir e : Direction) (t : Option Nat × Option Nat) :
    (c.setTimers dir t).pub e = c.pub e := by cases dir <;> cases e <;> rfl

theorem ContourSt.pub_setPub (c : ContourSt) (dir : Direction) (v : Nat) : (c.setPub dir v).pub dir = v := by cases dir <;> rfl

/-- What a command of the supervisor core leaves, its reports applied. -/
theorem answers_onCore {c : Instr} {s : State} {f : State → State} {P : State → Prop} (hc : s.coreUp)
    (e : exec c s = onCore s f) (h : P (s.finish (f s))) : answers c s P :=
  ⟨_, e.trans (onCore_up hc), h⟩

section
variable {s : State} (hc : s.coreUp)
include hc

theorem contourStepDown_completes {dir : Direction} {a h c : _} (ha : (s.ctr.timers dir).1 = some a) (hh : s.ctr.tHot = some h)
    (hco : s.ctr.tCold = some c) (hf : s.ctr.failed = none) (hl : s.contourDown dir h c < s.ctr.pub dir) :
    answers (.contourStepDown dir) s fun t => t.ctr.pub dir = s.ctr.pub dir - 1 := by
  refine answers_onCore hc (by rfl) ?_
  rw [State.finish_ctr]
  simp only [ha, hh, hco, hf, hl, Option.isNone_none, and_self, if_true, ContourSt.pub_setTimers, ContourSt.pub_setPub]

theorem contourStepUp_completes {dir : Direction} {a : _} (ha : (s.ctr.timers dir).2 = some a) (hf : s.ctr.failed = none)
    (hl : s.ctr.pub dir < 15) : answers (.contourStepUp dir) s fun t => t.ctr.pub dir = s.ctr.pub dir + 1 := by
  refine answers_onCore hc (by rfl) ?_
  rw [State.finish_ctr]
  simp only [ha, hf, hl, Option.isNone_none, and_self, if_true, ContourSt.pub_setTimers, ContourSt.pub_setPub, State.until_ctr]

theorem contourFailsafeDwell_completes (hf : s.ctr.failed.isSome = true) :
    answers .contourFailsafeDwell s fun t => t.ctr.pubC = 0 ∧ t.ctr.pubD = 0 := by
  obtain ⟨x, hx⟩ := Option.isSome_iff_exists.1 hf
  refine answers_onCore hc (by rfl) ?_
  rw [State.finish_ctr]
  simp only [hx, and_self]

theorem tuningTimeout_completes {x : Tuning} (hx : s.tuning = some x) (hm : x.o.method = 1) :
    answers .tuningTimeout s fun t => t.tuning = none ∧ t.now = max s.now (x.startAt + 1000000000 * x.o.timeout) := by
  obtain ⟨u, hu, hun⟩ : ∃ u, u = s.until (x.startAt + ms (1000 * x.o.timeout)) ∧
      u.now = max s.now (x.startAt + 1000000000 * x.o.timeout) := by
    refine ⟨_, rfl, ?_⟩
    have hms : ms (1000 * x.o.timeout) = 1000000000 * x.o.timeout := by unfold ms; omega
    rw [hms]
    rfl
  have hut : u.tuning = some x := by rw [hu]; exact hx
  have hend : (u.tuneAbort 4).tuning = none := by
    have h1 : (u.tuneClose x 4).tuning = none := rfl
    have h2 : ((u.tuneClose x 4).tuneReturn x).tuning = none := by
      unfold State.tuneReturn State.setLoopMode
      exact iteInduction (motive := fun y : State => y.tuning = none) (fun _ => h1) fun _ => h1
    unfold State.tuneAbort
    rw [hut]
    dsimp only
    rw [if_neg (by decide)]
    exact (State.tuning_of_bare (State.raiseOpenEv_bare _ 0x14 3 0 (x.o.slot + 1))).trans h2
  refine answers_onCore hc (by rfl) ?_
  simp only [hx, hm, if_true, State.finish_tuning, State.finish_now, ← hu, hend, true_and]
  have hn : (u.tuneAbort 4).now = u.now := congrArg (·.1) (u.tuneAbort_pace 4)
  rw [hn, hun]
  omega

theorem sysCalMeasurementEnd_completes {n : Nat} {c : SysCal} {a : Nat} {iref : Int}
    (hfind : s.der.sysCal.find? (fun c => decide (c.chan = n) && c.measuring.isSome) = some c) (hm : c.measuring = some (0, a, iref))
    (hk : s.calRefusal c 0 iref = 0) : answers (.sysCalMeasurementEnd n) s fun t =>
      { c with measuring := none, acc := {}, zero := some (c.mean, t.now) } ∈ t.der.sysCal := by
  obtain ⟨f, e, hf, hn⟩ : ∃ (f : State → State) (_ : execSysCalMeasurementEnd n s = onCore s f),
      { c with measuring := none, acc := {}, zero := some (c.mean, max s.now (a + ms 1000)) } ∈ (f s).der.sysCal ∧
      (f s).now = max s.now (a + ms 1000) := by
    refine ⟨_, by unfold execSysCalMeasurementEnd; rfl, ?_⟩
    rw [hfind]
    dsimp -zeta only
    rw [hm]
    dsimp -zeta only
    extract_lets u rest put idle st head
    have hst : st = 0 := hk
    rw [if_neg (by simp [hst]), if_pos rfl]
    obtain ⟨p, hp⟩ := (put u [{ idle with zero := some (c.mean, u.now) }]).respond_form c.host c.pair 0x0108 c.tag St.ok
      (head ++ leBytes 4 0 ++ leBytes 4 0)
    rw [hp]
    constructor
    · rw [State.modPort_der]
      exact List.mem_append_right _ (List.mem_singleton_self _)
    · rw [State.modPort_now]
      rfl
  refine answers_onCore hc e ?_
  have hw : (s.finish (f s)).now = max s.now (a + ms 1000) := by rw [State.finish_now, hn]; omega
  rw [hw, State.finish_der]
  exact hf

theorem controlTick_completes (ht : s.tickDue = true) (ks : List Nat) :
    answers (.controlTick ks) s fun t => t.swp.tick = s.swp.tick + 1 := by
  obtain ⟨f, e, hf⟩ : ∃ (f : State → State) (_ : execControlTick ks s = onC s f), (f s).swp.tick = s.swp.tick + 1 := by
    refine ⟨_, by unfold execControlTick; rfl, ?_⟩
    rw [if_pos ht]
    extract_lets t s1 x s2 halted s3 s4 s5
    have hz {y z : State} (h : y.pace = z.pace) : y.swp.tick = z.swp.tick :=
      congrArg (fun p : Nat × Option Nat × Nat × Bool × Bool × Nat => p.2.2.2.2.2) h
    have h2 : s2.swp.tick = s.swp.tick + 1 := rfl
    clear_value s2
    have h3 : s3.pace = s2.pace := State.ite_pace (s2.raiseOpenEv_pace _ _ _ _)
      ((State.foldNat_pace _ _ (fun t n => t.loopCompute_pace n) _).trans s2.tuneOrphan_pace)
    have h4 : s4.pace = s3.pace := s3.foldNat_pace _ (fun t k => t.coilReading_pace k _) _
    have h4t : s4.swp.tick = s.swp.tick + 1 := (hz (h4.trans h3)).trans h2
    clear_value s4
    refine iteInduction (motive := fun y : State => y.swp.tick = s.swp.tick + 1) (fun _ => h4t) fun _ => ?_
    have h5 : s5.swp = s4.swp := rfl
    rw [hz (State.foldNat_pace _ _ (fun t k => t.fixedDuty_pace k) _), hz (State.foldNat_pace _ _ (fun t k => t.loopApplyOut_pace k) _),
      h5, h4t]
  refine answers_onC hc.1 e ?_
  rw [State.finish_swp]
  exact hf

theorem gazetteerWrite_completes (hp : s.leg.gazPend ≠ []) : answers .gazetteerWrite s fun t =>
    t.leg.gazPend = [] ∧ t.leg.gazSeq = s.leg.gazSeq + s.leg.gazPend.length := by
  have hseq (l : List GazRec) (x : List GazRec × Nat) :
      (l.foldl (fun (x : List GazRec × Nat) e => ({ e with seq := x.2 } :: x.1, x.2 + 1)) x).2 = x.2 + l.length := by
    induction l generalizing x with
    | nil => rfl
    | cons e l ih => rw [List.foldl_cons, ih, List.length_cons]; omega
  refine answers_onC hc.1 (by rfl) ?_
  rw [State.finish_leg, if_neg fun h => hp h.1, State.eventIf_leg]
  dsimp only
  constructor
  · cases s.leg.donePend
    · rfl
    · cases s.leg.useB <;> rfl
  · refine Eq.trans ?_ (hseq s.leg.gazPend (s.leg.gaz, s.leg.gazSeq))
    cases s.leg.donePend
    · rfl
    · cases s.leg.useB <;> rfl

end

end Sys2Proof.Machine
end

section
/-!
SUPPORT. The contactor channels complete (R344, R345, R348, R349, R353): their clauses of O60. What the trip path and an
occurrence of a fault do to a channel is said once.
-/

namespace Sys2Proof.Machine

/-! ### What the trip path does to a channel -/

/-- What the trip path may have made of a channel: it stands, or it was energised and has dropped (R354). -/
def Channel.settles (c c' : Channel) : Prop := c' = c ∨ c.energised = true ∧ ∃ now, c' = c.drop now false

namespace Channel

variable {c c' c'' : Channel}

theorem settles_refl (c : Channel) : c.settles c := .inl rfl

theorem settles_trans (h : c.settles c') (k : c'.settles c'') : c.settles c'' := by
  obtain rfl | ⟨he, now, rfl⟩ := h
  · exact k
  · obtain rfl | ⟨hf, _⟩ := k
    · exact .inr ⟨he, now, rfl⟩
    · rw [State.drop_not_energised] at hf
      cases hf

/-- A channel that is not energised stands. -/
theorem settles_off (h : c.settles c') (hc : c.energised = false) : c' = c := by
  obtain h | ⟨he, _⟩ := h
  · exact h
  · rw [hc] at he
    cases he

theorem settles_pinBad (h : c.settles c') : c'.pinBad = c.pinBad := by
  obtain rfl | ⟨_, now, rfl⟩ := h <;> rfl

end Channel

namespace State

variable (s : State)

theorem settles_of_saf {s t : State} (h : t.saf = s.saf) (n : Nat) : (s.chan n).settles (t.chan n) :=
  .inl (by unfold State.chan; rw [h])

theorem dropAll_settles (n : Nat) : (s.chan n).settles (s.dropAll.chan n) := by
  have h : s.dropAll.chan n = cond (s.chan n).energised ((s.chan n).drop s.now false) (s.chan n) := by
    simp only [State.chan, dropAll_saf, List.getD_eq_getElem?_getD, List.getElem?_map]
    cases s.saf.ch[n]? <;> rfl
  rw [h]
  cases he : (s.chan n).energised
  · exact .inl rfl
  · exact .inr ⟨he, s.now, rfl⟩

theorem evalTrip_settles (n : Nat) : (s.chan n).settles (s.evalTrip.chan n) := by
  unfold State.evalTrip
  dsimp only
  split
  · split <;> exact .inl rfl
  · split
    · exact dropAll_settles _ n
    · refine Channel.settles_trans ?_ (settles_of_saf ((errDrop_saf _).trans (event_saf _ _)) n)
      exact dropAll_settles _ n

theorem enter_saf (o : OpState) : (s.enter o).saf = s.saf := by
  unfold State.enter
  dsimp only
  split
  · rfl
  · rw [cond_keep State.saf _ _ _ (react_saf _ _), cond_keep State.saf _ _ _ (react_saf _ _)]
    refine (cond_keep State.saf _ _ _ (react_saf _ _).symm).trans ((react_saf _ _).trans ?_)
    exact cond_keep State.saf _ _ _ rfl

theorem lock_saf : s.lock.saf = s.saf := by
  unfold State.lock
  split <;> exact enter_saf _ _

theorem tripFallback_saf : s.tripFallback.saf = s.saf := by
  unfold State.tripFallback
  refine foldNat_keep _ _ State.saf (fun t n => ?_) s
  dsimp only
  split <;> rfl

theorem applySev_settles (old : Option Nat) (new n : Nat) : (s.chan n).settles ((s.applySev old new).chan n) := by
  unfold State.applySev
  dsimp only
  refine Channel.settles_trans (settles_of_saf ?_ n) (evalTrip_settles _ n)
  rw [errEval_saf, cond_keep State.saf _ _ _ (enter_saf _ _), cond_keep State.saf _ _ _ (tripFallback_saf _),
    cond_keep State.saf _ _ _ (lock_saf _)]

theorem furtherReaction_saf (x : Source) : (s.furtherReaction x).saf = s.saf := by
  unfold State.furtherReaction; (repeat' split) <;> simp

theorem occur_settles (x : Source) (v : Word) (seen n : Nat) : (s.chan n).settles ((s.occur x v seen).chan n) := by
  unfold State.occur
  extract_lets old new first s1 f1 s2 s3
  have h2 : s2.saf = s.saf := rfl
  have h3 : s3.saf = s.saf := by
    simp only [s3]
    clear_value s2
    cases old.latched
    · exact (event_saf _ _).trans h2
    · exact (cond_keep State.saf _ _ _ (event_saf _ _)).trans h2
  clear_value s3 new old
  exact Channel.settles_trans (settles_of_saf h3 n)
    (Channel.settles_trans (applySev_settles _ _ _ n) (settles_of_saf (furtherReaction_saf _ _) n))

theorem raiseAt_settles (x : Source) (v : Word) (ev : Bool) (seen n : Nat) : (s.chan n).settles ((s.raiseAt x v ev seen).chan n) := by
  unfold State.raiseAt
  split
  · exact .inl rfl
  · extract_lets m x1 s1 x2 s2 s3
    have h1 : s1.saf = s.saf := cond_keep State.saf _ _ _ rfl
    have h3 : s3.saf = s.saf := (logAt_saf _ _ _ _ _ _ _ _).trans ((event_saf _ _).trans h1)
    clear_value s3 m
    cases m
    · exact Channel.settles_trans (settles_of_saf h3 n) (occur_settles _ _ _ _ n)
    · exact settles_of_saf h3 n

theorem raiseOpenAt_settles (x : Source) (ev : Bool) (seen n : Nat) : (s.chan n).settles ((s.raiseOpenAt x ev seen).chan n) := by
  unfold State.raiseOpenAt
  split
  · exact .inl rfl
  · exact raiseAt_settles s x _ ev seen n

theorem finish_settles (t : State) (n : Nat) : (t.chan n).settles ((s.finish t).chan n) := by
  unfold State.finish
  dsimp only
  cases t.pw.running
  · exact .inl rfl
  · exact evalTrip_settles _ n

/-- With no source asserted, the end of a command leaves the channels. -/
theorem finish_chan {t : State} (h : t.tripMask = 0) (n : Nat) : (s.finish t).chan n = t.chan n := by
  have hm : { t with pending := s.pending, now := max s.now t.now }.tripMask = 0 :=
    (tripMask_congr t rfl rfl rfl rfl rfl rfl rfl rfl).trans h
  unfold State.finish
  dsimp only
  cases t.pw.running
  · rfl
  · unfold State.chan
    exact congrArg (·.getD n {}) (evalTrip_quiet _ hm).1

/-- A source that is asserted at the end of a command holds the latch and every drive off (R353, R354). -/
theorem finish_tripped {t : State} (hr : t.pw.running = true) (h : t.tripMask ≠ 0) :
    (s.finish t).saf.tripLatch = true ∧ (s.finish t).saf.armed = false ∧ ∀ n, ((s.finish t).chan n).energised = false := by
  have hm : { t with pending := s.pending, now := max s.now t.now }.tripMask ≠ 0 := by
    rwa [tripMask_congr t (t := { t with pending := s.pending, now := max s.now t.now }) rfl rfl rfl rfl rfl rfl rfl rfl]
  rw [finish_running s t hr]
  obtain ⟨h1, h2, h3⟩ := evalTrip_safe _ hm
  refine ⟨h1, h2, fun n => ?_⟩
  unfold State.chan
  rw [List.getD_eq_getElem?_getD]
  cases hn : (evalTrip { t with pending := s.pending, now := max s.now t.now }).saf.ch[n]? with
  | none => rfl
  | some c => exact h3 c (List.mem_of_getElem? hn)

/-- At rest, a channel that is energised means that no source is asserted. -/
theorem quiet_of_energised {s : State} (h : s.atRest) {n : Nat} (hn : n < s.saf.ch.length) (he : (s.chan n).energised = true) :
    s.tripMask = 0 := by
  obtain ⟨_, h1, _⟩ := h
  by_contra hm
  have hall := List.all_eq_true.1 (h1 hm).2.2 (s.chan n) (by
    unfold State.chan
    rw [List.getD_eq_getElem _ _ hn]
    exact List.getElem_mem hn)
  rw [he] at hall
  cases hall

/-- A change of a channel alone is none that the trip path's sources see. -/
theorem modChan_tripMask (n : Nat) (f : Channel → Channel) : (s.modChan n f).tripMask = s.tripMask :=
  tripMask_congr s rfl rfl rfl rfl rfl rfl rfl rfl

/-- A channel whose own fault has been raised is not energised. -/
theorem chanFault_off (n cls sub : Nat) (hn : n < s.saf.ch.length) : ((s.chanFault n cls sub).chan n).energised = false := by
  unfold State.chanFault
  extract_lets c s1
  have h1 : (s1.chan n).energised = false := by
    simp only [s1, chan_modChan_self s n _ hn]
    split
    · exact drop_not_energised _ _ _
    · next he =>
      split
      · exact (Bool.not_eq_true _).mp he
      · rfl
  clear_value s1
  have h2 : ((s1.eventIf (decide ((s1.chan n).phase ≠ c.phase)) Ev.cont).chan n) = s1.chan n := by
    unfold State.chan; rw [eventIf_saf]
  have h3 := raiseOpenAt_settles (s1.eventIf (decide ((s1.chan n).phase ≠ c.phase)) Ev.cont) ⟨cls, sub, 0, chanDetail n⟩ true
    (s1.eventIf (decide ((s1.chan n).phase ≠ c.phase)) Ev.cont).sweep n
  rw [h2] at h3
  have h4 := Channel.settles_off h3 h1
  unfold State.raiseOpenEv
  rw [h4, h1]

theorem chanFault_pinBad (n cls sub : Nat) (hn : n < s.saf.ch.length) :
    ((s.chanFault n cls sub).chan n).pinBad = (s.chan n).pinBad := by
  unfold State.chanFault
  extract_lets c s1
  have h1 : (s1.chan n).pinBad = (s.chan n).pinBad := by
    simp only [s1, chan_modChan_self s n _ hn]
    split
    · rfl
    · split <;> rfl
  clear_value s1
  refine (Channel.settles_pinBad (raiseOpenAt_settles _ _ _ _ n)).trans (Eq.trans ?_ h1)
  unfold State.chan
  rw [eventIf_saf]

theorem chanFault_hasCause (n cls sub : Nat) : (s.chanFault n cls sub).hasCause ⟨cls, sub, 0, n + 1⟩ = true :=
  raiseOpenAt_hasCause _ _ _ _

end State

/-! ### The clauses -/

theorem Channel.energised_of_pull {c : Channel} (h : c.phase = .pull) : c.energised = true := by
  unfold Channel.energised; rw [h]; rfl

theorem Channel.off_of_drop {c : Channel} (h : c.phase = .drop) : c.energised = false := by
  unfold Channel.energised; rw [h]; rfl

section
variable {s : State} (hr : s.pw.running = true) {n : Nat} (hn : n < s.saf.ch.length)
include hr hn

theorem kfRecognised_completes {level : Bool} (ha : s.atRest) (hu : s.contUse n = true) (hp : (s.chan n).phase = .pull)
    (hk : (s.chan n).kf = false) (hl : (level != bit (s.par Fld.contCfg n) 1) = true) (ht : s.now - (s.chan n).t0 < s.tPi n) :
    answers (.kfRecognised n level) s fun t => (t.chan n).kf = true ∧ (t.chan n).holdAt = some (s.now + s.tHd n) := by
  have hm := State.quiet_of_energised ha hn (Channel.energised_of_pull hp)
  obtain ⟨f, e, g, hg, hf⟩ : ∃ (f : State → State) (_ : execKfRecognised n level s = onC s f) (g : Channel → Channel)
      (_ : ∀ c, (g c).kf = c.kf ∧ (g c).holdAt = some (s.now + s.tHd n)),
      f s = (s.modChan n fun c => { c with kf := true }).modChan n g := by
    refine ⟨_, by unfold execKfRecognised; rfl,
      fun c => { c with holdAt := some (s.now + s.tHd n), tpi := min ((s.now - (s.chan n).t0) / 1000000) 511 }, fun _ => ⟨rfl, rfl⟩, ?_⟩
    extract_lets c closed s1 dt
    have hcl : closed = true := hl
    rw [if_neg (by simp [hu, hcl, c, hk]), if_pos hcl]
    simp only [c, hp]
    rw [if_pos (show dt < s1.tPi n from ht)]
    simp only [s1, hcl]
    rfl
  refine answers_onC hr e ?_
  rw [State.finish_chan s (by rw [hf, State.modChan_tripMask, State.modChan_tripMask, hm]), hf, State.chan_modChan_self _ _ _ ?_,
    State.chan_modChan_self _ _ _ hn]
  · exact hg _
  · simpa [State.modChan, modAt] using hn

theorem pullInTimeout_completes (hp : (s.chan n).phase = .pull) (hh : (s.chan n).holdAt = none) :
    answers (.pullInTimeout n) s fun t => (t.chan n).energised = false ∧ t.hasCause ⟨0x11, 1, 0, n + 1⟩ = true := by
  refine answers_onC hr (by rfl) ?_
  rw [if_pos ⟨hp, hh⟩, State.finish_hasCause]
  have hoff := State.chanFault_off ((s.until ((s.chan n).t0 + s.tPi n)).modChan n fun c => { c with
    tpi := min ((s.until ((s.chan n).t0 + s.tPi n)).tPi n / 1000000) 511 }) n 0x11 1 (by simpa [State.modChan, modAt] using hn)
  exact ⟨(congrArg Channel.energised (Channel.settles_off (State.finish_settles s _ n) hoff)).trans hoff, State.chanFault_hasCause _ n 0x11 1⟩

theorem holdDelayEnd_completes (ha : s.atRest) (hp : (s.chan n).phase = .pull) (hh : (s.chan n).holdAt ≠ none) (hk : (s.chan n).kf = true) :
    answers (.holdDelayEnd n) s fun t => (t.chan n).phase = .hold := by
  have hm := State.quiet_of_energised ha hn (Channel.energised_of_pull hp)
  obtain ⟨a, ha⟩ := Option.ne_none_iff_exists'.1 hh
  refine answers_onC hr (by rfl) ?_
  simp only [hp, ha]
  obtain ⟨u, hu, hc, hum⟩ : ∃ u, u = ((s.until a).modChan n fun c => { c with phase := .hold, holdAt := none }).event Ev.cont ∧
      u.chan n = { s.chan n with phase := .hold, holdAt := none } ∧ u.tripMask = s.tripMask :=
    ⟨_, rfl, State.chan_modChan_self (s.until a) n _ hn, State.tripMask_congr s rfl rfl rfl rfl rfl rfl rfl rfl⟩
  rw [← hu, if_pos (by rw [hc]; exact hk), State.finish_chan s (hum.trans hm), hc]

theorem dropOutTimeout_completes (hp : (s.chan n).phase = .drop) (hw : (s.chan n).welded = false) :
    answers (.dropOutTimeout n) s fun t => (t.chan n).welded = true ∧ t.hasCause ⟨0x12, 1, 0, n + 1⟩ = true := by
  refine answers_onC hr (by rfl) ?_
  rw [if_pos ⟨hp, hw⟩, State.finish_hasCause]
  refine ⟨?_, State.raiseOpenAt_hasCause _ _ _ _⟩
  obtain ⟨u, hu, hc⟩ : ∃ u, u = (s.until ((s.chan n).t0 + s.tDo n)).modChan n (fun c => { c with
        welded := true, tdo := min (s.tDo n / 2000000) 127 }) ∧
      u.chan n = { s.chan n with welded := true, tdo := min (s.tDo n / 2000000) 127 } :=
    ⟨_, rfl, State.chan_modChan_self (s.until _) n _ hn⟩
  have hoff : (u.chan n).energised = false := by rw [hc]; exact Channel.off_of_drop hp
  rw [← hu]
  have h := Channel.settles_trans (State.raiseOpenAt_settles u ⟨0x12, 1, 0, chanDetail n⟩ true u.sweep n) (State.finish_settles s _ n)
  exact (congrArg Channel.welded (Channel.settles_off h hoff)).trans (by rw [hc])

theorem coilCurrentTimeout_completes (hu : s.contUse n = true) (he : (s.chan n).energised = true) (hl : (s.chan n).lowAt ≠ none) :
    answers (.coilCurrentTimeout n) s fun t => (t.chan n).energised = false ∧ t.hasCause ⟨0x13, 1, 0, n + 1⟩ = true := by
  obtain ⟨a, ha⟩ := Option.ne_none_iff_exists'.1 hl
  refine answers_onC hr (by rfl) ?_
  simp only [hu, he, ha, if_true, Bool.true_eq_false, if_false, State.finish_hasCause]
  have hoff := State.chanFault_off (s.until (a + ms 20)) n 0x13 1 hn
  exact ⟨(congrArg Channel.energised (Channel.settles_off (State.finish_settles s _ n) hoff)).trans hoff, State.chanFault_hasCause _ n 0x13 1⟩

theorem coilPinMismatch_completes (hu : s.contUse n = true) :
    answers (.coilPinMismatch n true) s fun t => (t.chan n).pinBad = true ∧ t.hasCause ⟨0x13, 4, 0, n + 1⟩ = true := by
  refine answers_onC hr (by rfl) ?_
  rw [if_neg (by simp), if_pos hu, State.finish_hasCause]
  refine ⟨?_, State.chanFault_hasCause _ n 0x13 4⟩
  rw [Channel.settles_pinBad (State.finish_settles s _ n), State.chanFault_pinBad _ n _ _ (by simpa [State.modChan, modAt] using hn),
    State.chan_modChan_self s n _ hn]

theorem coilPinMatch_completes : answers (.coilPinMismatch n false) s fun t => (t.chan n).pinBad = false := by
  refine answers_onC hr (by rfl) ?_
  rw [if_pos rfl, Channel.settles_pinBad (State.finish_settles s _ n), State.chan_modChan_self s n _ hn]

omit hn in
theorem tripSourceAssert_completes {src : TripSource} (ht : s.tripBit src = true) : answers (.tripSourceAssert src) s fun t =>
    t.saf.tripLatch = true ∧ t.saf.armed = false ∧ (t.chan n).energised = false := by
  have hbit {t : State} (h : t.tripBit src = true) : t.tripMask ≠ 0 := fun hz => by
    unfold State.tripBit at h
    rw [hz] at h
    cases src <;> simp at h
  obtain ⟨f, e, hf, hrun⟩ : ∃ (f : State → State) (_ : execTripSourceAssert src s = onC s f),
      (f s).tripMask ≠ 0 ∧ (f s).pw.running = true := by
    refine ⟨_, by unfold execTripSourceAssert; rfl, ?_⟩
    have hev {u : State} {c : Bool} (hm : u.tripMask ≠ 0) (hu : u.pw.running = true) :
        (if c = true then u.evalTrip else u).tripMask ≠ 0 ∧ (if c = true then u.evalTrip else u).pw.running = true := by
      split
      · rw [State.evalTrip_tripMask, State.evalTrip_pw]
        exact ⟨hm, hu⟩
      · exact ⟨hm, hu⟩
    split
    · exact hev (State.tripMask_of_sErr _ rfl) hr
    · exact hev (hbit ht) hr
  refine answers_onC hr e ?_
  obtain ⟨h1, h2, h3⟩ := State.finish_tripped s hrun hf
  exact ⟨h1, h2, h3 n⟩

end

end Sys2Proof.Machine
end

section
/-!
SUPPORT. The safety inputs and RESTART complete (R358, R359, R363 to R365): their clauses of O60.
-/

namespace Sys2Proof.Machine

namespace State

variable (s : State)

theorem input_modInput_self (i : Nat) (f : SafeIn → SafeIn) (h : i < s.saf.inputs.length) :
    (s.modInput i f).input i = f (s.input i) := by
  simp only [State.input, State.modInput, getD_modAt, h, and_self, if_true]

theorem modInput_inputs_length (i : Nat) (f : SafeIn → SafeIn) : (s.modInput i f).saf.inputs.length = s.saf.inputs.length := by
  simp [State.modInput, modAt]

theorem input_of_bare {s t : State} (h : t.bare = s.bare) (i : Nat) : t.input i = s.input i := by
  have e := congrArg (fun t : State => t.saf.inputs) h
  exact congrArg (·.getD i {}) e

theorem siRole_of_bare {s t : State} (h : t.bare = s.bare) (i : Nat) : t.siRole i = s.siRole i := by
  unfold State.siRole State.siWord State.par
  rw [leg_of_bare h]

theorem lt_of_input {s : State} {i : Nat} (h : s.input i ≠ {}) : i < s.saf.inputs.length := by
  by_contra hn
  exact h (List.getD_eq_default _ _ (Nat.le_of_not_lt hn))

/-! ### What the session's frames touch -/

/-- Placing a safe frame touches a response queue and a port alone (R371). -/
theorem placeSafe_keep {β : Type} (g : State → β) (hq : ∀ t q f, g (State.modQueue t q f) = g t)
    (hp : ∀ t h f, g (State.modPort t h f) = g t) (h : HostId) : g (s.placeSafe h) = g s := by
  unfold State.placeSafe
  split
  · rfl
  · dsimp only
    refine iteInduction (motive := fun y : State => g y = g s) (fun _ => rfl) fun _ => ?_
    exact (hp _ _ _).trans ((hp _ _ _).trans ((hp _ _ _).trans (hq _ _ _)))

/-- Forming a safe frame takes a sequence number, and touches a response queue and a port (R371). -/
theorem formFrame_keep {β : Type} (g : State → β) (hq : ∀ t q f, g (State.modQueue t q f) = g t)
    (hp : ∀ t h f, g (State.modPort t h f) = g t) (type : Nat) (payload : List Byte) :
    g (s.formFrame type payload) = g { s with ses := { s.ses with ownSeq := (s.ses.ownSeq + 1) % 65536 } } := by
  unfold State.formFrame
  extract_lets b frame h x u
  cases (u.port h).frozen
  · exact (placeSafe_keep _ g hq hp h).trans (hp _ _ _)
  · rfl

@[simp] theorem formFrame_saf (type : Nat) (payload : List Byte) : (s.formFrame type payload).saf = s.saf :=
  s.formFrame_keep State.saf (fun _ _ _ => rfl) (fun _ _ _ => modPort_saf _ _ _) type payload

@[simp] theorem formFrame_ses (type : Nat) (payload : List Byte) :
    (s.formFrame type payload).ses = { s.ses with ownSeq := (s.ses.ownSeq + 1) % 65536 } :=
  s.formFrame_keep State.ses (fun _ _ _ => rfl) (fun _ _ _ => modPort_ses _ _ _) type payload

@[simp] theorem formFrame_flt (type : Nat) (payload : List Byte) : (s.formFrame type payload).flt = s.flt :=
  s.formFrame_keep State.flt (fun _ _ _ => rfl) (fun _ _ _ => modPort_flt _ _ _) type payload

@[simp] theorem setSession_saf (st : SState) : (s.setSession st).saf = s.saf := by unfold State.setSession; split <;> rfl

@[simp] theorem setSession_flt (st : SState) : (s.setSession st).flt = s.flt := by unfold State.setSession; split <;> rfl

@[simp] theorem setSession_ses (st : SState) : (s.setSession st).ses = { s.ses with st := st } := by
  unfold State.setSession
  split
  · next h => rw [← h]
  · rfl

@[simp] theorem newSession_saf : s.newSession.saf = s.saf := by simp [State.newSession, State.formConnect]

@[simp] theorem newSession_flt : s.newSession.flt = s.flt := by simp [State.newSession, State.formConnect]

theorem newSession_st : s.newSession.ses.st = .connecting := by simp [State.newSession, State.formConnect]

theorem newSession_reconnectAt : s.newSession.ses.reconnectAt = none := by simp [State.newSession, State.formConnect]

theorem couple_coupled : s.couple.saf.coupled = true := by
  unfold State.couple
  dsimp only
  split
  · rw [newSession_saf]
  · rfl

/-! ### The inputs as trip sources -/

/-- The end of a command leaves the inputs. -/
@[simp] theorem finish_input (t : State) (i : Nat) : (s.finish t).input i = t.input i := by
  unfold State.input; rw [finish_saf_inputs]

/-- A TRIP input that is not active is a trip source (R353, R358). -/
theorem tripMask_of_input {i : Nat} (hi : i < 4) (hro : s.siRole i = 1) (ha : (s.input i).act = false) : s.tripMask ≠ 0 := by
  have hsum : 0 < ((List.range 4).map (fun i => cond (decide (s.siRole i = 1) && !(s.input i).act) (2 ^ (i + 1)) 0)).foldl (· + ·) 0 := by
    rw [← List.sum_eq_foldl]
    refine List.sum_pos_iff_exists_pos_nat.2 ⟨2 ^ (i + 1), List.mem_map.2 ⟨i, List.mem_range.2 hi, ?_⟩, by positivity⟩
    rw [hro, ha]
    rfl
  unfold State.tripMask
  omega

/-- A TRIP input that becomes SAFE only changes its own levels (R358). -/
theorem siSafe_eq {i : Nat} (hro : s.siRole i ≠ 2) : s.siSafe i = s.modInput i fun x => { x with act := false } := by
  unfold State.siSafe
  exact if_neg fun h => hro h.1

theorem siSafe_disc (i : Nat) (hro : s.siRole i ≠ 2) (hi : i < s.saf.inputs.length) : ((s.siSafe i).input i).disc = (s.input i).disc := by
  rw [siSafe_eq s hro, input_modInput_self s i _ hi]

end State

section
variable {s : State} (hr : s.pw.running = true) {i n : Nat} (hi : i < s.saf.inputs.length)
include hr hi

theorem safetyChannelRecognised_completes {c : SiChan} {level : Bool} {u : State} {lev : SafeIn → SafeIn} (hu : u = s.modInput i lev)
    (hlev : ∀ x, (c = .A → lev x = { x with a := level }) ∧ (c = .B → lev x = { x with b := level }))
    (hb : s.siActive i = (true, true)) (hd : (u.siActive i).1 ≠ (u.siActive i).2) (h4 : i < 4)
    (hro : s.siRole i = 1) : answers (.safetyChannelRecognised i c level) s fun t =>
      (t.input i).act = false ∧ t.saf.tripLatch = true := by
  have hul : i < u.saf.inputs.length := by rw [hu, State.modInput_inputs_length]; exact hi
  have hur : u.siRole i = 1 := by rw [hu]; exact hro
  have hurun : u.pw.running = true := by rw [hu]; exact hr
  obtain ⟨w, hwr, hwa, hwrun, hbare, hst⟩ : ∃ w : State, w.siRole i = 1 ∧ (w.input i).act = false ∧ w.pw.running = true ∧
      (s.siChange i c level).bare = w.bare ∧ (s.siChange i c level).steady = w.steady := by
    unfold State.siChange
    extract_lets before u' after was v lost w
    have hbef : before = (true, true) := hb
    have huu : u' = u := by
      rw [hu]
      refine congrArg (s.modInput i) (funext fun x => ?_)
      cases c
      · exact ((hlev x).1 rfl).symm
      · exact ((hlev x).2 rfl).symm
    clear_value before u'
    subst u'
    have hne : ¬ before = after := fun h => hd (by
      have hua : u.siActive i = (true, true) := h.symm.trans hbef
      rw [hua])
    rw [if_neg hne, if_pos (show after.1 ≠ after.2 from hd)]
    have hvr : v.siRole i = 1 := hur
    have hvrun : v.pw.running = true := hurun
    have hvl : i < v.saf.inputs.length := by rw [State.modInput_inputs_length]; exact hul
    clear_value v lost
    have hw : w = v.modInput i fun x => { x with act := false } := State.siSafe_eq v (by omega)
    refine ⟨w, by rw [hw]; exact hvr, by rw [hw, State.input_modInput_self v i _ hvl], by rw [hw]; exact hvrun, ?_, ?_⟩
    · exact State.cond_keep State.bare _ _ _ (State.raiseOpenAt_bare _ _ _ _)
    · exact State.cond_keep State.steady _ _ _ (State.raiseOpenAt_steady _ _ _ _)
  obtain ⟨f, e, hfb, hfs⟩ : ∃ (f : State → State) (_ : execSafetyChannelRecognised i c level s = onC s f),
      (f s).bare = w.bare ∧ (f s).steady = w.steady := by
    refine ⟨_, by unfold execSafetyChannelRecognised; rfl, ?_⟩
    dsimp only
    rw [State.evalTrip_bare, State.eventIf_bare, State.evalTrip_steady, State.eventIf_steady]
    exact ⟨hbare, hst⟩
  have hact : ((f s).input i).act = false := (congrArg SafeIn.act (State.input_of_bare hfb i)).trans hwa
  have hrun : (f s).pw.running = true := by
    have h := congrArg PowerSt.running (State.pw_of_steady hfs)
    exact h.trans hwrun
  refine answers_onC hr e ⟨by rw [State.finish_input]; exact hact, ?_⟩
  exact (State.finish_tripped s hrun ((f s).tripMask_of_input h4 ((State.siRole_of_bare hfb i).trans hwr) hact)).1

theorem safeinDiscrepancyTimeout_completes (ha : (s.input i).discAt = some n) (hro : i < 4 ∧ s.siRole i = 1 ∨ i = 4 ∧ s.siRole 4 ≠ 2) :
    answers (.safeinDiscrepancyTimeout i) s fun t => (t.input i).disc = true ∧ t.hasCause ⟨0x10, 1, 0, i + 1⟩ = true := by
  refine answers_onC hr (by rfl) ?_
  simp only [ha]
  have h2 : s.siRole i ≠ 2 := by
    obtain ⟨_, h⟩ | ⟨rfl, h⟩ := hro
    · omega
    · exact h
  have hc : (decide (i = 4) || decide (s.siRole i ≠ 0)) = true := by
    obtain ⟨_, h⟩ | ⟨rfl, _⟩ := hro <;> simp [*]
  obtain ⟨u, hu, hd⟩ : ∃ u : State, (s.until (n + s.siTd i)).siDiscrepancy i = u.raiseOpen 0x10 1 0 (i + 1) ∧ (u.input i).disc = true := by
    unfold State.siDiscrepancy
    extract_lets v w
    have hv : v.siRole i = s.siRole i := rfl
    have hw : w.siRole i = s.siRole i := by
      simp only [w, State.siSafe_eq v (hv ▸ h2)]
      exact hv
    refine ⟨w, ?_, ?_⟩
    · rw [hw, hc, cond_true]
    · rw [State.siSafe_disc v i (hv ▸ h2) (by rw [State.modInput_inputs_length]; exact hi)]
      exact congrArg SafeIn.disc (State.input_modInput_self (s.until _) i _ hi)
  rw [hu]
  constructor
  · rw [State.finish_input]
    have hb : (((u.raiseOpen 0x10 1 0 (i + 1)).event Ev.sin).evalTrip).bare = u.bare := by
      rw [State.evalTrip_bare, State.event_bare]
      exact State.raiseOpenAt_bare _ _ _ _
    rw [State.input_of_bare hb]
    exact hd
  · rw [State.finish_hasCause]
    unfold State.hasCause
    rw [State.evalTrip_flt_causes]
    exact State.raiseOpenAt_hasCause u _ _ _

omit hi in
theorem restartIdleTimer_completes (ha : (s.input 4).safeAt = some n) (hs : s.siNone 4 = true) (hd : (s.input 4).idle = false) :
    answers .restartIdleTimer s fun t => (t.input 4).idle = true := by
  have hi := State.lt_of_input (s := s) (i := 4) fun h => by rw [h] at ha; cases ha
  refine answers_onC hr (by rfl) ?_
  simp only [ha, hs, hd, and_self, if_true, State.finish_input]
  exact congrArg SafeIn.idle (State.input_modInput_self (s.until _) 4 _ hi)

omit hi in
theorem restartStuck_completes (ha : (s.input 4).pressedAt = some n) (hs : s.siBoth 4 = true) :
    answers .restartStuck s fun t => (t.input 4).stuck = true := by
  have hi := State.lt_of_input (s := s) (i := 4) fun h => by rw [h] at ha; cases ha
  refine answers_onC hr (by rfl) ?_
  simp only [ha, hs, if_true, State.finish_input]
  refine (congrArg SafeIn.stuck (State.input_of_bare (State.raiseOpenAt_bare _ _ _ _) 4)).trans ?_
  exact congrArg SafeIn.stuck (State.input_modInput_self (s.until _) 4 _ hi)

omit hi in
theorem couplingTimer_completes (ha : s.saf.cplAt = some n) (hc : s.saf.coupled = false) :
    answers .couplingTimer s fun t => t.saf.coupled = true := by
  refine answers_onC hr (by rfl) ?_
  simp only [ha, hc, Bool.false_eq_true, if_false, State.finish_saf_coupled]
  exact State.couple_coupled _

end

end Sys2Proof.Machine
end

section
/-!
SUPPORT. The session and the SENT channels complete (R372, R374, R375, R387, R536, R538): their clauses of O60.
-/

namespace Sys2Proof.Machine

/-! ### The session -/

namespace State

variable (s : State)

@[simp] theorem formFrame_now (type : Nat) (payload : List Byte) : (s.formFrame type payload).now = s.now :=
  s.formFrame_keep State.now (fun _ _ _ => rfl) (fun _ _ _ => modPort_now _ _ _) type payload

/-- A failed session is reported, and a new one begins where the combination is coupled (R374, R375). -/
theorem failSession_ends (sub detail : Nat) :
    (s.failSession sub detail).hasCause ⟨0x15, sub, 0, detail⟩ = true ∧
    (s.failSession sub detail).ses.st = if s.saf.coupled then .connecting else .failed := by
  unfold State.failSession
  extract_lets u v
  have hu : u.hasCause ⟨0x15, sub, 0, detail⟩ = true := raiseAt_hasCause _ _ _ _ _
  have hc : v.saf.coupled = s.saf.coupled := by
    rw [setSession_saf]
    have h := congrArg SafetySt.coupled (saf_of_bare (raiseAt_bare s ⟨0x15, sub, 0, detail⟩ (word s.ses.number) false s.sweep))
    exact h
  have hv : v.hasCause ⟨0x15, sub, 0, detail⟩ = true := by
    unfold State.hasCause
    rw [setSession_flt]
    exact hu
  have hst : v.ses.st = .failed := by rw [setSession_ses]
  clear_value v
  rw [← hc]
  cases v.saf.coupled
  · exact ⟨hv, hst⟩
  · refine ⟨?_, v.newSession_st⟩
    unfold State.hasCause
    rw [cond_true, newSession_flt]
    exact hv

end State

section
variable {s : State} (hc : s.coreUp)
include hc

theorem safeFrameSendTimer_completes (hs : s.ses.st = .connecting ∨ s.ses.st = .accepted) :
    answers .safeFrameSendTimer s fun t => t.ses.ownSeq = (s.ses.ownSeq + 1) % 65536 ∧ t.ses.sentAt = t.now := by
  refine answers_onCore hc (by rfl) ?_
  obtain h | h := hs
  · simp [h, State.formConnect]
  · simp [h, State.formStatus]

theorem safeFrameTimeExpectation_completes (hs : s.ses.st = .accepted) : answers .safeFrameTimeExpectation s fun t =>
    t.hasCause ⟨0x15, 6, 0, hostNum s.sfHost⟩ = true ∧ t.ses.st = (if s.saf.coupled then .connecting else .failed) := by
  refine answers_onCore hc (by rfl) ?_
  rw [if_pos hs, State.finish_hasCause, State.finish_ses]
  exact State.failSession_ends (s.until _) 6 _

theorem safeFrameConnectLimit_completes (hs : s.ses.st = .connecting) : answers .safeFrameConnectLimit s fun t =>
    t.hasCause ⟨0x15, 7, 0, hostNum s.sfHost⟩ = true ∧ t.ses.st = (if s.saf.coupled then .connecting else .failed) := by
  refine answers_onCore hc (by rfl) ?_
  rw [if_pos hs, State.finish_hasCause, State.finish_ses]
  exact State.failSession_ends (s.until _) 7 _

theorem sessionReconnectDelay_completes (h : s.ses.reconnectAt ≠ none) :
    answers .sessionReconnectDelay s fun t => t.ses.reconnectAt = none := by
  obtain ⟨n, hn⟩ := Option.ne_none_iff_exists'.1 h
  refine answers_onCore hc (by rfl) ?_
  simp only [hn, State.finish_ses]
  split
  · exact State.newSession_reconnectAt _
  · rfl

end

/-! ### The SENT channels -/

namespace State

variable (s : State)

theorem sentCh_modSent_self (n : Nat) (f : SentCh → SentCh) (h : n < s.sent.length) : (s.modSent n f).sentCh n = f (s.sentCh n) := by
  simp only [State.sentCh, State.modSent, getD_modAt, h, and_self, if_true]

/-- What no field of `f` touches is kept at every channel. -/
theorem sentCh_modSent_keep {β : Type} (g : SentCh → β) (n m : Nat) (f : SentCh → SentCh) (hf : ∀ c, g (f c) = g c) :
    g ((s.modSent m f).sentCh n) = g (s.sentCh n) := by
  simp only [State.sentCh, State.modSent, getD_modAt]
  split
  · exact hf _
  · rfl

theorem sentCh_of_bare {s t : State} (h : t.bare = s.bare) (n : Nat) : t.sentCh n = s.sentCh n := by
  unfold State.sentCh; rw [sent_of_bare h]

@[simp] theorem sentCh_finish (t : State) (n : Nat) : (s.finish t).sentCh n = t.sentCh n := by
  unfold State.sentCh; rw [finish_sent]

theorem sentRaise_bare (n sub : Nat) : (s.sentRaise n sub).bare = s.bare := raiseOpenAt_bare _ _ _ _

theorem sentClear_bare (n sub : Nat) : (s.sentClear n sub).bare = s.bare := clearAt_bare _ _ _

theorem chSample_sent (i : Nat) (code : Int) (inv : Bool) : (s.chSample i code inv).sent = s.sent := by
  unfold State.chSample; split <;> rfl

theorem chInvalid_sent (i : Nat) : (s.chInvalid i).sent = s.sent := by
  unfold State.chInvalid; split <;> rfl

theorem sentInvalid_sent (n : Nat) : (s.sentInvalid n).sent = s.sent := by
  unfold State.sentInvalid
  split
  · exact (chInvalid_sent _ _).trans (chInvalid_sent _ _)
  · rfl

/-- What a SENT channel keeps of its last message. -/
def heard (s : State) (n : Nat) : Nat × Nat := ((s.sentCh n).lastAt, (s.sentCh n).good)

theorem heard_of_sent {s t : State} (h : t.sent = s.sent) (n : Nat) : t.heard n = s.heard n := by
  unfold State.heard State.sentCh; rw [h]

theorem isentJudge_heard (n m : Nat) (ma : Int) : (s.isentJudge m ma).heard n = s.heard n := by
  unfold State.isentJudge
  extract_lets dis chg u c v w
  have hu : u.heard n = s.heard n := sentCh_modSent_keep s (fun c => (c.lastAt, c.good)) n m _ fun c => rfl
  have hv : v.heard n = u.heard n := iteInduction (motive := fun y : State => y.heard n = u.heard n)
    (fun _ => heard_of_sent (sent_of_bare (raiseAt_bare _ _ _ _ _)) n) fun _ => rfl
  have hw : w.heard n = v.heard n := iteInduction (motive := fun y : State => y.heard n = v.heard n)
    (fun _ => heard_of_sent (sent_of_bare (raiseAt_bare _ _ _ _ _)) n) fun _ => rfl
  refine (iteInduction (motive := fun y : State => y.heard n = w.heard n) (fun _ => ?_) fun _ => rfl).trans (hw.trans (hv.trans hu))
  exact heard_of_sent ((sent_of_bare (clearAt_bare _ _ _)).trans (sent_of_bare (clearAt_bare _ _ _))) n

theorem sentSample_heard (n i raw : Nat) : (s.sentSample i raw).heard n = s.heard n := by
  unfold State.sentSample
  extract_lets u ma v x w
  have hu : u.sent = s.sent := rfl
  refine iteInduction (motive := fun y : State => y.heard n = s.heard n) (fun _ => ?_) fun _ => ?_
  · rw [isentJudge_heard]
    have hv : v.sent = u.sent := chSample_sent _ _ _ _
    exact heard_of_sent (hv.trans hu) n
  · exact heard_of_sent ((chSample_sent _ _ _ _).trans hu) n

end State

section
variable {s : State} (hr : s.pw.running = true) {n : Nat} (h8 : n < 8) (hn : n < s.sent.length)
include hr h8 hn

theorem sentMessage_completes {m : SentMsg} (hu : s.sentUse n = true) (hk : s.sentCheck n m = 0) :
    answers (.sentMessage n m) s fun t => (t.sentCh n).lastAt = s.now ∧ (t.sentCh n).good = (s.sentCh n).good + 1 := by
  obtain ⟨f, e, hf⟩ : ∃ (f : State → State) (_ : execSentMessage n m s = onC s f),
      (f s).heard n = (s.now, (s.sentCh n).good + 1) := by
    refine ⟨_, by unfold execSentMessage; rfl, ?_⟩
    rw [if_neg (by simp [hu]; omega)]
    extract_lets k lim u0 u1 v st u c u2 u3 u4 u5 u6
    rw [if_neg (by simp [k, hk])]
    have hc (t : State) (j : Nat) : (t.sentClear n j).heard n = t.heard n := State.heard_of_sent (State.sent_of_bare (t.sentClear_bare n j)) n
    have h1 : u.heard n = (s.now, (s.sentCh n).good + 1) := by
      unfold State.heard
      rw [State.sentCh_modSent_self s n _ hn]
    have h2 : u2.heard n = u.heard n := hc _ _
    have h3 : u3.heard n = u2.heard n := iteInduction (motive := fun y : State => y.heard n = u2.heard n) (fun _ => hc _ _) fun _ => rfl
    have h4 : u4.heard n = u3.heard n := iteInduction (motive := fun y : State => y.heard n = u3.heard n)
      (fun _ => State.heard_of_sent (State.sent_of_bare (u3.sentRaise_bare n 4)) n) fun _ =>
      iteInduction (motive := fun y : State => y.heard n = u3.heard n) (fun _ => hc _ _) fun _ => rfl
    have h5 : u5.heard n = u4.heard n := State.sentSample_heard _ _ _ _
    have h6 : u6.heard n = u5.heard n := iteInduction (motive := fun y : State => y.heard n = u5.heard n) (fun _ => rfl)
      fun _ => State.sentSample_heard _ _ _ _
    rw [State.heard_of_sent (State.sentInvalid_sent _ _) n, h6, h5, h4, h3, h2, h1]
  refine answers_onC hr e ?_
  rw [State.sentCh_finish]
  exact ⟨congrArg Prod.fst hf, congrArg Prod.snd hf⟩

omit hn in
theorem sentTimeout_completes (hu : s.sentUse n = true) (ho : (s.sentCh n).offAt = none) :
    answers (.sentTimeout n) s fun t => t.hasCause ⟨0x0F, 2, 0, n + 1⟩ = true := by
  have hinv (t : State) : (t.sentInvalid n).flt = t.flt := by
    have hch (t : State) (i : Nat) : (t.chInvalid i).flt = t.flt := by unfold State.chInvalid; split <;> rfl
    unfold State.sentInvalid
    split
    · exact (hch _ _).trans (hch _ _)
    · rfl
  refine answers_onC hr (by rfl) ?_
  rw [State.finish_hasCause]
  refine iteInduction (motive := fun y : State => y.hasCause ⟨0x0F, 2, 0, n + 1⟩ = true) (fun _ => ?_) fun h => ?_
  · unfold State.hasCause
    rw [hinv]
    exact State.raiseOpenAt_hasCause _ _ _ _
  · by_contra hc
    exact h ⟨hu, h8, ho, by simpa [State.sentCause] using hc⟩

omit h8 in
theorem sentSupplyLimit_completes (hs : (s.sentCh n).supply = true) :
    answers (.sentSupplyLimit n) s fun t => (t.sentCh n).limited = true ∧ t.hasCause ⟨0x0F, 3, 0, n + 1⟩ = true := by
  refine answers_onC hr (by rfl) ?_
  rw [if_pos hs, State.finish_hasCause, State.sentCh_finish, State.sentCh_of_bare (State.sentRaise_bare _ _ _),
    State.sentCh_modSent_self s n _ hn]
  exact ⟨rfl, State.raiseOpenAt_hasCause _ _ _ _⟩

omit h8 in
theorem sentSupplyOn_completes (ho : (s.sentCh n).offAt ≠ none) :
    answers (.sentSupplyOn n) s fun t => (t.sentCh n).offAt = none := by
  obtain ⟨a, ha⟩ := Option.ne_none_iff_exists'.1 ho
  refine answers_onC hr (by rfl) ?_
  simp only [ha, State.sentCh_finish]
  split
  · exact congrArg SentCh.offAt (State.sentCh_modSent_self (s.until _) n _ hn)
  · exact congrArg SentCh.offAt (State.sentCh_modSent_self (s.until _) n _ hn)

omit h8 in
theorem sentSupplyRunTimer_completes (ho : (s.sentCh n).onAt ≠ none) :
    answers (.sentSupplyRunTimer n) s fun t => (t.sentCh n).onAt = none := by
  obtain ⟨a, ha⟩ := Option.ne_none_iff_exists'.1 ho
  have hc : (((s.until (a + ms 100)).modSent n fun c => { c with onAt := none }).sentCh n).onAt = none :=
    congrArg SentCh.onAt (State.sentCh_modSent_self (s.until _) n _ hn)
  refine answers_onC hr (by rfl) ?_
  simp only [ha, State.sentCh_finish]
  split
  · exact hc
  · rw [State.sentCh_of_bare (State.sentClear_bare _ _ _)]
    exact hc

end

theorem State.sentClear_sentvsLow (s : State) (n k : Nat) : (s.sentClear n k).pw.sentvsLow = s.pw.sentvsLow := by
  have h := congrArg PowerSt.sentvsLow (State.pw_of_steady (State.clearAt_steady s ⟨0x0F, k, 0, n + 1⟩ s.sweep))
  exact h

/-- The causes of a channel that the Legend does not use clear, and nothing else of the supplies changes (R537). -/
theorem State.sentClears_keep (s : State) (m : Nat) :
    let t := [1, 2, 3, 4].foldl (fun s k => s.sentClear m k) s
    t.sent = s.sent ∧ t.pw.sentvsLow = s.pw.sentvsLow :=
  ⟨foldl_keep State.sent _ (fun t k => State.sent_of_bare (t.sentClear_bare m k)) _ _,
   foldl_keep (fun t : State => t.pw.sentvsLow) _ (fun t k => t.sentClear_sentvsLow m k) _ _⟩

theorem State.modSent_length (s : State) (m : Nat) (f : SentCh → SentCh) : (s.modSent m f).sent.length = s.sent.length := by
  simp [State.modSent, modAt]

/-- Below 4.0 V the supply of every channel is off (R536). -/
theorem State.sentApply_low (s : State) (hl : s.pw.sentvsLow = true) {n : Nat} (h8 : n < 8) (hn : n < s.sent.length) :
    (s.sentApply.sentCh n).supply = false := by
  have hmod (t : State) (m : Nat) (g : SentCh → SentCh) (hg : ∀ c, c.supply = false → (g c).supply = false)
      (h : (t.sentCh n).supply = false) : ((t.modSent m g).sentCh n).supply = false := by
    unfold State.sentCh at h ⊢
    simp only [State.modSent, State.getD_modAt]
    split
    · exact hg _ h
    · exact h
  have hset (t : State) (g : SentCh → SentCh) (ht : n < t.sent.length) (hg : ∀ c, (g c).supply = false) :
      ((t.modSent n g).sentCh n).supply = false := by
    rw [State.sentCh_modSent_self t n g ht]
    exact hg _
  unfold State.sentApply State.foldNat
  refine foldl_reaches _ (fun t : State => t.pw.sentvsLow = true ∧ n < t.sent.length) (fun t : State => (t.sentCh n).supply = false) n
    ?_ ?_ ?_ _ (List.mem_range.2 h8) _ ⟨hl, hn⟩
  · intro t m ⟨hp, ht⟩
    have hc := t.sentClears_keep m
    have hk (g : SentCh → SentCh) : (t.modSent m g).pw.sentvsLow = true ∧ n < (t.modSent m g).sent.length :=
      ⟨hp, by rw [State.modSent_length]; exact ht⟩
    dsimp only
    split
    · rw [State.modSent_length, hc.1]
      exact ⟨hc.2.trans hp, ht⟩
    · split
      · exact hk _
      · split
        · exact hk _
        · split
          · exact hk _
          · exact ⟨hp, ht⟩
  · intro t ⟨hp, ht⟩
    dsimp only
    split
    · exact hset _ _ (by rw [(t.sentClears_keep n).1]; exact ht) fun _ => rfl
    · rw [if_neg (by simp [hp])]
      split
      · exact hset t _ ht fun _ => rfl
      · next hw =>
        have hq : (t.sentCh n).supply = false := by simpa [hp] using hw
        split
        · exact hmod t n _ (fun c h => h) hq
        · exact hq
  · intro t m ⟨hp, _⟩ hq
    dsimp only
    split
    · refine hmod _ m _ (fun _ _ => rfl) ?_
      unfold State.sentCh
      rw [(t.sentClears_keep m).1]
      exact hq
    · rw [if_neg (by simp [hp])]
      split
      · exact hmod t m _ (fun _ _ => rfl) hq
      · split
        · exact hmod t m _ (fun c h => h) hq
        · exact hq

theorem sentvsUndervoltage_completes {s : State} (hr : s.pw.running = true) {n : Nat} (h8 : n < 8) (hn : n < s.sent.length) (low : Bool) :
    answers (.sentvsUndervoltage low) s fun t => t.pw.sentvsLow = low ∧ (low = true → (t.sentCh n).supply = false) := by
  have hp (t : State) : t.sentApply.pw.sentvsLow = t.pw.sentvsLow := by
    unfold State.sentApply
    refine foldl_keep (fun t : State => t.pw.sentvsLow) _ (fun t m => ?_) _ _
    refine iteInduction (motive := fun y : State => y.pw.sentvsLow = t.pw.sentvsLow) (fun _ => ?_) fun _ =>
      iteInduction (motive := fun y : State => y.pw.sentvsLow = t.pw.sentvsLow) (fun _ => rfl) fun _ =>
      iteInduction (motive := fun y : State => y.pw.sentvsLow = t.pw.sentvsLow) (fun _ => rfl) fun _ =>
      iteInduction (motive := fun y : State => y.pw.sentvsLow = t.pw.sentvsLow) (fun _ => rfl) fun _ => rfl
    exact foldl_keep (fun t : State => t.pw.sentvsLow) _ (fun t k => t.sentClear_sentvsLow m k) [1, 2, 3, 4] t
  refine answers_onC hr (by rfl) ?_
  rw [State.finish_pw, State.sentCh_finish, hp]
  exact ⟨rfl, fun h => State.sentApply_low _ h h8 hn⟩

end Sys2Proof.Machine
end

section
/-!
SUPPORT. A write or a read of a direct register completes (R405, R409, R413, R428, R494, R506 to R508): their clauses of O60.
-/

namespace Sys2Proof.Machine

/-! ### What the loss of a semaphore leaves -/

namespace State

variable (s : State)

/-- The semaphores and the request areas of both ports. -/
def asked : List (Option HostId) × Option OpenReq × Option OpenReq := (s.sems, s.portA.request, s.portB.request)

theorem asked_of_bare {s t : State} (h : t.bare = s.bare) : t.asked = s.asked := by
  have hA := congrArg (fun t : State => t.portA.request) h
  have hB := congrArg (fun t : State => t.portB.request) h
  exact Prod.ext (sems_of_bare h) (Prod.ext hA hB)

theorem modPort_asked (h : HostId) (f : HostPort → HostPort) (hf : ∀ p, (f p).request = p.request) : (s.modPort h f).asked = s.asked := by
  cases h
  · exact congrArg (fun r => (s.sems, r, s.portB.request)) (hf _)
  · exact congrArg (fun r => (s.sems, s.portA.request, r)) (hf _)

theorem eventOn_asked (h : HostId) (b : Nat) : (s.eventOn h b).asked = s.asked := s.modPort_asked h _ fun _ => rfl

theorem eventMsg_asked (h : HostId) (pair code tag status : Nat) (res : List Byte) :
    (s.eventMsg h pair code tag status res).asked = s.asked := by
  unfold State.eventMsg State.stageMsg
  dsimp only
  split
  · rfl
  · split
    · exact (asked_of_bare (raiseOpenEv_bare _ _ _ _ _)).trans (s.eventOn_asked h _)
    · cases (s.port h).frozen
      · exact modPort_asked s h (fun p => { p with staged := p.staged ++ [_] }) fun _ => rfl
      · rfl

theorem tuneAbort_asked (reason : Nat) : (s.tuneAbort reason).asked = s.asked := by
  have hmode (t : State) (n : Nat) (m : LoopMode) : (t.setLoopMode n m).asked = t.asked := by
    unfold State.setLoopMode; split <;> rfl
  have hclose (t : State) (x : Tuning) : (t.tuneClose x reason).asked = t.asked := by
    unfold State.tuneClose State.tuneSend
    exact iteInduction (motive := fun y : State => asked y = t.asked) (fun _ => rfl) fun _ => t.eventMsg_asked _ _ _ _ _ _
  have hreturn (t : State) (x : Tuning) : (t.tuneReturn x).asked = t.asked := hmode _ _ _
  unfold State.tuneAbort
  split
  · rfl
  · next x _ =>
    extract_lets u v
    have hv : v.asked = s.asked := (hreturn _ x).trans (hclose s x)
    clear_value v
    split
    · exact hv
    · exact (asked_of_bare (raiseOpenEv_bare _ _ _ _ _)).trans hv

theorem semLost_asked (h : HostId) (k : Nat) : (s.semLost h k).asked = s.asked := by
  unfold State.semLost
  split
  · rfl
  · split
    · exact foldl_keep asked _ (fun t r => by unfold State.land; cases t.swp.hold <;> rfl) _ _
    · split
      · exact s.tuneAbort_asked 5
      · split
        · unfold State.fwAbandon
          (repeat' split) <;> rfl
        · rfl

/-- A release takes the named semaphores that the port holds from it, and nothing of either request area (R428). -/
theorem semRelease_asked (h : HostId) (mask : Nat) : (s.semRelease h mask).asked =
    (s.sems.zipIdx.map fun (x : Option HostId × Nat) =>
      if ((List.range 16).filter fun k => mask.testBit k && s.holds h k).contains x.2 then none else x.1,
      s.portA.request, s.portB.request) := by
  unfold State.semRelease
  extract_lets l u v
  have hv : v.asked = u.asked := foldl_keep asked _ (fun t k => t.semLost_asked h k) _ _
  clear_value v
  split
  · exact hv
  · exact (eventOn_asked _ _ _).trans hv

/-! ### Transactions -/

/-- The port has shifted out `m`, and the transaction has ended without an error (R409, R413). -/
def transacted (h : HostId) (m : List Byte) : State := s.modPort h fun p => { p with miso := m, lastErr := 0 }

theorem endTransfer_zero (h : HostId) (n : Nat) (b : List Byte) : (s.shiftOut h n b).endTransfer h 0 = s.transacted h (b.take n) := by
  cases h <;> rfl

theorem transacted_port (h : HostId) (m : List Byte) : (s.transacted h m).port h = { s.port h with miso := m, lastErr := 0 } :=
  s.port_modPort_self h _

theorem hostWrite_accepted {h : HostId} {a : Nat} {ws : List Word} (hf : (s.port h).frozen = false)
    (hr : rangeError h true a ws.length = 0) : ∃ m,
      let u := s.transacted h m
      let r := if inWindow a then (if isCommandQueue (windowQueue a) then (0, u.pushWords h (windowQueue a) ws)
        else u.releaseWords (windowQueue a) (ws.headD 0).toNat) else u.writeRegs h a ws
      s.hostWrite h a ws = if r.1 = 0 then r.2 else r.2.endTransfer h r.1 := by
  refine ⟨(s.statusByte h :: List.replicate (4 * ws.length + 3) 0).take (4 * ws.length + 4), ?_⟩
  unfold State.hostWrite
  dsimp only
  rw [if_neg (by cases h <;> exact Bool.eq_false_iff.1 hf), if_neg (by simp [hr]), s.endTransfer_zero h]

/-- One word to a direct register that takes it without a code (R507). -/
theorem hostWrite_reg {h : HostId} {a : Nat} {v : Word} (hf : (s.port h).frozen = false) (hin : inWindow a = false)
    (hm : regMapped a = true) : ∃ m, ∀ t, (s.transacted h m).writeReg h a v = (0, t) → s.hostWrite h a [v] = t := by
  obtain ⟨m, hw⟩ := s.hostWrite_accepted (ws := [v]) hf (a := a) (by unfold rangeError; simp [hin, hm])
  refine ⟨m, fun t ht => hw.trans ?_⟩
  simp [hin, State.writeRegs, ht]

end State

section
variable {s : State} (hr : s.pw.running = true) {h : HostId} {v : Word} (hf : (s.port h).frozen = false)
include hr hf

theorem semTake_completes {k : Nat} (h16 : k < 16) (hk : k < s.sems.length) (hv : v.toNat.testBit k = true)
    (hs : s.sems.getD k none = none) : answers (.semTake h v) s fun t => t.sems.getD k none = some h := by
  obtain ⟨m, hw⟩ := s.hostWrite_reg (a := 0x21) (v := v) hf rfl rfl
  refine answers_onC hr (by rfl) ?_
  have hsems : (s.transacted h m).sems = s.sems := State.modPort_sems _ _ _
  have hbit : (v.toNat % 65536).testBit k = true := by
    rw [show 65536 = 2 ^ 16 from rfl, Nat.testBit_mod_two_pow]
    simp [h16, hv]
  rw [List.getD_eq_getElem _ _ hk] at hs
  rw [State.finish_sems, hw _ rfl]
  unfold State.semGrab
  simp [hsems, List.getD_eq_getElem?_getD, hk, hbit, hs]

theorem semGive_completes {k : Nat} (h16 : k < 16) (hv : v.toNat.testBit k = true) (hs : s.sems.getD k none = some h) :
    answers (.semGive h v) s fun t => t.sems.getD k none = none := by
  obtain ⟨m, hw⟩ := s.hostWrite_reg (a := 0x22) (v := v) hf rfl rfl
  refine answers_onC hr (by rfl) ?_
  have hsems : (s.transacted h m).sems = s.sems := State.modPort_sems _ _ _
  have hbit : (v.toNat % 65536).testBit k = true := by
    rw [show 65536 = 2 ^ 16 from rfl, Nat.testBit_mod_two_pow]
    simp [h16, hv]
  have hrel := congrArg Prod.fst ((s.transacted h m).semRelease_asked h (v.toNat % 65536))
  dsimp only [State.asked] at hrel
  rw [State.finish_sems, hw _ rfl, hrel]
  rw [List.getD_eq_getElem?_getD] at hs
  have hk : s.sems[k]? = some (some h) := by
    cases hq : s.sems[k]? with
    | none => rw [hq] at hs; cases hs
    | some x => rw [hq] at hs; exact congrArg some hs
  simp [hsems, List.getD_eq_getElem?_getD, State.holds, hk, h16, hbit]

omit hr in
/-- A write to SWP_CTRL or ERR_CTRL before the cut-off lands, where the port may write it (R57, R405, R508). -/
theorem State.hostWrite_locked {a : Nat} (ha : a = 0x30 ∨ a = 0x40) (hs : s.holds h 0 = true) (hl : 2 ≤ s.levelOf h)
    (hk : s.par Fld.lockReg 0 ≠ 1) (hh : s.swp.hold = false) : ∃ m, s.hostWrite h a [v] = (s.transacted h m).landHeld ⟨h, a, v⟩ := by
  have hwr (m : List Byte) : (s.transacted h m).writeLocked h a v = (0, (s.transacted h m).landHeld ⟨h, a, v⟩) := by
    unfold State.writeLocked State.directWrite
    have h1 : (s.transacted h m).holds h Sem.legend = true := by
      unfold State.holds State.transacted
      rw [State.modPort_sems]
      exact hs
    have h2 : ¬ ((s.transacted h m).port h).level < 2 := by
      rw [State.transacted_port]
      exact Nat.not_lt.2 hl
    have h3 : ¬ (s.transacted h m).par Fld.lockReg 0 = 1 := by
      unfold State.par State.transacted
      rw [State.modPort_leg]
      exact hk
    have h4 : ¬ (s.transacted h m).swp.hold = true := by
      unfold State.transacted
      rw [State.modPort_swp, hh]
      simp
    rw [if_neg (by simp [h1]), if_neg h2, if_neg h3, if_neg h4]
  obtain ⟨m, hw⟩ := s.hostWrite_reg (a := a) (v := v) hf (by obtain rfl | rfl := ha <;> rfl) (by obtain rfl | rfl := ha <;> rfl)
  exact ⟨m, hw _ (by obtain rfl | rfl := ha <;> exact hwr m)⟩

theorem swpCtrlWrite_completes (hs : s.holds h 0 = true) (hl : 2 ≤ s.levelOf h) (hk : s.par Fld.lockReg 0 ≠ 1)
    (hh : s.swp.hold = false) (hv : swpRefused v.toNat = false) : answers (.swpCtrlWrite h v) s fun t =>
      t.swp.landed = s.swp.landed ++ [.swpCtrl (word (swpBits v.toNat))] := by
  obtain ⟨m, hw⟩ := State.hostWrite_locked hf (v := v) (.inl rfl) hs hl hk hh
  refine answers_onC hr (by rfl) ?_
  rw [State.finish_swp, hw]
  unfold State.landHeld State.landSwp
  rw [if_pos rfl, hv]
  exact congrArg (fun x : SweepSt => x.landed ++ [.swpCtrl (word (swpBits v.toNat))]) (State.modPort_swp s h _)

theorem errCtrlWrite_completes (hs : s.holds h 0 = true) (hl : 2 ≤ s.levelOf h) (hk : s.par Fld.lockReg 0 ≠ 1)
    (hh : s.swp.hold = false) (hv : bits v.toNat 18 16 < 5) : answers (.errCtrlWrite h v) s fun t =>
      t.swp.landed = s.swp.landed ++ [.errCtrl (word (errBits v.toNat))] := by
  obtain ⟨m, hw⟩ := State.hostWrite_locked hf (v := v) (.inr rfl) hs hl hk hh
  refine answers_onC hr (by rfl) ?_
  rw [State.finish_swp, hw]
  unfold State.landHeld State.landErr
  rw [if_neg (by simp), if_pos rfl, if_neg (by dsimp only; omega)]
  exact congrArg (fun x : SweepSt => x.landed ++ [.errCtrl (word (errBits v.toNat))]) (State.modPort_swp s h _)

omit hr in
/-- A request of SWP_STATE before the cut-off lands or is refused at once (R494). -/
theorem State.hostWrite_request (hl : 2 ≤ s.levelOf h) (hh : s.swp.hold = false) {v : Word} (h7 : bit v.toNat 7 = false)
    (hq : bits v.toNat 5 4 ≠ 0) : ∃ m, s.hostWrite h 0x34 [v] = (s.transacted h m).landReq h (bits v.toNat 5 4) := by
  obtain ⟨m, hw⟩ := s.hostWrite_reg (a := 0x34) (v := v) hf rfl rfl
  refine ⟨m, hw _ (congrArg (Prod.mk 0) ?_)⟩
  unfold State.writeState State.directWrite
  have h2 : ¬ ((s.transacted h m).port h).level < 2 := by
    rw [State.transacted_port]
    exact Nat.not_lt.2 hl
  have h4 : ¬ (s.transacted h m).swp.hold = true := by
    unfold State.transacted
    rw [State.modPort_swp, hh]
    simp
  have h7' : ¬ bit v.toNat 7 = true := by rw [h7]; exact Bool.false_ne_true
  dsimp only
  rw [if_neg h7', if_neg hq, if_neg h2, if_neg h4]
  unfold State.landHeld
  rw [if_neg (by simp), if_neg (by simp)]

theorem requestConfig_completes (hl : 2 ≤ s.levelOf h) (hh : s.swp.hold = false) (ho : s.pw.op ≠ .locked) (hs : s.allSafe = true) :
    answers (.requestConfig h) s fun t => t.swp.landed = s.swp.landed ++ [.requestConfig] := by
  obtain ⟨m, hw⟩ := State.hostWrite_request hf hl hh (v := 0x10) rfl (by decide)
  refine answers_onC hr (by rfl) ?_
  have hq : bits (0x10 : Word).toNat 5 4 = 1 := by decide
  have h1 : (s.transacted h m).pw.op ≠ .locked := by unfold State.transacted; rw [State.modPort_pw]; exact ho
  have h2 : (s.transacted h m).allSafe = true := by unfold State.allSafe State.transacted; rw [State.modPort_saf]; exact hs
  rw [State.finish_swp, hw, hq]
  unfold State.landReq
  dsimp only
  rw [if_neg (by simp [h1, h2])]
  exact congrArg (fun x : SweepSt => x.landed ++ [.requestConfig]) (State.modPort_swp s h _)

theorem withdrawConfig_completes (hl : 2 ≤ s.levelOf h) (hh : s.swp.hold = false) :
    answers (.withdrawConfig h) s fun t => t.swp.landed = s.swp.landed ++ [.withdrawConfig] := by
  obtain ⟨m, hw⟩ := State.hostWrite_request hf hl hh (v := 0x20) rfl (by decide)
  refine answers_onC hr (by rfl) ?_
  have hq : bits (0x20 : Word).toNat 5 4 = 2 := by decide
  rw [State.finish_swp, hw, hq]
  exact congrArg (fun x : SweepSt => x.landed ++ [.withdrawConfig]) (State.modPort_swp s h _)

end

end Sys2Proof.Machine
end

section
/-!
SUPPORT. Transactions as bytes complete (R409, R410, R413, R506): their clauses of O60.
-/

namespace Sys2Proof.Machine

/-! ### Bytes of words -/

/-- The bytes of a number spell it, as far as they go (R22). -/
theorem ofLe_leBytes (n x : Nat) : ofLe (leBytes n x) = x % 256 ^ n := by
  induction n generalizing x with
  | zero => simp [leBytes, ofLe, Nat.mod_one]
  | succ n ih =>
    rw [leBytes, ofLe, ih, Nat.pow_succ', Nat.mod_mul]
    simp

theorem leBytes_length (n x : Nat) : (leBytes n x).length = n := by
  induction n generalizing x with
  | zero => rfl
  | succ n ih => rw [leBytes, List.length_cons, ih]

/-- A word keeps the four bytes that it is read as. -/
theorem leBytes_word (x : Nat) : leBytes 4 (word x).toNat = leBytes 4 x := by
  have h (y z : Nat) (hyz : y % 256 = z % 256) : BitVec.ofNat 8 y = BitVec.ofNat 8 z := BitVec.eq_of_toNat_eq (by simpa using hyz)
  have hx : (word x).toNat = x % 4294967296 := rfl
  simp only [leBytes, List.cons.injEq, and_true, hx]
  exact ⟨h _ _ (by omega), h _ _ (by omega), h _ _ (by omega), h _ _ (by omega)⟩

theorem crc8_lt (bs : List Byte) : crc8 bs < 256 := by
  have hstep (n c : Nat) (hc : c < 256) : crc8Step n c < 256 := by
    induction n generalizing c with
    | zero => exact hc
    | succ n ih =>
      rw [crc8Step]
      refine ih _ ?_
      split
      · exact Nat.xor_lt_two_pow (n := 8) (by omega) (by omega)
      · omega
  have hfold (l : List Byte) (c : Nat) (hc : c < 256) : l.foldl (fun c b => crc8Step 8 (c ^^^ b.toNat)) c < 256 := by
    induction l generalizing c with
    | nil => exact hc
    | cons b l ih => exact ih _ (hstep _ _ (Nat.xor_lt_two_pow (n := 8) hc b.isLt))
  exact hfold bs _ (by decide)

theorem ofLe_byte (b : Byte) : ofLe [b] = b.toNat := by simp [ofLe]

/-! ### Transactions byte for byte -/

namespace State

variable (s : State)

/-- The bytes of a write of one word are that write (R409, R410). -/
theorem hostWriteBytes_writeBytes {h : HostId} (hf : (s.port h).frozen = false) {a : Nat} (ha : a < 65536) (v : Word) :
    s.hostWriteBytes h (writeBytes a v) = s.hostWrite h a [v] := by
  obtain ⟨x, hx, hl⟩ : ∃ x, x = leBytes 4 v.toNat ∧ x.length = 4 := ⟨_, rfl, leBytes_length _ _⟩
  obtain ⟨b, hb⟩ : ∃ b, b = [0x80#8, BitVec.ofNat 8 (a / 256), BitVec.ofNat 8 a] ++ x := ⟨_, rfl⟩
  have hbl : b.length = 7 := by simp [hb, hl]
  have hw : writeBytes a v = b ++ [BitVec.ofNat 8 (crc8 b)] := by rw [hb, hx]; rfl
  have htake : (writeBytes a v).take 7 = b := by rw [hw, List.take_left' hbl]
  have hcrc : field (writeBytes a v) 7 1 = crc8 b := by
    unfold field
    rw [hw, List.drop_left' hbl, List.take_of_length_le (by simp), ofLe_byte]
    exact Nat.mod_eq_of_lt (crc8_lt b)
  have haddr : 256 * field (writeBytes a v) 1 1 + field (writeBytes a v) 2 1 = a := by
    have h1 : field (writeBytes a v) 1 1 = (a / 256) % 256 := by rw [hw, hb]; simp [field, ofLe]
    have h2 : field (writeBytes a v) 2 1 = a % 256 := by rw [hw, hb]; simp [field, ofLe]
    omega
  have hval : word (field (writeBytes a v) 3 4) = v := by
    have h3 : field (writeBytes a v) 3 4 = ofLe x := by
      unfold field
      rw [hw, hb]
      simp [List.take_left' hl]
    rw [h3, hx, ofLe_leBytes, show v.toNat % 256 ^ 4 = v.toNat from Nat.mod_eq_of_lt v.isLt]
    exact BitVec.ofNat_toNat 32 v
  have hhead : ((writeBytes a v).headD 0).toNat = 128 := rfl
  have hlen : (writeBytes a v).length = 8 := by simp [hw, hbl]
  unfold State.hostWriteBytes
  dsimp only
  rw [hhead, hlen, if_neg (by simp [hf]), if_neg (by decide)]
  rw [if_neg (by rw [htake, hcrc]; simp), if_neg (by decide), haddr]
  simp [hval]

@[simp] theorem finish_miso (t : State) (h : HostId) : ((s.finish t).port h).miso = (t.port h).miso := by
  have e := congrArg HostPort.miso (s.finish_port_body t h)
  exact e

@[simp] theorem finish_lastErr (t : State) (h : HostId) : ((s.finish t).port h).lastErr = (t.port h).lastErr := by
  have e := congrArg HostPort.lastErr (s.finish_port_body t h)
  exact e

/-- What an accepted read shifts out (R409): the status, three bytes, the words and their CRC. -/
theorem hostRead_accepted {h : HostId} {op hi lo n : Nat} (len : Nat) {ws : List Word} (hf : (s.port h).frozen = false)
    (hb : bit op 6 = false) (hr : rangeError h false (256 * hi + lo) n = 0) (hw : s.readWords h (256 * hi + lo) n = (ws, 0)) :
    ∃ st c, s.hostRead h op hi lo n len true = s.transacted h ((st :: ([0, 0, 0] ++ wordsToBytes ws ++ [c])).take len) := by
  unfold State.hostRead
  simp only [hf, hb, hr, hw, Bool.false_eq_true, Bool.true_eq_false, if_false, if_true]
  exact ⟨_, _, s.endTransfer_zero h len _⟩

end State

section
variable {s : State} (hr : s.pw.running = true) {h : HostId} (hf : (s.port h).frozen = false)
include hr hf

theorem registerWrite_completes (v : Word) :
    answers (.registerWrite h (writeBytes 0x02 v)) s fun t => (t.port h).scratch = v ∧ (t.port h).lastErr = 0 := by
  obtain ⟨m, hw⟩ := s.hostWrite_reg (a := 0x02) (v := v) hf rfl rfl
  refine answers_onC (f := fun s => if 128 ≤ ((writeBytes 0x02 v).headD 0).toNat then s.hostWriteBytes h (writeBytes 0x02 v) else s) hr rfl ?_
  have h128 : 128 ≤ ((writeBytes 0x02 v).headD 0).toNat := (by decide : 128 ≤ 128)
  rw [if_pos h128, s.hostWriteBytes_writeBytes hf (by decide), hw _ rfl]
  have hb := s.finish_port_body ((s.transacted h m).modPort h fun p => { p with scratch := v }) h
  rw [State.port_modPort_self, State.transacted_port] at hb
  have h1 := congrArg HostPort.scratch hb
  have h2 := congrArg HostPort.lastErr hb
  exact ⟨h1, h2⟩

theorem readTransaction_completes {mosi : List Byte} (h0 : (mosi.headD 0).toNat = 0) (hl : mosi.length = 12)
    (hc : crc8 (mosi.take 3) = field mosi 3 1) (hm : regMapped (256 * field mosi 1 1 + field mosi 2 1) = true) :
    answers (.readTransaction h mosi) s fun t => (t.port h).lastErr = 0 ∧
      ((t.port h).miso.drop 4).take 4 = leBytes 4 (s.readReg h (256 * field mosi 1 1 + field mosi 2 1)) := by
  have hin : inWindow (256 * field mosi 1 1 + field mosi 2 1) = false := by
    simp only [regMapped, inWindow, Bool.or_eq_true, decide_eq_true_eq, decide_eq_false_iff_not] at hm ⊢
    omega
  obtain ⟨st, c, hx⟩ := s.hostRead_accepted (op := 0) (hi := field mosi 1 1) (lo := field mosi 2 1) (n := 1) 12
    (ws := [word (s.readReg h (256 * field mosi 1 1 + field mosi 2 1))]) hf rfl
    (by unfold rangeError; simp [hin, hm]) (by unfold State.readWords; simp [hin])
  obtain ⟨f, e, hfs⟩ : ∃ (f : State → State) (_ : execReadTransaction h mosi s = onC s f),
      f s = s.hostRead h 0 (field mosi 1 1) (field mosi 2 1) 1 12 true := by
    refine ⟨_, by unfold execReadTransaction; rfl, ?_⟩
    have hne : mosi ≠ [] := fun h => by rw [h] at hl; cases hl
    dsimp only
    rw [h0, if_neg (by simp [hne]), if_neg (by omega), hl]
    simp [hc]
  refine answers_onC hr e ?_
  rw [State.finish_miso, State.finish_lastErr, hfs, hx, State.transacted_port, ← leBytes_word]
  refine ⟨rfl, ?_⟩
  dsimp only
  simp [wordsToBytes, leBytes]

end

end Sys2Proof.Machine
end

section
/-!
SUPPORT. The queue windows, the placing of responses and the release of a port complete (R414, R419, R425, R431, R478, R514,
R515): their clauses of O60.
-/

namespace Sys2Proof.Machine

/-! ### Window addresses -/

/-- The window of a queue of the port: its address, queue and offset (R416, R513). -/
theorem window_facts {h : HostId} {q a : Nat} (hq : q / 32 = hostNum h) (ha : a = 0x1000 + 64 * q) :
    inWindow a = true ∧ windowQueue a = q ∧ windowOffset a = 0 ∧ ownQueue h q = true := by
  have hn : hostNum h ≤ 1 := by cases h <;> decide
  simp only [inWindow, windowQueue, windowOffset, ownQueue, decide_eq_true_eq]
  omega

theorem cmdQ_facts (h : HostId) {pair : Nat} (hp : pair < 16) :
    cmdQ h pair / 32 = hostNum h ∧ isCommandQueue (cmdQ h pair) = true ∧ cmdQ h pair % 16 = pair := by
  unfold cmdQ isCommandQueue
  rw [decide_eq_true_eq]
  omega

theorem rspQ_facts (h : HostId) {pair : Nat} (hp : pair < 16) :
    rspQ h pair / 32 = hostNum h ∧ isCommandQueue (rspQ h pair) = false := by
  unfold rspQ isCommandQueue
  rw [decide_eq_false_iff_not]
  omega

namespace State

variable (s : State)

theorem queue_modQueue (q : Nat) (f : Queue → Queue) (h : q < s.queues.length) : (s.modQueue q f).queue q = f (s.queue q) := by
  simp only [State.queue, State.modQueue, getD_modAt, h, and_self, if_true]

theorem modQueue_length (q : Nat) (f : Queue → Queue) : (s.modQueue q f).queues.length = s.queues.length := by
  simp [State.modQueue, modAt]

theorem queue_modPort (h : HostId) (f : HostPort → HostPort) (q : Nat) : (s.modPort h f).queue q = s.queue q := by
  unfold State.queue; rw [modPort_queues]

theorem queue_transacted (h : HostId) (m : List Byte) (q : Nat) : (s.transacted h m).queue q = s.queue q :=
  s.queue_modPort h _ q

@[simp] theorem finish_queue (t : State) (q : Nat) : (s.finish t).queue q = t.queue q := by
  unfold State.queue; rw [finish_queues]

theorem setLevel_level (h : HostId) (v : Nat) : ((s.setLevel h v).port h).level = v := by
  unfold State.setLevel State.eventOn
  split
  · assumption
  · rw [port_modPort_self, port_modPort_self]
    rfl

/-- A port that stands as after a release is not frozen, and no one is logged in (R431). -/
theorem releasePort_released (h : HostId) : ((s.releasePort h).port h).frozen = false ∧ ((s.releasePort h).port h).level = 0 ∧
    ((s.releasePort h).port h).request = none := by
  unfold State.releasePort
  extract_lets was u
  have hask := (s.emptyPort h).semRelease_asked h 0xFFFF
  have hreq : (((s.emptyPort h).semRelease h 0xFFFF).port h).request = none := by
    cases h
    · exact congrArg (fun x : List (Option HostId) × Option OpenReq × Option OpenReq => x.2.1) hask
    · exact congrArg (fun x : List (Option HostId) × Option OpenReq × Option OpenReq => x.2.2) hask
  have hu : (u.port h).frozen = false ∧ (u.port h).level = 0 ∧ (u.port h).request = none := by
    rw [port_modPort_self]
    exact ⟨rfl, rfl, hreq⟩
  split
  · unfold State.eventOn
    rw [port_modPort_other _ _ _ _ (by cases h <;> decide)]
    exact hu
  · exact hu

theorem port_body_of_bare {s t : State} (h : t.bare = s.bare) (k : HostId) : (t.port k).body = (s.port k).body := by
  cases k
  · have e := congrArg State.portA h
    exact e
  · have e := congrArg State.portB h
    exact e

@[simp] theorem finish_level (t : State) (h : HostId) : ((s.finish t).port h).level = (t.port h).level := by
  have e := congrArg HostPort.level (s.finish_port_body t h)
  exact e

/-- A halted core handles nothing, and a message that is not there whole waits (R418, R421). -/
theorem digestPair_rests {h : HostId} {pair : Nat}
    (hw : s.pw.coreReset ≠ none ∨ headMsg (s.queue (cmdQ h pair)).words ((s.port h).reqOf pair) = .partly) :
    s.digestPair h pair = s := by
  unfold State.digestPair
  split
  · next hc =>
    obtain hx | hx := hw
    · exact absurd (Option.isNone_iff_eq_none.1 hc.2.1) hx
    · simp only [State.digest, hx, if_true]
  · rfl

end State

section
variable {s : State} (hr : s.pw.running = true) {h : HostId} (hf : (s.port h).frozen = false)
include hr hf

theorem commandWindowPush_completes {pair q a : Nat} {w : Word} (hp : pair < 16) (hq : q = cmdQ h pair) (ha : a = 0x1000 + 64 * q)
    (hl : q < s.queues.length) (hw : s.pw.coreReset ≠ none ∨ headMsg ((s.queue q).words ++ [w]) ((s.port h).reqOf pair) = .partly)
    (hs : 4 * ((s.queue q).words.length + 1) ≤ 64 * (s.queue q).size) :
    answers (.commandWindowPush h a [w]) s fun t => (t.queue q).words = (s.queue q).words ++ [w] := by
  obtain ⟨hq1, hq2, hq3⟩ := cmdQ_facts h hp
  rw [← hq] at hq1 hq2 hq3
  obtain ⟨h1, h2, h3, h4⟩ := window_facts hq1 ha
  obtain ⟨m, hx⟩ := s.hostWrite_accepted (h := h) (a := a) (ws := [w]) hf (by unfold rangeError; simp [h1, h2, h3, h4, hq2])
  obtain ⟨y, hy, hyq⟩ : ∃ y, y = (s.transacted h m).modQueue q (fun y => { y with words := y.words ++ [w] }) ∧
      (y.queue q).words = (s.queue q).words ++ [w] := by
    refine ⟨_, rfl, ?_⟩
    rw [State.queue_modQueue _ _ _ (by unfold State.transacted; rw [State.modPort_queues]; exact hl), State.queue_transacted]
  have hpush : (s.transacted h m).pushWords h q [w] = y := by
    unfold State.pushWords
    dsimp only
    rw [State.queue_transacted, if_neg (by simp; omega), hq3, ← hy]
    refine y.digestPair_rests (hw.imp (fun hc => ?_) fun hc => ?_)
    · rw [hy]
      unfold State.transacted
      rw [State.modQueue_pw, State.modPort_pw]
      exact hc
    · rw [← hq, hyq, ← hc]
      have hport : y.port h = (s.transacted h m).port h := by rw [hy]; cases h <;> rfl
      rw [hport, State.transacted_port]
      rfl
  refine answers_onC hr (by rfl) ?_
  rw [if_pos ⟨h1, by rw [h2]; exact hq2, by simp, by simp⟩, hx, State.finish_queue]
  rw [if_pos h1, h2, if_pos hq2, if_pos rfl, hpush, hyq]

theorem responseWindowRelease_completes {pair q a : Nat} {v : Word} (hp : pair < 16) (hq : q = rspQ h pair) (ha : a = 0x1000 + 64 * q)
    (hv : v.toNat ≤ (s.queue q).words.length) :
    answers (.responseWindowRelease h a [v]) s fun t => (t.queue q).words = (s.queue q).words.drop v.toNat := by
  obtain ⟨hq1, hq2⟩ := rspQ_facts h hp
  rw [← hq] at hq1 hq2
  obtain ⟨h1, h2, h3, h4⟩ := window_facts hq1 ha
  obtain ⟨m, hx⟩ := s.hostWrite_accepted (h := h) (a := a) (ws := [v]) hf (by unfold rangeError; simp [h1, h2, h3, h4, hq2])
  have hrel : (s.transacted h m).releaseWords q v.toNat = (0, (s.transacted h m).modQueue q fun y =>
      { y with words := y.words.drop v.toNat, msgs := dropMsgs v.toNat y.msgs }) := by
    unfold State.releaseWords
    rw [State.queue_transacted, if_neg (Nat.not_lt.2 hv)]
  refine answers_onC hr (by rfl) ?_
  rw [if_pos ⟨h1, by rw [h2]; exact hq2, by simp, by simp⟩, hx, State.finish_queue]
  have hcmd : ¬ isCommandQueue q = true := by rw [hq2]; exact Bool.false_ne_true
  rw [if_pos h1, h2, if_neg hcmd, List.headD_cons, hrel, if_pos rfl]
  by_cases hl : q < s.queues.length
  · rw [State.queue_modQueue _ _ _ (by unfold State.transacted; rw [State.modPort_queues]; exact hl), State.queue_transacted]
  · unfold State.queue
    rw [List.getD_eq_default _ _ (by rw [State.modQueue_length]; unfold State.transacted; rw [State.modPort_queues]; exact Nat.le_of_not_lt hl),
      List.getD_eq_default _ _ (Nat.le_of_not_lt hl)]
    exact List.drop_nil.symm

theorem responseWindowPeek_completes {pair q a : Nat} (hp : pair < 16) (hq : q = rspQ h pair) (ha : a = 0x1000 + 64 * q)
    (hl : 1 ≤ (s.queue q).words.length) : answers (.responseWindowPeek h a 1) s fun t =>
      ((t.port h).miso.drop 4).take 4 = wordsToBytes ((s.queue q).words.take 1) := by
  obtain ⟨hq1, hq2⟩ := rspQ_facts h hp
  rw [← hq] at hq1 hq2
  obtain ⟨h1, h2, h3, h4⟩ := window_facts hq1 ha
  obtain ⟨w, l, hwl⟩ : ∃ w l, (s.queue q).words = w :: l := List.exists_cons_of_length_pos hl
  have haa : 256 * (a / 256) + a % 256 = a := by omega
  obtain ⟨st, c, hx⟩ := s.hostRead_accepted (h := h) (op := 1 - 1) (hi := a / 256) (lo := a % 256) (n := 1) (4 * 1 + 5) (ws := [w]) hf rfl
    (by rw [haa]; unfold rangeError; simp [h1, h2, h3, h4, hq2])
    (by rw [haa]; unfold State.readWords; simp [h1, h2, h3, hwl])
  refine answers_onC hr (by rfl) ?_
  rw [if_pos ⟨h1, by decide, by decide⟩, hx, State.finish_miso, State.transacted_port, hwl]
  dsimp only
  simp [wordsToBytes, leBytes]

theorem responsePlacement_completes {pair q : Nat} {m : Staged} (hp : pair < 16) (hc : s.pw.coreReset = none) (hq : q = rspQ h pair)
    (hl : q < s.queues.length) (hm : (s.port h).staged.find? (fun m => decide (m.pair = pair)) = some m)
    (hs : 4 * (s.queue q).words.length + msgBytes m.body.length ≤ 64 * (s.queue q).size) :
    answers (.responsePlacement h pair) s fun t =>
      (t.queue q).words = (s.queue q).words ++ (msgHeader m.body.length m.code false false :: packWords m.body) := by
  have hplaced (t : State) (code : Nat) (b : List Byte) : (t.placedFlag h code b).queue q = t.queue q := by
    unfold State.placedFlag State.queue
    (repeat' split) <;> simp
  refine answers_onCore ⟨hr, hc⟩ (by rfl) ?_
  rw [if_pos ⟨hp, hf⟩, State.finish_queue]
  unfold State.placeNext
  dsimp only
  rw [hm]
  dsimp only
  rw [← hq, if_pos (by omega), if_pos hs, hplaced]
  unfold State.placeWords
  rw [← hq, State.queue_modPort, State.queue_modPort, State.queue_modQueue _ _ _ hl]

theorem portReset_completes :
    answers (.portReset h) s fun t => (t.port h).frozen = false ∧ (t.port h).level = 0 ∧ (t.port h).request = none := by
  obtain ⟨f, e, hbare⟩ : ∃ (f : State → State) (_ : execPortReset h s = onC s f), (f s).bare = (s.releasePort h).bare := by
    refine ⟨_, by unfold execPortReset; rfl, ?_⟩
    dsimp only
    rw [if_neg (by simp [hf])]
    exact State.raiseOpenEv_bare _ _ _ _ _
  obtain ⟨h1, h2, h3⟩ := s.releasePort_released h
  have hb : ((s.finish (f s)).port h).body = ((s.releasePort h).port h).body :=
    (s.finish_port_body (f s) h).trans (State.port_body_of_bare hbare h)
  refine answers_onC hr e ⟨Eq.trans ?_ h1, Eq.trans ?_ h2, Eq.trans ?_ h3⟩
  · exact (congrArg HostPort.frozen hb :)
  · exact (congrArg HostPort.level hb :)
  · exact (congrArg HostPort.request hb :)

omit hf in
theorem loginTimeout_completes (ht : s.par Fld.loginTmo 0 ≠ 0) (hl : s.levelOf h ≠ 0) :
    answers (.loginTimeout h) s fun t => (t.port h).level = 0 := by
  refine answers_onC hr (by rfl) ?_
  dsimp only
  rw [if_neg (by simp [ht]; exact hl), State.finish_level]
  exact State.setLevel_level _ h 0

end

end Sys2Proof.Machine
end

section
/-!
The forms that no host command spells complete: O60, assembled from one lemma per form.
-/

namespace Sys2Proof.Machine

/-- Settles O60: each form answers with its own effect, by the lemma about that form. -/
theorem hardwareFormsComplete : Obligations.HardwareFormsComplete := by
  unfold Obligations.HardwareFormsComplete
  intro s
  refine ⟨fun hr ha => d1Forms_complete hr ha, fun hc hd => traverseForms_complete hc hd, fun d ha => ?device, fun hr => ?sweep,
    fun hc => ?timers, fun hr hrest n hu hn => ?contactors, fun hr i n hi => ?inputs, fun hc => ?session, fun hr n h8 hn => ?sent,
    fun hr h v hf => ?ports⟩
  case device =>
    refine ⟨fun r n h u hp hc => localBoundary_completes ha r hp hc, declareUnsynchronised_completes ha,
      returnToPreferredDirection_completes ha, fun p => meridianArrival_completes ha, fun raw => sampleComplete_completes ha,
      fun r results hrun => ⟨surveyEntryEnd_completes ha results hrun, spotReadingComplete_completes ha results hrun⟩,
      fun n p l => spotReadingStart_completes ha, fun p => itemsSend_completes ha, fun x b => soundingKeyingEdge_completes ha,
      fun hm hq hf k h24 hk hkey => ⟨bleedOnEdge_completes ha hm hq hf h24 hk hkey, bleedOffEdge_completes ha hm hq hf h24 hk hkey⟩,
      fun p f => tokenForms_complete ha, ?_⟩
    rintro dir rfl hr hdir
    exact shuntOvercurrent_completes ha hr dir (by rintro rfl; exact hdir) (by rintro rfl; exact hdir)
  case sweep =>
    exact ⟨commitCutOff_completes hr, fun c => commitRecordSend_completes hr, reactionCutOff_completes hr, meridianSend_completes hr,
      fun r => sweepBoundary_completes hr r, atlasDeadline_completes hr, fun sub index => sweepOverrun_completes hr index,
      fun slot x => spotResultLost_completes hr, fun p => positionSilent_completes hr, fun p q m => seqLossTimeout_completes hr,
      fun q f p => itemsFrame_completes hr⟩
  case timers =>
    exact ⟨fun dir a h c => contourStepDown_completes hc, fun dir a => contourStepUp_completes hc, contourFailsafeDwell_completes hc,
      fun x => tuningTimeout_completes hc, fun n c a iref hfind hm _ hk => sysCalMeasurementEnd_completes hc hfind hm hk,
      controlTick_completes hc, gazetteerWrite_completes hc⟩
  case contactors =>
    exact ⟨fun level => kfRecognised_completes hr hn hrest hu, pullInTimeout_completes hr hn, holdDelayEnd_completes hr hn hrest,
      dropOutTimeout_completes hr hn, coilCurrentTimeout_completes hr hn hu, coilPinMismatch_completes hr hn hu,
      coilPinMatch_completes hr hn, fun src => tripSourceAssert_completes hr⟩
  case inputs =>
    exact ⟨fun c level u hu hb hd h4 hro _ => safetyChannelRecognised_completes hr hi hu
        (fun x => ⟨by rintro rfl; rfl, by rintro rfl; rfl⟩) hb hd h4 hro,
      safeinDiscrepancyTimeout_completes hr hi, restartIdleTimer_completes hr, restartStuck_completes hr, couplingTimer_completes hr⟩
  case session =>
    refine ⟨safeFrameSendTimer_completes hc, ?_, sessionReconnectDelay_completes hc⟩
    rintro c sub (⟨hs, rfl, rfl⟩ | ⟨hs, rfl, rfl⟩)
    · exact safeFrameTimeExpectation_completes hc hs
    · exact safeFrameConnectLimit_completes hc hs
  case sent =>
    exact ⟨fun m => sentMessage_completes hr h8 hn, sentTimeout_completes hr h8, sentSupplyLimit_completes hr hn,
      sentSupplyOn_completes hr hn, sentSupplyRunTimer_completes hr hn, sentvsUndervoltage_completes hr h8 hn⟩
  case ports =>
    exact ⟨fun k => semTake_completes hr hf, fun k => semGive_completes hr hf,
      fun hs hl hk hh => ⟨swpCtrlWrite_completes hr hf hs hl hk hh, errCtrlWrite_completes hr hf hs hl hk hh⟩,
      fun hl hh => ⟨requestConfig_completes hr hf hl hh, withdrawConfig_completes hr hf hl hh⟩, registerWrite_completes hr hf v,
      fun mosi => readTransaction_completes hr hf, fun pair w q a => commandWindowPush_completes hr hf,
      fun pair q a => responseWindowRelease_completes hr hf, fun pair q a => responseWindowPeek_completes hr hf,
      fun pair q m => responsePlacement_completes hr hf, portReset_completes hr hf, loginTimeout_completes hr⟩

end Sys2Proof.Machine
end

section
/-!
SUPPORT. What reset leaves (R57, R354, R405, R415): O4.
-/

namespace Sys2Proof.Machine

/-- At reset no channel is closed, whatever number is asked for (R351). -/
theorem State.reset_chan (n : Nat) : State.reset.chan n = {} := by
  change (List.replicate 6 ({} : Channel)).getD n {} = {}
  rw [List.getD_eq_getElem?_getD, List.getElem?_replicate]
  split <;> rfl

/-- At reset no trip source stands, and C_ERR is not asserted (R353, R354). -/
theorem State.reset_atRest : State.reset.atRest :=
  ⟨by decide, fun h => absurd (by decide) h, fun _ h => absurd h (by decide)⟩

/-- Settles O4: the registers are read from the one closed state that a reset leaves. -/
theorem resetValues : Obligations.ResetValues := by
  unfold Obligations.ResetValues
  refine ⟨rfl, rfl, State.reset_atRest, rfl, rfl, State.reset_chan, ?_, ?_, ?_⟩
  · intro h; cases h <;> decide
  · intro h; cases h <;> decide
  · intro h; cases h <;> decide

end Sys2Proof.Machine
end

section
/-!
SUPPORT. The first adoption takes effect at a boundary (R59, R61, R283): the refutation of O45.
-/

namespace Sys2Proof.Machine

/-- A member that has never been adopted holds an adoption that is due at its next boundary. By its hop counts W is the nearer
way to the head, and the Meridian has come by E, which is in use so far. -/
def firstAdoption : State :=
  { State.reset with devs := [{}, {
      power := .awake, role := .member, sawE := some 1000
      hops := (some 2, some 1), adoptMsg := some { trav := 1, n := 2, closed := true, sa := 0, ids := [] } }] }

/-- The first adoption turns the device to the nearer way at the boundary at which it takes effect (R59, R283). -/
theorem localBoundary_firstAdoption_useW :
    answers (.localBoundary 1 ⟨0, 0⟩) firstAdoption fun t => (t.dev 1).useW = true :=
  ⟨_, rfl, by decide +kernel⟩

/-- Refutes O45: the direction in use after LOCAL_BOUNDARY is not the one that the boundary was taken from where the device's first
adoption takes effect there. -/
theorem not_boundariesAreKept : ¬ Obligations.BoundariesAreKept := by
  unfold Obligations.BoundariesAreKept
  intro h
  obtain ⟨t, ht, hturn⟩ := localBoundary_firstAdoption_useW
  obtain ⟨hplaced, -⟩ := h firstAdoption 1 rfl
  obtain ⟨u, hu, -, -, -, -, -, -, hway, -⟩ :=
    hplaced ⟨0, 0⟩ (some 17000) none 17000 0 false rfl rfl (.inl ⟨rfl, rfl, rfl⟩) (by decide)
  obtain rfl : t = u := Host.Outcome.next.inj (ht.symm.trans hu)
  rw [hturn] at hway
  cases hway

end Sys2Proof.Machine
end

section
/-!
SUPPORT. An overrun that delays a Chassis index (R74, log 157): the refutation of O52.
-/

namespace Sys2Proof.Machine

/-- The head runs sweep 0, and location 0 of the Chassis page was written at its boundary. -/
def chassisClosed : State :=
  { State.reset with
    swp := { State.reset.swp with count := some 0 }
    chassis := [(0, { entry := notPresent, prev := some awaiting })] }

/-- An overrun 0x02 of a Chassis index delays the write of its location into the next sweep (R74). -/
theorem sweepOverrun_chassisClosed_chassis :
    answers (.sweepOverrun 0 2 6144) chassisClosed fun t => t.chassis ≠ chassisClosed.chassis :=
  ⟨_, rfl, by decide +kernel⟩

/-- Refutes O52: an overrun 0x02 of a Chassis index, 6,144 or above, is said to touch only what a fault touches, and it changes the
Chassis page. -/
theorem not_sweepsTurn : ¬ Obligations.SweepsTurn := by
  unfold Obligations.SweepsTurn
  intro h
  obtain ⟨t, ht, hdelay⟩ := sweepOverrun_chassisClosed_chassis
  obtain ⟨-, -, -, -, -, -, hoverrun, -⟩ := h chassisClosed rfl
  obtain ⟨u, hu, ⟨-, hkept⟩, -⟩ := hoverrun 2 6144 (by decide) (by decide) (by decide)
  obtain rfl : t = u := Host.Outcome.next.inj (ht.symm.trans hu)
  exact hdelay (hkept .chassis (by decide))

end Sys2Proof.Machine
end
section
/-!
SUPPORT. Transactions on the direct registers: what they leave in the port and what they leave alone (R409 to R413, R428 to R431,
R506 to R509), and with them O58.
-/

namespace Sys2Proof.Machine

/-! ### Frames of a port, of the flags and of the semaphores -/

/-- A change of a port, its interrupt flags included. -/
theorem kept_modPort_flags (s : State) (h : HostId) (f : HostPort → HostPort) : kept [.host h, .flags] s (s.modPort h f) := fun p hp => by
  cases p
  case host k =>
    have hk : k ≠ h := fun e => hp (by simp [e])
    simp only [Part.same, s.port_modPort_other h k f hk]
  case flags => exact absurd (by simp) hp
  all_goals simp [Part.same, State.dev]

/-- A change of a port that leaves its interrupt flags alone. -/
theorem kept_modPort (s : State) (h : HostId) (f : HostPort → HostPort)
    (hf : ∀ p, (f p).flag0 = p.flag0 ∧ (f p).flag1 = p.flag1) : kept [.host h] s (s.modPort h f) := fun p hp => by
  cases p
  case flags =>
    cases h
    · exact ⟨(hf _).1, (hf _).2, rfl, rfl⟩
    · exact ⟨rfl, rfl, (hf _).1, (hf _).2⟩
  case host k => exact kept_modPort_flags s h f _ fun hk => hp (by simpa using hk)
  all_goals exact kept_modPort_flags s h f _ (by simp)

theorem kept_eventOn (s : State) (h : HostId) (b : Nat) : kept [.flags] s (s.eventOn h b) := fun p hp => by
  cases p
  case host k => cases h <;> cases k <;> rfl
  case flags => exact absurd (by simp) hp
  all_goals simp [Part.same, State.dev]

theorem kept_sems (s : State) (x : List (Option HostId)) : kept [.semaphores] s { s with sems := x } := fun p hp => by
  cases p
  case host k => cases k <;> rfl
  case semaphores => exact absurd (by simp) hp
  all_goals simp [Part.same, State.dev]

/-- A frame of a command at its end: what it changes is named, or is the trip path's. -/
theorem kept_end {s y : State} {out b : List Part} (h : kept out s y) (hab : ∀ p ∈ out, p ∈ b ++ tripParts) :
    kept (b ++ tripParts) s (s.finish y) :=
  State.kept_mono (kept_finish h) fun p hp =>
    (List.mem_append.1 hp).elim (fun k => List.mem_append.2 (.inr k)) (hab p)

/-! ### A write of one word -/

namespace State

variable (s : State)

/-- A write transaction of one word has been taken, before its word acts (R409, R412, R413). -/
def wrote (h : HostId) : State := s.transacted h (s.statusByte h :: List.replicate 7 0)

@[simp] theorem wrote_port (h : HostId) :
    (s.wrote h).port h = { s.port h with miso := s.statusByte h :: List.replicate 7 0, lastErr := 0 } := s.transacted_port h _
@[simp] theorem wrote_sems (h : HostId) : (s.wrote h).sems = s.sems := s.modPort_sems h _
@[simp] theorem wrote_swp (h : HostId) : (s.wrote h).swp = s.swp := s.modPort_swp h _
@[simp] theorem wrote_leg (h : HostId) : (s.wrote h).leg = s.leg := s.modPort_leg h _
@[simp] theorem wrote_pw (h : HostId) : (s.wrote h).pw = s.pw := s.modPort_pw h _
@[simp] theorem wrote_saf (h : HostId) : (s.wrote h).saf = s.saf := s.modPort_saf h _

theorem kept_wrote (h : HostId) : kept [.host h] s (s.wrote h) := kept_modPort s h _ fun _ => ⟨rfl, rfl⟩

/-- One word to a direct register that takes it without a code (R507). -/
theorem hostWrite_word {h : HostId} {a : Nat} {v : Word} {t : State} (hf : (s.port h).frozen = false) (hin : inWindow a = false)
    (hm : regMapped a = true) (ht : (s.wrote h).writeReg h a v = (0, t)) : s.hostWrite h a [v] = t := by
  have hrange : rangeError h true a [v].length = 0 := by unfold rangeError; simp [hin, hm]
  have hfr : ¬ ((s.shiftOut h (4 * [v].length + 4) (s.statusByte h :: List.replicate (4 * [v].length + 3) 0)).port h).frozen = true := by
    unfold State.shiftOut
    rw [port_modPort_self]
    simp [hf]
  have htake : (s.statusByte h :: List.replicate (4 * [v].length + 3) (0 : Byte)).take (4 * [v].length + 4)
      = s.statusByte h :: List.replicate 7 0 := rfl
  unfold State.hostWrite
  dsimp only
  rw [if_neg hfr, if_neg (not_not.2 hrange), s.endTransfer_zero h, htake, ← State.wrote]
  simp [hin, State.writeRegs, ht]

end State

/-- The end of a write whose word leaves the port as the transaction left it. -/
theorem acked_finish {s y : State} {h : HostId} (e : (y.port h).body = ((s.wrote h).port h).body) : acked s (s.finish y) h 1 := by
  unfold acked
  rw [State.finish_port_body, e, State.wrote_port]
  rfl

/-! ### Semaphores -/

theorem testBit_low (n : Nat) {k : Nat} (hk : k < 16) : (n % 65536).testBit k = n.testBit k := by
  rw [show 65536 = 2 ^ 16 from rfl, Nat.testBit_mod_two_pow]
  simp [hk]

namespace State

variable (s : State)

/-- A grab gives each free semaphore of the mask to the port and leaves every other with its holder (R428). -/
theorem semGrab_sems (h : HostId) (mask : Nat) {k : Nat} (hk : k < s.sems.length) : (s.semGrab h mask).sems.getD k none =
    if mask.testBit k = true ∧ s.sems.getD k none = none then some h else s.sems.getD k none := by
  unfold State.semGrab
  simp [List.getD_eq_getElem?_getD, hk]

/-- A release takes from the port the semaphores of the mask that it holds, and leaves every other with its holder (R428). -/
theorem semRelease_sems (h : HostId) (mask : Nat) {k : Nat} (hk : k < 16) : (s.semRelease h mask).sems.getD k none =
    if mask.testBit k = true ∧ s.sems.getD k none = some h then none else s.sems.getD k none := by
  have hrel : (s.semRelease h mask).sems = _ := congrArg Prod.fst (s.semRelease_asked h mask)
  rw [hrel]
  simp only [List.getD_eq_getElem?_getD, List.getElem?_map, List.getElem?_zipIdx, State.holds]
  cases hq : s.sems[k]? with
  | none => simp
  | some o => simp [hk, hq]

/-- Where no semaphore of the mask ends anything by its loss, a release touches the semaphores and an event flag alone (R428, R429). -/
theorem semRelease_quiet (h : HostId) (mask : Nat) (hm : ∀ k ∈ [0, 2, 4, 6], mask.testBit k = false) :
    kept [.semaphores, .flags] s (s.semRelease h mask) ∧ ∀ g, ((s.semRelease h mask).port g).body = (s.port g).body := by
  unfold State.semRelease
  extract_lets l u w
  have hw : w = u := by
    have hfold (l' : List Nat) (hl : ∀ k ∈ l', mask.testBit k = true) (t : State) : l'.foldl (fun s k => s.semLost h k) t = t := by
      induction l' with
      | nil => rfl
      | cons k l' ih =>
        have hk (i : Nat) (hi : i ∈ [0, 2, 4, 6]) : k ≠ i := fun e => by
          have := hm i hi
          rw [← e, hl k (by simp)] at this
          cases this
        have hlost : t.semLost h k = t := by
          unfold State.semLost
          rw [if_neg (hk 0 (by simp)), if_neg (hk 2 (by simp)), if_neg (hk 4 (by simp)), if_neg (hk 6 (by simp))]
        rw [List.foldl_cons, hlost, ih fun j hj => hl j (by simp [hj])]
    refine hfold l (fun k hk => ?_) u
    have := (List.mem_filter.1 hk).2
    simp only [Bool.and_eq_true] at this
    exact this.1
  rw [hw]
  have hu : kept [.semaphores] s u := kept_sems s _
  split
  · exact ⟨State.kept_mono hu (by simp), fun g => by cases g <;> rfl⟩
  · refine ⟨kept_trans hu (kept_eventOn u _ _), fun g => ?_⟩
    cases h <;> cases g <;> rfl

end State

/-! ### A port that is frozen -/

namespace State

variable {s : State} {h : HostId}

/-- Messages of a frozen port are discarded, and a message of the other port leaves this one alone (R424, R430). -/
theorem eventMsg_frozen (hf : (s.port h).frozen = true) (g : HostId) (pair code tag status : Nat) (res : List Byte) :
    ((s.eventMsg g pair code tag status res).port h).body = (s.port h).body := by
  unfold State.eventMsg State.stageMsg
  dsimp only
  by_cases hg : h = g
  · rw [← hg, if_pos hf]
  · split
    · rfl
    · split
      · rw [port_body_of_bare (raiseOpenEv_bare _ _ _ _ _)]
        unfold State.eventOn
        rw [port_modPort_other _ _ _ _ hg]
      · refine congrArg HostPort.body ?_
        cases (s.port g).frozen
        · exact s.port_modPort_other g h (fun p => { p with staged := p.staged ++ [_] }) hg
        · rfl

theorem tuneAbort_frozen (hf : (s.port h).frozen = true) (reason : Nat) : ((s.tuneAbort reason).port h).body = (s.port h).body := by
  have hmode (t : State) (n : Nat) (m : LoopMode) : ((t.setLoopMode n m).port h).body = (t.port h).body := by
    unfold State.setLoopMode
    split
    · rfl
    · exact event_port_body _ h _
  have hclose (x : Tuning) : ((s.tuneClose x reason).port h).body = (s.port h).body := by
    unfold State.tuneClose State.tuneSend
    dsimp only
    split
    · rfl
    · exact eventMsg_frozen hf _ _ _ _ _ _
  unfold State.tuneAbort
  split
  · rfl
  · next x _ =>
    extract_lets u v
    have hv : (v.port h).body = (s.port h).body := (hmode _ _ _).trans (hclose x)
    clear_value v
    split
    · exact hv
    · exact (port_body_of_bare (raiseOpenEv_bare _ _ _ _ _) h).trans hv

theorem semLost_frozen (hf : (s.port h).frozen = true) (g : HostId) (k : Nat) : ((s.semLost g k).port h).body = (s.port h).body := by
  unfold State.semLost
  split
  · rfl
  · split
    · exact foldl_keep (fun t : State => (t.port h).body) _ (fun t r => by unfold State.land; cases t.swp.hold <;> rfl) _ _
    · split
      · exact tuneAbort_frozen hf 5
      · split
        · unfold State.fwAbandon
          (repeat' split) <;> rfl
        · rfl

/-- What a release of its semaphores ends leaves a frozen port as it is (R429, R430). -/
theorem semRelease_frozen (hf : (s.port h).frozen = true) (mask : Nat) : ((s.semRelease h mask).port h).body = (s.port h).body := by
  unfold State.semRelease
  extract_lets l u w
  have hw : (w.port h).body = (s.port h).body := by
    refine List.foldlRecOn l (motive := fun t : State => (t.port h).body = (s.port h).body) _ rfl fun t ht k _ => ?_
    have htf : (t.port h).frozen = true := (congrArg HostPort.frozen ht).trans hf
    exact (semLost_frozen htf h k).trans ht
  clear_value w
  split
  · exact hw
  · unfold State.eventOn
    rw [port_modPort_other _ _ _ _ (by cases h <;> decide)]
    exact hw

/-- A violation freezes the port: its queues and staged messages are gone, its semaphores given back, its login over, and HOST
names the reason (R429, R430). -/
theorem freeze_freezes (hf : (s.port h).frozen = false) (reason : Nat) :
    ((s.freeze h reason).port h).frozen = true ∧ ((s.freeze h reason).port h).frzRsn = reason ∧
    ((s.freeze h reason).port h).level = 0 ∧ ((s.freeze h reason).port h).staged = [] ∧
    (∀ k, k < 16 → (s.freeze h reason).holds h k = false) ∧ (s.freeze h reason).hasCause ⟨0x1B, reason, 0, hostNum h⟩ = true := by
  unfold State.freeze
  rw [if_neg (by simp [hf])]
  extract_lets u w
  have hu : (u.port h).frozen = true ∧ (u.port h).frzRsn = reason ∧ (u.port h).staged = [] := by
    rw [port_modPort_self]
    refine ⟨rfl, rfl, ?_⟩
    cases h <;> rfl
  have hrel : ((u.semRelease h 0xFFFF).port h).body = (u.port h).body := semRelease_frozen hu.1 _
  have hsems (k : Nat) (hk : k < 16) : (u.semRelease h 0xFFFF).sems.getD k none ≠ some h := by
    have hbit : (0xFFFF).testBit k = true := (Nat.testBit_two_pow_sub_one 16 k).trans (by simpa using hk)
    rw [semRelease_sems _ _ _ hk, hbit]
    split
    · simp
    · next hn => exact fun he => hn ⟨rfl, he⟩
  have hw : (w.port h).body = { (u.port h).body with level := 0 } ∧ w.sems = (u.semRelease h 0xFFFF).sems := by
    have hlev : (((u.semRelease h 0xFFFF).setLevel h 0).port h).body = { ((u.semRelease h 0xFFFF).port h).body with level := 0 } ∧
        ((u.semRelease h 0xFFFF).setLevel h 0).sems = (u.semRelease h 0xFFFF).sems := by
      unfold State.setLevel
      split
      · next h0 => exact ⟨by rw [← h0]; rfl, rfl⟩
      · refine ⟨?_, by simp⟩
        unfold State.eventOn
        rw [port_modPort_self, port_modPort_self]
        rfl
    refine ⟨?_, (eventOn_sems _ _ _).trans hlev.2⟩
    have hother : w.port h = ((u.semRelease h 0xFFFF).setLevel h 0).port h := by
      exact port_modPort_other _ _ _ _ (by cases h <;> decide)
    rw [hother, hlev.1, hrel]
  have hbody : ((w.raiseOpenEv 0x1B reason 0 (hostNum h)).port h).body = { (u.port h).body with level := 0 } :=
    (port_body_of_bare (raiseOpenEv_bare _ _ _ _ _) h).trans hw.1
  refine ⟨(congrArg HostPort.frozen hbody).trans hu.1, (congrArg HostPort.frzRsn hbody).trans hu.2.1,
    congrArg HostPort.level hbody, (congrArg HostPort.staged hbody).trans hu.2.2, fun k hk => ?_, raiseOpenAt_hasCause _ _ _ _⟩
  unfold State.holds
  rw [sems_of_bare (raiseOpenEv_bare _ _ _ _ _), hw.2]
  exact decide_eq_false (hsems k hk)

end State

section
variable {s : State} (hr : s.pw.running = true) {h : HostId} {v : Word} (hf : (s.port h).frozen = false)
include hr hf

theorem semTake_answers : answers (.semTake h v) s fun t => acked s t h 1 ∧ kept (.semaphores :: .host h :: tripParts) s t ∧
    ∀ k, k < 16 → k < s.sems.length → t.sems.getD k none =
      if v.toNat.testBit k = true ∧ s.sems.getD k none = none then some h else s.sems.getD k none := by
  refine answers_onC hr (by rfl) ?_
  rw [s.hostWrite_word hf rfl rfl rfl]
  refine ⟨acked_finish (by cases h <;> rfl),
    kept_end (b := [.semaphores, .host h]) (kept_trans (s.kept_wrote h) (kept_sems _ _)) (by simp), fun k h16 hk => ?_⟩
  rw [State.finish_sems, State.semGrab_sems _ _ _ (by simpa using hk), testBit_low _ h16, State.wrote_sems]

theorem semGive_answers : answers (.semGive h v) s fun t =>
    (∀ k, k < 16 → t.sems.getD k none =
      if v.toNat.testBit k = true ∧ s.sems.getD k none = some h then none else s.sems.getD k none) ∧
    ((∀ k ∈ [0, 2, 4, 6], v.toNat.testBit k = false) →
      acked s t h 1 ∧ kept (.semaphores :: .host h :: tripParts) s t) := by
  refine answers_onC hr (by rfl) ?_
  rw [s.hostWrite_word hf rfl rfl rfl]
  refine ⟨fun k h16 => ?_, fun hm => ?_⟩
  · rw [State.finish_sems, State.semRelease_sems _ _ _ h16, testBit_low _ h16, State.wrote_sems]
  · have hq (k : Nat) (hk : k ∈ [0, 2, 4, 6]) : (v.toNat % 65536).testBit k = false := by
      rw [testBit_low _ (by simp at hk; omega), hm k hk]
    obtain ⟨hkept, hbody⟩ := (s.wrote h).semRelease_quiet h (v.toNat % 65536) hq
    exact ⟨acked_finish (hbody h),
      kept_end (b := [.semaphores, .host h]) (kept_trans (s.kept_wrote h) hkept) (by simp [tripParts])⟩

omit hr in
/-- A port that may write SWP_CTRL or ERR_CTRL writes it (R476, R508). -/
theorem State.hostWrite_controlled {a : Nat} (ha : a = 0x30 ∨ a = 0x40) (hs : s.holds h 0 = true) (hl : 2 ≤ s.levelOf h)
    (hk : s.par Fld.lockReg 0 ≠ 1) : s.hostWrite h a [v] = (s.wrote h).directWrite h a v := by
  have hw : (s.wrote h).writeLocked h a v = (0, (s.wrote h).directWrite h a v) := by
    unfold State.writeLocked
    have h1 : (s.wrote h).holds h Sem.legend = true := by unfold State.holds; rw [State.wrote_sems]; exact hs
    have h2 : ¬ ((s.wrote h).port h).level < 2 := by rw [State.wrote_port]; exact Nat.not_lt.2 hl
    have h3 : (s.wrote h).par Fld.lockReg 0 ≠ 1 := by unfold State.par; rw [State.wrote_leg]; exact hk
    rw [if_neg (by simp [h1]), if_neg h2, if_neg h3]
  obtain rfl | rfl := ha <;> exact s.hostWrite_word hf rfl rfl hw

omit hr in
/-- A write to SWP_CTRL or ERR_CTRL by a port without the semaphore freezes it (R428, R508). -/
theorem State.hostWrite_uncontrolled {a : Nat} (ha : a = 0x30 ∨ a = 0x40) (hs : s.holds h 0 = false) :
    s.hostWrite h a [v] = (s.wrote h).freeze h 1 := by
  have hw : (s.wrote h).writeLocked h a v = (0, (s.wrote h).freeze h 1) := by
    unfold State.writeLocked
    rw [if_pos]
    unfold State.holds
    rw [State.wrote_sems]
    exact hs
  obtain rfl | rfl := ha <;> exact s.hostWrite_word hf rfl rfl hw

omit hr hf in
/-- The end of a write that changes the sweep block alone. -/
theorem State.acked_sweep (x : SweepSt) : acked s (s.finish { s.wrote h with swp := x }) h 1 ∧
    kept (.sweep :: .host h :: tripParts) s (s.finish { s.wrote h with swp := x }) ∧
    (s.finish { s.wrote h with swp := x }).swp = x :=
  ⟨acked_finish (by cases h <;> rfl),
    kept_end (b := [.sweep, .host h]) (kept_trans (s.kept_wrote h) (kept_sweep _ _)) (by simp), State.finish_swp _ _⟩

/-- A write to SWP_CTRL or ERR_CTRL lands before the cut-off and is held after it (R57, R405, R509). -/
theorem controlWrite_answers {c : Instr} {a : Nat} {l : Landed}
    (hc : c = .swpCtrlWrite h v ∧ a = 0x30 ∧ l = .swpCtrl (word (swpBits v.toNat)) ∧ swpRefused v.toNat = false
        ∨ c = .errCtrlWrite h v ∧ a = 0x40 ∧ l = .errCtrl (word (errBits v.toNat)) ∧ bits v.toNat 18 16 < 5)
    (hs : s.holds h 0 = true) (hl : 2 ≤ s.levelOf h) (hk : s.par Fld.lockReg 0 ≠ 1) : answers c s fun t =>
      acked s t h 1 ∧ kept (.sweep :: .host h :: tripParts) s t ∧
      t.swp = (if s.swp.hold then { s.swp with held := s.swp.held ++ [⟨h, a, v⟩] }
        else if a = 0x30 then { s.swp with shadow := word (swpBits v.toNat), landed := s.swp.landed ++ [l] }
        else { s.swp with errShadow := word (errBits v.toNat), landed := s.swp.landed ++ [l] }) := by
  have hw := State.hostWrite_controlled hf (v := v) (a := a) (hc.imp (·.2.1) (·.2.1)) hs hl hk
  have he : exec c s = onC s fun s => s.hostWrite h a [v] := by
    obtain ⟨rfl, rfl, -⟩ | ⟨rfl, rfl, -⟩ := hc <;> rfl
  refine answers_onC hr he ?_
  rw [hw]
  unfold State.directWrite
  rw [State.wrote_swp]
  split
  · exact State.acked_sweep _
  · obtain ⟨-, rfl, rfl, hv⟩ | ⟨-, rfl, rfl, hv⟩ := hc
    · unfold State.landHeld State.landSwp
      rw [if_pos rfl, if_pos rfl, hv, State.wrote_swp]
      exact State.acked_sweep _
    · unfold State.landHeld State.landErr
      rw [if_neg (by simp), if_pos rfl, if_neg (by dsimp only; omega), State.wrote_swp]
      exact State.acked_sweep _

/-- A write to SWP_CTRL or ERR_CTRL without the semaphore freezes the port (R428 to R430, R508). -/
theorem controlWrite_freezes {c : Instr} (hc : c = .swpCtrlWrite h v ∨ c = .errCtrlWrite h v) (hs : s.holds h 0 = false) :
    answers c s fun t => (t.port h).frozen = true ∧ (t.port h).frzRsn = 1 ∧ (t.port h).level = 0 ∧ (t.port h).staged = [] ∧
      (∀ k, k < 16 → t.holds h k = false) ∧ t.hasCause ⟨0x1B, 1, 0, hostNum h⟩ = true := by
  obtain ⟨a, ha, he⟩ : ∃ a, (a = 0x30 ∨ a = 0x40) ∧ exec c s = onC s fun s => s.hostWrite h a [v] := by
    obtain rfl | rfl := hc
    · exact ⟨0x30, .inl rfl, rfl⟩
    · exact ⟨0x40, .inr rfl, rfl⟩
  refine answers_onC hr he ?_
  rw [State.hostWrite_uncontrolled hf ha hs]
  have hfz : ((s.wrote h).port h).frozen = false := by rw [State.wrote_port]; exact hf
  obtain ⟨h1, h2, h3, h4, h5, h6⟩ := State.freeze_freezes hfz 1
  have hb := s.finish_port_body ((s.wrote h).freeze h 1) h
  refine ⟨(congrArg HostPort.frozen hb).trans h1, (congrArg HostPort.frzRsn hb).trans h2, (congrArg HostPort.level hb).trans h3,
    (congrArg HostPort.staged hb).trans h4, fun k hk => ?_, by rw [State.finish_hasCause, h6]⟩
  unfold State.holds
  rw [State.finish_sems]
  exact h5 k hk

/-! ### SWP_STATE -/

/-- A request of SERVICE that the head may take lands before the cut-off (R494). -/
theorem request_lands {c : Instr} {l : Landed}
    (hc : c = .requestConfig h ∧ l = .requestConfig ∧ s.pw.op ≠ .locked ∧ s.allSafe = true ∨ c = .withdrawConfig h ∧ l = .withdrawConfig)
    (hl : 2 ≤ s.levelOf h) (hh : s.swp.hold = false) : answers c s fun t => acked s t h 1 ∧
      t.swp = { s.swp with landed := s.swp.landed ++ [l] } ∧ kept (.sweep :: .host h :: tripParts) s t := by
  have h2 : ¬ ((s.wrote h).port h).level < 2 := by rw [State.wrote_port]; exact Nat.not_lt.2 hl
  have hstate (w : Word) (h7 : bit w.toNat 7 = false) (hq : bits w.toNat 5 4 ≠ 0) :
      s.hostWrite h 0x34 [w] = (s.wrote h).landReq h (bits w.toNat 5 4) := by
    refine s.hostWrite_word hf rfl rfl (congrArg (Prod.mk 0) ?_)
    unfold State.writeState State.directWrite State.landHeld
    dsimp only
    rw [if_neg (Bool.eq_false_iff.1 h7), if_neg hq, if_neg h2, if_neg (by rw [State.wrote_swp, hh]; simp), if_neg (by simp), if_neg (by simp)]
  have hend : ∃ w, exec c s = onC s (fun s => s.hostWrite h 0x34 [w]) ∧
      s.hostWrite h 0x34 [w] = { s.wrote h with swp := { s.swp with landed := s.swp.landed ++ [l] } } := by
    obtain ⟨rfl, rfl, ho, hs⟩ | ⟨rfl, rfl⟩ := hc
    · refine ⟨0x10, rfl, ?_⟩
      rw [hstate _ rfl (by decide), show bits (0x10 : Word).toNat 5 4 = 1 from by decide]
      unfold State.landReq
      have hsafe : (s.wrote h).allSafe = true := by unfold State.allSafe; rw [State.wrote_saf]; exact hs
      dsimp only
      rw [if_neg (by simp [ho, hsafe]), State.wrote_swp]
      rfl
    · refine ⟨0x20, rfl, ?_⟩
      rw [hstate _ rfl (by decide), show bits (0x20 : Word).toNat 5 4 = 2 from by decide]
      unfold State.landReq
      dsimp only
      rw [State.wrote_swp]
      rfl
  obtain ⟨w, he, hw⟩ := hend
  refine answers_onC hr he ?_
  rw [hw]
  obtain ⟨h1, h2, h3⟩ := State.acked_sweep (s := s) (h := h) { s.swp with landed := s.swp.landed ++ [l] }
  exact ⟨h1, h3, h2⟩

/-- A request below SERVICE is refused with REJ (R494, R508). -/
theorem request_refused {c : Instr} (hc : c = .requestConfig h ∨ c = .withdrawConfig h) (hl : s.levelOf h < 2) :
    answers c s fun t => acked s t h 1 ∧ t.pw = { s.pw with stRej := true } ∧ kept (.power :: .host h :: tripParts) s t := by
  have h2 : ((s.wrote h).port h).level < 2 := by rw [State.wrote_port]; exact hl
  have hstate (w : Word) (h7 : bit w.toNat 7 = false) (hq : bits w.toNat 5 4 ≠ 0) :
      s.hostWrite h 0x34 [w] = (s.wrote h).rejState h := by
    refine s.hostWrite_word hf rfl rfl (congrArg (Prod.mk 0) ?_)
    unfold State.writeState
    dsimp only
    rw [if_neg (Bool.eq_false_iff.1 h7), if_neg hq, if_pos h2]
  obtain ⟨w, he, hw⟩ : ∃ w, exec c s = onC s (fun s => s.hostWrite h 0x34 [w]) ∧ s.hostWrite h 0x34 [w] = (s.wrote h).rejState h := by
    obtain rfl | rfl := hc
    · exact ⟨0x10, rfl, hstate _ rfl (by decide)⟩
    · exact ⟨0x20, rfl, hstate _ rfl (by decide)⟩
  refine answers_onC hr he ?_
  rw [hw]
  unfold State.rejState
  refine ⟨acked_finish (by cases h <;> rfl), by simp, ?_⟩
  exact kept_end (b := [.power, .host h]) (kept_trans (kept_trans (s.kept_wrote h) (kept_power _ _)) (kept_eventOn _ _ _))
    (by simp [tripParts])

/-! ### Transactions byte for byte -/

omit hr in
/-- The bytes of a write of one word to a plain register of the port act on the port alone (R409, R506, R507). -/
theorem State.hostWriteBytes_register {a : Nat} (ha : a < 65536) {f : HostPort → HostPort} (hin : inWindow a = false)
    (hm : regMapped a = true) (hw : (s.wrote h).writeReg h a v = (0, (s.wrote h).modPort h f)) :
    s.hostWriteBytes h (writeBytes a v) = (s.wrote h).modPort h f := by
  rw [s.hostWriteBytes_writeBytes hf ha, s.hostWrite_word hf hin hm hw]

omit hr hf in
/-- The end of a write that changes the port alone. -/
theorem State.wrote_modPort_end (f : HostPort → HostPort) :
    ((s.finish ((s.wrote h).modPort h f)).port h).body
        = (f { s.port h with miso := s.statusByte h :: List.replicate 7 0, lastErr := 0 }).body ∧
      kept (.host h :: tripParts) s (s.finish ((s.wrote h).modPort h f)) := by
  refine ⟨?_, kept_end (b := [.host h]) (kept_trans (s.kept_wrote h) (kept_modPort_flags _ _ _)) (by simp [tripParts])⟩
  rw [State.finish_port_body, State.port_modPort_self, State.wrote_port]

omit hr hf in
/-- At rest the end of a command keeps the flags of a port as the write left them. -/
theorem State.wrote_modPort_rest (hr : s.atRest) (f : HostPort → HostPort) :
    (s.finish ((s.wrote h).modPort h f)).port h = f { s.port h with miso := s.statusByte h :: List.replicate 7 0, lastErr := 0 } := by
  rw [State.finish_id s hr (by cases h <;> rfl) (by cases h <;> rfl) (by simp) (by simp) (by cases h <;> rfl), ← s.wrote_port h,
    ← (s.wrote h).port_modPort_self h f]
  cases h <;> rfl

/-- One written word acts where it belongs (R413, R415, R433, R506). -/
theorem registerWrite_answers (a : Nat) : answers (.registerWrite h (writeBytes a v)) s fun t =>
    (a = 0x02 → (t.port h).body = { (s.port h).body with
      scratch := v, lastErr := 0, miso := s.statusByte h :: List.replicate 7 0 }) ∧
    (a = 0x10 → s.atRest → (t.port h).flag0 = (s.port h).flag0 &&& ~~~v) ∧
    (a = 0x11 → s.atRest → (t.port h).flag1 = (s.port h).flag1 &&& ~~~v) ∧
    (a = 0x12 → (t.port h).mask0 = v) ∧ (a = 0x13 → (t.port h).mask1 = v) ∧
    (a = 0x02 ∨ a = 0x10 ∨ a = 0x11 ∨ a = 0x12 ∨ a = 0x13 → kept (.host h :: tripParts) s t) := by
  have he : execRegisterWrite h (writeBytes a v) s
      = onC s fun s => if 128 ≤ ((writeBytes a v).headD 0).toNat then s.hostWriteBytes h (writeBytes a v) else s := rfl
  refine answers_onC hr he ?_
  have h128 : 128 ≤ ((writeBytes a v).headD 0).toNat := (by decide : 128 ≤ 128)
  rw [if_pos h128]
  refine ⟨?_, ?_, ?_, ?_, ?_, ?_⟩
  · rintro rfl
    rw [State.hostWriteBytes_register hf (by decide) rfl rfl rfl]
    exact (State.wrote_modPort_end _).1
  · rintro rfl hrest
    rw [State.hostWriteBytes_register hf (by decide) rfl rfl rfl, State.wrote_modPort_rest hrest]
  · rintro rfl hrest
    rw [State.hostWriteBytes_register hf (by decide) rfl rfl rfl, State.wrote_modPort_rest hrest]
  · rintro rfl
    rw [State.hostWriteBytes_register hf (by decide) rfl rfl rfl]
    exact congrArg HostPort.mask0 (State.wrote_modPort_end _).1
  · rintro rfl
    rw [State.hostWriteBytes_register hf (by decide) rfl rfl rfl]
    exact congrArg HostPort.mask1 (State.wrote_modPort_end _).1
  · rintro (rfl | rfl | rfl | rfl | rfl) <;> rw [State.hostWriteBytes_register hf (by decide) rfl rfl rfl] <;>
      exact (State.wrote_modPort_end _).2

omit hr hf in
/-- The code of a transaction is LASTERR at its end; what else an error touches is the count of errors, the event flag and what
HOST 0x05 raises (R413). -/
theorem State.endTransfer_error (t : State) (code : Nat) :
    ((t.endTransfer h code).port h).lastErr = code ∧ kept (.host h :: faultParts) t (t.endTransfer h code) := by
  unfold State.endTransfer
  extract_lets u w x
  have hu : (u.port h).lastErr = code ∧ kept [.host h, .flags] t u :=
    ⟨congrArg HostPort.lastErr (t.port_modPort_self h _), kept_modPort_flags _ _ _⟩
  have hw : (w.port h).lastErr = code ∧ kept [.host h, .flags] t w := by
    by_cases hc : code = 0
    · rw [show w = u from if_pos hc]
      exact hu
    · rw [show w = u.eventOn h Ev.xerr from if_neg hc]
      exact ⟨hu.1 ▸ by cases h <;> rfl, State.kept_mono (kept_trans hu.2 (kept_eventOn u h _)) (by simp)⟩
  have hx : (x.port h).lastErr = code ∧ kept [.host h, .flags] t x :=
    ⟨by rw [State.port_modPort_self]; exact hw.1, State.kept_mono (kept_trans hw.2 (kept_modPort_flags _ _ _)) (by simp)⟩
  have hmono {y : State} (hy : kept [.host h, .flags] t y) : kept (.host h :: faultParts) t y :=
    State.kept_mono hy (by simp [faultParts])
  split
  · split
    · have hb := State.raiseOpenEv_bare x 0x1B 5 0 (hostNum h)
      exact ⟨(congrArg HostPort.lastErr (State.port_body_of_bare hb h)).trans hx.1,
        State.kept_mono (kept_trans hx.2 (State.kept_of_bare hb)) (by simp [faultParts])⟩
    · exact ⟨hx.1, hmono hx.2⟩
  · exact ⟨hw.1, hmono hw.2⟩

/-- A write transaction of the right length with a bad CRC ends with the code 0x02, and its words act nowhere (R413). -/
theorem badCrc_answers {mosi : List Byte} {n : Nat} (hn : n = (mosi.headD 0).toNat % 64 + 1) (hop : 128 ≤ (mosi.headD 0).toNat)
    (hl : mosi.length = 4 * n + 4) (hc : crc8 (mosi.take (4 * n + 3)) ≠ field mosi (4 * n + 3) 1) :
    answers (.registerWrite h mosi) s fun t => (t.port h).lastErr = 2 ∧ kept (.host h :: faultParts) s t := by
  refine answers_onC hr (by rfl) ?_
  rw [if_pos hop]
  unfold State.hostWriteBytes
  dsimp only
  rw [if_neg (by simp [hf]), ← hn, if_neg (by simp [hl]), if_pos hc]
  generalize hu : s.shiftOut h mosi.length _ = u
  have hk : kept [.host h] s u := hu ▸ kept_modPort s h _ fun _ => ⟨rfl, rfl⟩
  obtain ⟨h1, h2⟩ := u.endTransfer_error (h := h) 2
  exact ⟨(s.finish_lastErr _ h).trans h1, State.kept_mono (kept_finish (kept_trans hk h2)) (by simp [tripParts, faultParts])⟩

omit hr in
/-- A read of registers whose header passes shifts out the status, three bytes, the words and their CRC (R409, R506). -/
theorem State.hostRead_registers {op hi lo n len : Nat} {data : List Byte} (hb : bit op 6 = false) (hin : inWindow (256 * hi + lo) = false)
    (hm : ∀ i, i < n → regMapped (256 * hi + lo + i) = true)
    (hd : data = wordsToBytes ((List.range n).map fun i => word (s.readReg h (256 * hi + lo + i)))) :
    s.hostRead h op hi lo n len true = s.transacted h ((s.statusByte h :: ([0, 0, 0] ++ data ++
      [BitVec.ofNat 8 (crc8 ([BitVec.ofNat 8 op, BitVec.ofNat 8 hi, BitVec.ofNat 8 lo] ++ data))])).take len) := by
  have hrange : rangeError h false (256 * hi + lo) n = 0 := by
    unfold rangeError
    rw [if_neg (by simp [hin]), if_pos (List.all_eq_true.2 fun i hi => hm i (List.mem_range.1 hi))]
  have hwords : s.readWords h (256 * hi + lo) n = ((List.range n).map fun i => word (s.readReg h (256 * hi + lo + i)), 0) := by
    unfold State.readWords
    rw [if_neg (by simp [hin])]
  unfold State.hostRead
  simp only [hf, hb, hrange, hwords, ← hd, Bool.false_eq_true, Bool.true_eq_false, if_false, if_true]
  exact s.endTransfer_zero h len _

omit hr hf in
/-- The header of a transaction, byte for byte (R409). -/
theorem header_bytes {mosi : List Byte} (hl : 4 ≤ mosi.length) : mosi.take 3 =
    [BitVec.ofNat 8 (mosi.headD 0).toNat, BitVec.ofNat 8 (field mosi 1 1), BitVec.ofNat 8 (field mosi 2 1)] := by
  match mosi, hl with
  | x :: y :: z :: l, _ => simp [field, ofLe_byte]

/-- A read of registers answers their values (R409, R413, R506). -/
theorem readTransaction_answers {mosi data : List Byte} {a n : Nat} (hop : (mosi.headD 0).toNat < 64) (hl : 4 ≤ mosi.length)
    (hc : crc8 (mosi.take 3) = field mosi 3 1) (ha : a = 256 * field mosi 1 1 + field mosi 2 1) (hn : n = (mosi.headD 0).toNat + 1)
    (hm : ∀ i, i < n → regMapped (a + i) = true) (hd : data = wordsToBytes ((List.range n).map fun i => word (s.readReg h (a + i)))) :
    answers (.readTransaction h mosi) s fun t =>
      (t.port h).body = { (s.port h).body with
        lastErr := 0
        miso := (s.statusByte h :: ([0, 0, 0] ++ data ++ [BitVec.ofNat 8 (crc8 (mosi.take 3 ++ data))])).take mosi.length } ∧
      kept (.host h :: tripParts) s t := by
  have hin : inWindow a = false := by
    have h0 := hm 0 (by omega)
    simp only [regMapped, inWindow, Bool.or_eq_true, decide_eq_true_eq, decide_eq_false_iff_not] at h0 ⊢
    omega
  have hb : bit (mosi.headD 0).toNat 6 = false := Nat.testBit_lt_two_pow (by omega)
  have hread := State.hostRead_registers hf (op := (mosi.headD 0).toNat) (len := mosi.length) hb (ha ▸ hin) (ha ▸ hm) (ha ▸ hd)
  rw [← header_bytes hl] at hread
  refine answers_onC hr (by rfl) ?_
  dsimp only
  have hne : mosi ≠ [] := fun e => by rw [e] at hl; cases hl
  rw [if_neg (by simp only [hne, false_or]; omega), if_neg (by omega), Nat.mod_eq_of_lt hop, ← hn, decide_eq_true hc, hread]
  generalize List.take mosi.length _ = m
  refine ⟨?_, kept_end (b := [.host h]) (kept_modPort s h _ fun _ => ⟨rfl, rfl⟩) (by simp)⟩
  rw [State.finish_port_body, State.transacted_port]
  rfl

end

/-- Settles O58, one transaction after the other: each is a write or a read of one port, and what its words do. -/
theorem registersAct : Obligations.RegistersAct := by
  unfold Obligations.RegistersAct
  intro s h v hr hf
  refine ⟨semTake_answers hr hf, semGive_answers hr hf, fun c a l hc => ⟨controlWrite_answers hr hf hc, ?_⟩,
    fun c l hc => ⟨request_lands hr hf hc, ?_⟩, ?_, fun mosi n => badCrc_answers hr hf, ?_⟩
  · exact controlWrite_freezes hr hf (hc.imp (·.1) (·.1))
  · exact request_refused hr hf (hc.imp (·.1) (·.1))
  · rintro a _ rfl
    exact registerWrite_answers hr hf a
  · intro mosi hop hl hc a n data ha hn hm _ hd
    exact readTransaction_answers hr hf hop hl hc ha hn hm hd

end Sys2Proof.Machine
end
section
/-!
SUPPORT. Samples: what a sample of the cells leaves of the shunt's path, what the shunt sample enters, and what an overcurrent at
the head's S-die does (R54, R101, R192, R197, R401), and with them O46.
-/

namespace Sys2Proof.Machine

/-- What a command answers holds of the state that it ends in. -/
theorem answers_at {c : Instr} {s t : State} {P : State → Prop} (h : answers c s P) (ht : exec c s = .next t) : P t := by
  obtain ⟨u, hu, hp⟩ := h
  rw [ht] at hu
  cases hu
  exact hp

/-! ### The samples of the cells and the shunt's path -/

namespace Dev

variable (x : Dev)

/-- What a shunt sample reads of its device: the role, the settings, the samples that still fill, record 188 and the link. -/
def shuntPath : Role × SMap Nat × Nat × Acc × Nat × Option Nat :=
  (x.role, x.fields, x.shuntFill, x.acc 188, x.accs.length, (x.mod 26).conn)

theorem modAcc_shuntPath {r : Nat} (f : Acc → Acc) (h : r ≠ 188) : (x.modAcc r f).shuntPath = x.shuntPath := by
  have hacc : (x.modAcc r f).acc 188 = x.acc 188 := (State.getD_modAt _ _ _ _ _).trans (if_neg fun e => h e.1)
  unfold shuntPath
  rw [hacc]
  exact congrArg (fun n => (x.role, x.fields, x.shuntFill, x.acc 188, n, (x.mod 26).conn)) (List.length_modify _ _ _)

theorem classify_shuntPath (m : Nat → Int) {k : Nat} (a : Nat) (hk : k < 24) : (x.classify m k a).1.shuntPath = x.shuntPath := by
  have h (y : Dev) (f : Acc → Acc) : (y.modAcc k f).shuntPath = y.shuntPath := y.modAcc_shuntPath f (by omega)
  unfold Dev.classify
  dsimp only
  (repeat' split) <;> simp only [h]

theorem excursions_shuntPath (raw : List RawSample) : (x.excursions raw).shuntPath = x.shuntPath := by
  unfold Dev.excursions
  extract_lets u
  have hu : u.shuntPath = x.shuntPath := foldl_keep shuntPath _ (fun y k => by rfl) _ _
  clear_value u
  refine (foldl_keep shuntPath _ (fun y k => ?_) _ u).trans hu
  split <;> rfl

theorem sampled_shuntPath : x.sampled.shuntPath = x.shuntPath := by
  have hconn : (x.sampled.mod 26).conn = (x.mod 26).conn := by
    unfold Dev.sampled Dev.mod
    simp only [List.getD_eq_getElem?_getD, List.getElem?_map]
    cases x.mods[26]? with
    | none => rfl
    | some y => cases hy : y.conn <;> simp [hy]
  unfold shuntPath
  rw [hconn]
  rfl

/-- The samples of the cells and their tap sum leave the shunt's path as it is (R101, R118). -/
theorem cellSamples_shuntPath (raw : List RawSample) (t : Nat) : (x.cellSamples raw t).shuntPath = x.shuntPath := by
  unfold Dev.cellSamples
  extract_lets m u a r row1 v w
  have hr : r.1.shuntPath = x.shuntPath :=
    List.foldlRecOn _ (motive := fun y : Dev × List (Option Int) => y.1.shuntPath = x.shuntPath) _ (x.excursions_shuntPath raw)
      fun y hy k hk => (y.1.classify_shuntPath m a (List.mem_range.1 hk)).trans hy
  have hv : v.shuntPath = x.shuntPath := (r.1.modAcc_shuntPath _ (by decide)).trans hr
  have hw : w.shuntPath = x.shuntPath := by
    by_cases hc : r.2.all (·.isSome) = true
    · rw [show w = v.modAcc 177 _ from if_pos hc]
      exact (v.modAcc_shuntPath _ (by decide)).trans hv
    · rw [show w = v from if_neg hc]
      exact hv
  clear_value w
  exact (sampled_shuntPath _).trans hw

/-- What the shunt sample leaves in record 188 and of the samples that still fill (R118, R192). -/
theorem shuntTake_enters (code : Int) (ovl : Bool) (hl : 188 < x.accs.length) :
    (x.shuntFill = 0 → (x.shuntTake code ovl).acc 188 = ((x.acc 188).add code).flag (fun f => { f with ovr := f.ovr || ovl })) ∧
    (x.shuntFill ≠ 0 → (x.shuntTake code ovl).acc 188 = { x.acc 188 with row1 := true } ∧
      (x.shuntTake code ovl).shuntFill = x.shuntFill - 1) := by
  have hacc (f : Acc → Acc) : (x.modAcc 188 f).acc 188 = f (x.acc 188) := (State.getD_modAt _ _ _ _ _).trans (if_pos ⟨rfl, hl⟩)
  unfold shuntTake
  refine ⟨fun h0 => ?_, fun h0 => ?_⟩
  · rw [if_neg (by omega)]
    exact hacc _
  · rw [if_pos (by omega)]
    exact ⟨hacc _, rfl⟩

end Dev

namespace State

variable (s : State)

/-- A shunt sample at the head: the head holds it, and it enters its S-die (R192). -/
theorem shuntSample_head {t : Nat} {raw : RawSample} (hr : s.pw.running = true) (hl : 0 < s.devs.length)
    (hh : (s.dev 0).isHead = true) (hc : ((s.dev 0).mod 26).conn ≠ none) {ovl : Bool} {code : Int} (ho : ovl = (clipShunt raw).2)
    (hcode : code = (s.dev 0).scaleShunt (clipShunt raw).1 ovl) :
    (s.shuntSample 0 t raw).der.shunt = ⟨t, code, ovl, (clipShunt raw).1⟩ :: s.der.shunt ∧
    (s.shuntSample 0 t raw).dev 0 = (s.dev 0).shuntTake code ovl := by
  have hself (f : Dev → Dev) : (s.modDev 0 f).dev 0 = f (s.dev 0) := dev_modDev_self s 0 f hl
  subst ho
  unfold State.shuntSample
  dsimp only
  rw [if_neg (by simp [hh, hc]), ← hcode, if_pos ⟨rfl, hr⟩]
  cases decide ((s.dev 0).shuntFill = 0)
  · exact ⟨rfl, hself (·.shuntTake code (clipShunt raw).2)⟩
  · exact ⟨rfl, hself (·.shuntTake code (clipShunt raw).2)⟩

/-- A device without the shunt takes no shunt sample. -/
theorem shuntSample_member {d : Nat} (t : Nat) (raw : RawSample) (hh : (s.dev d).isHead = false) : s.shuntSample d t raw = s := by
  unfold State.shuntSample
  dsimp only
  exact if_pos (.inl hh)

theorem shuntSample_others {d e : Nat} (t : Nat) (raw : RawSample) (he : e ≠ d) : (s.shuntSample d t raw).dev e = s.dev e := by
  have hoth (f : Dev → Dev) : (s.modDev d f).dev e = s.dev e := dev_modDev_other s d e f he
  unfold State.shuntSample
  dsimp only
  split
  · rfl
  · split
    · cases decide ((s.dev d).shuntFill = 0) <;> exact hoth _
    · exact hoth _

/-- S_ERR touches the level at the head's S-die alone (R401). -/
theorem sErrUpdate_dev {β : Type} (g : Dev → β) (e : Nat) (hb : ∀ x : Dev, g x.body = g x)
    (hg : ∀ (t : State) (b : Bool), g ((t.modDev 0 fun x => { x with sErr := b }).dev e) = g (t.dev e)) :
    g (s.sErrUpdate.dev e) = g (s.dev e) := by
  unfold State.sErrUpdate
  dsimp only
  split
  · exact (Dev.eq_of_body g (evalTrip_body _ e) hb).trans (hg s _)
  · exact hg s _

theorem sErrUpdate_steady : s.sErrUpdate.steady = s.steady := by
  unfold State.sErrUpdate
  dsimp only
  split
  · exact evalTrip_steady _
  · rfl

/-- The overcurrent's end touches its causes and S_ERR alone, of the head's S-die (R197). -/
theorem overcurrentClear_dev {β : Type} (g : Dev → β) (e : Nat) (hb : ∀ x : Dev, g x.body = g x)
    (hg : ∀ (t : State) (b : Bool), g ((t.modDev 0 fun x => { x with sErr := b }).dev e) = g (t.dev e))
    (hc : ∀ t : State, g ((t.modDev 0 fun x => { x with ocCause := (false, false) }).dev e) = g (t.dev e)) :
    g (s.overcurrentClear.dev e) = g (s.dev e) := by
  have hclear (t : State) (k : Nat) : g ((t.clear 0x0E k 0 0).dev e) = g (t.dev e) :=
    Dev.eq_of_body g (body_of_bare (clearAt_bare t _ _) e) hb
  unfold State.overcurrentClear
  dsimp only
  split
  · rw [sErrUpdate_dev _ g e hb hg]
    exact (cond_keep (fun t : State => g (t.dev e)) _ _ _ ((hclear _ _).trans (hclear _ _))).trans (hc s)
  · rfl

theorem overcurrentClear_steady : s.overcurrentClear.steady = s.steady := by
  unfold State.overcurrentClear
  dsimp only
  split
  · rw [sErrUpdate_steady]
    exact cond_keep State.steady _ _ _ ((clearAt_steady _ _ _).trans (clearAt_steady _ _ _))
  · rfl

theorem shunt_of_steady {s t : State} (h : t.steady = s.steady) : t.der.shunt = s.der.shunt :=
  congrArg (fun x => x.2.2.1.shunt) h

end State
/-! ### SAMPLE_COMPLETE -/

/-- A sample that completes at `n` enters the records of its device (R101). -/
def Dev.takeSample (x : Dev) (raw : List RawSample) (n : Nat) : Dev :=
  { (x.arbSample raw).cellSamples raw n with sampleNo := x.sampleNo + 1 }

/-- A sample of the cells leaves what the shunt sample reads. -/
theorem Dev.takeSample_keeps (x : Dev) (raw : List RawSample) (n : Nat) :
    (x.takeSample raw n).role = x.role ∧ (x.takeSample raw n).fields = x.fields ∧ (x.takeSample raw n).shuntFill = x.shuntFill ∧
    (x.takeSample raw n).acc 188 = x.acc 188 ∧ (x.takeSample raw n).accs.length = x.accs.length ∧
    ((x.takeSample raw n).mod 26).conn = (x.mod 26).conn := by
  have hno (y : Dev) (k : Nat) : { y with sampleNo := k }.shuntPath = y.shuntPath := rfl
  have harb : (x.arbSample raw).shuntPath = x.shuntPath := by unfold Dev.arbSample; rfl
  have h : (x.takeSample raw n).shuntPath = x.shuntPath :=
    (hno _ _).trans (((x.arbSample raw).cellSamples_shuntPath raw n).trans harb)
  simpa only [Dev.shuntPath, Prod.mk.injEq] using h

section
variable {s : State} {d : Nat} (ha : (s.dev d).awake = true) {raw : List RawSample} {n : Nat} (hc : (s.dev d).calibrated = true)
  (hm : (s.dev d).measuring = true) (hn : (s.dev d).sampleNo < periodSamples (s.dev d).period)
  (he : n = (s.dev d).lastB + ((s.dev d).sampleNo + 1) * 62500)
include hc hm hn he

/-- In a running sweep, SAMPLE_COMPLETE is the samples of the cells, the shunt's, and at the head the overcurrent's end. -/
theorem sampleComplete_steps : ∃ (f : State → State) (u : State), execSampleComplete d raw s = onS s d f ∧
    u = (s.until n).modDev d (·.takeSample raw n) ∧
    f s = if d = 0 then (u.shuntSample d n (raw.getD 26 ⟨0, .none⟩)).overcurrentClear else u.shuntSample d n (raw.getD 26 ⟨0, .none⟩) := by
  refine ⟨_, _, by unfold execSampleComplete; rfl, rfl, ?_⟩
  dsimp only
  rw [if_neg (by simp [hc]), if_neg (by simp [hm]), if_neg (Nat.not_le.2 hn), ← he]
  rfl

include ha

theorem sampleComplete_others : answers (.sampleComplete d raw) s fun t => othersKept s t d := by
  obtain ⟨f, u, e, hu, hf⟩ := sampleComplete_steps (raw := raw) hc hm hn he
  refine answers_onS e ha fun t hb _ k hk => (hb k).trans ?_
  have huk : u.dev k = s.dev k := by
    rw [hu]
    exact State.dev_modDev_other (s.until n) d k _ hk
  have hy := u.shuntSample_others n (raw.getD 26 ⟨0, .none⟩) hk
  by_cases hd : d = 0
  · have hk0 : k ≠ 0 := fun h => hk (h.trans hd.symm)
    rw [hf, if_pos hd, ← huk, ← hy]
    exact State.overcurrentClear_dev _ Dev.body k (fun _ => rfl) (fun t b => congrArg Dev.body (t.dev_modDev_other 0 k _ hk0))
      fun t => congrArg Dev.body (t.dev_modDev_other 0 k _ hk0)
  · rw [hf, if_neg hd, hy, huk]

/-- At a device without the shunt the samples of the cells are all. -/
theorem sampleComplete_member (hh : (s.dev d).isHead = false) (hd : d ≠ 0) : answers (.sampleComplete d raw) s fun t =>
    deviceBecomes s t d ((s.dev d).takeSample raw n) n := by
  obtain ⟨f, u, e, hu, hf⟩ := sampleComplete_steps (raw := raw) hc hm hn he
  have hud : u.dev d = (s.dev d).takeSample raw n := by
    rw [hu]
    exact State.dev_modDev_self (s.until n) d _ (s.lt_of_awake d ha)
  have hmember : (u.dev d).isHead = false := by
    obtain ⟨hrole, -⟩ := (s.dev d).takeSample_keeps raw n
    unfold Dev.isHead at hh ⊢
    rw [hud, hrole, hh]
  rw [if_neg hd, u.shuntSample_member n _ hmember, hu] at hf
  obtain ⟨t, ht, hb⟩ := onS_becomes ha hf
  exact ⟨t, e.trans ht, hb⟩

omit ha hc hm hn he in
/-- A command at the head's S-die leaves of the shunt samples held what its own work leaves. -/
theorem onS_head_shunt {f : State → State} {t : State} (ha : (s.dev 0).awake = true) (ht : onS s 0 f = .next t) :
    t.der.shunt = (f s).der.shunt := by
  rw [onS_head ha] at ht
  cases ht
  rw [State.finish_der]
  exact State.shunt_of_steady (State.headReports_steady _)

/-- At the head the shunt's sample is held and enters record 188 (R192). -/
theorem sampleComplete_head {code : Int} {ovl : Bool} (hd : d = 0) (hh : (s.dev 0).isHead = true)
    (hconn : ((s.dev 0).mod 26).conn ≠ none) (hr : s.pw.running = true) (hl : 188 < (s.dev 0).accs.length)
    (ho : ovl = (clipShunt (raw.getD 26 ⟨0, .none⟩)).2)
    (hcode : code = (s.dev 0).scaleShunt (clipShunt (raw.getD 26 ⟨0, .none⟩)).1 ovl) : answers (.sampleComplete d raw) s fun t =>
      t.der.shunt = ⟨n, code, ovl, (clipShunt (raw.getD 26 ⟨0, .none⟩)).1⟩ :: s.der.shunt ∧
      ((s.dev 0).shuntFill = 0 → (t.dev 0).acc 188 = (((s.dev 0).acc 188).add code).flag (fun f => { f with ovr := f.ovr || ovl })) ∧
      ((s.dev 0).shuntFill ≠ 0 → (t.dev 0).acc 188 = { (s.dev 0).acc 188 with row1 := true } ∧
        (t.dev 0).shuntFill = (s.dev 0).shuntFill - 1) := by
  obtain ⟨f, u, e, hu, hf⟩ := sampleComplete_steps (raw := raw) hc hm hn he
  subst hd
  have hlen : 0 < s.devs.length := s.lt_of_awake 0 ha
  obtain ⟨k1, k2, k3, k4, k5, k6⟩ := (s.dev 0).takeSample_keeps raw n
  have hud : u.dev 0 = (s.dev 0).takeSample raw n := by
    rw [hu]
    exact State.dev_modDev_self (s.until n) 0 _ hlen
  have hul : 0 < u.devs.length := by
    rw [hu]
    simpa [State.modDev, modAt] using hlen
  have hscale : code = (u.dev 0).scaleShunt (clipShunt (raw.getD 26 ⟨0, .none⟩)).1 ovl := by
    rw [hud]
    unfold Dev.scaleShunt Dev.par at hcode ⊢
    rw [k2, hcode]
  obtain ⟨h1, h2⟩ := u.shuntSample_head (t := n) (hu ▸ hr) hul (by unfold Dev.isHead at hh ⊢; rw [hud, k1, hh])
    (by rw [hud, k6]; exact hconn) ho hscale
  rw [if_pos rfl] at hf
  obtain ⟨t, ht, hb⟩ := onS_answers (f := f) ha
  obtain ⟨h3, h4⟩ := (u.dev 0).shuntTake_enters code ovl (by rw [hud, k5]; exact hl)
  have hkeep {β : Type} (g : Dev → β) (hg : ∀ x : Dev, g x.body = g x) (hs : ∀ x b, g { x with sErr := b } = g x)
      (hoc : ∀ x b, g { x with ocCause := b } = g x) : g (t.dev 0) = g ((u.dev 0).shuntTake code ovl) := by
    rw [← h2]
    refine (Dev.eq_of_body g (hb 0) hg).trans ?_
    rw [hf]
    exact State.overcurrentClear_dev _ g 0 hg (fun t b => State.dev_modDev_keep g t 0 0 _ fun x => hs x b)
      fun t => State.dev_modDev_keep g t 0 0 _ fun x => hoc x _
  have hacc := hkeep (·.acc 188) (fun _ => rfl) (fun _ _ => rfl) (fun _ _ => rfl)
  have hfill := hkeep (·.shuntFill) (fun _ => rfl) (fun _ _ => rfl) (fun _ _ => rfl)
  rw [hud, k3, k4] at h3 h4
  rw [hud] at hacc hfill
  refine ⟨t, e.trans ht, ?_, fun h0 => hacc.trans (h3 h0), fun h0 => ⟨hacc.trans (h4 h0).1, hfill.trans (h4 h0).2⟩⟩
  rw [onS_head_shunt ha ht, hf, State.shunt_of_steady (State.overcurrentClear_steady _), h1, hu]
  rfl

end

/-! ### SHUNT_OVERCURRENT -/

/-- The trip path's own evaluation is a frame of what it drives. -/
theorem State.kept_evalTrip (s : State) (hr : s.pw.running = true) : kept tripParts s s.evalTrip := by
  have h := kept_finish (kept_refl [] s)
  rw [State.finish_running s s hr, Nat.max_self] at h
  exact State.kept_mono h (by simp)

/-- S_ERR is a frame of the head's S-die, the safety inputs and what the trip path drives (R401). -/
theorem State.kept_sErrUpdate (s : State) : kept (.devices :: .inputs :: tripParts) s s.sErrUpdate := by
  unfold State.sErrUpdate
  extract_lets x on u
  have hu : kept [.devices] s u := kept_modDev s 0 _
  split
  · next hr =>
    have hi := kept_inputs u { u.saf with sErr := on, sErrAt := cond on (cond u.saf.sErr u.saf.sErrAt (some u.now)) none } ⟨rfl, rfl, rfl, rfl⟩
    exact State.kept_mono (kept_trans (kept_trans hu hi) (State.kept_evalTrip _ hr)) (by simp)
  · exact State.kept_mono hu (by simp)

theorem State.sErrUpdate_hasCause (s : State) (x : Source) : s.sErrUpdate.hasCause x = s.hasCause x := by
  unfold State.sErrUpdate
  dsimp only
  split
  · unfold State.hasCause
    rw [State.evalTrip_flt_causes]
    rfl
  · rfl

theorem State.sErrUpdate_events (s : State) (e : Nat) : (s.sErrUpdate.dev e).events = (s.dev e).events := by
  have hm (b : Bool) : ((s.modDev 0 fun x => { x with sErr := b }).dev e).events = (s.dev e).events :=
    State.dev_modDev_keep (·.events) s 0 e _ fun _ => rfl
  unfold State.sErrUpdate
  dsimp only
  split
  · exact (State.events_of_bare (State.evalTrip_bare _) e).trans (hm _)
  · exact hm _

/-- The end of an overcurrent that the head's S-die has found with no report waiting: its fault stands (R197, R401). -/
theorem overcurrent_faulted {s z : State} (k : Nat) (v : Word) (hz : kept [.devices] s z) (he : (z.dev 0).events = []) :
    faulted [.devices, .inputs] s (s.finish (z.raise 0x0E k 0 0 v).sErrUpdate.headReports) ⟨0x0E, k, 0, 0⟩ := by
  have hbare : (z.raise 0x0E k 0 0 v).bare = z.bare := State.raiseAt_bare z _ _ _ _
  have hcause : (z.raise 0x0E k 0 0 v).hasCause ⟨0x0E, k, 0, 0⟩ = true := State.raiseAt_hasCause z _ _ _ _
  have hkept := kept_trans (kept_trans hz (State.kept_of_bare hbare)) (State.kept_sErrUpdate _)
  have hnone : ((z.raise 0x0E k 0 0 v).sErrUpdate.dev 0).events = [] := by
    rw [State.sErrUpdate_events, State.events_of_bare hbare, he]
  rw [State.headReports_of_no_events _ hnone]
  exact faulted_finish (by rw [State.sErrUpdate_hasCause, hcause]) (State.kept_mono hkept (by simp [tripParts, faultParts]))

section
variable {s : State} (ha : (s.dev 0).awake = true) (hr : s.pw.running = true)
include ha hr

/-- An overcurrent whose cause `g` the head's S-die notes: S_ERR, OVERCURR `k` and the trip (R197, R353, R354, R401). -/
theorem overcurrent_trips {dir : Direction} {g : Bool × Bool → Bool × Bool} {k : Nat} (hg : ∀ c, (g c).1 = true ∨ (g c).2 = true)
    (e : ∃ v, execShuntOvercurrent dir s
      = done s ((s.modDev 0 fun d => { d with ocCause := g d.ocCause }).raise 0x0E k 0 0 v).sErrUpdate.headReports) :
    answers (.shuntOvercurrent dir) s fun t =>
      (t.dev 0).ocCause = g (s.dev 0).ocCause ∧ (t.dev 0).sErr = true ∧ t.saf.sErr = true ∧ t.saf.tripLatch = true ∧ t.saf.armed = false ∧
      (∀ c ∈ t.saf.ch, c.energised = false) ∧ othersKept s t 0 ∧
      ((s.dev 0).events = [] → faulted [.devices, .inputs] s t ⟨0x0E, k, 0, 0⟩) := by
  obtain ⟨v, e⟩ := e
  generalize hz : (s.modDev 0 fun d => { d with ocCause := g d.ocCause }) = z at e
  have hzr : z.pw.running = true := hz ▸ hr
  have hlen := s.lt_of_awake 0 ha
  have hself : z.dev 0 = { s.dev 0 with ocCause := g (s.dev 0).ocCause } := hz ▸ State.dev_modDev_self s 0 _ hlen
  have hbare : (z.raise 0x0E k 0 0 v).bare = z.bare := State.raiseAt_bare z _ _ _ _
  have hfin := overcurrent_finish s z k v hzr (by rw [← hz]; simpa [State.modDev, modAt] using hlen) (by rw [hself]; exact hg _)
  rw [hzr, cond_true] at hfin
  obtain ⟨hse, hsaf, -⟩ := hfin
  have hrun : (z.raise 0x0E k 0 0 v).sErrUpdate.headReports.pw.running = true := by
    have hst : (z.raise 0x0E k 0 0 v).sErrUpdate.headReports.steady = z.steady :=
      (State.headReports_steady _).trans ((State.sErrUpdate_steady _).trans (State.raiseAt_steady _ _ _ _ _))
    exact (congrArg PowerSt.running (State.pw_of_steady hst)).trans hzr
  obtain ⟨-, htrip, -⟩ := State.finish_atRest s _ hrun
  obtain ⟨hlatch, harmed, hch⟩ := htrip (State.tripMask_of_sErr _ hsaf)
  have hdev {β : Type} (g : Dev → β) (i : Nat) (hb : ∀ x : Dev, g x.body = g x)
      (hm : ∀ (t : State) (b : Bool), g ((t.modDev 0 fun x => { x with sErr := b }).dev i) = g (t.dev i)) :
      g ((s.finish (z.raise 0x0E k 0 0 v).sErrUpdate.headReports).dev i) = g (z.dev i) := by
    refine (Dev.eq_of_body g ((State.finish_body s _ i).trans (State.headReports_body _ i)) hb).trans ?_
    rw [State.sErrUpdate_dev _ g i hb hm]
    exact Dev.eq_of_body g (State.body_of_bare hbare i) hb
  refine answers_done e ⟨?_, hse, hsaf, hlatch, harmed, fun x hx => ?_, fun i hi => ?_, fun hev => ?_⟩
  · rw [hdev (·.ocCause) 0 (fun _ => rfl) fun t b => State.dev_modDev_keep (·.ocCause) t 0 0 _ fun _ => rfl, hself]
  · simpa using List.all_eq_true.1 hch x hx
  · rw [hdev Dev.body i (fun _ => rfl) fun t b => congrArg Dev.body (t.dev_modDev_other 0 i _ hi), ← hz,
      State.dev_modDev_other s 0 i _ hi]
  · exact overcurrent_faulted k v (hz ▸ kept_modDev s 0 _) (by rw [hself]; exact hev)

end

/-- Settles O46: a sample completes in steps, the cells', the shunt's and the overcurrent's end, each of which keeps what the others
enter; and an overcurrent ends with the trip path at rest under S_ERR. -/
theorem samplesAreTaken : Obligations.SamplesAreTaken := by
  unfold Obligations.SamplesAreTaken
  refine fun s d ha => ⟨fun raw n hc hm hn he => ?_, fun dir hd hr hdir => ?_⟩
  · obtain ⟨t, ht, hno, hnow⟩ := sampleComplete_completes ha (raw := raw) hc hm hn
    refine ⟨t, ht, he ▸ hnow, hno, answers_at (sampleComplete_others ha hc hm hn he) ht, fun hh h0 => ?_,
      fun code ovl h0 hh hconn hr _ hl ho hcode => ?_⟩
    · exact answers_at (sampleComplete_member ha hc hm hn he hh h0) ht
    · exact answers_at (sampleComplete_head ha hc hm hn he h0 hh hconn hr hl ho hcode) ht
  · subst hd
    cases dir with
    | discharge =>
      refine overcurrent_trips ha hr (g := fun c => (true, c.2)) (fun _ => .inl rfl) ?_
      unfold execShuntOvercurrent
      rw [onS_head ha]
      dsimp only
      rw [if_pos hdir, State.modDev_pw, hr, cond_true]
      exact ⟨_, rfl⟩
    | charge =>
      refine overcurrent_trips ha hr (g := fun c => (c.1, true)) (fun _ => .inr rfl) ?_
      unfold execShuntOvercurrent
      rw [onS_head ha]
      dsimp only
      rw [if_pos hdir, State.modDev_pw, hr, cond_true]
      exact ⟨_, rfl⟩

end Sys2Proof.Machine
end
section
/-!
SUPPORT. The KS readings through a control tick, the loop slots and the causes through a fault, and what runs between the
boundaries of the head (R71, R182, R304, R306, R335, R337, R349, R475, R479), and with them O53.
-/

namespace Sys2Proof.Machine
namespace State

variable (s : State)

/-! ### The KS readings -/

/-- The KS reading that each contactor channel holds (R349). -/
def readings : List Nat := s.saf.ch.map (·.ks)

theorem chan_ks (k : Nat) : (s.chan k).ks = s.readings.getD k 0 := by
  unfold State.chan readings
  simp only [List.getD_eq_getElem?_getD, List.getElem?_map]
  cases s.saf.ch[k]? <;> rfl

theorem readings_length : s.readings.length = s.saf.ch.length := List.length_map _

theorem readings_of_saf {s t : State} (h : t.saf = s.saf) : t.readings = s.readings := by
  unfold readings
  rw [h]

theorem ite_readings {c : Prop} [Decidable c] {a b t : State} (h : a.readings = t.readings) (k : b.readings = t.readings) :
    (if c then a else b).readings = t.readings := iteInduction (motive := fun y : State => y.readings = t.readings) (fun _ => h) fun _ => k

/-- A change of a channel's reading sets it. -/
theorem modChan_readings_set (k v : Nat) : (s.modChan k fun c => { c with ks := v }).readings = s.readings.set k v := by
  unfold readings State.modChan modAt
  refine List.ext_getElem? fun i => ?_
  simp only [List.getElem?_map, List.getElem?_modify, List.getElem?_set, List.length_map]
  by_cases hi : k = i
  · subst hi
    by_cases hk : k < s.saf.ch.length
    · simp [hk]
    · simp [hk]
  · simp [hi]

/-- A change of a channel that leaves its reading leaves every reading. -/
theorem modChan_readings (k : Nat) (f : Channel → Channel) (hf : ∀ c, (f c).ks = c.ks) : (s.modChan k f).readings = s.readings := by
  unfold readings State.modChan modAt
  refine List.ext_getElem? fun i => ?_
  simp only [List.getElem?_map, List.getElem?_modify]
  cases s.saf.ch[i]? with
  | none => rfl
  | some c => by_cases hi : k = i <;> simp [hi, hf]

theorem dropAll_readings : s.dropAll.readings = s.readings := by
  unfold readings
  rw [dropAll_saf, List.map_map]
  exact List.map_congr_left fun c _ => by cases h : c.energised <;> simp [h, Channel.drop]

@[simp] theorem evalTrip_readings : s.evalTrip.readings = s.readings := by
  unfold State.evalTrip
  dsimp only
  split
  · split <;> rfl
  · split
    · exact dropAll_readings _
    · exact (readings_of_saf ((errDrop_saf _).trans (event_saf _ _))).trans (dropAll_readings _)

theorem occur_readings (x : Source) (v : Word) (seen : Nat) : (s.occur x v seen).readings = s.readings := by
  have happly (t : State) (old : Option Nat) (new : Nat) : (t.applySev old new).readings = t.readings := by
    unfold State.applySev
    rw [evalTrip_readings]
    refine readings_of_saf ?_
    rw [errEval_saf, cond_keep State.saf _ _ _ (enter_saf _ _), cond_keep State.saf _ _ _ (tripFallback_saf _),
      cond_keep State.saf _ _ _ (lock_saf _)]
  unfold State.occur
  extract_lets old new first s1 f1 s2 s3
  have h2 : s2.saf = s.saf := rfl
  have h3 : s3.saf = s.saf := by
    simp only [s3]
    clear_value s2
    cases old.latched
    · exact (event_saf _ _).trans h2
    · exact (cond_keep State.saf _ _ _ (event_saf _ _)).trans h2
  clear_value s3
  exact (readings_of_saf (furtherReaction_saf _ _)).trans ((happly _ _ _).trans (readings_of_saf h3))

theorem raiseAt_readings (x : Source) (v : Word) (ev : Bool) (seen : Nat) : (s.raiseAt x v ev seen).readings = s.readings := by
  unfold State.raiseAt
  split
  · rfl
  · extract_lets m x1 s1 x2 s2 s3
    have h1 : s1.saf = s.saf := cond_keep State.saf _ _ _ rfl
    have h3 : s3.saf = s.saf := (logAt_saf _ _ _ _ _ _ _ _).trans ((event_saf _ _).trans h1)
    clear_value s3 m
    cases m
    · exact (occur_readings _ _ _ _).trans (readings_of_saf h3)
    · exact readings_of_saf h3

@[simp] theorem raiseOpenAt_readings (x : Source) (ev : Bool) (seen : Nat) : (s.raiseOpenAt x ev seen).readings = s.readings := by
  unfold State.raiseOpenAt
  split
  · rfl
  · exact raiseAt_readings s x _ ev seen

@[simp] theorem raiseOpenEv_readings (c b p d : Nat) : (s.raiseOpenEv c b p d).readings = s.readings := raiseOpenAt_readings s _ _ _

@[simp] theorem clearAt_readings (x : Source) (seen : Nat) : (s.clearAt x seen).readings = s.readings := by
  unfold State.clearAt; split <;> rfl

@[simp] theorem event_readings (b : Nat) : (s.event b).readings = s.readings := rfl
@[simp] theorem modLoop_readings (n : Nat) (f : LoopSlot → LoopSlot) : (s.modLoop n f).readings = s.readings := rfl
@[simp] theorem modPort_readings (h : HostId) (f : HostPort → HostPort) : (s.modPort h f).readings = s.readings := by cases h <;> rfl
@[simp] theorem eventOn_readings (h : HostId) (b : Nat) : (s.eventOn h b).readings = s.readings := by cases h <;> rfl

theorem finish_readings (t : State) : (s.finish t).readings = t.readings := by
  unfold State.finish
  dsimp only
  cases t.pw.running
  · rfl
  · exact evalTrip_readings _

/-! ### The readings through the loops of a tick -/

@[simp] theorem setLoopMode_readings (n : Nat) (m : LoopMode) : (s.setLoopMode n m).readings = s.readings := by
  unfold State.setLoopMode; split <;> rfl

@[simp] theorem eventMsg_readings (h : HostId) (pair code tag status : Nat) (res : List Byte) :
    (s.eventMsg h pair code tag status res).readings = s.readings := by
  unfold State.eventMsg State.stageMsg
  dsimp only
  split
  · rfl
  · split
    · simp
    · cases (s.port h).frozen
      · rw [cond_false, modPort_readings]
      · rfl

@[simp] theorem tuneReturn_readings (t : Tuning) : (s.tuneReturn t).readings = s.readings := by
  unfold State.tuneReturn; simp

theorem tuneSend_readings (t : Tuning) (aborted final : Bool) (reason : Nat) : (s.tuneSend t aborted final reason).readings = s.readings :=
  eventMsg_readings s _ _ _ _ _ _

theorem tuneClose_readings (t : Tuning) (reason : Nat) : (s.tuneClose t reason).readings = s.readings :=
  ite_readings (t := s) (a := s) (b := s.tuneSend t true true reason) rfl (tuneSend_readings s t _ _ _)

@[simp] theorem tuneAbort_readings (reason : Nat) : (s.tuneAbort reason).readings = s.readings := by
  unfold State.tuneAbort
  split
  · rfl
  · next t _ =>
    have h : ((s.tuneClose t reason).tuneReturn t).readings = s.readings := (tuneReturn_readings _ t).trans (tuneClose_readings s t reason)
    exact ite_readings h ((raiseOpenEv_readings _ _ _ _ _).trans h)

@[simp] theorem loopReact_readings (n sub : Nat) : (s.loopReact n sub).readings = s.readings := by
  unfold State.loopReact State.raiseOpen; dsimp only; split <;> simp

@[simp] theorem loopClear_readings (n : Nat) (y : Option Int) : (s.loopClear n y).readings = s.readings := by
  unfold State.loopClear State.clear; dsimp only; (repeat' split) <;> simp

@[simp] theorem loopTrack_readings (n : Nat) (forced : Int) (y : Option Int) : (s.loopTrack n forced y).readings = s.readings := by
  unfold State.loopTrack
  dsimp only
  (repeat' split) <;> rfl

@[simp] theorem loopAuto_readings (n : Nat) (y : Int) (ySat : Bool) (sig : Int) : (s.loopAuto n y ySat sig).readings = s.readings := by
  unfold State.loopAuto
  extract_lets l target c w s1
  have h1 : s1.readings = s.readings := ite_readings (tuneAbort_readings _ 2) rfl
  exact ite_readings ((loopReact_readings _ n 2).trans h1) rfl

@[simp] theorem relayTick_readings (t : Tuning) (y : Int) : (s.relayTick t y).readings = s.readings := by
  unfold State.relayTick
  extract_lets n r e high switch u cycles fresh t' s1 s2 s3
  have h1 : s1.readings = s.readings := rfl
  have h2 : s2.readings = s1.readings := s1.eventMsg_readings _ _ _ _ _ _
  have h3 : s3.readings = s2.readings := tuneReturn_readings _ t'
  exact ite_readings (s.tuneAbort_readings 3) (ite_readings (h3.trans (h2.trans h1)) h1)

@[simp] theorem injectTick_readings (t : Tuning) (y : Int) (ySat : Bool) : (s.injectTick t y ySat).readings = s.readings := by
  unfold State.injectTick
  extract_lets n sig r e u s1 take t' all s2
  have h1 : s1.readings = s.readings := ite_readings (s.loopAuto_readings n y ySat _) rfl
  have h2 : s2.readings = s1.readings := (tuneReturn_readings _ t').trans (s1.tuneSend_readings t' _ _ _)
  refine Eq.trans (ite_readings rfl (ite_readings h2 (ite_readings (s1.tuneSend_readings t' _ _ _) rfl))) h1

theorem loopCompute_readings (n : Nat) : (s.loopCompute n).readings = s.readings := by
  have htick : (s.loopTick n).readings = s.readings := by
    unfold State.loopTick
    dsimp only
    (repeat' split) <;> simp
  unfold State.loopCompute State.loopRest
  dsimp only
  split <;> exact htick

theorem tuneOrphan_readings : s.tuneOrphan.readings = s.readings := by
  unfold State.tuneOrphan
  split
  · exact ite_readings rfl (tuneClose_readings s _ 6)
  · rfl

theorem chSample_readings (i : Nat) (code : Int) (inv : Bool) : (s.chSample i code inv).readings = s.readings := by
  unfold State.chSample; split <;> rfl

theorem loopApplyOut_readings (n : Nat) : (s.loopApplyOut n).readings = s.readings := by
  have hdrive (dest : Nat) (v : Int) : (s.drivePwm dest v).readings = s.readings :=
    ite_readings rfl (ite_readings (s.modChan_readings _ _ fun _ => rfl) rfl)
  unfold State.loopApplyOut State.loopSamples
  refine ite_readings rfl ?_
  rw [chSample_readings, chSample_readings, chSample_readings, hdrive]

theorem fixedDuty_readings (k : Nat) : (s.fixedDuty k).readings = s.readings :=
  ite_readings rfl (s.modChan_readings k _ fun _ => rfl)

/-! ### The readings of the coils -/

theorem chanFault_readings (n cls sub : Nat) : (s.chanFault n cls sub).readings = s.readings := by
  unfold State.chanFault
  rw [raiseOpenEv_readings, readings_of_saf (eventIf_saf _ _ _)]
  exact s.modChan_readings n _ fun c => by (repeat' split) <;> rfl

/-- A KS reading comes in: it is the reading of its channel (R349). -/
theorem coilReading_readings (k v : Nat) : (s.coilReading k v).readings = s.readings.set k v := by
  unfold State.coilReading
  extract_lets s1 s2 w lo hi on s3 s4
  have h2 : s2.readings = s.readings.set k v := by
    rw [modChan_readings_set, chSample_readings]
  have h3 : s3.readings = s2.readings := s2.modChan_readings k _ fun _ => rfl
  have h4 : s4.readings = s3.readings := ite_readings (clearAt_readings s3 _ _) rfl
  rw [← h2]
  exact ite_readings rfl (ite_readings ((chanFault_readings s4 k 0x13 2).trans (h4.trans h3)) (h4.trans h3))

/-- The KS readings of a tick come in (R349): each channel of the list holds its own. -/
theorem coilReadings_getD (ks : List Nat) (l : List Nat) {k : Nat} (hk : k < s.readings.length) :
    (s.foldNat l fun s k => s.coilReading k (ks.getD k 0)).readings.getD k 0 = if k ∈ l then ks.getD k 0 else s.readings.getD k 0 := by
  unfold State.foldNat
  induction l generalizing s with
  | nil => simp
  | cons j l ih =>
    rw [List.foldl_cons, ih _ (by rw [coilReading_readings, List.length_set]; exact hk), coilReading_readings]
    by_cases hj : k = j
    · subst hj
      simp [List.getD_eq_getElem?_getD, hk]
    · simp [hj, List.getD_eq_getElem?_getD, List.getElem?_set_ne (Ne.symm hj)]

/-! ### What the readings of the coils leave -/

theorem hasCause_raiseAt {y : Source} (h : s.hasCause y = true) (x : Source) (v : Word) (ev : Bool) (seen : Nat) :
    (s.raiseAt x v ev seen).hasCause y = true := by
  unfold State.raiseAt
  split
  · exact h
  · dsimp only
    unfold State.hasCause at h ⊢
    rw [cond_keep (fun t => t.flt.causes) _ _ _ (occur_causes _ _ _ _).symm, occur_causes]
    cases decide (x.cls = 0x1C ∧ 1 ≤ x.sub ∧ x.sub ≤ 6) <;> simp [State.logAt, State.event, h]

theorem hasCause_raiseOpenAt {y : Source} (h : s.hasCause y = true) (x : Source) (ev : Bool) (seen : Nat) :
    (s.raiseOpenAt x ev seen).hasCause y = true := by
  unfold State.raiseOpenAt
  split
  · exact h
  · exact hasCause_raiseAt s h x _ ev seen

/-- The clearance of one source leaves the cause of another. -/
theorem hasCause_clearAt {x y : Source} (hne : y ≠ x) (seen : Nat) : (s.clearAt x seen).hasCause y = s.hasCause y := by
  unfold State.clearAt
  split
  · unfold State.hasCause
    simp only [State.logAt, State.event, List.any_filter]
    refine congrArg (List.any s.flt.causes) (funext fun c => ?_)
    by_cases hc : c.src = y <;> simp [hc, hne]
  · rfl

/-- The tuning in progress and the duties of the PWM outputs. -/
def driven : Option Tuning × List Int := (s.tuning, s.pwm)

theorem driven_of_bare {s t : State} (h : t.bare = s.bare) : t.driven = s.driven := Prod.ext (tuning_of_bare h) (pwm_of_bare h)

/-- A KS reading touches neither the tuning nor the PWM outputs. -/
theorem coilReading_driven (k v : Nat) : (s.coilReading k v).driven = s.driven := by
  have hfault (t : State) (c b : Nat) : (t.chanFault k c b).driven = t.driven := by
    unfold State.chanFault
    rw [driven_of_bare (raiseOpenEv_bare _ _ _ _ _)]
    exact Prod.ext (eventIf_tuning _ _ _) (eventIf_pwm _ _ _)
  have hsample (i : Nat) (code : Int) (inv : Bool) : (s.chSample i code inv).driven = s.driven := by
    unfold State.chSample; split <;> rfl
  unfold State.coilReading
  extract_lets s1 s2 w lo hi on s3 s4
  have h3 : s3.driven = s.driven := hsample _ _ _
  have h4 : s4.driven = s.driven := iteInduction (motive := fun y : State => y.driven = s.driven)
    (fun _ => (driven_of_bare (clearAt_bare s3 _ _)).trans h3) fun _ => h3
  refine iteInduction (motive := fun y : State => y.driven = s.driven) (fun _ => h3) fun _ => ?_
  exact iteInduction (motive := fun y : State => y.driven = s.driven) (fun _ => (hfault _ _ _).trans h4) fun _ => h4

/-- A KS reading clears no cause but COIL's. -/
theorem coilReading_hasCause {x : Source} (hx : x.cls ≠ 0x13) (h : s.hasCause x = true) (k v : Nat) :
    (s.coilReading k v).hasCause x = true := by
  have hsample (i : Nat) (code : Int) (inv : Bool) : (s.chSample i code inv).hasCause x = true := by
    unfold State.chSample; split <;> exact h
  unfold State.coilReading
  extract_lets s1 s2 w lo hi on s3 s4
  have h3 : s3.hasCause x = true := hsample _ _ _
  have h4 : s4.hasCause x = true := iteInduction (motive := fun y : State => y.hasCause x = true)
    (fun _ => (hasCause_clearAt s3 (fun e => hx (congrArg Source.cls e)) _).trans h3) fun _ => h3
  refine iteInduction (motive := fun y : State => y.hasCause x = true) (fun _ => h3) fun _ => ?_
  refine iteInduction (motive := fun y : State => y.hasCause x = true) (fun _ => ?_) fun _ => h4
  refine hasCause_raiseOpenAt _ ?_ _ _ _
  unfold State.hasCause
  rw [eventIf_flt]
  exact h4

/-! ### The slots through a fault -/

theorem loop_modLoop_self {n : Nat} (f : LoopSlot → LoopSlot) (h : n < s.loops.length) : (s.modLoop n f).loop n = f (s.loop n) :=
  (getD_modAt _ _ _ _ _).trans (if_pos ⟨rfl, h⟩)

theorem modLoop_loops_length (n : Nat) (f : LoopSlot → LoopSlot) : (s.modLoop n f).loops.length = s.loops.length :=
  List.length_modify _ _ _

end State

/-- The slot's tuning has been aborted for the reason, and its mode is no tuning (R337). -/
def LoopSlot.aborted (l : LoopSlot) (reason : Nat) : Prop := l.tune = 3 ∧ l.abort = reason ∧ l.mode ≠ .tune

namespace State

variable (s : State)

/-- A trip's fallback leaves a slot whose tuning has been aborted so (R332, R337). -/
theorem tripFallback_aborted {n r : Nat} (h : (s.loop n).aborted r) : (s.tripFallback.loop n).aborted r := by
  have hstep (u : LoopSlot) (q : Int) (hu : u.aborted r) : LoopSlot.aborted { u with
      mode := .fallback, uLast := q, waiting := false
      tune := cond (decide (u.mode = .tune)) 3 u.tune, abort := cond (decide (u.mode = .tune)) 6 u.abort } r := by
    obtain ⟨h1, h2, h3⟩ := hu
    exact ⟨by simp [h1], by simp [h2, h3], by simp⟩
  unfold State.tripFallback State.foldNat
  refine List.foldlRecOn _ (motive := fun t : State => (t.loop n).aborted r) _ h fun t ht k _ => ?_
  dsimp only
  split
  · have hget : ((t.modLoop k fun l => { l with
        mode := .fallback, uLast := t.loopQ k 13, waiting := false
        tune := cond (decide (l.mode = .tune)) 3 l.tune, abort := cond (decide (l.mode = .tune)) 6 l.abort }).event Ev.loop).loop n
          = _ := getD_modAt t.loops k n _ {}
    rw [hget]
    split
    · exact hstep _ _ ht
    · exact ht
  · exact ht

theorem enter_loops (o : OpState) : (s.enter o).loops = s.loops := by
  unfold State.enter
  dsimp only
  split
  · rfl
  · rw [cond_keep State.loops _ _ _ (react_loops _ _), cond_keep State.loops _ _ _ (react_loops _ _)]
    refine (cond_keep State.loops _ _ _ (react_loops _ _).symm).trans ((react_loops _ _).trans ?_)
    exact cond_keep State.loops _ _ _ rfl

theorem lock_loops : s.lock.loops = s.loops := by
  unfold State.lock
  split <;> exact enter_loops _ _

theorem loop_of_loops {s t : State} (h : t.loops = s.loops) (n : Nat) : t.loop n = s.loop n := by
  unfold State.loop
  rw [h]

/-- An occurrence leaves a slot whose tuning has been aborted so (R337, R382). -/
theorem raiseOpenAt_aborted {n r : Nat} (h : (s.loop n).aborted r) (x : Source) (ev : Bool) (seen : Nat) :
    ((s.raiseOpenAt x ev seen).loop n).aborted r := by
  have happly (t : State) (old : Option Nat) (new : Nat) (ht : (t.loop n).aborted r) : ((t.applySev old new).loop n).aborted r := by
    have hlock (b : Bool) : (cond b t.lock t).loops = t.loops := cond_keep State.loops _ _ _ (lock_loops t)
    have htrip (b : Bool) (u : State) (hu : (u.loop n).aborted r) : ((cond b u.tripFallback u).loop n).aborted r := by
      cases b
      · exact hu
      · exact tripFallback_aborted u hu
    unfold State.applySev
    dsimp only
    rw [loop_of_loops ((evalTrip_loops _).trans (errEval_loops _)), loop_of_loops (cond_keep State.loops _ _ _ (enter_loops _ _))]
    exact htrip _ _ (loop_of_loops (hlock _) n ▸ ht)
  have hoccur (t : State) (v : Word) (ht : (t.loop n).aborted r) : ((t.occur x v seen).loop n).aborted r := by
    unfold State.occur
    extract_lets old new first s1 f1 s2 s3
    have h3 : s3.loops = t.loops := by
      have h2 : s2.loops = t.loops := rfl
      simp only [s3]
      clear_value s2
      cases old.latched
      · exact h2
      · exact (cond_keep State.loops _ _ _ (event_loops s2 _)).trans h2
    have hfurther (u : State) : (u.furtherReaction x).loops = u.loops := by
      unfold State.furtherReaction; (repeat' split) <;> simp
    rw [loop_of_loops (hfurther _)]
    clear_value s3
    exact happly _ _ _ (loop_of_loops h3 n ▸ ht)
  have hraise (v : Word) : ((s.raiseAt x v ev seen).loop n).aborted r := by
    unfold State.raiseAt
    split
    · exact h
    · extract_lets m x1 s1 x2 s2 s3
      have h3 : s3.loops = s.loops := cond_keep State.loops _ _ _ rfl
      clear_value s3 m
      have h4 : (s3.loop n).aborted r := loop_of_loops h3 n ▸ h
      cases m
      · exact hoccur s3 v h4
      · exact h4
  unfold State.raiseOpenAt
  split
  · exact h
  · exact hraise _

end State

/-! ### Frames -/

theorem kept_contour (s : State) (x : ContourSt) : kept [.contour] s { s with ctr := x } := fun p hp => by
  cases p <;> simp_all [Part.same, State.port, State.dev]

theorem kept_legend (s : State) (x : LegendSt) : kept [.legend] s { s with leg := x } := fun p hp => by
  cases p <;> simp_all [Part.same, State.port, State.dev]

theorem kept_derived (s : State) (x : DerivedSt) : kept [.derived] s { s with der := x } := fun p hp => by
  cases p <;> simp_all [Part.same, State.port, State.dev]

theorem kept_tuning (s : State) (x : Option Tuning) : kept [.tuning] s { s with tuning := x } := fun p hp => by
  cases p <;> simp_all [Part.same, State.port, State.dev]

theorem kept_modLoop (s : State) (n : Nat) (f : LoopSlot → LoopSlot) : kept [.loops] s (s.modLoop n f) := fun p hp => by
  cases p <;> simp_all [Part.same, State.modLoop, State.port, State.dev]

theorem kept_event (s : State) (b : Nat) : kept [.flags] s (s.event b) := fun p hp => by
  cases p
  case flags => exact absurd (by simp) hp
  case host k => cases k <;> rfl
  all_goals simp [Part.same, State.dev]

theorem kept_eventIf (s : State) (c : Bool) (b : Nat) : kept [.flags] s (s.eventIf c b) := by
  cases c
  · exact kept_refl _ _
  · exact kept_event s b

section
variable {s : State} (hc : s.coreUp)
include hc

/-! ### Contour -/

omit hc in
/-- The end of a command that changes Contour alone, at the instant `a`. -/
theorem State.contour_end (a : Nat) (x : ContourSt) : (s.finish { s.until a with ctr := x }).now = max s.now a ∧
    (s.finish { s.until a with ctr := x }).ctr = x ∧ kept (.contour :: tripParts) s (s.finish { s.until a with ctr := x }) := by
  refine ⟨?_, s.finish_ctr _, kept_end (b := [.contour]) (kept_trans (kept_until s a) (kept_contour _ x)) (by simp)⟩
  rw [State.finish_now]
  exact (Nat.max_assoc _ _ _).symm.trans (by rw [Nat.max_self])

theorem contourStepDown_answers {dir : Direction} {a n : Nat} {h c : Int} (ha : (s.ctr.timers dir).1 = some a) (hh : s.ctr.tHot = some h)
    (hco : s.ctr.tCold = some c) (hf : s.ctr.failed = none) (hl : s.contourDown dir h c < s.ctr.pub dir)
    (hn : n = max s.now (a + 100000000 * s.par Fld.ctDwdn 0)) : answers (.contourStepDown dir) s fun t => t.now = n ∧
      t.ctr = (s.ctr.setPub dir (s.ctr.pub dir - 1)).setTimers dir (some n, (s.ctr.timers dir).2) ∧ kept (.contour :: tripParts) s t := by
  have hms : s.ctDwdn = 100000000 * s.par Fld.ctDwdn 0 := by unfold State.ctDwdn ms; omega
  refine answers_onCore hc (by rfl) ?_
  simp only [ha, hh, hco, hf, hl, Option.isNone_none, and_self, if_true]
  rw [hms, hn]
  exact State.contour_end _ _

theorem contourStepUp_answers {dir : Direction} {a n : Nat} (ha : (s.ctr.timers dir).2 = some a) (hf : s.ctr.failed = none)
    (hl : s.ctr.pub dir < 15) (hn : n = max s.now (a + 1000000000 * s.par Fld.ctDwup 0)) :
    answers (.contourStepUp dir) s fun t => t.now = n ∧
      t.ctr = (s.ctr.setPub dir (s.ctr.pub dir + 1)).setTimers dir ((s.ctr.timers dir).1, some n) ∧ kept (.contour :: tripParts) s t := by
  have hms : ms (1000 * s.par Fld.ctDwup 0) = 1000000000 * s.par Fld.ctDwup 0 := by unfold ms; omega
  refine answers_onCore hc (by rfl) ?_
  simp only [ha, hf, hl, Option.isNone_none, and_self, if_true]
  rw [hms, hn]
  exact State.contour_end _ _

theorem contourFailsafeDwell_answers {i a n : Nat} (hf : s.ctr.failed = some (i, a))
    (hn : n = max s.now (a + 100000000 * s.par Fld.ctDwdn 0)) : answers .contourFailsafeDwell s fun t => t.now = n ∧
      t.ctr = { s.ctr with pubC := 0, pubD := 0 } ∧ kept (.contour :: tripParts) s t := by
  have hms : s.ctDwdn = 100000000 * s.par Fld.ctDwdn 0 := by unfold State.ctDwdn ms; omega
  refine answers_onCore hc (by rfl) ?_
  simp only [hf]
  rw [hms, hn, ← hf]
  exact State.contour_end _ _

/-! ### A tuning at its timeout -/

omit hc in
/-- A relay tuning that is aborted leaves its slot out of the tuning, for the reason, and LOOP 0x03 stands (R335, R337). -/
theorem State.tuneAbort_relay {u : State} {x : Tuning} {r : Nat} (hx : u.tuning = some x) (hm : x.o.method = 1)
    (hl : x.o.slot < u.loops.length) (hr : ¬ r ≤ 2) : ((u.tuneAbort r).loop x.o.slot).aborted r ∧ (u.tuneAbort r).tuning = none ∧
      (u.tuneAbort r).hasCause ⟨0x14, 3, 0, x.o.slot + 1⟩ = true ∧ kept ([.loops, .tuning] ++ faultParts) u (u.tuneAbort r) := by
  have hclose : u.tuneClose x r = { u with tuning := none } := by
    unfold State.tuneClose
    dsimp only
    rw [if_pos hm]
  unfold State.tuneAbort
  rw [hx]
  dsimp only
  rw [hclose, if_neg hr]
  generalize hw : ({ u with tuning := none } : State).tuneReturn x = w
  have hwk : kept [.tuning, .loops, .flags] u w ∧ w.tuning = none ∧ w.loops.length = u.loops.length ∧ (w.loop x.o.slot).mode ≠ .tune := by
    generalize hv : ({ u with tuning := none } : State).modLoop x.o.slot
      (fun l => { l with manOut := if x.fromAuto then l.manOut else x.u0 }) = v
    have hvl : v.loops.length = u.loops.length := hv ▸ State.modLoop_loops_length _ _ _
    have hvk : kept [.tuning, .loops] u v := hv ▸ kept_trans (kept_tuning u none) (kept_modLoop _ _ _)
    have hvt : v.tuning = none := hv ▸ rfl
    have hwv : w = v.setLoopMode x.o.slot (if x.fromAuto then .auto else .manual) := by rw [← hw, ← hv]; rfl
    have hmode : (if x.fromAuto then LoopMode.auto else .manual) ≠ .tune := by cases x.fromAuto <;> decide
    generalize (if x.fromAuto then LoopMode.auto else .manual) = m at hwv hmode
    rw [hwv]
    unfold State.setLoopMode
    split
    · next he => exact ⟨State.kept_mono hvk (by simp), hvt, hvl, he ▸ hmode⟩
    · refine ⟨State.kept_mono (kept_trans (kept_trans hvk (kept_modLoop v _ _)) (kept_event _ _)) (by simp), hvt,
        (v.modLoop_loops_length _ _).trans hvl, ?_⟩
      rw [State.loop_of_loops (State.event_loops _ _), State.loop_modLoop_self v _ (hvl ▸ hl)]
      exact hmode
  obtain ⟨hkept, htun, hlen, hmode⟩ := hwk
  generalize hy : w.modLoop x.o.slot (fun l => { l with tune := 3, abort := r }) = y
  have hab : (y.loop x.o.slot).aborted r := by
    rw [← hy, State.loop_modLoop_self w _ (hlen ▸ hl)]
    exact ⟨rfl, rfl, hmode⟩
  have hyk : kept [.tuning, .loops, .flags] u y := hy ▸ State.kept_mono (kept_trans hkept (kept_modLoop w _ _)) (by simp)
  have hyt : y.tuning = none := hy ▸ htun
  have hbare := y.raiseOpenEv_bare 0x14 3 0 (x.o.slot + 1)
  exact ⟨State.raiseOpenAt_aborted y hab _ _ _, (State.tuning_of_bare hbare).trans hyt, State.raiseOpenAt_hasCause _ _ _ _,
    State.kept_mono (kept_trans hyk (State.kept_of_bare hbare)) (by simp [faultParts])⟩

theorem tuningTimeout_answers {x : Tuning} {n : Nat} (hx : s.tuning = some x) (hm : x.o.method = 1) (hl : x.o.slot < s.loops.length)
    (hn : n = max s.now (x.startAt + 1000000000 * x.o.timeout)) : answers .tuningTimeout s fun t =>
      t.now = n ∧ t.tuning = none ∧ (t.loop x.o.slot).tune = 3 ∧ (t.loop x.o.slot).abort = 4 ∧
      faulted [.loops, .tuning] s t ⟨0x14, 3, 0, x.o.slot + 1⟩ := by
  have hms : ms (1000 * x.o.timeout) = 1000000000 * x.o.timeout := by unfold ms; omega
  refine answers_onCore hc (by rfl) ?_
  simp only [hx, hm, if_true, hms]
  generalize hu : s.until (x.startAt + 1000000000 * x.o.timeout) = u
  have hut : u.tuning = some x := hu ▸ hx
  obtain ⟨⟨h1, h2, -⟩, h4, h5, h6⟩ := State.tuneAbort_relay (r := 4) hut hm (hu ▸ hl) (by decide)
  have hnow : (u.tuneAbort 4).now = n := (congrArg (·.1) (u.tuneAbort_pace 4)).trans (by rw [← hu, hn]; rfl)
  have hloop := State.loop_of_loops (s.finish_loops (u.tuneAbort 4)) x.o.slot
  refine ⟨?_, (s.finish_tuning _).trans h4, hloop ▸ h1, hloop ▸ h2, faulted_finish h5 ?_⟩
  · rw [State.finish_now, hnow, hn]
    omega
  · exact State.kept_mono (kept_trans (hu ▸ kept_until s _) h6) (by simp)

/-! ### A system calibration -/

omit hc in
/-- A response to an unfrozen port waits there, behind what waits already (R424, R434). -/
theorem State.respond_stages (u : State) {h : HostId} (pair code tag status : Nat) (res : List Byte) (hf : (u.port h).frozen = false) :
    ((u.respond h pair code tag status res).port h).body = { (u.port h).body with
      staged := (u.port h).staged ++ [⟨pair, code, false, leBytes 2 tag ++ leBytes 2 status ++ res, 0⟩] } ∧
    kept [.host h] u (u.respond h pair code tag status res) ∧ (u.respond h pair code tag status res).der = u.der ∧
    (u.respond h pair code tag status res).now = u.now := by
  unfold State.respond State.stageMsg
  rw [hf, cond_false]
  exact ⟨by rw [State.port_modPort_self]; rfl, kept_modPort u h _ fun _ => ⟨rfl, rfl⟩, State.modPort_der _ _ _, State.modPort_now _ _ _⟩

/-- A ZERO that is accepted is measured and answered (R182, R448). -/
theorem sysCalMeasurementEnd_answers {n : Nat} {c : SysCal} {a : Nat} {iref : Int}
    (hfind : s.der.sysCal.find? (fun c => decide (c.chan = n) && c.measuring.isSome) = some c) (hm : c.measuring = some (0, a, iref))
    (hf : (s.port c.host).frozen = false) (hk : s.calRefusal c 0 iref = 0) : answers (.sysCalMeasurementEnd n) s fun t =>
      t.now = max s.now (a + 1000000000) ∧
      t.der = { s.der with sysCal := s.der.sysCal.filter (fun x => decide (x.chan ≠ n))
        ++ [{ c with measuring := none, acc := {}, zero := some (c.mean, t.now) }] } ∧
      (t.port c.host).body = { (s.port c.host).body with
        staged := (s.port c.host).staged ++ [⟨c.pair, 0x0108, false, leBytes 2 c.tag ++ leBytes 2 St.ok
          ++ (leBytes 4 (toBits 32 c.mean) ++ leBytes 4 c.spread ++ leBytes 4 c.acc.count ++ leBytes 4 0 ++ leBytes 4 0), 0⟩] } ∧
      kept (.derived :: .host c.host :: tripParts) s t := by
  obtain ⟨f, e, u, hu, hfs⟩ : ∃ (f : State → State) (_ : execSysCalMeasurementEnd n s = onCore s f) (u : State),
      u = { s.until (a + 1000000000) with der := { s.der with sysCal := s.der.sysCal.filter (fun x => decide (x.chan ≠ n))
        ++ [{ c with measuring := none, acc := {}, zero := some (c.mean, max s.now (a + 1000000000)) }] } } ∧
      f s = u.respond c.host c.pair 0x0108 c.tag St.ok
        (leBytes 4 (toBits 32 c.mean) ++ leBytes 4 c.spread ++ leBytes 4 c.acc.count ++ leBytes 4 0 ++ leBytes 4 0) := by
    refine ⟨_, by unfold execSysCalMeasurementEnd; rfl, _, rfl, ?_⟩
    rw [hfind]
    dsimp -zeta only
    rw [hm]
    dsimp -zeta only
    extract_lets v rest put idle st head
    have hst : st = 0 := hk
    rw [if_neg (by simp [hst]), if_pos rfl]
    rfl
  have hup (h : HostId) : u.port h = s.port h := by rw [hu]; cases h <;> rfl
  obtain ⟨h1, h2, h3, h4⟩ := u.respond_stages c.pair 0x0108 c.tag St.ok
    (leBytes 4 (toBits 32 c.mean) ++ leBytes 4 c.spread ++ leBytes 4 c.acc.count ++ leBytes 4 0 ++ leBytes 4 0) ((hup c.host).symm ▸ hf)
  rw [← hfs] at h1 h2 h3 h4
  have hnow : (s.finish (f s)).now = max s.now (a + 1000000000) := by
    rw [State.finish_now, h4, hu]
    exact (Nat.max_assoc _ _ _).symm.trans (by rw [Nat.max_self])
  have huk : kept [.derived] s u := hu ▸ kept_trans (kept_until s _) (kept_derived _ _)
  refine answers_onCore hc e ⟨hnow, ?_, ?_, kept_end (b := [.derived, .host c.host]) (kept_trans huk h2) (by simp)⟩
  · rw [State.finish_der, h3, hnow, hu]
  · rw [State.finish_port_body, h1, hup]

end

/-! ### A control tick -/

/-- A control tick has begun (R71). -/
def State.tickBegun (s : State) : State := { s.until s.tickAt with swp := { s.swp with tick := s.swp.tick + 1 } }

/-- The six KS readings of a tick come in (R349). -/
def State.takeReadings (s : State) (ks : List Nat) : State := s.foldNat (List.range 6) fun s k => s.coilReading k (ks.getD k 0)

theorem State.takeReadings_pace (s : State) (ks : List Nat) : (s.takeReadings ks).pace = s.pace :=
  s.foldNat_pace _ (fun t k => t.coilReading_pace k _) _

/-- After a tick each channel holds its reading, where what came before and after the readings leaves them. -/
theorem State.takeReadings_end {s y z : State} (ks : List Nat) (hy : y.readings = s.readings) (hz : z.readings = (y.takeReadings ks).readings)
    {k : Nat} (h6 : k < 6) (hk : k < s.saf.ch.length) : ((s.finish z).chan k).ks = ks.getD k 0 := by
  rw [State.chan_ks, State.finish_readings, hz]
  unfold State.takeReadings
  rw [State.coilReadings_getD _ _ _ (by rw [hy, State.readings_length]; exact hk), if_pos (List.mem_range.2 h6)]

section
variable {s : State} (hr : s.pw.running = true) (ht : s.tickDue = true) (ks : List Nat)
include hr ht

/-- A control tick with the core running takes the readings and applies its outputs 20 µs after its start (R71, R349). -/
theorem controlTick_applies (hc : s.pw.coreReset = none) : answers (.controlTick ks) s fun t =>
    t.now = max s.now (s.tickAt + 20000) ∧ t.swp.tick = s.swp.tick + 1 ∧
    ∀ k, k < 6 → k < s.saf.ch.length → (t.chan k).ks = ks.getD k 0 := by
  obtain ⟨f, e, y, z, hy, hz, hf⟩ : ∃ (f : State → State) (_ : execControlTick ks s = onC s f) (y z : State),
      y = s.tickBegun.tuneOrphan.foldNat (List.range 16) (fun s n => s.loopCompute n) ∧
      z = (y.takeReadings ks).until (s.tickAt + 20000) ∧
      f s = (z.foldNat (List.range 16) fun s n => s.loopApplyOut n).foldNat (List.range 6) fun s k => s.fixedDuty k := by
    refine ⟨_, by unfold execControlTick; rfl, _, _, rfl, rfl, ?_⟩
    dsimp only
    rw [if_pos ht]
    simp only [State.until_pw, hc, Option.isSome_none, Bool.false_eq_true, if_false]
    rfl
  have hyr : y.readings = s.readings := by
    rw [hy, State.foldNat_keep _ _ State.readings fun t n => t.loopCompute_readings n, State.tuneOrphan_readings]
    rfl
  have hfr : (f s).readings = (y.takeReadings ks).readings := by
    rw [hf, State.foldNat_keep _ _ State.readings fun t k => t.fixedDuty_readings k,
      State.foldNat_keep _ _ State.readings fun t n => t.loopApplyOut_readings n, hz]
    rfl
  have hyp : y.pace = s.tickBegun.pace := by
    rw [hy]
    exact (State.foldNat_pace _ _ (fun t n => t.loopCompute_pace n) _).trans (State.tuneOrphan_pace _)
  have hzp : (y.takeReadings ks).pace = s.tickBegun.pace := (y.takeReadings_pace ks).trans hyp
  have hfp : (f s).pace = z.pace := by
    rw [hf]
    exact (State.foldNat_pace _ _ (fun t k => t.fixedDuty_pace k) _).trans (State.foldNat_pace _ _ (fun t n => t.loopApplyOut_pace n) _)
  have hnow : (f s).now = max (max s.now s.tickAt) (s.tickAt + 20000) := by
    rw [show (f s).now = z.now from congrArg (·.1) hfp, hz]
    exact congrArg (max · _) (congrArg (·.1) hzp)
  have htick : (f s).swp.tick = s.swp.tick + 1 := by
    have h1 := congrArg (·.2.2.2.2.2) hfp
    have h2 := congrArg (·.2.2.2.2.2) hzp
    exact h1.trans (hz ▸ h2)
  refine answers_onC hr e ⟨?_, (congrArg (·.tick) (s.finish_swp _)).trans htick, fun k h6 hk => State.takeReadings_end ks hyr hfr h6 hk⟩
  rw [State.finish_now, hnow]
  omega

/-- A control tick with the core halted takes the readings and raises WATCHDOG 0x05; no slot is computed (R71, R329). -/
theorem controlTick_halted (hc : s.pw.coreReset ≠ none) : answers (.controlTick ks) s fun t =>
    t.now = max s.now s.tickAt ∧ t.swp.tick = s.swp.tick + 1 ∧ t.hasCause ⟨0x1C, 5, 0, openDetail 0x1C 5 0⟩ = true ∧
    t.tuning = s.tuning ∧ t.pwm = s.pwm ∧ ∀ k, k < 6 → k < s.saf.ch.length → (t.chan k).ks = ks.getD k 0 := by
  obtain ⟨f, e, y, hy, hf⟩ : ∃ (f : State → State) (_ : execControlTick ks s = onC s f) (y : State),
      y = s.tickBegun.raiseOpenEv 0x1C 5 0 (openDetail 0x1C 5 0) ∧ f s = y.takeReadings ks := by
    refine ⟨_, by unfold execControlTick; rfl, _, rfl, ?_⟩
    dsimp only
    rw [if_pos ht]
    simp only [State.until_pw, Option.isSome_iff_ne_none.2 hc, if_true]
    rfl
  have hyr : y.readings = s.readings := by
    rw [hy, State.raiseOpenEv_readings]
    rfl
  have hyc : y.hasCause ⟨0x1C, 5, 0, openDetail 0x1C 5 0⟩ = true := hy ▸ State.raiseOpenAt_hasCause _ _ _ _
  have hfc : (f s).hasCause ⟨0x1C, 5, 0, openDetail 0x1C 5 0⟩ = true := by
    rw [hf]
    exact List.foldlRecOn _ (motive := fun t : State => t.hasCause ⟨0x1C, 5, 0, openDetail 0x1C 5 0⟩ = true) _ hyc
      fun t h k _ => t.coilReading_hasCause (by decide) h k _
  have hfd : (f s).driven = s.driven := by
    rw [hf, hy]
    refine (State.foldNat_keep _ _ State.driven (fun t k => t.coilReading_driven k _) _).trans ?_
    exact State.driven_of_bare (s.tickBegun.raiseOpenEv_bare 0x1C 5 0 (openDetail 0x1C 5 0))
  have hfp : (f s).pace = s.tickBegun.pace := by
    rw [hf, State.takeReadings_pace, hy, State.raiseOpenEv_pace]
  have hnow : (f s).now = max s.now s.tickAt := congrArg (·.1) hfp
  have htick : (f s).swp.tick = s.swp.tick + 1 := congrArg (·.2.2.2.2.2) hfp
  refine answers_onC hr e ⟨?_, (congrArg (·.tick) (s.finish_swp _)).trans htick, by rw [State.finish_hasCause, hfc],
    (s.finish_tuning _).trans (congrArg Prod.fst hfd), (s.finish_pwm _).trans (congrArg Prod.snd hfd),
    fun k h6 hk => State.takeReadings_end ks hyr (congrArg State.readings hf) h6 hk⟩
  rw [State.finish_now, hnow]
  omega

end

/-! ### The Gazetteer -/

/-- The entries that wait go before the others, newest first, each with its number (R479). -/
theorem gaz_numbered (l : List GazRec) (g : List GazRec) (n : Nat) :
    l.foldl (fun (x : List GazRec × Nat) e => ({ e with seq := x.2 } :: x.1, x.2 + 1)) (g, n)
      = ((l.zipIdx.map fun (x : GazRec × Nat) => { x.1 with seq := n + x.2 }).reverse ++ g, n + l.length) := by
  induction l generalizing g n with
  | nil => rfl
  | cons e l ih =>
    rw [List.foldl_cons, ih, List.zipIdx_cons', List.map_cons, List.map_map, List.reverse_cons, List.append_assoc, List.length_cons]
    refine Prod.ext ?_ (by dsimp only; omega)
    simp only [Function.comp_def, Prod.map, id, Nat.add_zero, List.singleton_append]
    simp only [Nat.add_assoc, Nat.add_comm 1]

/-- What waits is written, the newest 1,024 entries are kept, and DONE follows (R475, R479). -/
theorem gazetteerWrite_answers {s : State} (hr : s.pw.running = true) (hp : s.leg.gazPend ≠ [] ∨ s.leg.donePend = true) :
    answers .gazetteerWrite s fun t =>
      t.leg.gazPend = [] ∧ t.leg.donePend = false ∧ t.leg.gazSeq = s.leg.gazSeq + s.leg.gazPend.length ∧
      t.leg.gaz = ((s.leg.gazPend.zipIdx.map fun (x : GazRec × Nat) => { x.1 with seq := s.leg.gazSeq + x.2 }).reverse ++ s.leg.gaz).take 1024 ∧
      t.leg.active = (if s.leg.donePend then { s.leg.active with done := true } else s.leg.active) ∧ kept (.legend :: tripParts) s t := by
  have hwait : ¬ (s.leg.gazPend = [] ∧ s.leg.donePend = false) := fun h => hp.elim (· h.1) fun hd => by rw [h.2] at hd; cases hd
  refine answers_onC hr (by rfl) ?_
  rw [if_neg hwait, gaz_numbered]
  have hend (l : LegendSt) (c : Bool) : (s.finish (State.eventIf { s with leg := l } c Ev.gaz)).leg = l ∧
      kept (.legend :: tripParts) s (s.finish (State.eventIf { s with leg := l } c Ev.gaz)) :=
    ⟨(State.finish_leg _ _).trans (State.eventIf_leg _ _ _),
      kept_end (b := [.legend]) (kept_trans (kept_legend s l) (kept_eventIf _ _ _)) (by simp [tripParts])⟩
  dsimp only
  rw [(hend _ _).1]
  cases s.leg.donePend
  · exact ⟨rfl, rfl, rfl, rfl, rfl, (hend _ _).2⟩
  · cases s.leg.useB <;> exact ⟨rfl, rfl, rfl, rfl, rfl, (hend _ _).2⟩

/-- Settles O53, one timer after the other: each is a step of its own part of the head, within the frame of what it may touch. -/
theorem headTimersAct : Obligations.HeadTimersAct := by
  unfold Obligations.HeadTimersAct
  refine ⟨fun s n hc => ⟨?_, ?_, ?_, ?_, ?_, ?_⟩, fun s hr => ⟨?_, gazetteerWrite_answers hr⟩⟩
  · exact fun dir a h c ha hh hco hf hl hn => contourStepDown_answers hc ha hh hco hf hl hn
  · exact fun dir a ha hf hl hn => contourStepUp_answers hc ha hf hl hn
  · exact fun i a hf hn => contourFailsafeDwell_answers hc hf hn
  · exact fun x hx hm hl hn => tuningTimeout_answers hc hx hm hl hn
  · exact fun c a iref hfind hm hf hk => sysCalMeasurementEnd_answers hc hfind hm hf hk
  · exact fun ht ks => controlTick_applies hc.1 ht ks hc.2
  · exact fun ht hc ks => controlTick_halted hr ht ks hc

end Sys2Proof.Machine
end
section
/-!
SUPPORT. An arbitration of a cell that a relief modulator covers (R159, R173): it has connected the cell's own modulator already when
the calibration phase of that modulator ends. The refutation of O48.
-/

namespace Sys2Proof.Machine

/-- RM1 covers cell 4 of a member, whose own modulator is in its calibration phase, when an arbitration of the cell joins that modulator
to RM1 (R173), and one sample has completed since. -/
def coverUnderArbitration : State :=
  let covered : Dev := ({ power := .awake, role := .member, sweep := 10, rm1 := .covering 4, cover := some ⟨4, 24, 1, 10, {}⟩ } : Dev)
  { State.reset with devs := [{}, (((covered.connect 24 4).setSource 4 9 (some 24)).arbitrate 4 true).sampled] }

/-- Modulator 4 is connected to its cell already at the end of its calibration phase, so the sample that it has delivered still counts. -/
theorem rollingCalPhaseEnd_coverUnderArbitration_got :
    answers (.rollingCalPhaseEnd 1 ⟨0, 0x40000000, 0⟩ 25) coverUnderArbitration fun t => ((t.dev 1).mod 4).got = 1 :=
  ⟨_, rfl, by decide +kernel⟩

/-- Refutes O48: a calibration phase within its limits is said to connect the cell's own modulator anew, which starts its count of
samples at 0, and a modulator that an arbitration of the cell has connected before stays connected and keeps its count. -/
theorem not_calibrationRuns : ¬ Obligations.CalibrationRuns := by
  unfold Obligations.CalibrationRuns
  intro h
  obtain ⟨t, ht, hcounted⟩ := rollingCalPhaseEnd_coverUnderArbitration_got
  obtain ⟨-, hphase, -⟩ := h coverUnderArbitration 1 (by decide +kernel)
  obtain ⟨u, hu, -, hwithin, -⟩ :=
    hphase ⟨0, 0x40000000, 0⟩ 25 ⟨4, 24, 1, 10, {}⟩ 4 (by decide +kernel) rfl (by decide +kernel) (by decide +kernel)
  obtain rfl : t = u := Host.Outcome.next.inj (ht.symm.trans hu)
  obtain ⟨hbody, -, -⟩ := hwithin (by decide)
  have hanew : ((t.dev 1).mod 4).got = 0 := (Dev.eq_of_body (fun x => (x.mod 4).got) hbody).trans (by decide +kernel)
  rw [hcounted] at hanew
  cases hanew

end Sys2Proof.Machine
end

section
/-!
SUPPORT. The bytes of an entry read back (R22, R108): what a byte string made of parts holds at an offset, signed numbers through their
two's complement, and with them O6.
-/

namespace Sys2Proof.Machine

/-! ### Fields of bytes put together -/

/-- A field past the first part lies in the rest. -/
theorem field_append_right {l : List Byte} {o : Nat} (r : List Byte) (n : Nat) (h : l.length ≤ o) :
    field (l ++ r) o n = field r (o - l.length) n := by
  unfold field
  rw [List.drop_append, List.drop_of_length_le h, List.nil_append]

/-- A number in front is read back, as far as its bytes go. -/
theorem field_leBytes_append (n x : Nat) (r : List Byte) : field (leBytes n x ++ r) 0 n = x % 256 ^ n := by
  unfold field
  rw [List.drop_zero, List.take_left' (leBytes_length n x), ofLe_leBytes]

/-- A number alone is read back, as far as its bytes go. -/
theorem field_leBytes (n x : Nat) : field (leBytes n x) 0 n = x % 256 ^ n := by
  rw [← List.append_nil (leBytes n x), field_leBytes_append]

/-! ### Signed numbers -/

/-- The sign extension reads only the low bits, and reads them as two's complement. -/
theorem sext_eq_toInt {w : Nat} (hw : 0 < w) (x : Nat) : sext w x = (BitVec.ofNat w x).toInt := by
  obtain ⟨k, rfl⟩ : ∃ k, w = k + 1 := ⟨w - 1, by omega⟩
  have hpow : 2 ^ (k + 1) = 2 * 2 ^ k := Nat.pow_succ'
  rw [BitVec.toInt_eq_toNat_cond, BitVec.toNat_ofNat]
  unfold sext
  simp only [Nat.add_sub_cancel]
  split <;> split <;> omega

/-- Two's complement in `w` bits is a bit vector's. -/
theorem toBits_eq_toNat (w : Nat) (v : Int) : toBits w v = (BitVec.ofInt w v).toNat := (BitVec.toNat_ofInt v).symm

theorem toBits_lt (w : Nat) (v : Int) : toBits w v < 2 ^ w := toBits_eq_toNat w v ▸ BitVec.isLt _

/-- A signed number that `w` bits hold is read back from its two's complement. -/
theorem sext_toBits {w : Nat} {v : Int} (hw : 0 < w) (hlo : -2 ^ (w - 1) ≤ v) (hhi : v < 2 ^ (w - 1)) : sext w (toBits w v) = v := by
  rw [sext_eq_toInt hw, toBits_eq_toNat, BitVec.ofNat_toNat, BitVec.setWidth_eq, BitVec.toInt_ofInt_eq_self hw hlo hhi]

/-! ### The entry -/

/-- The reserved bits of a flag word are 0 (R109). -/
theorem flagsWord_lt (f : Flags) : flagsWord f < 2 ^ 14 := by
  have hbit (b : Bool) : b2n b ≤ 1 := by cases b <;> decide
  have hage : f.age % 16 < 16 := Nat.mod_lt _ (by decide)
  unfold flagsWord
  linarith [hbit f.ovr, hbit f.rcv, hbit f.blk, hbit f.cal, hbit f.sub, hbit f.inv, hbit f.prm, hbit f.gap, hbit f.stk, hbit f.frz]

theorem entryBytes_length (e : Entry) : (entryBytes e).length = 16 := by
  simp [entryBytes, leBytes_length]

/-- Each field of an entry stands at its offset (R108); the count alone may be more than its bytes hold. -/
theorem entryBytes_fields (e : Entry) :
    field (entryBytes e) 0 6 = toBits 48 e.sum ∧ field (entryBytes e) 6 3 = toBits 24 e.min ∧
    field (entryBytes e) 9 3 = toBits 24 e.max ∧ field (entryBytes e) 12 2 = e.count % 2 ^ 16 ∧
    field (entryBytes e) 14 2 = flagsWord e.flags := by
  have hflags : flagsWord e.flags < 2 ^ 16 := (flagsWord_lt e.flags).trans (by decide)
  simpa [entryBytes, field_append_right, field_leBytes_append, field_leBytes, leBytes_length]
    using ⟨toBits_lt 48 e.sum, toBits_lt 24 e.min, toBits_lt 24 e.max, hflags⟩

/-- Settles O6: each field is read at its offset, and a number within its range is read back whole. -/
theorem entriesAreLaidOut : Obligations.EntriesAreLaidOut := by
  unfold Obligations.EntriesAreLaidOut
  intro e hsum hsum' hmin hmin' hmax hmax' hcount
  obtain ⟨hs, hn, hx, hc, hf⟩ := entryBytes_fields e
  rw [hs, hn, hx, hc, hf]
  exact ⟨entryBytes_length e, sext_toBits (by decide) hsum hsum', sext_toBits (by decide) hmin hmin',
    sext_toBits (by decide) hmax hmax', Nat.mod_eq_of_lt hcount, rfl⟩

end Sys2Proof.Machine
end

section
/-!
SUPPORT. An entry whose Atlas write is late (R74, R123): the refutation of O51.
-/

namespace Sys2Proof.Machine

/-- The head runs sweep 10, in which the write of Atlas index 192, record 0 of position 1, is late (R74, sub-code 0x02); position 1
is adopted, and its frames come in by port E. -/
def lateWrite : State :=
  { State.reset with
    devs := [{ power := .awake, role := .head, portE := { st := .up } }]
    trv := { State.reset.trv with n := 2 }
    swp := { State.reset.swp with count := some 10, lateIdx := [192] } }

/-- An entry of record 0 that closed at the boundary of sweep 10: one sample. -/
def lateItem : Item := ⟨0, 10, .entry ⟨33000, 33000, 33000, 1, {}⟩⟩

/-- The first frame of position 1, with that entry. -/
def lateFrame : Frame := mkFrame 0 1 31 0 (.items [lateItem])

/-- The late write waits for the next sweep: no window of the record is done yet (R74). -/
theorem itemsFrame_lateWrite_done :
    answers (.itemsFrame .E lateFrame) lateWrite fun t => (t.track (atlasIdx 1 0)).done = none :=
  ⟨_, rfl, by decide +kernel⟩

/-- Refutes O51: an entry in order is said to be written in the sweep in which it arrives, also where the write of its Atlas index is
late and waits for the next sweep. -/
theorem not_itemsTravel : ¬ Obligations.ItemsTravel := by
  unfold Obligations.ItemsTravel
  intro h
  obtain ⟨t, ht, hlate⟩ := itemsFrame_lateWrite_done
  obtain ⟨-, hframe, -⟩ := h lateWrite 0 1 0
  obtain ⟨-, -, -, hentry⟩ := hframe .E lateFrame [lateItem] _ (by decide) (by decide +kernel) rfl (by decide) rfl rfl
    (by decide) (by decide) (by decide) (by decide) (by decide) rfl (by decide) (by decide) rfl
  obtain ⟨u, hu, hdone, -⟩ :=
    hentry ⟨33000, 33000, 33000, 1, {}⟩ 0 (.inl (by decide)) (by decide) (by decide) rfl (by decide) (by decide) (by decide)
      (by decide +kernel)
  obtain rfl : t = u := Host.Outcome.next.inj (ht.symm.trans hu)
  rw [hlate] at hdone
  cases hdone

end Sys2Proof.Machine
end

section
/-!
SUPPORT. What the end of a Survey entry leaves of the device (R130 to R141, R168 to R180, R294): the boundary and the period that
the next start is judged by, the spot readings that wait, and the records below 144, of which a cell channel alone feeds one; and
with it O47.
-/

namespace Sys2Proof.Machine

/-- A converter result enters a record with the mark of one outside its range (R131, R132). -/
def Acc.enter (c : Int × Bool) (a : Acc) : Acc := (a.add c.1).flag (fun f => { f with ovr := f.ovr || c.2 })

namespace Dev

/-- What the start of the next entry is judged by (R137, R148). -/
def pacing (d : Dev) : Nat × Nat × List SpotWait := (d.lastB, d.period, d.sv.spots)

/-- The same, with the records that no channel but a cell's feeds (R131). -/
def outline (d : Dev) : (Nat × Nat × List SpotWait) × List Acc := (d.pacing, d.accs.take 144)

variable {x y : Dev} (d : Dev)

theorem pacing_of_outline (h : x.outline = y.outline) : x.pacing = y.pacing := congrArg Prod.fst h

theorem acc_of_outline (h : x.outline = y.outline) {r : Nat} (hr : r < 144) : x.acc r = y.acc r := by
  have htake (z : Dev) : z.acc r = z.outline.2.getD r {} := by
    simp [acc, outline, List.getD_eq_getElem?_getD, hr]
  rw [htake, htake, h]

theorem foldl_outline {β : Type} (f : Dev → β → Dev) (h : ∀ z b, (f z b).outline = z.outline) (l : List β) (z : Dev) :
    (l.foldl f z).outline = z.outline := foldl_keep outline f h l z

/-! ### Parts -/

@[simp] theorem modCell_outline (k : Nat) (f : Cell → Cell) : (d.modCell k f).outline = d.outline := rfl
@[simp] theorem report_outline (up : Bool) (c b k : Nat) (v : Word) : (d.report up c b k v).outline = d.outline := rfl
@[simp] theorem modTherm_outline (n : Nat) (f : Therm → Therm) : (d.modTherm n f).outline = d.outline := rfl

@[simp] theorem modSv_outline {f : Survey → Survey} (h : (f d.sv).spots = d.sv.spots) : (d.modSv f).outline = d.outline := by
  simp only [outline, pacing, modSv, h]

@[simp] theorem modAcc_outline {r : Nat} (f : Acc → Acc) (h : 144 ≤ r) : (d.modAcc r f).outline = d.outline := by
  have haccs : (modAt d.accs r f).take 144 = d.accs.take 144 :=
    List.ext_getElem (by simp [modAt]) fun i hi _ => by
      have hne : r ≠ i := by simp [modAt] at hi; omega
      simp [modAt, hne]
  exact congrArg (Prod.mk d.pacing) haccs

@[simp] theorem abortSound_outline (k : Nat) : (d.abortSound k).outline = d.outline := by
  unfold abortSound; split <;> rfl

@[simp] theorem switch_outline (k : Nat) (on : Bool) (t : Nat) : (d.switch k on t).outline = d.outline := by
  unfold switch
  dsimp only
  split
  · exact foldl_outline _ (fun z c => by split <;> rfl) _ _
  · rfl

/-! ### Sensors and Benchmark faults (R168, R169, R227, R294, R526) -/

@[simp] theorem setBroken_outline (n sub : Nat) : (d.setBroken n sub).outline = d.outline := by
  unfold setBroken; dsimp only; (repeat' split) <;> simp

@[simp] theorem pathSensors_outline : d.pathSensors.outline = d.outline :=
  foldl_outline _ (fun z n => by (repeat' split) <;> simp) _ _

@[simp] theorem setBench_outline (sub : Nat) (on : Bool) : (d.setBench sub on).outline = d.outline := by
  unfold setBench; dsimp only; split <;> simp

@[simp] theorem judgeCount_outline (sub : Nat) (c : Nat × Nat) : (d.judgeCount sub c).outline = d.outline := by
  unfold judgeCount; dsimp only; (repeat' split) <;> simp

@[simp] theorem judgeRefs_outline : d.judgeRefs.outline = d.outline := by
  unfold judgeRefs; dsimp only; (repeat' split) <;> simp

@[simp] theorem judgeStack_outline (v : Int) : (d.judgeStack v).outline = d.outline := by
  unfold judgeStack; dsimp only; split <;> simp

@[simp] theorem thermalStop_outline (m t : Nat) (temp : Int) : (d.thermalStop m t temp).outline = d.outline := by
  unfold thermalStop
  extract_lets u v
  have hu : u.outline = d.outline := foldl_outline _ (fun z k => by split <;> simp) _ _
  clear_value u
  rw [← hu]
  rfl

@[simp] theorem judgeModules_outline (t : Nat) : (d.judgeModules t).outline = d.outline := by
  unfold judgeModules; dsimp only; (repeat' split) <;> simp

@[simp] theorem thermResult_outline (n t : Nat) (v : Rat) (outside : Bool) : (d.thermResult n t v outside).outline = d.outline := by
  unfold thermResult; dsimp only; (repeat' split) <;> simp

/-! ### Open-wire evaluation (R178 to R180) -/

@[simp] theorem owJudge_outline (w : Word) (t : Nat) (code : Int) (touched : Bool) :
    (d.owJudge w t code touched).outline = d.outline := by
  unfold owJudge; (repeat' split) <;> simp

@[simp] theorem owEnd_outline : d.owEnd.outline = d.outline := by
  unfold owEnd
  dsimp only
  rw [modSv_outline _ rfl]
  refine (foldl_outline _ (fun z e => ?_) _ _).trans (modAcc_outline d _ (by decide))
  (repeat' split) <;> simp

@[simp] theorem owCurrentEnd_outline (w : Word) (t : Nat) : (d.owCurrentEnd w t).outline = d.outline :=
  owCurrentEnd_keep outline (fun _ _ _ => rfl) d w t

/-! ### The end of an entry -/

/-- Above the cells a channel feeds a record from 144 on (R131). -/
theorem le_of_benchRecord {chan r : Nat} (hc : 0x18 ≤ chan) (h : benchRecord chan = some r) : 144 ≤ r := by
  unfold benchRecord at h
  (repeat' split at h) <;> simp at h <;> omega

@[simp] theorem otherResult_outline {chan : Nat} (t : Nat) (c : Int × Bool) (hc : 0x18 ≤ chan) :
    (d.otherResult chan t c).outline = d.outline := by
  unfold otherResult
  extract_lets u
  have hu : u.outline = d.outline := by
    unfold u
    split
    · simp
    · split
      · next r hr => cases d.sends r <;> simp [le_of_benchRecord hc hr]
      · rfl
  rw [← hu]
  clear_value u
  (repeat' split) <;> simp

theorem cellResult_pacing (r : Running) (chan t : Nat) (c : Int × Bool) : (d.cellResult r chan t c).pacing = d.pacing := by
  unfold cellResult
  extract_lets w touched u v
  have hu : u.pacing = d.pacing := by
    unfold u
    split
    · exact pacing_of_outline (owJudge_outline d _ _ _ _)
    · split <;> rfl
  have hv : v.pacing = u.pacing := by unfold v; split <;> rfl
  rw [← hu, ← hv]
  split <;> rfl

/-- An untouched result of a cell channel without OWPASS enters the record of its channel, and no other below 144 (R131, R132). -/
theorem cellResult_outline {r : Running} {chan : Nat} (t : Nat) (c : Int × Bool) (how : eOwPass r.entry = false)
    (ht : d.benchTouched chan r.since = false) : (d.cellResult r chan t c).outline = (d.modAcc (24 + chan) (Acc.enter c)).outline := by
  unfold cellResult
  extract_lets w touched u v
  have hu : u = d.modAcc (24 + chan) (Acc.enter c) := by
    unfold u w touched
    rw [how, ht]
    rfl
  have hv : v.outline = u.outline := by unfold v; split <;> rfl
  rw [← hu, ← hv]
  split <;> rfl

theorem entryResult_pacing (r : Running) (t : Nat) (results : List Int) : (d.entryResult r t results).pacing = d.pacing := by
  unfold entryResult
  extract_lets w chan c u
  have hu : u.pacing = d.pacing := by
    unfold u
    split
    · exact cellResult_pacing d r _ t _
    · next h =>
      split
      · rfl
      · exact pacing_of_outline (otherResult_outline d t c (Nat.not_lt.1 h))
  clear_value u
  split
  · rfl
  · split
    · exact (pacing_of_outline (owEnd_outline u)).trans hu
    · exact hu

/-- The mean of an untouched cell entry without OWPASS is delivered to the record of its channel (R130, R131). -/
theorem entryResult_acc {r : Running} (t : Nat) (results : List Int) (hc : eChan r.entry < 0x18) (how : eOwPass r.entry = false)
    (ht : d.benchTouched (eChan r.entry) r.since = false) (hl : 24 + eChan r.entry < d.accs.length) :
    (d.entryResult r t results).acc (24 + eChan r.entry)
      = (d.acc (24 + eChan r.entry)).enter (d.benchResult (eChan r.entry) (meanOf results)) := by
  unfold entryResult
  extract_lets w chan c u
  have hu : u.outline = (d.modAcc (24 + eChan r.entry) (Acc.enter c)).outline := by
    unfold u
    rw [if_pos hc]
    exact cellResult_outline d t c how ht
  clear_value u
  rw [if_neg (show ¬ eChan r.entry = 0x3F by omega)]
  have hself : (d.modAcc (24 + eChan r.entry) (Acc.enter c)).acc (24 + eChan r.entry) = (d.acc (24 + eChan r.entry)).enter c :=
    (State.getD_modAt _ _ _ _ _).trans (if_pos ⟨rfl, hl⟩)
  refine (acc_of_outline ?_ (by omega)).trans hself
  rw [← hu]
  split
  · exact owEnd_outline u
  · rfl

@[simp] theorem entryTimely_outline : d.entryTimely.outline = d.outline := by
  unfold entryTimely; dsimp only; split <;> simp

@[simp] theorem advance_outline (w : Word) : (d.advance w).outline = d.outline :=
  modSv_outline d (by cases eEnd w <;> rfl)

/-! ### The next start -/

theorem schedule_acc (t r : Nat) : (d.schedule t).acc r = d.acc r := by
  obtain ⟨f, hf, -⟩ := d.schedule_keeps t
  rw [hf]
  rfl

/-- The entry ends 5 µs before the next boundary (R137). -/
theorem fits_iff {t : Nat} {w : Word} :
    d.fits t w = true ↔ t + 1000 * eDuration w + 5000 ≤ d.lastB + 1000 * periodUs d.period := by
  rw [fits, decide_eq_true_iff, periodNs', us, us, Nat.mul_comm, Nat.mul_comm (periodUs d.period)]

/-- An entry of the table starts at the entry boundary itself, where no spot reading waits, and only where it ends by B + P - 5 µs
(R137, R148). -/
theorem schedule_starts {t : Nat} {q : Running} (h : (d.schedule t).sv.running = some q) :
    q.since = t ∧ q.spotSlot = none ∧ d.sv.spots = [] ∧ d.fits t q.entry = true := by
  obtain ⟨f, hf, hk⟩ := seek_keeps 16640 (d.modSv (fun v => { v with running := none, slotAt := none }))
  have hidle : (seek 16640 (d.modSv (fun v => { v with running := none, slotAt := none }))).1.sv.running = none := by
    rw [hf]
    exact (hk _).1
  have hfits (w : Word) : (seek 16640 (d.modSv (fun v => { v with running := none, slotAt := none }))).1.fits t w = d.fits t w := by
    rw [hf]
    rfl
  unfold schedule at h
  dsimp only at h
  split at h
  · cases h
  · split at h
    · cases h
    · next hs =>
      split at h
      · next w _ =>
        split at h
        · next hw =>
          obtain rfl : Running.mk w none t = q := Option.some.inj h
          exact ⟨rfl, rfl, not_not.1 hs, (hfits w).symm.trans hw⟩
        · rw [hidle] at h
          cases h
      · rw [hidle] at h
        cases h

end Dev

section
variable {s : State} {d n : Nat} {r : Running}

/-- What an entry that completes at `n` makes of its device (R103, R130, R137). -/
def Dev.entryEnds (x : Dev) (r : Running) (n : Nat) (results : List Int) : Dev :=
  ((x.entryResult r n (results.take (eRepeats r.entry))).owCurrentEnd r.entry n).entryTimely.advance r.entry

theorem Dev.entryEnds_pacing (x : Dev) (results : List Int) : (x.entryEnds r n results).pacing = x.pacing := by
  unfold Dev.entryEnds
  rw [Dev.pacing_of_outline (Dev.advance_outline _ _), Dev.pacing_of_outline (Dev.entryTimely_outline _),
    Dev.pacing_of_outline (Dev.owCurrentEnd_outline _ _ _), Dev.entryResult_pacing]

theorem Dev.entryEnds_acc (x : Dev) (results : List Int) {k : Nat} (hk : k < 144) :
    (x.entryEnds r n results).acc k = (x.entryResult r n (results.take (eRepeats r.entry))).acc k := by
  unfold Dev.entryEnds
  rw [Dev.acc_of_outline (Dev.advance_outline _ _) hk, Dev.acc_of_outline (Dev.entryTimely_outline _) hk,
    Dev.acc_of_outline (Dev.owCurrentEnd_outline _ _ _) hk]

/-- A command at an awake S-die of which the change of that device is the whole effect. -/
theorem answers_becomes {c : Instr} {f : State → State} {g : Dev → Dev} (e : exec c s = onS s d f) (h : (s.dev d).awake = true)
    (hf : f s = (s.until n).modDev d g) : answers c s fun t => deviceBecomes s t d (g (s.dev d)) n := by
  obtain ⟨t, ht, hb⟩ := onS_becomes h hf
  exact ⟨t, e.trans ht, hb⟩

theorem answers_mono {c : Instr} {P Q : State → Prop} (h : answers c s P) (hpq : ∀ t, P t → Q t) : answers c s Q := by
  obtain ⟨t, ht, hp⟩ := h
  exact ⟨t, ht, hpq t hp⟩

/-- The instant at which an entry that began at `r.since` ends (R137). -/
theorem since_add_us (r : Running) : r.since + us (eDuration r.entry) = r.since + 1000 * eDuration r.entry := by
  rw [us, Nat.mul_comm]

variable (ha : (s.dev d).awake = true) (hr : (s.dev d).sv.running = some r) (hn : n = r.since + 1000 * eDuration r.entry)
include ha hr hn

/-- The end of an entry is the command's whole effect (R103, R137). -/
theorem surveyEntryEnd_becomes (hs : r.spotSlot = none) (results : List Int) :
    answers (.surveyEntryEnd d results) s fun t => deviceBecomes s t d (((s.dev d).entryEnds r n results).schedule n) n := by
  refine answers_becomes (g := fun x => (x.entryEnds r n results).schedule n)
    (show execSurveyEntryEnd d results s = _ from by unfold execSurveyEntryEnd; rfl) ha ?_
  simp only [hr, hs, since_add_us, ← hn]
  rfl

/-- A clause of O47: an entry that completes (R130, R131, R137). -/
theorem surveyEntryEnd_answers (hs : r.spotSlot = none) (results : List Int) :
    answers (.surveyEntryEnd d results) s fun t =>
      deviceBecomes s t d (((s.dev d).entryEnds r n results).schedule n) n ∧
      (∀ c, eChan r.entry < 0x18 → eOwPass r.entry = false → (s.dev d).benchTouched (eChan r.entry) r.since = false →
        c = (s.dev d).benchResult (eChan r.entry) (meanOf (results.take (eRepeats r.entry))) →
        24 + eChan r.entry < (s.dev d).accs.length →
        (t.dev d).acc (24 + eChan r.entry)
          = (((s.dev d).acc (24 + eChan r.entry)).add c.1).flag (fun f => { f with ovr := f.ovr || c.2 })) ∧
      (∀ q, (t.dev d).sv.running = some q → q.since = n ∧ q.spotSlot = none ∧ (s.dev d).sv.spots = [] ∧
        n + 1000 * eDuration q.entry + 5000 ≤ (s.dev d).lastB + 1000 * periodUs (s.dev d).period) := by
  refine answers_mono (surveyEntryEnd_becomes ha hr hn hs results) fun t ht => ⟨ht, fun c hc how htouch e hl => ?_, fun q hq => ?_⟩
  · subst e
    refine (Dev.eq_of_body (·.acc (24 + eChan r.entry)) ht.1).trans ?_
    rw [Dev.schedule_acc, Dev.entryEnds_acc _ _ (by omega)]
    exact Dev.entryResult_acc _ n _ hc how htouch hl
  · rw [Dev.sv_of_body ht.1] at hq
    obtain ⟨hsince, hslot, hspots, hfits⟩ := Dev.schedule_starts _ hq
    have hpace := Dev.entryEnds_pacing (r := r) (n := n) (s.dev d) results
    simp only [Dev.pacing, Prod.mk.injEq] at hpace
    obtain ⟨hB, hP, hS⟩ := hpace
    rw [Dev.fits_iff, hB, hP] at hfits
    exact ⟨hsince, hslot, hS ▸ hspots, hfits⟩

/-- A clause of O47: a spot reading that completes (R148, R149). -/
theorem spotReadingComplete_answers {slot : Nat} (hs : r.spotSlot = some slot) (results : List Int) :
    answers (.spotReadingComplete d results) s fun t =>
      deviceBecomes s t d (((((s.dev d).spotResult r slot n (results.take (eRepeats r.entry))).owCurrentEnd r.entry n).modSv
        fun v => { v with spots := v.spots.drop 1 }).schedule n) n ∧
      (t.dev d).sv.spots = (s.dev d).sv.spots.drop 1 ∧
      ∃ i, (t.dev d).spotItems = (s.dev d).spotItems ++ [i] ∧ i.kind = 0xC0 ∧ i.tag = (s.dev d).sweep % 256 := by
  refine answers_mono (answers_becomes (g := fun x => (((x.spotResult r slot n (results.take (eRepeats r.entry))).owCurrentEnd
      r.entry n).modSv fun v => { v with spots := v.spots.drop 1 }).schedule n)
    (show execSpotReadingComplete d results s = _ from by unfold execSpotReadingComplete; rfl) ha ?_)
    fun t ht => ⟨ht, ?_, ?_⟩
  · simp only [hr, hs, since_add_us, ← hn]
  · rw [Dev.sv_of_body ht.1, Dev.schedule_spots]
    exact congrArg (fun v => v.spots.drop 1) (Dev.owCurrentEnd_keep (·.sv) (fun _ _ _ => rfl) _ _ _)
  · rw [Dev.eq_of_body (·.spotItems) ht.1, Dev.schedule_spotItems]
    exact ⟨_, Dev.owCurrentEnd_keep (·.spotItems) (fun _ _ _ => rfl) _ _ _, rfl, rfl⟩

end

/-- A clause of O47: a spot reading that starts at an entry boundary (R148). -/
theorem spotReadingStart_answers {s : State} {d n : Nat} (ha : (s.dev d).awake = true) {p : SpotWait} {rest : List SpotWait}
    (hr : (s.dev d).sv.running = none) (ho : (s.dev d).sv.occ = none) (hslot : (s.dev d).sv.slotAt = some n)
    (hp : (s.dev d).sv.spots = p :: rest)
    (hf : n + 1000 * eDuration p.entry + 5000 ≤ (s.dev d).lastB + 1000 * periodUs (s.dev d).period) :
    answers (.spotReadingStart d) s fun t => deviceBecomes s t d ((s.dev d).modSv fun v => { v with
      running := some ⟨p.entry, some p.slot, n⟩, slotAt := none }) n := by
  refine answers_becomes (g := (·.modSv (fun v => { v with running := some ⟨p.entry, some p.slot, n⟩, slotAt := none })))
    (show execSpotReadingStart d s = _ from by unfold execSpotReadingStart; rfl) ha ?_
  simp only [hslot, hp, hr, ho, ((s.dev d).fits_iff).2 hf]
  rfl

/-- Settles O47: an entry's end, a spot reading's start and its end, each the whole effect of its command on one device. -/
theorem surveyRuns : Obligations.SurveyRuns := fun _ _ _ _ ha =>
  ⟨fun results hr hs hn => surveyEntryEnd_answers ha hr hn hs results,
    fun _ _ hr ho hslot hp hf => spotReadingStart_answers ha hr ho hslot hp hf,
    fun results _ hr hs hn => spotReadingComplete_answers ha hr hn hs results⟩

end Sys2Proof.Machine
end

section
/-!
SUPPORT. What a frame that leaves the head changes, and a spot reading that takes a pending slot (R147, R148, R266, R445): O14.
-/

namespace Sys2Proof.Machine

theorem Dev.cErr_of_inner {x y : Dev} (h : x.inner = y.inner) : x.cErr = y.cErr := by
  have e := congrArg Dev.cErr h
  exact e

namespace State

variable (s : State)

/-! ### What a frame downstream changes -/

/-- A frame downstream takes the next SEQ and changes the queue of waiting frames and the ports of the head's S-die (R260, R266). -/
theorem downFrame_form (dest : Nat) (p : Payload) : ∃ (x : SweepSt) (g : Dev → Dev),
    s.downFrame dest p = { s with swp := x }.modDev 0 g ∧ x.core = s.swp.core ∧ (∀ d, (g d).inner = d.inner) ∧
      (s.ringHead = true → x.seq = (s.swp.seq + 1) % 65536) := by
  unfold State.downFrame
  split
  · next h =>
    extract_lets hops f _ u
    split
    · exact ⟨u.swp, (·.sendBoth u.now f), rfl, rfl, fun _ => Dev.sendBoth_inner _ _ _, fun _ => rfl⟩
    · have hu : { u with swp := { u.swp with downWait := queueDown f u.swp.downWait } }.ringHead = true := h
      obtain ⟨l, k, g, e, hg⟩ := drainDown_changes _ hu
      exact ⟨_, g, e, rfl, hg, fun _ => rfl⟩
  · next h => exact ⟨s.swp, id, (s.modDev_id 0).symm, rfl, fun _ => rfl, fun k => absurd k h⟩

/-- A change of the sweep and of the head's S-die, one that leaves its C_ERR, is none of what the trip path reads. -/
theorem sent_tripMask (x : SweepSt) (g : Dev → Dev) : ({ s with swp := x }.modDev 0 g).tripMask = s.tripMask :=
  tripMask_congr s rfl rfl rfl rfl rfl rfl rfl rfl

theorem sent_cErr (x : SweepSt) {g : Dev → Dev} (hg : ∀ d, (g d).cErr = d.cErr) :
    (({ s with swp := x }.modDev 0 g).dev 0).cErr = (s.dev 0).cErr :=
  dev_modDev_keep (·.cErr) { s with swp := x } 0 0 g hg

theorem kept_sent (x : SweepSt) (g : Dev → Dev) : kept [.sweep, .devices] s ({ s with swp := x }.modDev 0 g) :=
  kept_trans (kept_sweep s x) (kept_modDev { s with swp := x } 0 g)

/-- A spot reading goes to the head's S-die over D1 or downstream to a member: it changes the sweep's frames and the head's S-die,
of that not C_ERR (R148). -/
theorem sendSpot_form (p slot : Nat) (w : Word) : ∃ (x : SweepSt) (g : Dev → Dev),
    s.sendSpot p slot w = { s with swp := x }.modDev 0 g ∧ x.core = s.swp.core ∧ (∀ d, (g d).cErr = d.cErr) ∧
      (p ≠ 0 → s.ringHead = true → x.seq = (s.swp.seq + 1) % 65536) := by
  unfold State.sendSpot
  split
  · next h =>
    unfold State.overD1
    split
    · exact ⟨s.swp, _, rfl, rfl, fun d => by dsimp only; split <;> rfl, fun k => absurd h k⟩
    · exact ⟨s.swp, id, (s.modDev_id 0).symm, rfl, fun _ => rfl, fun k => absurd h k⟩
  · obtain ⟨x, g, e, hx, hg, hseq⟩ := s.downFrame_form p (.command (.spot slot w))
    exact ⟨x, g, e, hx, fun d => Dev.cErr_of_inner (hg d), fun _ => hseq⟩

/-! ### What a message that is taken leaves -/

@[simp] theorem takeMsg_dev (h : HostId) (pair d : Nat) : (s.takeMsg h pair).dev d = s.dev d :=
  s.takeMsg_read (·.dev d) h pair fun _ _ _ _ => by cases h <;> rfl

@[simp] theorem takeMsg_sweep (h : HostId) (pair : Nat) : (s.takeMsg h pair).sweep = s.sweep :=
  congrArg (·.count.getD 0) (s.takeMsg_swp h pair)

@[simp] theorem takeMsg_d1Works (h : HostId) (pair : Nat) : (s.takeMsg h pair).d1Works = s.d1Works :=
  s.takeMsg_read (·.d1Works) h pair fun _ _ _ _ => by cases h <;> rfl

@[simp] theorem takeMsg_ringHead (h : HostId) (pair : Nat) : (s.takeMsg h pair).ringHead = s.ringHead :=
  s.takeMsg_read (·.ringHead) h pair fun _ _ _ _ => by cases h <;> rfl

@[simp] theorem takeMsg_posStatus (h : HostId) (pair p : Nat) : (s.takeMsg h pair).posStatus p = s.posStatus p :=
  s.takeMsg_read (·.posStatus p) h pair fun _ _ _ _ => by cases h <;> rfl

@[simp] theorem takeMsg_unreachable (h : HostId) (pair p : Nat) : (s.takeMsg h pair).unreachable p = s.unreachable p :=
  s.takeMsg_read (·.unreachable p) h pair fun _ _ _ _ => by cases h <;> rfl

@[simp] theorem takeMsg_slotOf (h : HostId) (pair p : Nat) : (s.takeMsg h pair).slotOf p = s.slotOf p :=
  s.takeMsg_read (·.slotOf p) h pair fun _ _ _ _ => by cases h <;> rfl

@[simp] theorem takeMsg_freeSpot (h : HostId) (pair : Nat) : (s.takeMsg h pair).freeSpot = s.freeSpot :=
  s.takeMsg_read (·.freeSpot) h pair fun _ _ _ _ => by cases h <;> rfl

/-! ### A pending slot -/

/-- Spot reading `r` takes pending slot `i`; the device in slot `d` holds the readings of it that were reported lost (R147, R151). -/
def takeSpot (r : Req) (i d : Nat) : State :=
  { s with der := { s.der with spots := modAt s.der.spots i (fun _ =>
      some ⟨r.h, r.pair, r.tag, r.get 2 1, word (r.get 4 4), s.sweep, s.now, (s.dev d).spotsOf i, false⟩) } }

theorem kept_takeSpot (r : Req) (i d : Nat) : kept [.derived] s (s.takeSpot r i d) := kept_derived s _

/-- What SPOT_READ asks of a slot, a position and its device (R147, R148, R165). -/
structure SpotRead (r : Req) (i d : Nat) : Prop where
  free : s.freeSpot = some i
  held : s.posStatus (r.get 2 1) = 0
  near : s.unreachable (r.get 2 1) = false
  allowed : spotAllowed (word (r.get 4 4)) (r.get 2 1) (periodUs s.swp.period) = true
  slot : s.slotOf (r.get 2 1) = some d
  ready : (s.dev d).calibrated = true
  recal : (s.dev d).sv.recalWaited < 64
  test : (s.dev d).sv.testWaited < 64

variable {s} {r : Req} {i d : Nat}

theorem SpotRead.takeMsg (H : s.SpotRead r i d) (h : HostId) (pair : Nat) : (s.takeMsg h pair).SpotRead r i d := by
  obtain ⟨free, held, near, allowed, slot, ready, recal, test⟩ := H
  constructor <;> simpa

/-- The slot is taken from what the head and the device hold, which taking the message does not change. -/
theorem takeSpot_takeMsg_der (h : HostId) (pair : Nat) (r : Req) (i d : Nat) :
    ((s.takeMsg h pair).takeSpot r i d).der = (s.takeSpot r i d).der := by
  simp [takeSpot]

theorem SpotRead.doSpotRead (H : s.SpotRead r i d) :
    doSpotRead r s = ((s.takeSpot r i d).sendSpot (r.get 2 1) i (word (r.get 4 4))).answer r
      (leBytes 1 i ++ leBytes 1 ((s.takeSpot r i d).der.spots.filter (·.isSome)).length ++ [0, 0] ++ leBytes 4 s.sweep) := by
  obtain ⟨free, held, near, allowed, slot, ready, recal, test⟩ := H
  have hsweep : ((s.takeSpot r i d).sendSpot (r.get 2 1) i (word (r.get 4 4))).sweep = s.sweep := by
    obtain ⟨x, g, e, hx, -⟩ := (s.takeSpot r i d).sendSpot_form (r.get 2 1) i (word (r.get 4 4))
    rw [e]
    exact congrArg (·.getD 0) (SweepSt.eq_of_core (·.count) hx)
  have hwait : ¬ (64 ≤ (s.dev d).sv.recalWaited ∨ 64 ≤ (s.dev d).sv.testWaited) := by omega
  rw [← hsweep]
  unfold Machine.doSpotRead
  simp only [free, held, near, allowed, slot, ready, hwait]
  rfl

end State

section
variable {s : State} {h : HostId} {pair i d : Nat} {body : List Byte}

/-- Over D1 the head's own S-die has the reading, and no other device does (R148). -/
theorem State.sendSpot_head (s : State) (slot : Nat) (w : Word) (hd : s.d1Works = true) (hc : (s.dev 0).coreReset = none) :
    (s.sendSpot 0 slot w).dev 0 = ((s.dev 0).heard s.now).getCommand (.spot slot w) ∧
      (∀ e, e ≠ 0 → (s.sendSpot 0 slot w).dev e = s.dev e) ∧ (s.sendSpot 0 slot w).swp = s.swp := by
  have hl : 0 < s.devs.length := s.lt_of_awake 0 (by simp only [State.d1Works, Bool.and_eq_true] at hd; tauto)
  unfold State.sendSpot
  rw [if_pos rfl]
  refine ⟨?_, fun e he => s.overD1_others _ e he, s.overD1_swp _⟩
  rw [State.overD1_eq, if_pos hd, State.dev_modDev_self _ _ _ hl]
  simp [hc]

/-- A clause of O14: what SPOT_READ leaves (R147, R148, R445). -/
theorem spotRead_answers (T : Taken s h pair 0x0106 body) (hlen : body.length = 8) (hmay : s.may h none 1)
    (H : s.SpotRead (request h pair 0x0106 body) i d) :
    answers (.spotRead h pair) s fun t =>
      t.der = (s.takeSpot (request h pair 0x0106 body) i d).der ∧
      (field body 2 1 = 0 → s.d1Works = true → (s.dev 0).coreReset = none →
        (t.dev 0).body = (((s.dev 0).heard s.now).getCommand (.spot i (word (field body 4 4)))).body ∧ othersKept s t 0 ∧ t.swp = s.swp) ∧
      (field body 2 1 ≠ 0 → s.ringHead = true → t.swp.seq = (s.swp.seq + 1) % 65536) ∧
      answered [.sweep, .derived, .devices] s t (request h pair 0x0106 body)
        (leBytes 1 i ++ leBytes 1 (t.der.spots.filter (·.isSome)).length ++ [0, 0] ++ leBytes 4 s.sweep) := by
  obtain ⟨b, hb⟩ : ∃ b, b = (s.takeMsg h pair).takeSpot (request h pair 0x0106 body) i d := ⟨_, rfl⟩
  have hder : b.der = (s.takeSpot (request h pair 0x0106 body) i d).der := by
    rw [hb, State.takeSpot_takeMsg_der]
  obtain ⟨x, g, e, hx, hg, hseq⟩ := b.sendSpot_form (field body 2 1) i (word (field body 4 4))
  have hdo : doSpotRead (request h pair 0x0106 body) (s.takeMsg h pair)
      = (b.sendSpot (field body 2 1) i (word (field body 4 4))).respond h pair 0x0106 (field body 0 2) St.ok
        (leBytes 1 i ++ leBytes 1 (b.der.spots.filter (·.isSome)).length ++ [0, 0] ++ leBytes 4 (s.takeMsg h pair).sweep) := by
    rw [hb]
    exact (H.takeMsg h pair).doSpotRead
  have hdev (k : Nat) : b.dev k = s.dev k := by rw [hb]; exact s.takeMsg_dev h pair k
  have hswp : b.swp = s.swp := by rw [hb]; exact s.takeMsg_swp h pair
  have hd1 : b.d1Works = s.d1Works := by rw [hb]; exact s.takeMsg_d1Works h pair
  have hring : b.ringHead = s.ringHead := by rw [hb]; exact s.takeMsg_ringHead h pair
  have hnow : b.now = s.now := by rw [hb]; exact s.takeMsg_now h pair
  obtain ⟨t, ht, ⟨p, n, et⟩, hserved, hkept⟩ := serve_acts (guard := guardSpotRead) (g := ⟨true, none, 1⟩)
    (u := { b with swp := x }.modDev 0 g) (out := [.derived] ++ [.sweep, .devices]) T
    (by unfold guardSpotRead Req.len request; rw [hlen]; rfl) rfl hmay (hdo.trans (by rw [e]))
    (by rw [State.modDev_port, hb]; cases h <;> rfl) (by rw [hb]; rfl) (by rw [hb]; rfl)
    (kept_trans (hb ▸ State.kept_takeSpot _ _ _ _) (b.kept_sent x g))
    (by rw [b.sent_tripMask, hb]; exact s.takeMsg_tripMask h pair) (by rw [hb]; exact s.takeMsg_saf h pair)
    (by rw [b.sent_cErr x hg, hdev])
  have htdev (k : Nat) : t.dev k = (b.sendSpot (field body 2 1) i (word (field body 4 4))).dev k := by rw [et, e]; cases h <;> rfl
  have htswp : t.swp = (b.sendSpot (field body 2 1) i (word (field body 4 4))).swp := by rw [et, e]; cases h <;> rfl
  have htder : t.der = b.der := by rw [et]; cases h <;> rfl
  refine ⟨t, ht, htder.trans hder, fun h0 hd hc => ?_, fun h0 hr => ?_, ?_, ?_⟩
  · obtain ⟨hhead, hothers, hsame⟩ := b.sendSpot_head i (word (field body 4 4)) (hd1.trans hd) (by rw [hdev]; exact hc)
    rw [h0] at htdev htswp
    refine ⟨?_, fun k hk => ?_, ?_⟩
    · rw [htdev, hhead, hdev, hnow]
    · rw [htdev, hothers k hk, hdev]
    · rw [htswp, hsame, hswp]
  · rw [htswp, e, ← hswp]
    exact hseq h0 (hring.trans hr)
  · rw [htder, ← s.takeMsg_sweep h pair]
    exact hserved
  · refine State.kept_mono hkept fun k hk => ?_
    simp only [List.mem_append, List.mem_cons, List.not_mem_nil, or_false] at hk ⊢
    tauto

end

/-- Settles O14: the command takes its slot and sends the reading, which changes the sweep's frames and the head's S-die alone. -/
theorem spotReadTakesASlot : Obligations.SpotReadTakesASlot := by
  unfold Obligations.SpotReadTakesASlot
  intro s h pair body i d T hlen hmay free held near allowed slot ready recal test
  exact spotRead_answers T hlen hmay ⟨free, held, near, allowed, slot, ready, recal, test⟩

end Sys2Proof.Machine
end

section
/-!
SUPPORT. An object that is staged to members within reach (R67, R143, R264, R444): what the staging of the head sends, and O13.
-/

namespace Sys2Proof.Machine

/-- A bulk operation that has been sent to position `p` besides, its frames from SEQ `q` on (R444). -/
def Bulk.sentTo (b : Bulk) (p q : Nat) : Bulk :=
  { b with sent := b.sent ++ (List.range (stageMsgs b.object (b.objectBytes p)).length).map (fun j => (p, (q + j) % 65536)) }

namespace State

/-! ### Frames of a staging -/

/-- `v` is `u` with the one bulk operation `b`, after frames that have left the head. -/
def StagedFrom (u v : State) (b : Bulk) : Prop := ∃ (x : SweepSt) (g : Dev → Dev),
  v = { u with swp := x, leg := { u.leg with bulk := [b] } }.modDev 0 g ∧ ∀ d, (g d).inner = d.inner

variable {u v w : State} {b c : Bulk}

theorem StagedFrom.refl (h : u.leg.bulk = [b]) : StagedFrom u u b := by
  refine ⟨u.swp, id, ?_, fun _ => rfl⟩
  rw [← h]
  exact (u.modDev_id 0).symm

theorem StagedFrom.trans (h : StagedFrom u v b) (k : StagedFrom v w c) : StagedFrom u w c := by
  obtain ⟨x, g, rfl, hg⟩ := h
  obtain ⟨y, f, rfl, hf⟩ := k
  exact ⟨y, f ∘ g, modDev_modDev { u with swp := y, leg := { u.leg with bulk := [c] } } 0 g f, fun d => (hf _).trans (hg d)⟩

theorem StagedFrom.bulk (h : StagedFrom u v b) : v.leg.bulk = [b] := by
  obtain ⟨x, g, rfl, -⟩ := h
  rfl

theorem ringHead_sent (x : SweepSt) {g : Dev → Dev} (hg : ∀ d, (g d).inner = d.inner) :
    ({ u with swp := x }.modDev 0 g).ringHead = u.ringHead := by
  have hd := dev_modDev_keep Dev.inner { u with swp := x } 0 0 g hg
  have he {β : Type} (k : Dev → β) (hk : ∀ d : Dev, k d.inner = k d) : k (({ u with swp := x }.modDev 0 g).dev 0) = k (u.dev 0) := by
    rw [← hk, hd, hk]
    rfl
  unfold State.ringHead State.d1Works
  rw [he (·.awake) fun _ => rfl, he (·.d1) fun _ => rfl, he (·.isHead) fun _ => rfl]
  rfl

/-- A position that the head reaches is one still, after frames that have left. -/
theorem StagedFrom.reach (h : StagedFrom u v b) : v.ringHead = u.ringHead ∧ v.adopted = u.adopted ∧ v.unreachable = u.unreachable := by
  obtain ⟨x, g, rfl, hg⟩ := h
  exact ⟨ringHead_sent (u := { u with leg := { u.leg with bulk := [b] } }) x hg, rfl, rfl⟩

theorem StagedFrom.port (h : StagedFrom u v b) (k : HostId) : v.port k = u.port k := by
  obtain ⟨x, g, rfl, -⟩ := h
  cases k <;> rfl

theorem StagedFrom.queues (h : StagedFrom u v b) : v.queues = u.queues := by obtain ⟨x, g, rfl, -⟩ := h; rfl

theorem StagedFrom.lastA (h : StagedFrom u v b) : v.lastA = u.lastA := by obtain ⟨x, g, rfl, -⟩ := h; rfl

theorem StagedFrom.saf (h : StagedFrom u v b) : v.saf = u.saf := by obtain ⟨x, g, rfl, -⟩ := h; rfl

theorem StagedFrom.tripMask (h : StagedFrom u v b) : v.tripMask = u.tripMask := by
  obtain ⟨x, g, rfl, -⟩ := h
  exact tripMask_congr u rfl rfl rfl rfl rfl rfl rfl rfl

theorem StagedFrom.cErr (h : StagedFrom u v b) : (v.dev 0).cErr = (u.dev 0).cErr := by
  obtain ⟨x, g, rfl, hg⟩ := h
  exact sent_cErr { u with leg := { u.leg with bulk := [b] } } x fun d => Dev.cErr_of_inner (hg d)

theorem StagedFrom.kept (h : StagedFrom u v b) : kept [.sweep, .legend, .devices] u v := by
  obtain ⟨x, g, rfl, -⟩ := h
  exact kept_mono (kept_trans (kept_legend u { u.leg with bulk := [b] }) (kept_sent _ x g)) (by decide)

theorem foldl_downFrame_form (p : Nat) (l : List StageMsg) (u : State) : ∃ (x : SweepSt) (g : Dev → Dev),
    l.foldl (fun s m => s.downFrame p (.stage m)) u = { u with swp := x }.modDev 0 g ∧ ∀ d, (g d).inner = d.inner := by
  induction l generalizing u with
  | nil => exact ⟨u.swp, id, (u.modDev_id 0).symm, fun _ => rfl⟩
  | cons m l ih =>
    obtain ⟨x, g, e, -, hg, -⟩ := u.downFrame_form p (.stage m)
    obtain ⟨y, f, k, hf⟩ := ih (u.downFrame p (.stage m))
    refine ⟨y, f ∘ g, ?_, fun d => (hf _).trans (hg d)⟩
    rw [List.foldl_cons, k, e]
    exact modDev_modDev { u with swp := y } 0 g f

/-! ### Position after position -/

/-- A bulk operation that the head sends to each of `ps`: members that it reaches and to which it has not been sent. -/
structure Sendable (s : State) (b : Bulk) (ps : List Nat) : Prop where
  bulk : s.leg.bulk = [b]
  ring : s.ringHead = true
  near : ∀ p ∈ b.need, p ≠ 0 ∧ s.adopted p = true ∧ s.unreachable p = false
  unsent : ∀ p ∈ ps, ∀ y ∈ b.sent, y.1 ≠ p

variable {s : State} {p : Nat} {ps : List Nat}

theorem stageTo_skips (H : s.Sendable b (p :: ps)) (hp : p ∉ b.need) : s.stageTo 0 p = s := by
  unfold State.stageTo
  simp only [H.bulk, List.getElem?_cons_zero]
  exact if_pos (.inl (by simpa using hp))

theorem stageTo_sends (H : s.Sendable b (p :: ps)) (hp : p ∈ b.need) :
    StagedFrom s (s.stageTo 0 p) (b.sentTo p s.swp.seq) := by
  obtain ⟨h0, hadopted, hreach⟩ := H.near p hp
  have hbusy : [b].any (fun x => decide (x.object = b.object) && x.sent.any (fun y => decide (y.1 = p))) = false := by
    simpa using fun p' n hn => H.unsent p List.mem_cons_self (p', n) hn
  obtain ⟨x, g, e, hg⟩ := foldl_downFrame_form p (stageMsgs b.object (b.objectBytes p)) s
  refine ⟨x, g, ?_, hg⟩
  unfold State.stageTo
  simp only [H.bulk, List.getElem?_cons_zero]
  rw [if_neg (by simp only [hbusy, hadopted, hreach]; simpa using hp), if_neg h0, if_pos H.ring, e]
  unfold State.modBulk
  dsimp only [modDev_leg]
  rw [H.bulk]
  rfl

theorem Sendable.tail (H : s.Sendable b (p :: ps)) : s.Sendable b ps :=
  { H with unsent := fun q hq => H.unsent q (List.mem_cons_of_mem p hq) }

theorem Sendable.sentTo {q : Nat} (H : s.Sendable b (p :: ps)) (hp : p ∉ ps) (h : StagedFrom s v (b.sentTo p q)) :
    v.Sendable (b.sentTo p q) ps := by
  obtain ⟨hring, hadopted, hreach⟩ := h.reach
  refine ⟨h.bulk, hring.trans H.ring, fun p' hn => ?_, fun p' hp' y hy => ?_⟩
  · rw [hadopted, hreach]
    exact H.near p' hn
  · obtain hy | hy := List.mem_append.1 hy
    · exact H.tail.unsent p' hp' y hy
    · obtain ⟨j, -, rfl⟩ := List.mem_map.1 hy
      exact fun (e : p = p') => hp (e ▸ hp')

/-- Every position of a list that needs the object has it on its way, once the head has gone through the list (R444). -/
theorem foldl_stageTo (hobj : ∀ q, stageMsgs b.object (b.objectBytes q) ≠ []) (hps : ps.Nodup) (H : s.Sendable b ps) :
    ∃ l, StagedFrom s (ps.foldl (fun s p => s.stageTo 0 p) s) { b with sent := l } ∧ (∀ y ∈ b.sent, y ∈ l) ∧
      ∀ p ∈ ps, p ∈ b.need → ∃ q, (p, q) ∈ l := by
  induction ps generalizing s b with
  | nil => exact ⟨b.sent, .refl H.bulk, fun _ hy => hy, fun _ hp => absurd hp List.not_mem_nil⟩
  | cons p ps ih =>
    obtain ⟨hp, hps⟩ := List.nodup_cons.1 hps
    rw [List.foldl_cons]
    by_cases hn : p ∈ b.need
    · have hto := stageTo_sends H hn
      obtain ⟨l, hl, hkeeps, hall⟩ := ih (b := b.sentTo p s.swp.seq) hobj hps (H.sentTo hp hto)
      refine ⟨l, hto.trans hl, fun y hy => hkeeps y (List.mem_append_left _ hy), fun p' hp' hn' => ?_⟩
      obtain rfl | hp' := List.mem_cons.1 hp'
      · exact ⟨_, hkeeps (p', (s.swp.seq + 0) % 65536) (List.mem_append_right _ (List.mem_map.2
          ⟨0, List.mem_range.2 (List.length_pos_iff.2 (hobj p')), rfl⟩))⟩
      · exact hall p' hp' hn'
    · rw [stageTo_skips H hn]
      obtain ⟨l, hl, hkeeps, hall⟩ := ih hobj hps H.tail
      refine ⟨l, hl, hkeeps, fun p' hp' hn' => ?_⟩
      obtain rfl | hp' := List.mem_cons.1 hp'
      · exact absurd hn' hn
      · exact hall p' hp' hn'

/-! ### The operation as a whole -/

/-- A table of at least one entry is cut into at least one frame (R264). -/
theorem stageMsgs_table (hobj : b.object = 1) (htable : b.table ≠ []) (q : Nat) : stageMsgs b.object (b.objectBytes q) ≠ [] := by
  have hbytes : (b.objectBytes q).length = 4 * b.table.length := by
    simp [Bulk.objectBytes, hobj, wordsToBytes, List.length_flatMap, leBytes_length, Nat.mul_comm]
  have hpos : 0 < b.table.length := List.length_pos_iff.2 htable
  rw [← List.length_pos_iff, stageMsgs, List.length_map, List.length_range, hbytes]
  omega

/-- An operation that has failed nowhere and is still needed somewhere stays under way (R444). -/
theorem settleBulks_waits (hb : s.leg.bulk = [b]) (hobj : b.object = 1) (hfails : b.fails = []) (hneed : b.need ≠ []) :
    s.settleBulks = s := by
  have hone : s.settleBulk b = (s, [b]) := by
    unfold State.settleBulk
    simp [hobj, hfails, hneed]
  unfold State.settleBulks
  rw [hb]
  simp only [List.foldl_cons, List.foldl_nil, hone, List.nil_append]
  rw [← hb]

theorem stageDue_one (hb : s.leg.bulk = [b]) (hneed : b.need.filter s.adopted = b.need) (hsent : b.sent = []) :
    s.stageDue = ((List.range 32).foldl (fun s p => s.stageTo 0 p) s).settleBulks := by
  unfold State.stageDue
  extract_lets l _ u
  have hl : l = s.leg.bulk := by
    unfold l
    rw [hb, List.map_singleton, hneed, hsent, List.filter_nil, ← hsent]
  have hu : u = s := by
    unfold u
    rw [hl]
  rw [hu, hl, hb, List.length_singleton, List.range_one, List.foldl_cons, List.foldl_nil]

/-- A table for members that the head reaches, where nothing else is staged: each of them has it on its way (R67, R444). -/
theorem startBulk_sends (hs : s.leg.bulk = []) (hring : s.ringHead = true) (hobj : b.object = 1) (htable : b.table ≠ [])
    (hfails : b.fails = []) (hsent : b.sent = []) (hneed : b.need ≠ [])
    (hnear : ∀ p ∈ b.need, p < 32 ∧ p ≠ 0 ∧ s.adopted p = true ∧ s.unreachable p = false) :
    ∃ l, StagedFrom s (s.startBulk b) { b with sent := l } ∧ ∀ p ∈ b.need, ∃ q, (p, q) ∈ l := by
  obtain ⟨u, hu⟩ : ∃ u, u = { s with leg := { s.leg with bulk := [b] } } := ⟨_, rfl⟩
  have hus : StagedFrom s u b := ⟨s.swp, id, hu.trans (modDev_id { s with leg := { s.leg with bulk := [b] } } 0).symm, fun _ => rfl⟩
  obtain ⟨hr, ha, hn⟩ := hus.reach
  have H : u.Sendable b (List.range 32) := by
    refine ⟨hus.bulk, hr.trans hring, fun p hp => ?_, fun p _ y hy => ?_⟩
    · rw [ha, hn]
      exact (hnear p hp).2
    · rw [hsent] at hy
      exact absurd hy List.not_mem_nil
  have hmsgs (q : Nat) : stageMsgs b.object (b.objectBytes q) ≠ [] := stageMsgs_table hobj htable q
  obtain ⟨l, hl, -, hall⟩ := foldl_stageTo hmsgs List.nodup_range H
  refine ⟨l, ?_, fun p hp => hall p (List.mem_range.2 (hnear p hp).1) hp⟩
  have hkeep : b.need.filter u.adopted = b.need := List.filter_eq_self.2 fun p hp => by
    rw [ha]
    exact (hnear p hp).2.2.1
  have hstart : s.startBulk b = u.stageDue := by rw [State.startBulk, hs, hu, List.nil_append]
  rw [hstart, stageDue_one hus.bulk hkeep hsent, settleBulks_waits hl.bulk hobj hfails hneed]
  exact hus.trans hl

end State
theorem lt_of_positionsOf {mask p : Nat} (h : p ∈ positionsOf mask) : p < 32 := List.mem_range.1 (List.mem_filter.1 h).1

/-- The staging of a table that a host has given to the positions of its mask (R444). -/
def Req.tableBulk (r : Req) (table : List Word) : Bulk :=
  ⟨1, r.h, r.pair, r.tag, positionsOf (r.get 4 4), [], [], [], false, [], table, [], [], [], none⟩

/-- A load that no check refuses begins its staging (R142, R143, R444). -/
theorem doSurveyLoad_starts {s : State} {r : Req} {table : List Word} (hload : r.get 2 1 = 0) (hbulk : s.leg.bulk = [])
    (h1 : 1 ≤ r.get 8 2) (h256 : r.get 8 2 ≤ 256) (hps : positionsOf (r.get 4 4) ≠ []) (ht : table = (List.range (r.get 8 2)).map r.entry)
    (hend : table.any (fun w => eEnd w) = true) (hbad : badEntry table (r.get 4 4) (periodUs s.swp.period) = none)
    (hadopted : ∀ p ∈ positionsOf (r.get 4 4), s.adopted p = true) : doSurveyLoad r s = s.startBulk (r.tableBulk table) := by
  have hfree : ¬ s.staging 1 = true := by simp [State.staging, hbulk]
  have hfits : ¬ (r.get 8 2 = 0 ∨ 256 < r.get 8 2 ∨ positionsOf (r.get 4 4) = []) := by
    simp only [hps, or_false]
    omega
  have hends : ¬ table.all (fun w => !eEnd w) = true := by simpa using hend
  have hfind : (positionsOf (r.get 4 4)).find? (fun p => !s.adopted p) = none :=
    List.find?_eq_none.2 fun p hp => by simp [hadopted p hp]
  subst ht
  unfold doSurveyLoad
  simp only [hload, hfree, hfits, hends, hbad, hfind, if_true, if_false]
  rfl

namespace State

@[simp] theorem takeMsg_adopted (s : State) (h : HostId) (pair p : Nat) : (s.takeMsg h pair).adopted p = s.adopted p :=
  s.takeMsg_read (·.adopted p) h pair fun _ _ _ _ => by cases h <;> rfl

@[simp] theorem takeMsg_deviceAt (s : State) (h : HostId) (pair p : Nat) : (s.takeMsg h pair).deviceAt p = s.deviceAt p :=
  s.takeMsg_read (·.deviceAt p) h pair fun _ _ _ _ => by cases h <;> rfl

end State

section
variable {s : State} {h : HostId} {pair : Nat} {body : List Byte} (T : Taken s h pair 0x0105 body)
  (hlen : body.length = 12 + 4 * field body 8 2)
include T hlen

/-- A clause of O13: the active table of one device is read (R444). -/
theorem surveyLoad_reads {p st : Nat} {d : Dev} (hread : field body 2 1 = 1) (hp : positionsOf (field body 4 4) = [p])
    (hcount : field body 8 2 = 0) (hd : s.deviceAt p = (st, some d)) :
    answers (.surveyLoad h pair) s fun t => readsOut s t (request h pair 0x0105 body) (tableBytes d.table) := by
  refine serve_reads (guard := guardSurveyLoad) (act := doSurveyLoad) (g := ⟨true, none, 0⟩) T ?_ rfl ⟨rfl, Nat.zero_le _⟩ ?_
  · simp only [guardSurveyLoad, Req.get, Req.len, request, hread, hlen, decide_true]
  · simp only [doSurveyLoad, Req.get, request, hread, hp, hcount, State.takeMsg_deviceAt, hd]
    rfl

/-- A clause of O13: a table is staged to members (R143, R444). -/
theorem surveyLoad_stages {table : List Word} (hload : field body 2 1 = 0) (hmay : s.may h (some 5) 2) (h1 : 1 ≤ field body 8 2)
    (h256 : field body 8 2 ≤ 256) (ht : table = (List.range (field body 8 2)).map (request h pair 0x0105 body).entry)
    (hend : table.any (fun w => eEnd w) = true) (hbad : badEntry table (field body 4 4) (periodUs s.swp.period) = none)
    (hps : positionsOf (field body 4 4) ≠ [])
    (hnear : ∀ p ∈ positionsOf (field body 4 4), p ≠ 0 ∧ s.adopted p = true ∧ s.unreachable p = false)
    (hring : s.ringHead = true) (hbulk : s.leg.bulk = []) :
    answers (.surveyLoad h pair) s fun t =>
      (∃ b, t.leg.bulk = [b] ∧ b.object = 1 ∧ b.host = h ∧ b.table = table ∧ b.need = positionsOf (field body 4 4) ∧
        ∀ p ∈ b.need, ∃ q, (p, q) ∈ b.sent) ∧
      served s t (request h pair 0x0105 body) [] ∧
      kept (.sweep :: .legend :: .devices :: hostParts h) s t := by
  have htable : table ≠ [] := by
    rintro rfl
    simp at hend
  have hdo : doSurveyLoad (request h pair 0x0105 body) (s.takeMsg h pair)
      = (s.takeMsg h pair).startBulk ((request h pair 0x0105 body).tableBulk table) :=
    doSurveyLoad_starts hload (by simpa using hbulk) h1 h256 hps ht hend (by rw [s.takeMsg_swp]; exact hbad) fun p hp => by
      simpa using (hnear p hp).2.1
  obtain ⟨l, hl, hall⟩ := (s.takeMsg h pair).startBulk_sends (b := (request h pair 0x0105 body).tableBulk table)
    (by simpa using hbulk) (by simpa using hring) rfl htable rfl rfl hps fun p hp => by
      simpa using And.intro (lt_of_positionsOf hp) (hnear p hp)
  obtain ⟨t, ht, et, hserved, hkept⟩ := serve_quiet (guard := guardSurveyLoad) (g := ⟨true, some 5, 2⟩) T
    (by simp only [guardSurveyLoad, Req.get, Req.len, request, hload, hlen, decide_true]) rfl hmay hdo
    (hl.port h) hl.queues hl.lastA hl.kept (hl.tripMask.trans (s.takeMsg_tripMask h pair)) (hl.saf.trans (s.takeMsg_saf h pair))
    (hl.cErr.trans (by rw [s.takeMsg_dev]))
  refine ⟨t, ht, ⟨{ (request h pair 0x0105 body).tableBulk table with sent := l }, ?_, rfl, rfl, rfl, rfl, hall⟩, hserved, hkept⟩
  rw [et]
  exact hl.bulk

end

/-- Settles O13: a read answers from the device, and a load sends its table to one member after the other. -/
theorem surveyLoadStages : Obligations.SurveyLoadStages := fun _ _ _ _ T hlen =>
  ⟨fun _ _ _ hread hp hcount hd => surveyLoad_reads T hlen hread hp hcount hd,
    fun _ hload hmay h1 h256 ht hend hbad hps hnear hring hbulk =>
      surveyLoad_stages T hlen hload hmay h1 h256 ht hend hbad hps hnear hring hbulk⟩

end Sys2Proof.Machine
end

section
/-!
SUPPORT. What SYS_CAL does to the sequence of its channel (R181, R182, R448): a measurement that begins, a sequence that is closed,
and O16.
-/

namespace Sys2Proof.Machine

namespace State

variable (s : State)

/-! ### The sequences of system calibration -/

/-- The sequence of channel `chan` is replaced by those of `l`, none or one. -/
def putCal (chan : Nat) (l : List SysCal) : State :=
  { s with der := { s.der with sysCal := s.der.sysCal.filter (fun x => decide (x.chan ≠ chan)) ++ l } }

/-- The sequence of the channel of request `r` as the measurement of `step` begins, with the offset that it carries on (R448). -/
def calBegun (r : Req) (step : Nat) (zero : Option (Int × Nat)) : SysCal :=
  { s.calOf (r.get 3 1) with
    zero := zero, measuring := some (step, s.now, sext 32 (r.get 4 4)), acc := {}, host := r.h, pair := r.pair, tag := r.tag }

/-- The steps of request `r` that measure, each with the offset that it carries on: a ZERO drops what the sequence has, and a
SPAN keeps the offset of a ZERO not older than ten minutes (R182, R448). -/
inductive CalStep (r : Req) : Nat → Option (Int × Nat) → Prop
  | zero (hstep : r.get 2 1 = 0) : CalStep r 0 none
  | span {z : Int × Nat} (hstep : r.get 2 1 = 1) (hzero : (s.calOf (r.get 3 1)).zero = some z)
      (hrecent : s.now ≤ z.2 + 600000000000) : CalStep r 1 (some z)

/-- Channel `chan` can be calibrated, and nothing is being measured on it (R181, R448). -/
structure CalIdle (chan : Nat) : Prop where
  channel : s.calChannel chan = true
  idle : (s.calOf chan).measuring = none

theorem kept_putCal (chan : Nat) (l : List SysCal) : kept [.derived] s (s.putCal chan l) := kept_derived s _

/-! ### What SYS_CAL does -/

variable {s} {r : Req} {step : Nat} {zero : Option (Int × Nat)}

/-- A ZERO, or a SPAN soon enough after one, begins its measurement and answers nothing yet (R182, R448). -/
theorem doSysCal_begins (H : s.CalIdle (r.get 3 1)) (hcal : s.CalStep r step zero) :
    doSysCal r s = s.putCal (r.get 3 1) [s.calBegun r step zero] := by
  obtain ⟨hchan, hidle⟩ := H
  cases hcal with
  | zero hstep => simp [doSysCal, hchan, hidle, hstep, putCal, calBegun]
  | @span z hstep hzero hrecent =>
    have hms : s.now ≤ z.2 + ms 600000 := hrecent
    simp [doSysCal, hchan, hidle, hstep, hzero, hms, putCal, calBegun]

/-- An ABORT closes the sequence and is answered at once (R448). -/
theorem doSysCal_aborts (H : s.CalIdle (r.get 3 1)) (hstep : r.get 2 1 = 2) :
    doSysCal r s = (s.putCal (r.get 3 1) []).answer r [] := by
  obtain ⟨hchan, hidle⟩ := H
  simp [doSysCal, hchan, hidle, hstep, putCal]

/-- A step that measures is one of the steps that the layout names (R448). -/
theorem CalStep.lt (H : s.CalStep r step zero) : r.get 2 1 < 3 := by
  cases H <;> omega

/-! ### What taking the message leaves -/

@[simp] theorem takeMsg_calChannel (s : State) (h : HostId) (pair c : Nat) : (s.takeMsg h pair).calChannel c = s.calChannel c :=
  s.takeMsg_read (·.calChannel c) h pair fun _ _ _ _ => by cases h <;> rfl

@[simp] theorem takeMsg_calOf (s : State) (h : HostId) (pair c : Nat) : (s.takeMsg h pair).calOf c = s.calOf c :=
  s.takeMsg_read (·.calOf c) h pair fun _ _ _ _ => by cases h <;> rfl

theorem CalIdle.takeMsg {chan : Nat} (H : s.CalIdle chan) (h : HostId) (pair : Nat) : (s.takeMsg h pair).CalIdle chan :=
  ⟨by simpa using H.channel, by simpa using H.idle⟩

theorem CalStep.takeMsg (H : s.CalStep r step zero) (h : HostId) (pair : Nat) : (s.takeMsg h pair).CalStep r step zero := by
  cases H with
  | zero hstep => exact .zero hstep
  | span hstep hzero hrecent => exact .span hstep (by simpa using hzero) (by simpa using hrecent)

theorem takeMsg_calBegun (s : State) (h : HostId) (pair : Nat) :
    (s.takeMsg h pair).calBegun r step zero = s.calBegun r step zero := by
  simp [calBegun]

/-- The sequences are replaced in what the head holds, which taking the message does not change. -/
theorem takeMsg_putCal_der (s : State) (h : HostId) (pair chan : Nat) (l : List SysCal) :
    ((s.takeMsg h pair).putCal chan l).der = (s.putCal chan l).der := by
  simp [putCal]

end State

/-- Each step of SYS_CAL, 0 to 2, asks for the semaphore of calibration and the level SERVICE (R440, R448). -/
theorem guardSysCal_eq {r : Req} (hlen : r.len = 8) (hstep : r.get 2 1 < 3) : guardSysCal r = some ⟨true, some Sem.calib, 2⟩ := by
  simp [guardSysCal, hlen, hstep]

section
variable {s : State} {h : HostId} {pair : Nat} {body : List Byte} (T : Taken s h pair 0x0108 body) (hlen : body.length = 8)
  (hmay : s.may h (some 7) 2) (H : s.CalIdle (field body 3 1))
include T hlen hmay H

/-- Two clauses of O16: a measurement begins, which answers later (R182, R448). -/
theorem sysCal_begins {step : Nat} {zero : Option (Int × Nat)} (hcal : s.CalStep (request h pair 0x0108 body) step zero) :
    answers (.sysCal h pair) s fun t =>
      t.der = (s.putCal (field body 3 1) [s.calBegun (request h pair 0x0108 body) step zero]).der ∧
      served s t (request h pair 0x0108 body) [] ∧ kept (.derived :: hostParts h) s t := by
  have hdo : doSysCal (request h pair 0x0108 body) (s.takeMsg h pair)
      = (s.takeMsg h pair).putCal (field body 3 1) [s.calBegun (request h pair 0x0108 body) step zero] := by
    rw [State.doSysCal_begins (H.takeMsg h pair) (hcal.takeMsg h pair), State.takeMsg_calBegun]
    rfl
  obtain ⟨t, ht, et, hserved, hkept⟩ := serve_quiet T (guardSysCal_eq hlen hcal.lt) rfl hmay hdo
    (by cases h <;> rfl) rfl rfl (State.kept_putCal _ _ _) (s.takeMsg_tripMask h pair) (s.takeMsg_saf h pair)
    (congrArg Dev.cErr (s.takeMsg_dev h pair 0))
  refine ⟨t, ht, ?_, hserved, hkept⟩
  rw [et]
  exact s.takeMsg_putCal_der h pair _ _

/-- A clause of O16: an ABORT closes the sequence (R448). -/
theorem sysCal_aborts (hstep : field body 2 1 = 2) :
    answers (.sysCal h pair) s fun t =>
      t.der = (s.putCal (field body 3 1) []).der ∧ answered [.derived] s t (request h pair 0x0108 body) [] := by
  have hlt : field body 2 1 < 3 := by omega
  obtain ⟨t, ht, ⟨p, n, et⟩, hserved, hkept⟩ := serve_acts T (guardSysCal_eq hlen hlt) rfl hmay
    (State.doSysCal_aborts (H.takeMsg h pair) hstep)
    (by cases h <;> rfl) rfl rfl (State.kept_putCal _ _ _) (s.takeMsg_tripMask h pair) (s.takeMsg_saf h pair)
    (congrArg Dev.cErr (s.takeMsg_dev h pair 0))
  refine ⟨t, ht, ?_, hserved, hkept⟩
  rw [et, ← s.takeMsg_putCal_der h pair]
  cases h <;> rfl

end

/-- Settles O16: ZERO and SPAN begin one measurement, with the offset that the step carries on, and ABORT drops the sequence. -/
theorem sysCalMeasures : Obligations.SysCalMeasures := by
  unfold Obligations.SysCalMeasures
  intro s h pair body T hlen hmay hchan hidle
  have H : s.CalIdle (field body 3 1) := ⟨hchan, hidle⟩
  refine ⟨fun hstep => ?_, fun z hstep hzero hrecent => ?_, fun hstep => ?_⟩
  · exact sysCal_begins T hlen hmay H (.zero hstep)
  · exact sysCal_begins T hlen hmay H (.span hstep hzero hrecent)
  · simpa only [State.putCal, List.append_nil] using sysCal_aborts T hlen hmay H hstep

end Sys2Proof.Machine
end

section
/-!
SUPPORT. What SOUND_START makes of the sweep and of the reports that the head collects (R207, R208, R450): O18.
-/

namespace Sys2Proof.Machine

/-! ### The operands of SOUND_START (R450) -/

/-- The cells that the request names, as a mask. -/
def Req.soundCells (r : Req) : Nat := r.get 4 4 % 2 ^ 24

/-- The cycle counts of the eight bins. -/
def Req.soundCycles (r : Req) : List Nat := (List.range 8).map fun b => r.get (8 + 2 * b) 2

namespace State

variable (s : State)

/-- The named cells whose latest mean lies below SND_VMIN, as a mask (R207). -/
def soundExcluded (r : Req) : Nat :=
  maskOf ((List.range 24).filter fun k => r.soundCells.testBit k && s.soundLow (r.get 2 1) k)

/-- The order that lands: a Sounding of the cells that are left (R207, R208). -/
def soundOrder (r : Req) : Landed :=
  .device ⟨r.get 2 1, .sounding (r.soundCells - s.soundExcluded r) (r.get 3 1) r.soundCycles⟩

/-- The report of request `r` before any result (R208, R451). -/
def soundOpened (r : Req) : SndReport :=
  ⟨r.h, r.pair, r.tag, r.get 2 1, r.soundCells, r.get 3 1, r.soundCycles, s.effect, []⟩

/-- The report that is opened: each bin of an excluded cell has result 6 at once (R207, log 127). -/
def soundReport (r : Req) : SndReport :=
  (s.soundOpened r).named.foldl
    (fun q y => if (s.soundExcluded r).testBit (y.1 - 1) then q.put (sndNone y 6) else q) (s.soundOpened r)

/-- The order has landed and its report is opened (R64, R208). -/
def soundStarted (r : Req) : State :=
  { s with swp := (s.land (s.soundOrder r)).swp, der := { s.der with reports := s.der.reports ++ [s.soundReport r] } }

theorem kept_soundStarted (r : Req) : kept [.sweep, .derived] s (s.soundStarted r) :=
  kept_trans (kept_sweep s (s.land (s.soundOrder r)).swp) (kept_derived _ _)

/-- What SOUND_START asks of the position, of its cells and of the operands, beside its guard (R207, R450); with a cell left to sound. -/
structure SoundStart (r : Req) : Prop where
  active : s.active = true
  idle : s.soundBusy (r.get 2 1) = false
  held : s.posStatus (r.get 2 1) = 0
  named : r.soundCells ≠ 0
  bins : r.get 3 1 ≠ 0
  sound : ∀ k, k < 24 → r.soundCells.testBit k = true →
    s.soundBlocked (r.get 2 1) k = false ∧ s.par Fld.balRb (24 * r.get 2 1 + k) ≠ 0
  fits : ∀ b, b < 8 → (r.get 3 1).testBit b = true → cyclesFit b (r.get (8 + 2 * b) 2) = true
  left : r.soundCells - s.soundExcluded r ≠ 0
  room : s.commitFull (s.soundOrder r) = false

/-! ### The report -/

variable {s} {r : Req}

/-- A result that is put into a report changes none of its other fields. -/
theorem soundReport_opened : { s.soundReport r with results := [] } = s.soundOpened r := by
  refine foldl_keep (fun q : SndReport => { q with results := [] }) _ (fun q y => ?_) _ _
  split <;> rfl

/-- Where no cell is excluded, no result stands at once. -/
theorem soundReport_results (h : s.soundExcluded r = 0) : (s.soundReport r).results = [] := by
  unfold soundReport
  rw [h, foldl_keep SndReport.results _ (fun q y => by simp)]
  rfl

/-! ### What SOUND_START does -/

/-- A response is staged at a port, and a setting lands in the sweep: either may come first. -/
theorem respond_land (u : State) (h : HostId) (pair code tag status : Nat) (res : List Byte) (x : Landed) :
    (u.respond h pair code tag status res).land x = (u.land x).respond h pair code tag status res := by
  have hport : (u.land x).port h = u.port h := by
    rw [land_form]
    cases h <;> rfl
  unfold respond stageMsg
  rw [hport]
  cases (u.port h).frozen with
  | true => rfl
  | false =>
    unfold land
    cases h <;> cases hold : u.swp.hold <;> simp [modPort, hold]

theorem land_opened : { s with der := { s.der with reports := s.der.reports ++ [s.soundReport r] } }.land (s.soundOrder r)
    = s.soundStarted r := by
  unfold soundStarted land
  cases s.swp.hold <;> rfl

/-- SOUND_START looks for the excluded cells among the named ones. -/
theorem maskOf_named : maskOf (((List.range 24).filter fun k => r.soundCells.testBit k).filter fun k => s.soundLow (r.get 2 1) k)
    = s.soundExcluded r := by
  unfold soundExcluded
  rw [List.filter_filter]
  simp only [Bool.and_comm]

theorem SoundStart.find_blocked (H : s.SoundStart r) :
    ((List.range 24).filter fun k => r.soundCells.testBit k).find? (fun k => s.soundBlocked (r.get 2 1) k) = none := by
  rw [List.find?_eq_none]
  intro k hk
  obtain ⟨hk, hcell⟩ := List.mem_filter.1 hk
  rw [(H.sound k (List.mem_range.1 hk) hcell).1]
  exact Bool.false_ne_true

theorem SoundStart.noBleed (H : s.SoundStart r) : s.noBleed (r.get 2 1) r.soundCells = none := by
  unfold State.noBleed
  rw [List.find?_eq_none]
  intro k hk hcell
  rw [Bool.and_eq_true, decide_eq_true_eq] at hcell
  exact (H.sound k (List.mem_range.1 hk) hcell.1).2 hcell.2

theorem SoundStart.any_unfit (H : s.SoundStart r) :
    (List.range 8).any (fun b => (r.get 3 1).testBit b && !cyclesFit b (r.soundCycles.getD b 0)) = false := by
  rw [List.any_eq_false]
  intro b hb hbin
  have hlt : b < 8 := List.mem_range.1 hb
  have hcycle : r.soundCycles.getD b 0 = r.get (8 + 2 * b) 2 := by
    simp [Req.soundCycles, List.getD_eq_getElem?_getD, hlt]
  rw [hcycle, Bool.and_eq_true, Bool.not_eq_true'] at hbin
  exact Bool.noConfusion (hbin.2.symm.trans (H.fits b hlt hbin.1))

/-- A Sounding with a cell left to sound opens its report, lands and is answered with the cells that it leaves out (R207, R208, R450). -/
theorem SoundStart.doSoundStart (H : s.SoundStart r) :
    doSoundStart r s = (s.soundStarted r).answer r (leBytes 4 s.effect ++ leBytes 4 (s.soundExcluded r)) := by
  have hroom := H.room
  rw [soundOrder] at hroom
  rw [← land_opened]
  unfold Machine.doSoundStart
  simp only [← Req.soundCells.eq_1, ← Req.soundCycles.eq_1, H.active, H.idle, H.find_blocked, H.held, H.noBleed, H.named, H.bins,
    H.any_unfit, maskOf_named, H.left, hroom]
  exact respond_land _ _ _ _ _ _ _ _

/-! ### What taking the message leaves -/

@[simp] theorem takeMsg_active (u : State) (h : HostId) (pair : Nat) : (u.takeMsg h pair).active = u.active :=
  u.takeMsg_read (·.active) h pair fun _ _ _ _ => by cases h <;> rfl

@[simp] theorem takeMsg_soundBusy (u : State) (h : HostId) (pair p : Nat) : (u.takeMsg h pair).soundBusy p = u.soundBusy p :=
  u.takeMsg_read (·.soundBusy p) h pair fun _ _ _ _ => by cases h <;> rfl

@[simp] theorem takeMsg_soundBlocked (u : State) (h : HostId) (pair p k : Nat) :
    (u.takeMsg h pair).soundBlocked p k = u.soundBlocked p k :=
  u.takeMsg_read (·.soundBlocked p k) h pair fun _ _ _ _ => by cases h <;> rfl

@[simp] theorem takeMsg_par (u : State) (h : HostId) (pair fid i : Nat) : (u.takeMsg h pair).par fid i = u.par fid i :=
  u.takeMsg_read (·.par fid i) h pair fun _ _ _ _ => by cases h <;> rfl

@[simp] theorem takeMsg_soundExcluded (u : State) (h : HostId) (pair : Nat) :
    (u.takeMsg h pair).soundExcluded r = u.soundExcluded r :=
  u.takeMsg_read (·.soundExcluded r) h pair fun _ _ _ _ => by cases h <;> rfl

@[simp] theorem takeMsg_soundOrder (u : State) (h : HostId) (pair : Nat) : (u.takeMsg h pair).soundOrder r = u.soundOrder r := by
  simp [soundOrder]

@[simp] theorem takeMsg_soundReport (u : State) (h : HostId) (pair : Nat) : (u.takeMsg h pair).soundReport r = u.soundReport r :=
  u.takeMsg_read (·.soundReport r) h pair fun _ _ _ _ => by cases h <;> rfl

theorem SoundStart.takeMsg (H : s.SoundStart r) (h : HostId) (pair : Nat) : (s.takeMsg h pair).SoundStart r := by
  obtain ⟨active, idle, held, named, bins, sound, fits, left, room⟩ := H
  constructor <;> simpa [takeMsg_commitFull]

end State

section
variable {s : State} {h : HostId} {pair : Nat} {body : List Byte}

/-- The clause of O18: a Sounding with a cell left to sound lands, and its report is opened (R207, R208, R450). -/
theorem soundStart_answers (T : Taken s h pair 0x010A body) (hlen : body.length = 24) (hmay : s.may h (some 2) 1)
    (H : s.SoundStart (request h pair 0x010A body)) :
    answers (.soundStart h pair) s fun t =>
      t.swp = (s.land (s.soundOrder (request h pair 0x010A body))).swp ∧
      t.der = { s.der with reports := s.der.reports ++ [s.soundReport (request h pair 0x010A body)] } ∧
      answered [.sweep, .derived] s t (request h pair 0x010A body)
        (leBytes 4 s.effect ++ leBytes 4 (s.soundExcluded (request h pair 0x010A body))) := by
  obtain ⟨t, ht, ⟨p, n, et⟩, hserved, hkept⟩ := serve_acts (guard := guardSoundStart) (g := ⟨true, some Sem.sound, 1⟩) T
    (by unfold guardSoundStart Req.len request; rw [hlen]; rfl) rfl hmay (H.takeMsg h pair).doSoundStart
    (by cases h <;> rfl) rfl rfl (State.kept_soundStarted _ _) (s.takeMsg_tripMask h pair) (s.takeMsg_saf h pair)
    (congrArg Dev.cErr (s.takeMsg_dev h pair 0))
  rw [State.takeMsg_effect, State.takeMsg_soundExcluded] at hserved
  refine ⟨t, ht, ?_, ?_, hserved, hkept⟩
  · rw [et, ← s.takeMsg_land_swp h pair, ← s.takeMsg_soundOrder h pair]
    cases h <;> rfl
  · rw [et, ← s.takeMsg_soundReport h pair, ← s.takeMsg_der h pair]
    cases h <;> rfl

end

/-- Settles O18: a Sounding with a cell left to sound lands, opens its report, and is answered with the cells that it leaves out. -/
theorem soundStartLands : Obligations.SoundStartLands := by
  unfold Obligations.SoundStartLands
  intro s h pair body cells low cycles x T hlen hmay hrun hidle hheld hcells hnamed hbins hsound hcycles hfits hlow hleft hx hroom
  subst hcells hcycles hlow hx
  have H : s.SoundStart (request h pair 0x010A body) :=
    ⟨decide_eq_true hrun, hidle, hheld, hnamed, hbins, hsound, hfits, hleft, hroom⟩
  refine answers_mono (soundStart_answers T hlen hmay H) fun t ⟨hswp, hder, hanswered⟩ => ⟨hswp, ⟨_, hder, ?_⟩, hanswered⟩
  have e := State.soundReport_opened (s := s) (r := request h pair 0x010A body)
  exact ⟨congrArg (·.host) e, congrArg (·.pair) e, congrArg (·.tag) e, congrArg (·.pos) e, congrArg (·.cells) e,
    congrArg (·.bins) e, congrArg (·.cycles) e, congrArg (·.startSweep) e,
    State.soundReport_results (s := s) (r := request h pair 0x010A body)⟩

end Sys2Proof.Machine
end

section
/-!
SUPPORT. The keying of a Sounding at its device and the end of an integration (R204, R209, R210, R269): what they make of the
cells, and O50.
-/

namespace Sys2Proof.Machine

namespace Dev

variable (d : Dev)

/-! ### Cells changed one after the other -/

@[simp] theorem cell_modCell (j k : Nat) (f : Cell → Cell) :
    (d.modCell j f).cell k = if j = k ∧ k < d.cells.length then f (d.cell k) else d.cell k :=
  State.getD_modAt _ _ _ _ _

@[simp] theorem length_cells_modCell (k : Nat) (f : Cell → Cell) : (d.modCell k f).cells.length = d.cells.length :=
  List.length_modify _ _ _

/-- Each of the cells `l` is changed by its own function. -/
def modCells (g : Nat → Cell → Cell) (l : List Nat) : Dev := l.foldl (fun z k => z.modCell k (g k)) d

theorem modCells_frame (g : Nat → Cell → Cell) (l : List Nat) : d.modCells g l = { d with cells := (d.modCells g l).cells } := by
  induction l generalizing d with
  | nil => rfl
  | cons k l ih => exact ih (d.modCell k (g k))

theorem cell_modCells (g : Nat → Cell → Cell) {l : List Nat} (hl : l.Nodup) (k : Nat) :
    (d.modCells g l).cell k = if k ∈ l ∧ k < d.cells.length then g k (d.cell k) else d.cell k := by
  induction l generalizing d with
  | nil => simp [modCells]
  | cons j l ih =>
    obtain ⟨hj, hl⟩ := List.nodup_cons.1 hl
    have hstep : d.modCells g (j :: l) = (d.modCell j (g j)).modCells g l := rfl
    rw [hstep, ih _ hl, cell_modCell, length_cells_modCell]
    by_cases h : j = k
    · subst h
      simp [hj]
    · simp [h, Ne.symm h]

/-- A fold whose every step changes one cell, as long as an invariant of the fold holds. -/
theorem foldl_eq_modCells {f : Dev → Nat → Dev} {g : Nat → Cell → Cell} (I : Dev → Prop)
    (hf : ∀ z k, I z → f z k = z.modCell k (g k)) (hI : ∀ z k, I z → I (z.modCell k (g k))) (l : List Nat) (h : I d) :
    l.foldl f d = d.modCells g l := by
  induction l generalizing d with
  | nil => rfl
  | cons k l ih => rw [List.foldl_cons, hf d k h, ih _ (hI d k h)]; rfl

/-! ### A keying edge (R204, R209) -/

/-- A change of a cell that keeps GATEFLT keeps which cells are stopped. -/
theorem keyStop_modCell {f : Cell → Cell} (hf : ∀ c, (f c).gateFlt = c.gateFlt) (j k : Nat) :
    (d.modCell j f).keyStop k = d.keyStop k := by
  have hflt : ((d.modCell j f).cell k).gateFlt = (d.cell k).gateFlt := by
    rw [cell_modCell]
    split
    · exact hf _
    · rfl
  unfold keyStop
  rw [hflt]
  rfl

end Dev

theorem Cell.drive_gateFlt (c : Cell) (on : Bool) (t : Nat) : (c.drive on t).gateFlt = c.gateFlt := by
  unfold Cell.drive
  dsimp only
  split <;> rfl

namespace Dev

variable (d : Dev) (x : Sounding)

/-- What the next keying edge makes of a cell that is keyed: the switch toggles, and one of a cell that is stopped or aborted stays
off (R204, R209). -/
def edgeCell (t k : Nat) (c : Cell) : Cell :=
  if (x.edges + 1) % 2 = 0 ∧ (d.keyStop k = true ∨ x.aborted.contains k = true) then c
  else c.drive (decide ((x.edges + 1) % 2 = 0)) t

/-- What the next keying edge, at `t`, makes of the device (R204). -/
def keyingEdge (t : Nat) : Dev :=
  ({ d with snd := some { x with edges := x.edges + 1 } } : Dev).modCells (d.edgeCell x t) ((List.range 24).filter d.keyed)

theorem keyingEdge_frame (t : Nat) :
    d.keyingEdge x t = { d with snd := some { x with edges := x.edges + 1 }, cells := (d.keyingEdge x t).cells } :=
  modCells_frame _ _ _

theorem keyingEdge_cell (t : Nat) {k : Nat} (hk : k < d.cells.length) : (d.keyingEdge x t).cell k =
    if k < 24 ∧ d.keyed k = true ∧ ¬ ((x.edges + 1) % 2 = 0 ∧ (d.keyStop k = true ∨ x.aborted.contains k = true)) then
      (d.cell k).drive (decide ((x.edges + 1) % 2 = 0)) t else d.cell k := by
  refine (cell_modCells _ _ (List.nodup_range.filter _) k).trans ?_
  have hmem : k ∈ (List.range 24).filter d.keyed ↔ k < 24 ∧ d.keyed k = true := by simp
  by_cases hkey : k < 24 ∧ d.keyed k = true
  · rw [if_pos ⟨hmem.2 hkey, hk⟩]
    unfold edgeCell
    simp only [hkey, true_and, ite_not]
    rfl
  · rw [if_neg fun h => hkey (hmem.1 h.1), if_neg fun h => hkey ⟨h.1, h.2.1⟩]
    rfl

/-- The command drives the keyed cells one after the other, which changes none of the stops that it reads (R204, R209). -/
theorem foldl_edge (t : Nat) :
    ((List.range 24).filter d.keyed).foldl (fun z k =>
      if (x.edges + 1) % 2 = 0 ∧ (z.keyStop k ∨ x.aborted.contains k) then z else z.drive k (decide ((x.edges + 1) % 2 = 0)) t)
      { d with snd := some { x with edges := x.edges + 1 } } = d.keyingEdge x t := by
  refine foldl_eq_modCells _ (fun z => ∀ k, z.keyStop k = d.keyStop k) (fun z k hz => ?_) (fun z k hz j => ?_) _ fun _ => rfl
  · rw [hz]
    unfold edgeCell
    split
    · exact (congrArg (fun l => { z with cells := l }) (List.modify_id _ _).symm)
    · rfl
  · rw [keyStop_modCell _ (fun c => ?_), hz]
    unfold edgeCell
    split
    · rfl
    · exact c.drive_gateFlt _ _

/-! ### The end of an integration (R206, R210, R269) -/

theorem keyingEnds_eq (l : List Nat) (t : Nat) :
    d.keyingEnds l t = d.modCells (fun _ c => { c.drive false t with keyedAt := some t }) l := rfl

theorem keyingEnds_sndItems (l : List Nat) (t : Nat) : (d.keyingEnds l t).sndItems = d.sndItems := by
  rw [keyingEnds_eq, modCells_frame]

/-- A keying that has ended leaves the switches of its cells off. -/
theorem keyingEnds_gate {l : List Nat} (hl : l.Nodup) {k : Nat} (hk : k ∈ l) (t : Nat) : ((d.keyingEnds l t).cell k).gate = false := by
  rw [keyingEnds_eq, cell_modCells _ _ hl]
  split
  · exact Cell.drive_gate _ _ _
  · next h =>
    have hlen : d.cells.length ≤ k := Nat.le_of_not_lt fun hlt => h ⟨hk, hlt⟩
    rw [cell, List.getD_eq_default _ _ hlen]

end Dev

/-- The item that carries the sums of cell `k` (0 to 23) in bin `b` upstream (R205, R269). -/
def Sounding.item (x : Sounding) (b : Nat) (sums : List CorrSum) (k : Nat) : Item :=
  let c := (sums.find? fun c => decide (c.cell = k + 1)).getD ⟨k + 1, 0, 0, 0⟩
  .mk 0xC1 (k + 1 + 32 * b) (.sounding c.a c.b c.vOn (b2n (x.aborted.contains k)))

/-- The cells of the running group whose bin `b` is aborted for the first time: they run it once more (R210). -/
def Sounding.again (x : Sounding) (b : Nat) : List Nat :=
  (x.wants x.group b).filter fun k => x.aborted.contains k && !x.redo.contains (k, b)

/-- The Sounding after the integration of bin `b`: the cells of the group that do not run it again are done with it (R206, R210). -/
def Sounding.integrated (x : Sounding) (b : Nat) : Sounding :=
  { x with
    bin := none, redo := x.redo ++ (x.again b).map (·, b)
    done := x.done ++ ((x.wants x.group b).filter fun k => !(x.again b).contains k).map (·, b) }

namespace Sounding

variable {x : Sounding} {b k : Nat}

theorem wants_nodup (x : Sounding) (g b : Nat) : (x.wants g b).Nodup := List.nodup_range.filter _

/-- A bin that is aborted for the first time runs once more (R210). -/
theorem mem_redo_integrated (hk : k ∈ x.wants x.group b) (ha : x.aborted.contains k = true) (hr : x.redo.contains (k, b) = false) :
    (k, b) ∈ (x.integrated b).redo := by
  have hagain : k ∈ x.again b := List.mem_filter.2 ⟨hk, by rw [ha, hr]; rfl⟩
  exact List.mem_append_right _ (List.mem_map_of_mem hagain)

/-- A bin that is not aborted, or runs for the second time, is done (R206, R210). -/
theorem mem_done_integrated (hk : k ∈ x.wants x.group b) (h : x.aborted.contains k = false ∨ x.redo.contains (k, b) = true) :
    (k, b) ∈ (x.integrated b).done := by
  have hagain : k ∉ x.again b := fun hmem => by
    have hcond := (List.mem_filter.1 hmem).2
    rw [Bool.and_eq_true, Bool.not_eq_true'] at hcond
    obtain ⟨habort, hredo⟩ := hcond
    obtain h | h := h
    · exact Bool.noConfusion (h.symm.trans habort)
    · exact Bool.noConfusion (h.symm.trans hredo)
  exact List.mem_append_right _ (List.mem_map_of_mem (List.mem_filter.2 ⟨hk, by simpa using hagain⟩))

end Sounding

/-- What the end of the integration of bin `b` makes of the device (R204, R206, R210, R269). -/
def Dev.integrationEnds (d : Dev) (x : Sounding) (b : Nat) (sums : List CorrSum) : Dev :=
  { d.keyingEnds (x.wants x.group b) (x.since + d.keyLen x b * 62500) with
    snd := some (x.integrated b), sndItems := d.sndItems ++ (x.wants x.group b).map (x.item b sums) }

theorem Dev.integrationEnds_frame (d : Dev) (x : Sounding) (b : Nat) (sums : List CorrSum) :
    d.integrationEnds x b sums = { d with
      snd := (d.integrationEnds x b sums).snd, cells := (d.integrationEnds x b sums).cells,
      sndItems := (d.integrationEnds x b sums).sndItems } := by
  conv_lhs => rw [integrationEnds, keyingEnds_eq, modCells_frame]
  rfl

/-! ### The two commands -/

section
variable {s : State} {d b n : Nat} {x : Sounding} (ha : (s.dev d).awake = true) (hs : (s.dev d).snd = some x) (hb : x.bin = some b)
include ha hs hb

/-- A keying edge is the command's whole effect (R204). -/
theorem soundingKeyingEdge_becomes (he : x.edges + 1 < 2 * ((s.dev d).par Fld.sndSettle 0 + binCycles x.cycles b))
    (hn : n = x.since + (x.edges + 1) * (binCycle b / 2) * 62500) :
    answers (.soundingKeyingEdge d) s fun t => deviceBecomes s t d ((s.dev d).keyingEdge x n) n := by
  refine answers_becomes (g := fun y => y.keyingEdge x n)
    (show execSoundingKeyingEdge d s = _ from by unfold execSoundingKeyingEdge; rfl) ha ?_
  cases x
  cases hb
  simp only [hs]
  rw [if_neg (Nat.not_le.2 he), ← hn]
  refine congrArg (State.modDev _ d) (funext fun y => ?_)
  rw [← Dev.foldl_edge]

/-- A clause of O50: a keying edge (R204, R209). -/
theorem soundingKeyingEdge_answers (he : x.edges + 1 < 2 * ((s.dev d).par Fld.sndSettle 0 + binCycles x.cycles b))
    (hn : n = x.since + (x.edges + 1) * (binCycle b / 2) * 62500) :
    answers (.soundingKeyingEdge d) s fun t =>
      deviceBecomes s t d { s.dev d with snd := some { x with edges := x.edges + 1 }, cells := (t.dev d).cells } n ∧
      ∀ k, k < (s.dev d).cells.length → (t.dev d).cell k =
        if k < 24 ∧ (s.dev d).keyed k = true ∧
            ¬ ((x.edges + 1) % 2 = 0 ∧ ((s.dev d).keyStop k = true ∨ x.aborted.contains k = true)) then
          ((s.dev d).cell k).drive (decide ((x.edges + 1) % 2 = 0)) n else (s.dev d).cell k := by
  refine answers_mono (soundingKeyingEdge_becomes ha hs hb he hn) fun t ht => ⟨?_, fun k hk => ?_⟩
  · rw [Dev.eq_of_body (·.cells) ht.1, ← Dev.keyingEdge_frame]
    exact ht
  · rw [Dev.eq_of_body (·.cell k) ht.1]
    exact (s.dev d).keyingEdge_cell x n hk

/-- The end of an integration is the command's whole effect (R206, R269). -/
theorem soundingIntegrationEnd_becomes (sums : List CorrSum)
    (hn : n = x.since + (((s.dev d).par Fld.sndSettle 0 + binCycles x.cycles b) * binCycle b + 1) * 62500) :
    answers (.soundingIntegrationEnd d sums) s fun t => deviceBecomes s t d ((s.dev d).integrationEnds x b sums) n := by
  have hend : x.since + (s.dev d).keyLen x b * 62500 + 62500 = n := by
    rw [hn, Nat.add_mul, Nat.one_mul, ← Nat.add_assoc]
    rfl
  refine answers_becomes (g := fun y => y.integrationEnds x b sums)
    (show execSoundingIntegrationEnd d sums s = _ from by unfold execSoundingIntegrationEnd; rfl) ha ?_
  simp only [hs, hb, hend, Dev.keyingEnds_sndItems]
  rfl

/-- A clause of O50: the end of an integration (R204, R206, R210, R269). -/
theorem soundingIntegrationEnd_answers (sums : List CorrSum)
    (hn : n = x.since + (((s.dev d).par Fld.sndSettle 0 + binCycles x.cycles b) * binCycle b + 1) * 62500) :
    answers (.soundingIntegrationEnd d sums) s fun t =>
      deviceBecomes s t d { s.dev d with
        snd := (t.dev d).snd, cells := (t.dev d).cells, sndItems := (t.dev d).sndItems } n ∧
      (t.dev d).snd = some (x.integrated b) ∧
      (t.dev d).sndItems = (s.dev d).sndItems ++ (x.wants x.group b).map (x.item b sums) ∧
      ∀ k ∈ x.wants x.group b, ((t.dev d).cell k).gate = false := by
  refine answers_mono (soundingIntegrationEnd_becomes ha hs hb sums hn) fun t ht => ?_
  have hsnd : (t.dev d).snd = _ := Dev.eq_of_body (·.snd) ht.1
  have hcells : (t.dev d).cells = _ := Dev.eq_of_body (·.cells) ht.1
  have hitems : (t.dev d).sndItems = _ := Dev.eq_of_body (·.sndItems) ht.1
  refine ⟨?_, hsnd, hitems, fun k hk => ?_⟩
  · rw [hsnd, hcells, hitems, ← Dev.integrationEnds_frame]
    exact ht
  · rw [Dev.eq_of_body (·.cell k) ht.1]
    exact (s.dev d).keyingEnds_gate (x.wants_nodup _ _) hk _

end

/-- Settles O50: a keying edge and the end of an integration are each the whole effect of their command on one device. -/
theorem soundingsAreKeyed : Obligations.SoundingsAreKeyed := by
  unfold Obligations.SoundingsAreKeyed
  intro s d b n x ha hs hb
  refine ⟨fun e he hlt hn => ?_, fun sums hn => ?_⟩
  · subst he
    exact soundingKeyingEdge_answers ha hs hb hlt hn
  · refine answers_mono (soundingIntegrationEnd_answers ha hs hb sums hn) fun t ⟨hdev, hsnd, hitems, hgate⟩ =>
      ⟨hdev, ⟨x.integrated b, hsnd, rfl, fun k hk => ⟨Sounding.mem_redo_integrated hk, Sounding.mem_done_integrated hk⟩⟩,
        hitems, hgate⟩

end Sys2Proof.Machine
end

section
/-!
SUPPORT. The bleed switches of a device (R209, R214, R218, R221, R230, R235): what a switch, the end of a bleed, a gate fault and a
cut of every bleed make of the cells, and what they leave of the device.
-/

namespace Sys2Proof.Machine

namespace Cell

variable (c : Cell) (t reason : Nat)

theorem drive_gateBad (on : Bool) : (c.drive on t).gateBad = c.gateBad := by
  unfold Cell.drive
  dsimp only
  split <;> rfl

@[simp] theorem endBleed_gate : (c.endBleed t reason).gate = false := c.drive_gate false t

@[simp] theorem endBleed_gateBad : (c.endBleed t reason).gateBad = c.gateBad := c.drive_gateBad t false

end Cell

namespace Dev

variable (d : Dev)

/-! ### The device beside its cells and its Sounding -/

/-- A device without its cells and its Sounding, the two parts that bleeding changes. -/
def unbled : Dev := { d with cells := [], snd := none }

theorem eq_of_unbled {x y : Dev} (h : x.unbled = y.unbled) : x = { y with cells := x.cells, snd := x.snd } := by
  have e := congrArg (fun z : Dev => { z with cells := x.cells, snd := x.snd }) h
  exact e

/-- Two changes that agree on what cell `k` holds are the same change of it. -/
theorem modCell_congr {k : Nat} {f g : Cell → Cell} (h : f (d.cell k) = g (d.cell k)) : d.modCell k f = d.modCell k g := by
  refine congrArg (fun l => { d with cells := l }) (List.ext_getElem? fun i => ?_)
  simp only [modAt, List.getElem?_modify]
  split
  · next hi =>
    subst hi
    cases hc : d.cells[k]? with
    | none => rfl
    | some c =>
      have hcell : d.cell k = c := by rw [Dev.cell, List.getD_eq_getElem?_getD, hc]; rfl
      rw [hcell] at h
      exact congrArg some h
  · rfl

/-! ### Bins that are aborted (R209) -/

/-- The bin in progress is aborted on those of the cells `l` that it keys. -/
def abortKeyed (l : List Nat) : Dev := l.foldl (fun d k => if d.keyed k then d.abortCell k else d) d

/-- Aborted bins show in the Sounding alone. -/
theorem abortKeyed_frame (l : List Nat) : d.abortKeyed l = { d with snd := (d.abortKeyed l).snd } := by
  have hkeep : ({ d.abortKeyed l with snd := none } : Dev) = { d with snd := none } :=
    foldl_keep (fun z : Dev => { z with snd := none }) _ (fun z k => by split <;> rfl) l d
  have e := congrArg (fun z : Dev => { z with snd := (d.abortKeyed l).snd }) hkeep
  exact e

@[simp] theorem abortKeyed_unbled (l : List Nat) : (d.abortKeyed l).unbled = d.unbled := by rw [abortKeyed_frame]; rfl

/-! ### Switches one after the other (R221) -/

@[simp] theorem switch_unbled (k : Nat) (on : Bool) (t : Nat) : (d.switch k on t).unbled = d.unbled := by
  unfold Dev.switch
  dsimp only
  split
  · exact d.abortKeyed_unbled (k :: neighbours k)
  · rfl

/-- Each switch of `l` whose cell asks for it and that no Sounding keys is driven. -/
def switchAll (want : Cell → Bool) (on : Bool) (t : Nat) (l : List Nat) : Dev :=
  l.foldl (fun x k => if want (x.cell k) = true ∧ x.keyed k = false then x.switch k on t else x) d

variable (want : Cell → Bool) (on : Bool) (t : Nat)

theorem switchAll_frame (l : List Nat) :
    d.switchAll want on t l = { d with cells := (d.switchAll want on t l).cells, snd := (d.switchAll want on t l).snd } := by
  refine eq_of_unbled (foldl_keep unbled _ (fun x k => ?_) l d)
  split
  · exact x.switch_unbled k on t
  · rfl

/-- A cell beyond the last reads as a cell that has been reset. -/
theorem cell_of_length_le {k : Nat} (h : d.cells.length ≤ k) : d.cell k = {} := List.getD_eq_default _ _ h

theorem cell_switchAll (hreset : want {} = false) {l : List Nat} (hl : l.Nodup) (k : Nat) :
    (d.switchAll want on t l).cell k =
      if k ∈ l ∧ want (d.cell k) = true ∧ d.keyed k = false then (d.cell k).drive on t else d.cell k := by
  induction l generalizing d with
  | nil => simp [switchAll]
  | cons j l ih =>
    obtain ⟨hj, hl⟩ := List.nodup_cons.1 hl
    have hstep : d.switchAll want on t (j :: l)
        = (if want (d.cell j) = true ∧ d.keyed j = false then d.switch j on t else d).switchAll want on t l := rfl
    rw [hstep, ih _ hl]
    by_cases hjk : j = k
    · subst hjk
      rw [if_neg fun h => hj h.1]
      split
      · next h =>
        have hlen : j < d.cells.length := Nat.lt_of_not_le fun hle => by
          rw [d.cell_of_length_le hle, hreset] at h
          exact Bool.false_ne_true h.1
        rw [cell_switch, if_pos ⟨rfl, hlen⟩, if_pos ⟨List.mem_cons_self, h⟩]
      · next h => rw [if_neg fun hc => h hc.2]
    · have hmem : k ∈ j :: l ↔ k ∈ l := by simp [Ne.symm hjk]
      simp only [hmem]
      have hcell : (d.switch j on t).cell k = d.cell k := by rw [cell_switch, if_neg fun h => hjk h.1]
      split
      · rw [keyed_switch, hcell]
      · rfl

/-! ### The end of a bleed (R218, R220) -/

theorem endBleed_cell_unkeyed {k : Nat} (hk : k < d.cells.length) (hkey : d.keyed k = false) (reason : Nat) :
    (d.endBleed k t reason).cell k = (d.cell k).endBleed t reason := by
  unfold Dev.endBleed
  rw [hkey]
  dsimp only
  rw [cell_modCell, if_pos ⟨rfl, by simpa using hk⟩]
  simp only [Bool.false_eq_true, if_false, cell_switch, hk, and_self, if_true, Cell.endBleed]

/-- A cut of every bleed clears every cell's timer and the command that it holds, and aborts the bin in progress (R211, R229, R235). -/
theorem cutBleed_frame : d.cutBleed t =
    { d with cells := d.cells.map (fun (c : Cell) => { c.endBleed t 3 with held := none }), snd := (d.cutBleed t).snd } := by
  have e : d.cutBleed t = (d.abortKeyed (List.range 24)).bleedAllOff t := rfl
  rw [e, abortKeyed_frame]
  generalize (d.abortKeyed (List.range 24)).snd = z
  rfl

/-- The device whose bleed a silence of BAL_SIL has ended at `t` (R233, R235). -/
def silenced : Dev := { d.cutBleed t with silence := none, bleedOff := true, silenceRep := some (d.sweep % 2 ^ 32) }

theorem silenced_frame : d.silenced t =
    { d with
      cells := d.cells.map (fun (c : Cell) => { c.endBleed t 3 with held := none }), snd := (d.silenced t).snd, silence := none
      bleedOff := true, silenceRep := some (d.sweep % 2 ^ 32) } := by
  unfold silenced
  rw [cutBleed_frame]

theorem cell_silenced (k : Nat) : ((d.silenced t).cell k).gate = false ∧ ((d.silenced t).cell k).active = false := by
  rw [silenced_frame]
  unfold Dev.cell
  rw [List.getD_eq_getElem?_getD, List.getElem?_map]
  cases d.cells[k]? with
  | none => exact ⟨rfl, rfl⟩
  | some c => exact ⟨c.endBleed_gate t 3, rfl⟩

/-! ### Gate faults (R230, R232) -/

theorem gateDiffers_cell {k : Nat} (hk : k < d.cells.length) : ((d.gateDiffers k t).cell k).gateBad = true := by
  unfold Dev.gateDiffers
  rw [cell_modCell, if_pos ⟨rfl, hk⟩]
  split
  · assumption
  · rfl

/-- What a gate fault makes of the device: the bins in progress on the cell and beside it are aborted, its bleed ends with GATEFLT,
and BAL 0x01 is reported. -/
theorem gateFault_eq (k : Nat) : d.gateFault k t =
    (((d.gateDiffers k t).abortKeyed (k :: neighbours k)).modCell k fun c => { c.endBleed t 3 with gateFlt := true }).report
      true 0x0C 1 (k + 1) 0 := rfl

theorem gateFault_frame (k : Nat) : d.gateFault k t = ({ d.gateDiffers k t with snd := (d.gateFault k t).snd }.modCell k fun c =>
    { c.endBleed t 3 with gateFlt := true }).report true 0x0C 1 (k + 1) 0 := by
  rw [gateFault_eq, abortKeyed_frame]
  generalize ((d.gateDiffers k t).abortKeyed (k :: neighbours k)).snd = z
  rfl

@[simp] theorem gateFault_role (k : Nat) : (d.gateFault k t).role = d.role := by
  have h := congrArg Dev.role (abortKeyed_unbled (d.gateDiffers k t) (k :: neighbours k))
  exact h

@[simp] theorem gateFault_pos (k : Nat) : (d.gateFault k t).pos = d.pos := by
  have h := congrArg Dev.pos (abortKeyed_unbled (d.gateDiffers k t) (k :: neighbours k))
  exact h

@[simp] theorem gateFault_isHead (k : Nat) : (d.gateFault k t).isHead = d.isHead := by
  unfold isHead
  rw [gateFault_role]

theorem gateFault_events (k : Nat) :
    (d.gateFault k t).events = d.events ++ [⟨0xC2, 1, .event 0x0C 1 (k + 1) (d.sweep % 2 ^ 32) 0 0⟩] := by
  rw [gateFault_frame]
  generalize (d.gateFault k t).snd = z
  rfl

theorem gateFault_cell {k : Nat} (hk : k < d.cells.length) :
    (d.gateFault k t).cell k = { ((d.gateDiffers k t).cell k).endBleed t 3 with gateFlt := true } := by
  rw [gateFault_frame]
  refine (cell_modCell _ k k _).trans (if_pos ⟨rfl, ?_⟩)
  exact hk.trans_eq (length_cells_modCell d k _).symm

end Dev

end Sys2Proof.Machine
end

section
/-!
SUPPORT. What BALANCE_SET lands and reads (R216, R217, R449): O17.
-/

namespace Sys2Proof.Machine

/-- No cell of the mask is without a bleed resistor (R216). -/
theorem State.noBleed_eq_none {s : State} {p mask : Nat} :
    s.noBleed p mask = none ↔ ∀ k, k < 24 → mask.testBit k = true → s.par Fld.balRb (24 * p + k) ≠ 0 := by
  simp [State.noBleed, List.find?_eq_none]

@[simp] theorem State.takeMsg_noBleed (s : State) (h : HostId) (pair p mask : Nat) :
    (s.takeMsg h pair).noBleed p mask = s.noBleed p mask :=
  s.takeMsg_read (·.noBleed p mask) h pair fun _ _ _ _ => by cases h <;> rfl

/-- A mask and a time that no check refuses land (R207, R217, R449). -/
theorem doBalanceSet_lands {s : State} {r : Req} {x : Landed} (hset : r.get 2 1 = 0) (hop : s.active = true)
    (hheld : s.posStatus (r.get 3 1) = 0) (htime : r.get 10 2 ≤ 3840)
    (hbleed : r.get 10 2 = 0 ∨ s.noBleed (r.get 3 1) (r.get 6 4 % 2 ^ 24) = none)
    (hx : x = .device ⟨r.get 3 1, .balance (r.get 6 4 % 2 ^ 24) (r.get 10 2)⟩) (hroom : s.commitFull x = false) :
    doBalanceSet r s = (s.land x).answer r (leBytes 4 s.effect ++ []) := by
  have hnone : (if r.get 10 2 = 0 then none else s.noBleed (r.get 3 1) (r.get 6 4 % 2 ^ 24)) = none := by
    split
    · rfl
    · next hne => exact hbleed.resolve_left hne
  subst hx
  simp only [doBalanceSet, State.settle', hset, hop, hheld, Nat.not_lt.2 htime, hnone, hroom]
  rfl

section
variable {s : State} {h : HostId} {pair : Nat} {body : List Byte} (T : Taken s h pair 0x0109 body) (hlen : body.length = 12)
include T hlen

/-- A clause of O17: the balance words of one device are read (R220, R449). -/
theorem balanceSet_reads {st : Nat} {d : Dev} (hread : field body 2 1 = 1) (hd : s.deviceAt (field body 3 1) = (st, some d)) :
    answers (.balanceSet h pair) s fun t =>
      readsOut s t (request h pair 0x0109 body) (leBytes 4 (s.sweep - 1) ++ d.cells.flatMap fun c => leBytes 4 c.word) := by
  refine serve_reads (guard := guardBalanceSet) (act := doBalanceSet) (g := ⟨true, none, 0⟩) T ?_ rfl ⟨rfl, Nat.zero_le _⟩ ?_
  · simp only [guardBalanceSet, Req.get, Req.len, request, hread, hlen, decide_true]
  · simp only [doBalanceSet, Req.get, request, hread, State.takeMsg_deviceAt, State.takeMsg_sweep, hd, if_true]
    rfl

/-- A clause of O17: a mask and a time that the command's checks let through land (R207, R216, R217, R449). -/
theorem balanceSet_lands (hset : field body 2 1 = 0) (hmay : s.may h (some 1) 1) (hop : s.active = true)
    (hheld : s.posStatus (field body 3 1) = 0) (htime : field body 10 2 ≤ 3840)
    (hbleed : field body 10 2 = 0 ∨ s.noBleed (field body 3 1) (field body 6 4 % 2 ^ 24) = none)
    (hroom : s.commitFull (.device ⟨field body 3 1, .balance (field body 6 4 % 2 ^ 24) (field body 10 2)⟩) = false) :
    answers (.balanceSet h pair) s fun t => lands s t (request h pair 0x0109 body)
      (.device ⟨field body 3 1, .balance (field body 6 4 % 2 ^ 24) (field body 10 2)⟩) [] := by
  refine serve_lands (guard := guardBalanceSet) (act := doBalanceSet) (g := ⟨true, some Sem.balance, 1⟩) T ?_ rfl hmay ?_
  · simp only [guardBalanceSet, Req.get, Req.len, request, hset, hlen, decide_true]
  · rw [← State.takeMsg_effect s h pair]
    exact doBalanceSet_lands hset ((s.takeMsg_active h pair).trans hop) ((s.takeMsg_posStatus h pair _).trans hheld) htime
      (hbleed.imp_right (s.takeMsg_noBleed h pair _ _).trans) rfl ((s.takeMsg_commitFull h pair _).trans hroom)

end

/-- Settles O17: a read answers from the device, and a setting passes the checks in their order and lands. -/
theorem balanceSetLands : Obligations.BalanceSetLands := by
  unfold Obligations.BalanceSetLands
  refine fun s h pair body T hlen => ⟨fun st d hread hd => balanceSet_reads T hlen hread hd,
    fun x hset hmay hop hheld htime hbleed hx hroom => ?_⟩
  subst hx
  refine balanceSet_lands T hlen hset hmay (decide_eq_true hop) hheld htime (hbleed.imp_right fun hrb => ?_) hroom
  refine State.noBleed_eq_none.2 fun k hk hbit => hrb k hk ?_
  rw [Nat.testBit_mod_two_pow] at hbit
  exact (Bool.and_eq_true _ _ ▸ hbit).2

end Sys2Proof.Machine
end

section
/-!
SUPPORT. The core of an S-die resets and runs again (R219, R390, R399): what the watchdog's expiry and the restart make of the device,
and O34.
-/

namespace Sys2Proof.Machine

/-! ### The watchdog's expiry -/

/-- An image that has started before is not judged by a watchdog's expiry (R482). -/
theorem State.sFwFailed_of_started {s : State} {d : Nat} (h : (s.dev d).firstStart = none) : s.sFwFailed d = s := by
  unfold State.sFwFailed
  simp only [h]

theorem Dev.coreStop_firstStart (x : Dev) (t : Nat) (watchdog : Bool) : (x.coreStop t watchdog).firstStart = x.firstStart := by
  unfold Dev.coreStop
  rw [Dev.cutBleed_frame]

/-- What a watchdog's expiry makes of the state: the core stops, and at a position that a running head serves its masking interval
opens (R390, R399). -/
def State.sDieReset (s : State) (d : Nat) : State :=
  match (s.dev d).pos with
  | some p => if s.pw.running then (s.modDev d (·.coreStop s.now true)).openMask (.sDieCore p) (ms 5)
      else s.modDev d (·.coreStop s.now true)
  | none => s.modDev d (·.coreStop s.now true)

section
variable {s : State} {d : Nat}

theorem State.sDieReset_devs : (s.sDieReset d).devs = (s.modDev d (·.coreStop s.now true)).devs := by
  unfold State.sDieReset
  split
  · split <;> rfl
  · rfl

theorem State.sDieReset_masks {p : Nat} (hp : (s.dev d).pos = some p) (hr : s.pw.running = true) :
    (s.sDieReset d).flt.masks = ⟨.sDieCore p, s.now + 5000000 + 2 * s.periodNs⟩ ::
      s.flt.masks.filter (fun m => decide (m.kind ≠ .sDieCore p)) := by
  unfold State.sDieReset
  simp only [hp, if_pos hr]
  rfl

/-- At a device other than the head's a command ends as its effect leaves the state. -/
theorem eq_finish_of_onS {t : State} {f : State → State} (ha : (s.dev d).awake = true) (hd : d ≠ 0) (ht : onS s d f = .next t) :
    t = s.finish (f s) := by
  rw [onS_member ha hd] at ht
  exact (Host.Outcome.next.inj ht).symm

variable (ha : (s.dev d).awake = true)
include ha

theorem exec_sDieWatchdogExpiry (hc : (s.dev d).coreReset = none) (hf : (s.dev d).firstStart = none) :
    exec (.sDieWatchdogExpiry d) s = onS s d (·.sDieReset d) := by
  have hstop : (s.modDev d (·.coreStop s.now true)).sFwFailed d = s.modDev d (·.coreStop s.now true) :=
    State.sFwFailed_of_started (by rw [State.dev_modDev_self s d _ (s.lt_of_awake d ha), Dev.coreStop_firstStart, hf])
  refine (show _ = execSDieWatchdogExpiry d s from rfl).trans (onS_congr ?_)
  simp only [hc, Option.isSome_none, hstop, State.modDev_pw]
  rfl

/-- A clause of O34: the watchdog of an S-die expires (R219, R390, R399). -/
theorem sDieWatchdogExpiry_answers (hc : (s.dev d).coreReset = none) (hf : (s.dev d).firstStart = none) :
    answers (.sDieWatchdogExpiry d) s fun t =>
      (t.dev d).body = ((s.dev d).coreStop s.now true).body ∧ othersKept s t d ∧
      (∀ p, (s.dev d).pos = some p → s.pw.running = true → d ≠ 0 →
        t.flt.masks = ⟨.sDieCore p, s.now + 5000000 + 2 * s.periodNs⟩ ::
          s.flt.masks.filter (fun m => decide (m.kind ≠ .sDieCore p))) := by
  obtain ⟨t, ht, hb⟩ := onS_answers (f := (·.sDieReset d)) ha
  have hdev (e : Nat) : (s.sDieReset d).dev e = (s.modDev d (·.coreStop s.now true)).dev e := by
    rw [State.dev, State.sDieReset_devs]
    rfl
  refine ⟨t, (exec_sDieWatchdogExpiry ha hc hf).trans ht, ?_, fun e he => ?_, fun p hp hr hd => ?_⟩
  · rw [hb, hdev, State.dev_modDev_self s d _ (s.lt_of_awake d ha)]
  · rw [hb, hdev, State.dev_modDev_other s d e _ he]
  · rw [eq_finish_of_onS ha hd ht, State.finish_flt_masks, State.sDieReset_masks hp hr]

/-! ### The restart -/

/-- What the restart makes of a device: the core runs, and a watchdog's reset is reported (R390). -/
def Dev.coreRestart (x : Dev) : Dev :=
  if x.wdReport then
    ({ x with coreReset := none, wdReport := false } : Dev).report true 0x1C 0x10 (openDetail 0x1C 0x10 x.posIx) x.openValue
  else { x with coreReset := none, wdReport := false }

omit ha in
theorem Dev.coreRestart_body (x : Dev) : x.coreRestart.body = { x with coreReset := none, wdReport := false }.body := by
  unfold Dev.coreRestart
  split <;> rfl

omit ha in
theorem exec_sDieCoreRestart {r : Nat} (hc : (s.dev d).coreReset = some r) (ho : (s.dev d).overTemp = false) :
    exec (.sDieCoreRestart d) s = onS s d (·.modDev d Dev.coreRestart) := by
  refine (show _ = execSDieCoreRestart d s from rfl).trans (onS_congr ?_)
  simp only [hc, ho, Option.isNone_some]
  rfl

/-- A clause of O34: the core of an S-die runs again (R390). -/
theorem sDieCoreRestart_answers {r : Nat} (hc : (s.dev d).coreReset = some r) (ho : (s.dev d).overTemp = false) :
    answers (.sDieCoreRestart d) s fun t =>
      (t.dev d).body = { s.dev d with coreReset := none, wdReport := false }.body ∧ othersKept s t d ∧
      (d ≠ 0 → (s.dev d).wdReport = true → (t.dev d).events = (s.dev d).events ++
        [Item.mk 0xC2 1 (.event 0x1C 0x10 (openDetail 0x1C 0x10 (s.dev d).posIx) ((s.dev d).sweep % 2 ^ 32)
          (s.dev d).openValue 0)]) := by
  obtain ⟨t, ht, hb⟩ := onS_answers (f := (·.modDev d Dev.coreRestart)) ha
  refine ⟨t, (exec_sDieCoreRestart hc ho).trans ht, ?_, fun e he => ?_, fun hd hw => ?_⟩
  · rw [hb, State.dev_modDev_self s d _ (s.lt_of_awake d ha), Dev.coreRestart_body]
  · rw [hb, State.dev_modDev_other s d e _ he]
  · rw [eq_finish_of_onS ha hd ht, State.finish_dev_other _ _ _ hd, State.dev_modDev_self s d _ (s.lt_of_awake d ha),
      Dev.coreRestart, if_pos hw]
    rfl

end

/-- Settles O34: the expiry stops the core and opens the masking interval of its position, and the restart reports it. -/
theorem sDieCoresReset : Obligations.SDieCoresReset := by
  unfold Obligations.SDieCoresReset
  exact fun s d ha => ⟨fun hc hf => sDieWatchdogExpiry_answers ha hc hf, fun r hc ho => sDieCoreRestart_answers ha hc ho⟩

end Sys2Proof.Machine
end

section
/-!
SUPPORT. Bleeding at its device (R218, R221, R230, R233, R235): its edges, its timers, a gate fault that the head reports, the silence
that ends it, and O49.
-/

namespace Sys2Proof.Machine

/-! ### A report of the head's S-die is an occurrence (R269, R392) -/

/-- The one report that waits at the head's S-die, of a class of which the head keeps nothing beside the collector, is raised there. -/
theorem State.headReports_one {s : State} {k cls sub detail sweep : Nat} {v v2 : Word} (hu : s.upWorks = true)
    (hp : (s.dev 0).pos = some 0) (he : (s.dev 0).events = [⟨k, 1, .event cls sub detail sweep v v2⟩])
    (hw : ¬ (cls = 0x1A ∧ sub = 1)) (h5 : cls ≠ 0x05) (h7 : cls ≠ 0x07) (hA : cls ≠ 0x0A) :
    s.headReports = (s.modDev 0 fun x => { x with events := x.events.filter itemWaits }).raiseAt ⟨cls, sub, 0, detail⟩ v
      (itemEvent cls sub) (unwrap s.sweep (2 ^ 32) sweep) := by
  have hi : itemWaits ⟨k, 1, .event cls sub detail sweep v v2⟩ = false := by simpa [itemWaits] using hw
  have hf : (s.dev 0).events.filter (fun i => !itemWaits i) = [⟨k, 1, .event cls sub detail sweep v v2⟩] := by
    rw [he, List.filter_cons_of_pos (by simp [hi]), List.filter_nil]
  have hnote (u : State) : u.noteEvent 0 true cls sub detail v v2 = u := by
    unfold State.noteEvent
    rw [if_neg h5, if_neg fun h => h7 h.1, if_neg hA]
  unfold State.headReports
  dsimp only
  rw [if_pos ⟨hu, hp, by simp [he, hi]⟩, hf]
  exact congrArg (fun u : State => u.raiseAt ⟨cls, sub, 0, detail⟩ v (itemEvent cls sub) (unwrap s.sweep (2 ^ 32) sweep)) (hnote _)

/-- A command that changes devices alone and has the head's S-die make such a report ends with its fault. -/
theorem State.headReports_faulted {s y : State} {k cls sub detail sweep : Nat} {v v2 : Word} (hk : kept [.devices] s y)
    (hu : y.upWorks = true) (hp : (y.dev 0).pos = some 0) (he : (y.dev 0).events = [⟨k, 1, .event cls sub detail sweep v v2⟩])
    (hw : ¬ (cls = 0x1A ∧ sub = 1)) (h5 : cls ≠ 0x05) (h7 : cls ≠ 0x07) (hA : cls ≠ 0x0A) :
    faulted [.devices] s (s.finish y.headReports) ⟨cls, sub, 0, detail⟩ := by
  rw [State.headReports_one hu hp he hw h5 h7 hA]
  exact faulted_mono (faulted_raiseAt (kept_trans hk (kept_modDev y 0 _)) _ _ _ _) (by simp)

/-! ### Edges (R221) -/

section
variable {s : State} {d n : Nat}

/-- A command at an awake S-die that changes that device at once, to what the statement says. -/
theorem answers_becomes_now {c : Instr} {f : State → State} {g : Dev → Dev} {x : Dev} (e : exec c s = onS s d f)
    (h : (s.dev d).awake = true) (hf : f s = s.modDev d g) (hx : g (s.dev d) = x) :
    answers c s fun t => deviceBecomes s t d x s.now := by
  rw [← hx]
  exact answers_becomes e h (by rw [hf, State.until_now_self])

/-- A command that drives every switch that asks for it: each cell is driven or as it was. -/
theorem answers_switchAll {c : Instr} {want : Cell → Bool} {on : Bool} (hreset : want {} = false)
    (h : answers c s fun t => deviceBecomes s t d ((s.dev d).switchAll want on n (List.range 24)) n) :
    answers c s fun t => deviceBecomes s t d { s.dev d with cells := (t.dev d).cells, snd := (t.dev d).snd } n ∧
      ∀ k, (t.dev d).cell k = if k < 24 ∧ want ((s.dev d).cell k) = true ∧ (s.dev d).keyed k = false then
        ((s.dev d).cell k).drive on n else (s.dev d).cell k := by
  refine answers_mono h fun t ht => ⟨?_, fun k => ?_⟩
  · rw [Dev.eq_of_body (·.cells) ht.1, Dev.eq_of_body (·.snd) ht.1, ← Dev.switchAll_frame]
    exact ht
  · rw [Dev.eq_of_body (·.cell k) ht.1, Dev.cell_switchAll _ _ _ _ hreset List.nodup_range]
    simp only [List.mem_range]

variable (ha : (s.dev d).awake = true)
include ha

section
variable (hm : (s.dev d).measuring = true) (hq : (s.dev d).par Fld.balQuiet 0 ≠ 0) (htc : 0 < (s.dev d).tc)
include hm hq htc

omit ha in
/-- The device runs the schedule of R221. -/
theorem runs_schedule : ¬ ((s.dev d).measuring = false ∨ (s.dev d).par Fld.balQuiet 0 = 0 ∨ (s.dev d).feasible = false) := by
  simp [hm, hq, Dev.feasible, htc]

/-- A clause of O49: the admitted switches turn on (R221). -/
theorem bleedOnEdge_answers (hn : n = (s.dev d).lastB + 2000) :
    answers (.bleedOnEdge d) s fun t => deviceBecomes s t d { s.dev d with cells := (t.dev d).cells, snd := (t.dev d).snd } n ∧
      ∀ k, (t.dev d).cell k = if k < 24 ∧ ((s.dev d).cell k).admitted = true ∧ ((s.dev d).cell k).active = true
        ∧ (s.dev d).keyed k = false then ((s.dev d).cell k).drive true n else (s.dev d).cell k := by
  have h : answers (.bleedOnEdge d) s fun t =>
      deviceBecomes s t d ((s.dev d).switchAll (fun c => c.admitted && c.active) true n (List.range 24)) n := by
    refine answers_becomes (g := fun x => x.switchAll (fun c => c.admitted && c.active) true n (List.range 24))
      (show execBleedOnEdge d s = _ from by unfold execBleedOnEdge; rfl) ha ?_
    dsimp only
    rw [if_neg (runs_schedule hm hq htc), ← hn]
    simp only [Dev.switchAll, Bool.and_eq_true, and_assoc]
  simpa only [Bool.and_eq_true, and_assoc] using answers_switchAll rfl h

/-- A clause of O49: the conducting switches turn off (R221). -/
theorem bleedOffEdge_answers (hn : n = (s.dev d).lastB + 2000 + (s.dev d).tc) :
    answers (.bleedOffEdge d) s fun t => deviceBecomes s t d { s.dev d with cells := (t.dev d).cells, snd := (t.dev d).snd } n ∧
      ∀ k, (t.dev d).cell k = if k < 24 ∧ ((s.dev d).cell k).gate = true ∧ (s.dev d).keyed k = false then
        ((s.dev d).cell k).drive false n else (s.dev d).cell k := by
  refine answers_switchAll (want := Cell.gate) rfl (answers_becomes (g := fun x => x.switchAll Cell.gate false n (List.range 24))
    (show execBleedOffEdge d s = _ from by unfold execBleedOffEdge; rfl) ha ?_)
  dsimp only
  rw [if_neg (runs_schedule hm hq htc), ← hn]
  rfl

end

/-! ### Timers (R218) -/

/-- A clause of O49: the timer of a cell has run out at the boundary (R218, R231). -/
theorem balanceTimerExpiry_ends {k : Nat} (hk : k < (s.dev d).cells.length) (hact : ((s.dev d).cell k).active = true)
    (hrem : ((s.dev d).cell k).remain = 0) (hby : (s.dev d).byKeyed k = false) (hkey : (s.dev d).keyed k = false)
    (hnow : s.now = (s.dev d).lastB) :
    answers (.balanceTimerExpiry d k) s fun t => deviceBecomes s t d ((s.dev d).endBleed k s.now 1) s.now ∧
      ((t.dev d).cell k).gate = false ∧ ((t.dev d).cell k).active = false ∧ ((t.dev d).cell k).remain = 0 ∧
      ((t.dev d).cell k).ended = 1 := by
  refine answers_mono (answers_becomes_now (show exec (.balanceTimerExpiry d k) s = execBalanceTimerExpiry d k s from rfl) ha rfl
    (if_pos ⟨hact, hrem, hby, hnow⟩)) fun t ht => ?_
  have hcell : (t.dev d).cell k = ((s.dev d).cell k).endBleed s.now 1 :=
    (Dev.eq_of_body (·.cell k) ht.1).trans (Dev.endBleed_cell_unkeyed _ _ hk hkey 1)
  have hended : (((s.dev d).cell k).endBleed s.now 1).ended = 1 := if_pos ((Cell.drive_active _ _ _).trans hact)
  rw [hcell]
  exact ⟨ht, Cell.endBleed_gate _ _ _, rfl, rfl, hended⟩

/-- A clause of O49: between boundaries, or beside a keyed cell, no timer expires (R211, R218; log 2). -/
theorem balanceTimerExpiry_idle {k : Nat} (h : ((s.dev d).cell k).active = false ∨ ((s.dev d).cell k).remain ≠ 0 ∨
    (s.dev d).byKeyed k = true ∨ s.now ≠ (s.dev d).lastB) :
    answers (.balanceTimerExpiry d k) s fun t => deviceBecomes s t d (s.dev d) s.now := by
  refine answers_becomes_now (show exec (.balanceTimerExpiry d k) s = execBalanceTimerExpiry d k s from rfl) ha rfl (if_neg ?_)
  rintro ⟨hact, hrem, hby, hnow⟩
  simp [hact, hrem, hby, hnow] at h

/-! ### Gate faults (R230, R232) -/

/-- A clause of O49: a BG pin begins to differ from its command (R230). -/
theorem gateFault_differs {k : Nat} (hbad : ((s.dev d).cell k).gateBad = false) : answers (.gateFault d k .differs) s fun t =>
    deviceBecomes s t d ((s.dev d).modCell k fun c => { c with gateBad := true, edgeAt := some s.now }) s.now :=
  answers_becomes_now (show exec (.gateFault d k .differs) s = execGateFault d k .differs s from rfl) ha rfl
    (Dev.modCell_congr _ (by rw [hbad]; rfl))

/-- A clause of O49: a BG pin agrees with its command again (R230). -/
theorem gateFault_agrees {k : Nat} (hbad : ((s.dev d).cell k).gateBad = true) : answers (.gateFault d k .agrees) s fun t =>
    deviceBecomes s t d ((s.dev d).modCell k fun c => { c with gateBad := false, gateFlt := false, edgeAt := some s.now }) s.now :=
  answers_becomes_now (show exec (.gateFault d k .agrees) s = execGateFault d k .agrees s from rfl) ha rfl
    (Dev.modCell_congr _ (by rw [hbad]; rfl))

/-- A clause of O49: a gate fault ends the bleed of its cell (R230, R232). -/
theorem gateFault_ends {k : Nat} (hk : k < (s.dev d).cells.length) : answers (.gateFault d k .fault) s fun t =>
    deviceBecomes s t d (({ (s.dev d).gateDiffers k s.now with snd := (t.dev d).snd }.modCell k fun c =>
      { c.endBleed s.now 3 with gateFlt := true }).report true 0x0C 1 (k + 1) 0) s.now ∧
    ((t.dev d).cell k).gateBad = true ∧
    ((t.dev d).cell k).gate = false ∧ ((t.dev d).cell k).active = false ∧ ((t.dev d).cell k).gateFlt = true := by
  refine answers_mono (answers_becomes_now (show exec (.gateFault d k .fault) s = execGateFault d k .fault s from rfl) ha rfl
    (rfl : _ = (s.dev d).gateFault k s.now)) fun t ht => ?_
  have hcell : (t.dev d).cell k = _ := (Dev.eq_of_body (·.cell k) ht.1).trans (Dev.gateFault_cell _ _ hk)
  refine ⟨?_, ?_⟩
  · rw [Dev.eq_of_body (·.snd) ht.1, ← Dev.gateFault_frame]
    exact ht
  · rw [hcell]
    exact ⟨(Cell.endBleed_gateBad _ _ 3).trans (Dev.gateDiffers_cell _ _ hk), Cell.endBleed_gate _ _ 3, rfl, rfl⟩

end

/-- A clause of O49: a gate fault of the head's own S-die is a fault BAL 0x01 (R230, R392). -/
theorem gateFault_faults {s : State} {k : Nat} (ha : (s.dev 0).awake = true) (hu : s.upWorks = true)
    (hp : (s.dev 0).pos = some 0) (he : (s.dev 0).events = []) :
    answers (.gateFault 0 k .fault) s fun t => faulted [.devices] s t ⟨0x0C, 1, 0, k + 1⟩ := by
  have hself := State.dev_modDev_self s 0 (·.gateFault k s.now) (s.lt_of_awake 0 ha)
  have e : exec (.gateFault 0 k .fault) s = done s (s.modDev 0 (·.gateFault k s.now)).headReports :=
    (show _ = execGateFault 0 k .fault s from rfl).trans (onS_head ha)
  have hev : ((s.modDev 0 (·.gateFault k s.now)).dev 0).events
      = [⟨0xC2, 1, .event 0x0C 1 (k + 1) ((s.dev 0).sweep % 2 ^ 32) 0 0⟩] := by
    rw [hself, Dev.gateFault_events, he, List.nil_append]
  refine answers_done e (State.headReports_faulted (kept_modDev s 0 _) ?_ ?_ hev (by decide) (by decide) (by decide) (by decide))
  · unfold State.upWorks at hu ⊢
    rw [hself, Dev.gateFault_isHead]
    exact hu
  · rw [hself, Dev.gateFault_pos, hp]

/-! ### Silence (R233, R235) -/

/-- A clause of O49: BAL_SIL has passed without a downstream frame (R233, R235). -/
theorem bleedSilenceExpiry_answers {s : State} {d n n0 : Nat} (ha : (s.dev d).awake = true) (hs : (s.dev d).silence = some n0)
    (hn : n = n0 + 10000000 * (s.dev d).par Fld.balSil 0) :
    answers (.bleedSilenceExpiry d) s fun t =>
      deviceBecomes s t d { s.dev d with
        cells := (s.dev d).cells.map (fun (c : Cell) => { c.endBleed n 3 with held := none }), snd := (t.dev d).snd, silence := none
        bleedOff := true, silenceRep := some ((s.dev d).sweep % 2 ^ 32) } n ∧
      ∀ k, ((t.dev d).cell k).gate = false ∧ ((t.dev d).cell k).active = false := by
  have hms : n0 + ms (10 * (s.dev d).par Fld.balSil 0) = n := by
    rw [hn, ms]
    omega
  refine answers_mono (answers_becomes (n := n)
    (g := (·.silenced n)) (show execBleedSilenceExpiry d s = _ from by unfold execBleedSilenceExpiry; rfl) ha ?_)
    fun t ht => ⟨?_, fun k => ?_⟩
  · simp only [hs, hms]
    rfl
  · rw [Dev.eq_of_body (·.snd) ht.1, ← Dev.silenced_frame]
    exact ht
  · rw [Dev.eq_of_body (·.cell k) ht.1]
    exact (s.dev d).cell_silenced n k

/-- Settles O49: each form changes its device alone, but for the fault that the head's own S-die reports. -/
theorem bleedingStops : Obligations.BleedingStops := by
  unfold Obligations.BleedingStops
  intro s d n ha
  refine ⟨fun hm hq htc => ⟨bleedOnEdge_answers ha hm hq htc, bleedOffEdge_answers ha hm hq htc⟩,
    fun k hk hact hrem hby hkey hnow => balanceTimerExpiry_ends ha hk hact hrem hby hkey hnow,
    fun k h => balanceTimerExpiry_idle ha h, fun k _ hbad => gateFault_differs ha hbad, fun k hk => ?_,
    fun k hbad => gateFault_agrees ha hbad, fun n0 hs hn => bleedSilenceExpiry_answers ha hs hn⟩
  obtain ⟨t, ht, hdev, hbad, hgate, hact, hflt⟩ := gateFault_ends ha hk
  refine ⟨t, ht, hdev, hbad, hgate, hact, hflt, fun hd hu hp he => ?_⟩
  subst hd
  exact answers_at (gateFault_faults ha hu hp he) ht

end Sys2Proof.Machine
end

section
/-!
SUPPORT. Downstream frames at a device (R233, R254, R255, R264, R265): a frame that it acts on, one that only reloads its silence
timer, one that it forwards; with them O40 and O41.
-/

namespace Sys2Proof.Machine

/-! ### A downstream frame and its command -/

/-- The command by which a downstream frame arrives on port `p` of the device in slot `d` (R263). -/
def downInstr (d : Nat) (p : RPort) (f : Frame) : Option Instr :=
  match f.payload with
  | .adopt _ => some (.adopt d p f)
  | .header _ => some (.sweepHeader d p f)
  | .keepalive _ _ => some (.keepalive d p f)
  | .commit _ => some (.commit d p f)
  | .reaction _ => some (.reaction d p f)
  | .command _ => some (.command d p f)
  | .stage _ => some (.stage d p f)
  | _ => none

/-- The effect of a downstream frame on a device that acts on it (R264). -/
def Dev.takeFrame (d : Dev) (f : Frame) : Dev :=
  match f.payload with
  | .adopt a => d.getAdopt a
  | .header h => d.getHeader h
  | .commit c => d.getCommit c
  | .reaction c => d.getReaction c
  | .command c => d.getCommand c
  | .stage m => d.stageFrame f.seq m
  | _ => d

section
variable {d : Nat} {p : RPort} {f : Frame} {c : Instr}

theorem exec_downInstr (s : State) (h : downInstr d p f = some c) :
    exec c s = onS s d fun s => s.modDev d fun x => x.receive p f s.now (·.takeFrame f) := by
  unfold downInstr at h
  split at h <;> cases h
  case h_1 a hp => exact (show _ = execAdopt d p f s from rfl).trans (onS_congr (by simp only [hp, Dev.takeFrame]))
  case h_2 a hp => exact (show _ = execSweepHeader d p f s from rfl).trans (onS_congr (by simp only [hp, Dev.takeFrame]))
  case h_3 a b hp => exact (show _ = execKeepalive d p f s from rfl).trans (onS_congr (by simp only [hp, Dev.takeFrame]; rfl))
  case h_4 a hp => exact (show _ = execCommit d p f s from rfl).trans (onS_congr (by simp only [hp, Dev.takeFrame]))
  case h_5 a hp => exact (show _ = execReaction d p f s from rfl).trans (onS_congr (by simp only [hp, Dev.takeFrame]))
  case h_6 a hp => exact (show _ = execCommand d p f s from rfl).trans (onS_congr (by simp only [hp, Dev.takeFrame]))
  case h_7 a hp => exact (show _ = execStage d p f s from rfl).trans (onS_congr (by simp only [hp, Dev.takeFrame]))

theorem downstream_of_downInstr (h : downInstr d p f = some c) : downstream f = true := by
  unfold downInstr at h
  unfold downstream
  split at h <;> simp_all

end

namespace Dev

variable (d : Dev)

/-! ### Reception (R233, R265) -/

/-- The device after it has heard a downstream frame and noted its SEQ (R233, R265). -/
def noted (seq now : Nat) : Dev := { d with silence := some now, lastFrame := now, seen := seq :: d.seen }

variable {d} {p : RPort} {f : Frame}

/-- A frame that the device acts on has its effect after its SEQ is noted (R265). -/
theorem receive_acts (h : d.actsOn p f = true) (hf : downstream f = true) (now : Nat) (act : Dev → Dev) :
    d.receive p f now act = act (d.noted f.seq now) := by
  have hrel : reloads f = true ∧ (d.port p).carries f = true := by
    unfold actsOn at h
    unfold reloads
    simp only [Bool.and_eq_true] at h ⊢
    tauto
  unfold receive
  dsimp only
  rw [if_pos hrel, if_pos h]
  rfl

/-- A frame that the device does not act on only reloads its silence timer (R233). -/
theorem receive_silent (h : d.actsOn p f = false) (hrel : reloads f = true) (hc : (d.port p).carries f = true) (now : Nat)
    (act : Dev → Dev) : d.receive p f now act = d.heard now := by
  unfold receive
  simp only [h, hrel, hc, and_self, if_true, Bool.false_eq_true, if_false]

/-- The head, a second copy, another address and a halted core each keep a device from acting on a frame (R265, R390). -/
theorem actsOn_false (h : d.isHead = true ∨ (d.seen ++ d.seenLast).contains f.seq = true ∨ f.dest ≠ 0xFF ∧ d.pos ≠ some f.dest ∨
    d.coreReset ≠ none) : d.actsOn p f = false := by
  unfold actsOn
  obtain h | h | ⟨hall, hpos⟩ | h := h
  · simp [h]
  · simp only [h, Bool.not_true, Bool.and_false, Bool.false_and]
  · simp [hall, hpos]
  · simp [Option.isNone_eq_false_iff.2 (Option.isSome_iff_ne_none.2 h)]

/-! ### What the frames make of a device -/

variable (d)

/-- A record whose epoch the device holds or runs is ignored (R66, R68; log 105). -/
theorem getCommit_eq (c : CommitMsg) : d.getCommit c =
    if d.commitPend.any (fun y => decide (y.epoch = c.epoch)) = false ∧ (d.late.contains c.epoch = true ∨ c.epoch ≠ d.epoch) then
      { d with commitPend := d.commitPend ++ [{ c with sweep := unwrap d.sweep (2 ^ 32) c.sweep }] } else d := by
  unfold getCommit
  cases d.commitPend.any (fun y => decide (y.epoch = c.epoch)) with
  | true => rfl
  | false => simp

/-- An object that no slot holds is refused (R480). -/
theorem stageFrame_oversize {m : StageMsg} (h : slotBytes < m.total) (seq : Nat) : d.stageFrame seq m = d.ack seq 0x15 3 0 := by
  unfold stageFrame getStage
  rw [if_pos (.inl h)]

theorem setWindow_header (n g : Nat) (w : Window) : (d.setWindow n g w).header = d.header := by
  unfold setWindow
  dsimp only
  split
  · exact foldl_keep Dev.header _ (fun x r => by rfl) _ _
  · exact foldl_keep Dev.header _ (fun x r =>
      x.closeRec_keep Dev.header (fun _ _ _ => rfl) (fun _ _ _ => rfl) (fun _ _ => rfl) n r _ _ _) _ _

theorem setPeriod_header (n code : Nat) : (d.setPeriod n code).header = d.header := by
  have hwins (x : Dev) : ((List.range 9).foldl (fun d g => Dev.setWindow d n g ⟨(d.win g).w, n⟩) x).header = x.header :=
    foldl_keep Dev.header _ (fun y g => y.setWindow_header n g _) _ _
  unfold setPeriod
  dsimp only
  split
  · rfl
  · split
    · exact hwins _
    · exact hwins _

theorem header_withEpoch (e : Nat) : Dev.header { d with epoch := e } = d.header := rfl

/-- The header is held for the boundary that it announces (R264). -/
theorem getHeader_header (h : HeaderMsg) : (d.getHeader h).header = some h := by
  rw [getHeader]
  refine iteInduction (motive := fun y : Dev => y.header = some h) (fun _ => ?_) fun _ =>
    iteInduction (motive := fun y : Dev => y.header = some h) (fun _ => ?_) fun _ => ?_
  · refine (header_withEpoch _ _).trans ((setPeriod_header _ _ _).trans ?_)
    split <;> rfl
  · refine (foldl_keep Dev.header _ (fun y x => by rfl) _ _).trans ?_
    split <;> rfl
  · split <;> rfl

end Dev

/-! ### The clauses of O40 -/

section
variable {s : State} {d : Nat} {p : RPort} {f : Frame} (ha : (s.dev d).awake = true)
include ha

/-- A downstream frame that a device acts on has its effect as its command's whole effect (R265). -/
theorem downInstr_acts {c : Instr} {x : Dev} (hacts : (s.dev d).actsOn p f = true) (hc : downInstr d p f = some c)
    (hx : ((s.dev d).noted f.seq s.now).takeFrame f = x) : answers c s fun t => deviceBecomes s t d x s.now :=
  answers_becomes_now (exec_downInstr s hc) ha rfl ((Dev.receive_acts hacts (downstream_of_downInstr hc) s.now _).trans hx)

/-- Any other that its port carries only reloads the silence timer (R233). -/
theorem downInstr_silent {c : Instr} (hrel : reloads f = true) (hcar : ((s.dev d).port p).carries f = true)
    (hno : (s.dev d).actsOn p f = false) (hc : downInstr d p f = some c) :
    answers c s fun t => deviceBecomes s t d ((s.dev d).heard s.now) s.now :=
  answers_becomes_now (exec_downInstr s hc) ha rfl (Dev.receive_silent hno hrel hcar s.now _)

end

/-- Settles O40: the frame's own effect follows on the note of its SEQ. -/
theorem downstreamFramesAct : Obligations.DownstreamFramesAct := by
  unfold Obligations.DownstreamFramesAct
  intro s d p f x ha hacts hx
  have hnoted : x = (s.dev d).noted f.seq s.now := hx
  have hact {c : Instr} {y : Dev} (hc : downInstr d p f = some c) (hy : x.takeFrame f = y) :
      answers c s fun t => deviceBecomes s t d y s.now := downInstr_acts ha hacts hc (hnoted ▸ hy)
  refine ⟨fun a hp => ?_, fun h hp => ?_, fun a b hp => ?_, fun c hp => ?_, fun c hp => ?_, fun slot e hp => ?_, fun m hp => ?_⟩
  · exact hact (by simp only [downInstr, hp]) (by simp only [Dev.takeFrame, hp, hnoted]; rfl)
  · refine answers_mono (hact (y := x.getHeader h) (by simp only [downInstr, hp]) (by simp only [Dev.takeFrame, hp])) fun t ht =>
      ⟨ht, ?_⟩
    rw [Dev.eq_of_body (·.header) ht.1, Dev.getHeader_header]
  · exact hact (by simp only [downInstr, hp]) (by simp only [Dev.takeFrame, hp])
  · exact hact (by simp only [downInstr, hp]) (by simp only [Dev.takeFrame, hp, Dev.getCommit_eq, hnoted]; rfl)
  · exact hact (by simp only [downInstr, hp]) (by simp only [Dev.takeFrame, hp]; rfl)
  · exact hact (by simp only [downInstr, hp]) (by simp only [Dev.takeFrame, hp]; rfl)
  · refine answers_mono (hact (y := x.stageFrame f.seq m) (by simp only [downInstr, hp]) (by simp only [Dev.takeFrame, hp]))
      fun t ht => ⟨ht, fun hbig => ?_⟩
    rw [Dev.eq_of_body (·.acks) ht.1, Dev.stageFrame_oversize _ hbig, hnoted]
    rfl

/-! ### Forwarding (R244, R254, R255, R265) -/

/-- The device after a frame has arrived on port `p`: its code errors are counted, and a downstream frame is heard (R233, R241, R244). -/
def Dev.arrived (d : Dev) (p : RPort) (f : Frame) (now : Nat) : Dev :=
  let y := d.modPort p (fun q => { q with kerrRun := q.kerrRun + codeErrors f })
  if reloads f then y.heard now else y

namespace Dev

variable {d : Dev} {p : RPort} {f : Frame} {now : Nat}

theorem arrived_port_other : (d.arrived p f now).port (rportOther p) = d.port (rportOther p) := by
  unfold arrived
  dsimp only
  split <;> cases p <;> rfl

/-- Whether a frame is forwarded, and how, does not depend on its arrival. -/
theorem arrived_forwardCopy : (d.arrived p f now).forwardCopy f = d.forwardCopy f := by
  have hkeep : (d.arrived p f now).isHead = d.isHead ∧ (d.arrived p f now).pos = d.pos := by
    unfold arrived
    dsimp only
    split <;> cases p <;> exact ⟨rfl, rfl⟩
  unfold forwardCopy
  rw [hkeep.1, hkeep.2]

/-- What is taken in (R265). -/
theorem forwardCopy_none (h : d.isHead = true ∨ f.dest = 0xFE ∨ f.dest ≠ 0 ∧ (d.pos = some f.dest ∨ f.hops ≤ 1)) :
    d.forwardCopy f = none := by
  unfold forwardCopy relayed
  dsimp only
  obtain h | h | ⟨h0, h⟩ := h
  · exact if_pos (.inl h)
  · exact if_pos (.inr h)
  · rw [if_neg h0, if_pos h, ite_self]

/-- What is forwarded: a frame to the head as it is, any other with its count of hops (R265). -/
theorem forwardCopy_some {g : Frame} (hh : d.isHead = false) (h : f.dest = 0 ∧ g = relayed f ∨ f.dest ≠ 0xFE ∧ f.dest ≠ 0 ∧
    d.pos ≠ some f.dest ∧ 2 ≤ f.hops ∧ g = frameRelay (relayed f) (f.hops - 1) f.wrap) : d.forwardCopy f = some g := by
  have hdest : (relayed f).dest = f.dest := rfl
  have hhops : (relayed f).hops = f.hops := rfl
  unfold forwardCopy
  simp only [hh, hdest, hhops, Bool.false_eq_true, false_or]
  obtain ⟨h0, rfl⟩ | ⟨hFE, h0, hpos, hhop, rfl⟩ := h
  · simp [h0]
  · rw [if_neg hFE, if_neg h0, if_neg (by simp only [hpos, false_or]; omega)]
    rfl

/-- The device once the forwarded copy `g` has left by the opposite port; behind too many characters that wait there it is closed in
error and reported, where the ring is not the head alone (R5, R254, R255). -/
def forwards (d : Dev) (p : RPort) (now : Nat) (g : Frame) (full alone : Bool) : Dev :=
  let y := d.emit (rportOther p) now false (if full then { g with hasError := true } else g)
  if full = true ∧ alone = false then y.ringLink true 4 (rportOther p) else y

end Dev

section
variable {s : State} {d : Nat} {p : RPort} {f : Frame} (ha : (s.dev d).awake = true) (hc : ((s.dev d).port p).carries f = true)
include ha hc

/-- A clause of O41: a frame that is taken in (R265). -/
theorem frameForward_takesIn (h : (s.dev d).forwardCopy f = none) :
    answers (.frameForward d p f) s fun t => deviceBecomes s t d ((s.dev d).arrived p f s.now) s.now := by
  rw [← Dev.arrived_forwardCopy (p := p) (now := s.now)] at h
  unfold Dev.arrived at h ⊢
  dsimp only at h
  refine answers_becomes_now (g := fun _ => _) (show execFrameForward d p f s = _ from by unfold execFrameForward; rfl) ha ?_ rfl
  simp only [hc, Bool.true_eq_false, if_false, h]

/-- A clause of O41: a frame that is forwarded (R254, R255, R265). -/
theorem frameForward_forwards {g : Frame} (h : (s.dev d).forwardCopy f = some g) :
    answers (.frameForward d p f) s fun t => deviceBecomes s t d (((s.dev d).arrived p f s.now).forwards p s.now g
      (decide (2080 < ((s.dev d).port (rportOther p)).waits s.now)) s.alone) s.now := by
  rw [← Dev.arrived_forwardCopy (p := p) (now := s.now)] at h
  have hother := Dev.arrived_port_other (d := s.dev d) (p := p) (f := f) (now := s.now)
  unfold Dev.arrived at h hother ⊢
  dsimp only at h hother
  refine answers_becomes_now (g := fun _ => _) (show execFrameForward d p f s = _ from by unfold execFrameForward; rfl) ha ?_ rfl
  simp only [hc, Bool.true_eq_false, if_false, h, hother]
  rfl

end

/-- Settles O41: a frame is taken in or forwarded by what the device makes of its address, and a copy that it does not act on is heard. -/
theorem framesAreForwarded : Obligations.FramesAreForwarded := by
  unfold Obligations.FramesAreForwarded
  refine ⟨fun s d p f x ha hc hx => ?_, fun s d p f c ha hrel hc hno hf => ?_⟩
  · subst hx
    refine ⟨fun h => frameForward_takesIn ha hc (Dev.forwardCopy_none h), fun g full hh h hfull => ?_⟩
    subst hfull
    exact frameForward_forwards ha hc (Dev.forwardCopy_some hh h)
  · refine downInstr_silent ha hrel hc (Dev.actsOn_false hno) ?_
    unfold downInstr
    obtain ⟨a, hp, rfl⟩ | ⟨a, hp, rfl⟩ | ⟨a, b, hp, rfl⟩ | ⟨a, hp, rfl⟩ | ⟨a, hp, rfl⟩ | ⟨a, hp, rfl⟩ | ⟨a, hp, rfl⟩ := hf <;>
      rw [hp]

end Sys2Proof.Machine
end

section
/-!
SUPPORT. The wake pattern at a device (R257, R258, R500): how a command that changes one port ends, which ports a pattern's end
touches, and O37.
-/

namespace Sys2Proof.Machine

/-- A command at an awake S-die that changes that device at the instant `n`, to what the statement says. -/
theorem answers_becomes_at {c : Instr} {s : State} {d n : Nat} {f : State → State} {g : Dev → Dev} {x : Dev}
    (e : exec c s = onS s d f) (h : (s.dev d).awake = true) (hf : f s = (s.until n).modDev d g) (hx : g (s.dev d) = x) :
    answers c s fun t => deviceBecomes s t d x n := by
  rw [← hx]
  exact answers_becomes e h hf

/-- What `Dev.inner` keeps, two devices of one inner part share. -/
theorem Dev.eq_of_inner {β : Type} (g : Dev → β) {x y : Dev} (h : x.inner = y.inner)
    (hg : ∀ z : Dev, g z.inner = g z := by intro _; rfl) : g x = g y := by
  rw [← hg x, h, hg]

theorem Dev.start_power (d : Dev) (now : Nat) (intact : Bool) : (d.start now intact).power = .awake := by
  unfold Dev.start
  dsimp only
  split <;> rfl

/-- Two changes of a port that make the same of it. -/
theorem Dev.modPort_congr {d : Dev} {p : RPort} {f g : PortSt → PortSt} (h : f (d.port p) = g (d.port p)) :
    d.modPort p f = d.modPort p g := by
  cases p
  · exact congrArg (fun q => { d with portE := q }) h
  · exact congrArg (fun q => { d with portW := q }) h

/-! ### The pattern's end at the two ports (R258) -/

/-- A change that is made at both ring ports. -/
def Dev.bothPorts (d : Dev) (f : PortSt → PortSt) : Dev := { d with portE := f d.portE, portW := f d.portW }

/-- Where the opposite port stays as it is, one port changes. -/
theorem Dev.bothPorts_one {d : Dev} {p : RPort} {f g : PortSt → PortSt} (hp : f (d.port p) = g (d.port p))
    (ho : f (d.port (rportOther p)) = d.port (rportOther p)) : d.bothPorts f = d.modPort p g := by
  cases p
  · exact congrArg₂ (fun a b => { d with portE := a, portW := b }) hp ho
  · exact congrArg₂ (fun a b => { d with portE := a, portW := b }) ho hp

/-- What the end of a detected pattern makes of a port (R257, R258). -/
def PortSt.patternGone (q : PortSt) (now : Nat) : PortSt := if q.st = .wake then { q with st := .down, downAt := now } else q

/-- What the end of a pattern that the port sends makes of it (R258). -/
def PortSt.patternSent (q : PortSt) (now : Nat) : PortSt :=
  match q.wakeAt with
  | some w => if w + ms 2 ≤ now then { q with st := .down, wakeAt := none, downAt := w } else q
  | none => q

theorem PortSt.patternSent_some {q : PortSt} {w now : Nat} (h : q.wakeAt = some w) (hw : w + ms 2 ≤ now) :
    q.patternSent now = { q with st := .down, wakeAt := none, downAt := w } := by
  unfold PortSt.patternSent
  rw [h]
  exact if_pos hw

theorem PortSt.patternSent_none {q : PortSt} (h : q.wakeAt = none) (now : Nat) : q.patternSent now = q := by
  unfold PortSt.patternSent
  rw [h]

section
variable {s : State} {d n : Nat} {p : RPort}

theorem exec_wakePatternEnd_none (hE : (s.dev d).portE.wakeAt = none) (hW : (s.dev d).portW.wakeAt = none) :
    exec (.wakePatternEnd d) s = onS s d fun s => s.modDev d (·.bothPorts (·.patternGone s.now)) :=
  (show _ = execWakePatternEnd d s from rfl).trans (onS_congr (by simp only [hE, hW]; rfl))

theorem exec_wakePatternEnd_some (h : (s.dev d).portE.wakeAt.or (s.dev d).portW.wakeAt = some n) :
    exec (.wakePatternEnd d) s = onS s d fun s =>
      (s.until (n + ms 2)).modDev d (·.bothPorts (·.patternSent (s.until (n + ms 2)).now)) :=
  (show _ = execWakePatternEnd d s from rfl).trans (onS_congr (by simp only [h]; rfl))

theorem ms_two : ms 2 = 2000000 := by simp [ms]

/-- A pattern that began at `n` has been sent when time has come to `n` and 2.0 ms. -/
theorem sent_by_until (s : State) (n : Nat) : n + ms 2 ≤ (s.until (n + ms 2)).now := Nat.le_max_right _ _

/-! ### The clauses of O37 -/

/-- A clause of O37: the pattern wakes a DORMANT S-die, which sends it on both ports (R258, R500). -/
theorem wakePatternDetected_wakes (hp : (s.dev d).power = .dormant) : answers (.wakePatternDetected d p) s fun t =>
    (t.dev d).body = (((s.dev d).start s.now (Config.tableIntact s.draws)).sendWake s.now fun _ => true).body ∧
      othersKept s t d ∧ (t.dev d).power = .awake ∧
      (t.dev d).portE.st = .wake ∧ (t.dev d).portW.st = .wake ∧ kept (.draws :: .devices :: tripParts) s t := by
  have hl : d < s.devs.length := s.lt_of_power d (by rw [hp]; decide)
  have hl' : d < (s.startDev d).devs.length := hl.trans_eq (List.length_modify _ _ _).symm
  have e : execWakePatternDetected d p s = done s ((s.startDev d).modDev d (·.sendWake s.now fun _ => true)) := by
    unfold execWakePatternDetected
    simp only [hp]
  have hb : ((s.finish ((s.startDev d).modDev d (·.sendWake s.now fun _ => true))).dev d).body
      = (((s.dev d).start s.now (Config.tableIntact s.draws)).sendWake s.now fun _ => true).body := by
    rw [State.finish_body, State.dev_modDev_self _ d _ hl', State.startDev_self s d hl]
  refine answers_done e ⟨hb, fun k hk => ?_, ?_, ?_, ?_, ?_⟩
  · rw [State.finish_body, State.dev_modDev_other _ d k _ hk, State.startDev_others s d k hk]
  · rw [Dev.eq_of_body (·.power) hb, Dev.eq_of_inner (·.power) (Dev.sendWake_inner _ _ _), Dev.start_power]
  · exact (Dev.eq_of_body (·.portE.st) hb).trans (Dev.sendWake_st _ _ _ .E)
  · exact (Dev.eq_of_body (·.portW.st) hb).trans (Dev.sendWake_st _ _ _ .W)
  · exact State.kept_mono (kept_finish (kept_trans (kept_startDev s d) (kept_modDev _ d _))) (by decide)

/-- A clause of O37: an awake S-die that sends no pattern shows a detected one on a port that is not UP (R257). -/
theorem wakePatternDetected_shows (ha : (s.dev d).awake = true)
    (hst : ((s.dev d).port p).st = .down ∨ ((s.dev d).port p).st = .acquire)
    (hE : (s.dev d).portE.wakeAt = none) (hW : (s.dev d).portW.wakeAt = none) :
    answers (.wakePatternDetected d p) s fun t =>
      deviceBecomes s t d (((s.dev d).modPort p fun q => { q with
        st := .wake, wakeAt := none, rxGood := false, peerOk := false, okSets := 0, miswiredAt := none }).moveClock p) s.now := by
  have hp : (s.dev d).power = .awake := of_decide_eq_true ha
  have e : execWakePatternDetected d p s = done s (s.modDev d fun x => (x.modPort p fun q => { q with
      st := .wake, wakeAt := none, rxGood := false, peerOk := false, okSets := 0, miswiredAt := none }).moveClock p) := by
    unfold execWakePatternDetected
    simp only [hp, hst, hE, hW, and_self, if_true]
  exact answers_done e (done_becomes s d _ (s.lt_of_awake d ha))

/-- A clause of O37: a detected pattern that ends lets its port acquire anew (R258). -/
theorem wakePatternEnd_detected (ha : (s.dev d).awake = true) (hE : (s.dev d).portE.wakeAt = none)
    (hW : (s.dev d).portW.wakeAt = none) (hp : ((s.dev d).port p).st = .wake)
    (ho : ((s.dev d).port (rportOther p)).st ≠ .wake) : answers (.wakePatternEnd d) s fun t =>
      deviceBecomes s t d ((s.dev d).modPort p fun q => { q with st := .down, downAt := s.now }) s.now :=
  answers_becomes_now (exec_wakePatternEnd_none hE hW) ha rfl (Dev.bothPorts_one (if_pos hp) (if_neg ho))

/-- A clause of O37: a pattern sent on both ports ends after 2.0 ms (R258). -/
theorem wakePatternEnd_both (ha : (s.dev d).awake = true) (hE : (s.dev d).portE.wakeAt = some n)
    (hW : (s.dev d).portW.wakeAt = some n) : answers (.wakePatternEnd d) s fun t =>
      deviceBecomes s t d { s.dev d with
        portE := { (s.dev d).portE with st := .down, wakeAt := none, downAt := n }
        portW := { (s.dev d).portW with st := .down, wakeAt := none, downAt := n } } (n + 2000000) := by
  rw [← ms_two]
  exact answers_becomes_at (exec_wakePatternEnd_some (by rw [hE, Option.some_or])) ha rfl
    (congrArg₂ (fun a b => { s.dev d with portE := a, portW := b }) (PortSt.patternSent_some hE (sent_by_until s n))
      (PortSt.patternSent_some hW (sent_by_until s n)))

/-- A clause of O37: a pattern sent on one port ends after 2.0 ms (R258). -/
theorem wakePatternEnd_one (ha : (s.dev d).awake = true) (hp : ((s.dev d).port p).wakeAt = some n)
    (ho : ((s.dev d).port (rportOther p)).wakeAt = none) : answers (.wakePatternEnd d) s fun t =>
      deviceBecomes s t d ((s.dev d).modPort p fun q => { q with st := .down, wakeAt := none, downAt := n }) (n + 2000000) := by
  have h : (s.dev d).portE.wakeAt.or (s.dev d).portW.wakeAt = some n := by
    cases p
    · exact Option.or_eq_some_iff.2 (.inl hp)
    · exact Option.or_eq_some_iff.2 (.inr ⟨ho, hp⟩)
  rw [← ms_two]
  exact answers_becomes_at (exec_wakePatternEnd_some h) ha rfl
    (Dev.bothPorts_one (PortSt.patternSent_some hp (sent_by_until s n)) (PortSt.patternSent_none ho _))

/-- A clause of O37: a port that has stood DOWN for 1 s sends the pattern (R500). -/
theorem portDownWake_sends (ha : (s.dev d).awake = true) (hp : ((s.dev d).port p).st = .down) :
    answers (.portDownWake d p) s fun t => deviceBecomes s t d ((s.dev d).modPort p fun q =>
      { q with st := .wake, wakeAt := some (max s.now (q.downAt + 1000000000)) }) (((s.dev d).port p).downAt + 1000000000) := by
  have hn : ms 1000 = 1000000000 := by simp [ms]
  have e : exec (.portDownWake d p) s = onS s d fun s => (s.until (((s.dev d).port p).downAt + ms 1000)).modDev d
      (·.modPort p fun q => { q with st := .wake, wakeAt := some (s.until (((s.dev d).port p).downAt + ms 1000)).now }) :=
    (show _ = execPortDownWake d p s from rfl).trans (onS_congr (if_pos hp))
  simp only [← hn]
  exact answers_becomes_at e ha rfl (Dev.modPort_congr rfl)

end

/-- Settles O37: a pattern that wakes an S-die, one that an awake S-die shows, the ends of both, and a port that stays DOWN. -/
theorem wakePatternsAct : Obligations.WakePatternsAct := fun _ _ _ =>
  ⟨wakePatternDetected_wakes, wakePatternDetected_shows, wakePatternEnd_detected, fun _ => wakePatternEnd_both,
    fun _ => wakePatternEnd_one, portDownWake_sends⟩

end Sys2Proof.Machine
end

section
/-!
SUPPORT. A link comes up (R247, R249, R288): what the head's waiting reports leave alone, what LINK_UP makes of its device and
of the state, and O38.
-/

namespace Sys2Proof.Machine

/-! ### The head's reports as a frame (R269, R392) -/

theorem kept_modPos (s : State) (p : Nat) (f : PosTrack → PosTrack) : kept [.positions] s (s.modPos p f) := fun x hx => by
  cases x
  case positions => simp at hx
  case host k => cases k <;> rfl
  all_goals simp [Part.same, State.dev]

namespace State

variable (s : State)

theorem kept_noteEvent (p : Nat) (up : Bool) (c b d : Nat) (v w : Word) : kept [.positions] s (s.noteEvent p up c b d v w) := by
  unfold State.noteEvent
  split
  · exact kept_modPos s p _
  · split
    · exact kept_modPos s p _
    · split
      · exact kept_modPos s p _
      · exact kept_mono (kept_refl [] s) (by simp)

/-- A report of the head S-die is noted at its position, and occurs or is cleared. -/
theorem kept_headReport (i : Item) : kept (.positions :: faultParts) s (s.headReport i) := by
  unfold State.headReport
  split
  · unfold State.takeEvent
    dsimp only
    split
    · exact kept_trans (kept_noteEvent s _ _ _ _ _ _ _) (kept_of_bare (raiseAt_bare _ _ _ _ _))
    · exact kept_mono (kept_trans (kept_noteEvent s _ _ _ _ _ _ _) (kept_clearAt _ _ _)) (by decide)
  · exact kept_mono (kept_refl [] s) (by simp)

/-- What the reports of the head S-die touch, whichever of them wait. -/
theorem kept_headReports : kept (.devices :: .positions :: faultParts) s s.headReports := by
  have hfold (l : List Item) (t : State) : kept (.positions :: faultParts) t (l.foldl State.headReport t) := by
    induction l generalizing t with
    | nil => exact kept_refl _ t
    | cons i l ih => exact kept_chain (kept_headReport t i) (ih _)
  unfold State.headReports
  dsimp only
  split
  · exact kept_trans (kept_modDev s 0 _) (hfold _ _)
  · exact kept_refl _ s

end State

/-- A command at an awake S-die: the devices and the Traverse are as `f` leaves them, and beside what `f` touches only the head's
reports and the trip path show. -/
theorem onS_keeps {s : State} {d : Nat} {f : State → State} {out : List Part} (h : (s.dev d).awake = true)
    (hk : kept out s (f s)) : ∃ t, onS s d f = .next t ∧ (∀ e, (t.dev e).body = ((f s).dev e).body) ∧ t.trv = (f s).trv ∧
      kept (out ++ .devices :: .positions :: faultParts) s t := by
  have htrip : tripParts ⊆ .devices :: .positions :: faultParts := by decide
  by_cases hd : d = 0
  · subst hd
    refine ⟨_, onS_head h, fun e => by rw [State.finish_body, State.headReports_body], ?_, ?_⟩
    · rw [State.finish_trv, State.headReports_trv]
    · exact State.kept_mono (kept_finish (kept_trans hk (State.kept_headReports _))) fun p hp =>
        (List.mem_append.1 hp).elim (fun hp => List.mem_append_right _ (htrip hp)) id
  · refine ⟨_, onS_member h hd, fun e => by rw [State.finish_body], by rw [State.finish_trv], ?_⟩
    exact State.kept_mono (kept_finish hk) fun p hp =>
      (List.mem_append.1 hp).elim (fun hp => List.mem_append_right _ (htrip hp)) (List.mem_append_left _)

/-! ### A port comes UP (R249, R288) -/

namespace Dev

variable (d : Dev) (p : RPort)

@[simp] theorem ringLink_port (up : Bool) (sub : Nat) (q : RPort) : (d.ringLink up sub p).port q = d.port q := by
  cases q <;> rfl

@[simp] theorem notice_port (q : RPort) : d.notice.port q = d.port q := by cases q <;> rfl

@[simp] theorem modPort_notices (f : PortSt → PortSt) : (d.modPort p f).notices = d.notices := by cases p <;> rfl

/-- A RING_LINK cause that stood at a port and no longer does is cleared (R252). -/
def clearsLink (c : Prop) [Decidable c] (sub : Nat) (f : PortSt → PortSt) : Dev :=
  if c then (d.modPort p f).ringLink false sub p else d

section
variable {c : Prop} [Decidable c] (sub : Nat) {f : PortSt → PortSt}

theorem clearsLink_port {q : PortSt} (hc : c → f (d.port p) = q) (hn : ¬ c → d.port p = q) : (d.clearsLink p c sub f).port p = q := by
  unfold clearsLink
  split
  · next h => rw [ringLink_port, port_modPort_self, hc h]
  · next h => exact hn h

@[simp] theorem clearsLink_port_other : (d.clearsLink p c sub f).port (rportOther p) = d.port (rportOther p) := by
  unfold clearsLink
  split
  · rw [ringLink_port, port_modPort_other]
  · rfl

@[simp] theorem clearsLink_inner : (d.clearsLink p c sub f).inner = d.inner := by
  unfold clearsLink
  split <;> simp

end

/-- The device whose port comes UP: a loss that stood is cleared, and a held port sends one link notice (R252, R288). -/
def comesUp (lost held : Bool) (fwd : Nat) : Dev :=
  let x := (d.clearsLink p lost 1 fun q => { q with lost := false }).modPort p
    fun q => { q with st := .up, peerOk := true, held := held, everUp := true, fwd := fwd }
  if held then x.notice else x

theorem comesUp_port (held : Bool) (fwd : Nat) : (d.comesUp p (d.port p).lost held fwd).port p = { d.port p with
    lost := false, st := .up, peerOk := true, held := held, everUp := true, fwd := fwd } := by
  have hport (f : PortSt → PortSt) : ((d.clearsLink p ((d.port p).lost = true) 1 fun q => { q with lost := false }).modPort p f).port p
      = f { d.port p with lost := false } := by
    rw [port_modPort_self, clearsLink_port d p 1 (fun _ => rfl) fun h => by rw [← Bool.eq_false_of_not_eq_true h]]
  cases held
  · exact hport _
  · exact (notice_port _ p).trans (hport _)

theorem comesUp_port_other (lost held : Bool) (fwd : Nat) :
    (d.comesUp p lost held fwd).port (rportOther p) = d.port (rportOther p) := by
  unfold comesUp
  cases held <;> simp

theorem comesUp_notices (lost held : Bool) (fwd : Nat) : (d.comesUp p lost held fwd).notices = d.notices ++
    if held then [Item.mk 0xC4 0 (.notice (word (d.comesUp p lost held fwd).portE.word)
      (word (d.comesUp p lost held fwd).portW.word))] else [] := by
  have hn (f : PortSt → PortSt) : ((d.clearsLink p lost 1 fun q => { q with lost := false }).modPort p f).notices = d.notices :=
    (modPort_notices _ p f).trans (eq_of_inner (·.notices) (clearsLink_inner d p 1))
  cases held
  · exact (hn _).trans (List.append_nil _).symm
  · exact congrArg (· ++ _) (hn _)

end Dev

/-- The state in which port `p` of slot `d` comes UP: its forwarding latency is drawn, and a held port of the head triggers a
Traverse (R248, R249, R277). -/
def State.linkedUp (s : State) (d : Nat) (p : RPort) (held : Bool) : State :=
  let t := { s with draws := s.draws + 1 }.modDev d
    (·.comesUp p ((s.dev d).port p).lost held (13500 + Config.forwardLatency d s.draws % 1501))
  if held ∧ d = 0 ∧ (s.dev d).isHead then { t with trv := { t.trv with trigger := true, trigAt := t.now } } else t

section
variable {s : State} {d : Nat} {p : RPort}

theorem State.linkedUp_dev (held : Bool) (e : Nat) : (s.linkedUp d p held).dev e = ({ s with draws := s.draws + 1 }.modDev d
    (·.comesUp p ((s.dev d).port p).lost held (13500 + Config.forwardLatency d s.draws % 1501))).dev e := by
  unfold State.linkedUp
  dsimp only
  split <;> rfl

theorem State.linkedUp_dev_self (hl : d < s.devs.length) (held : Bool) : (s.linkedUp d p held).dev d =
    (s.dev d).comesUp p ((s.dev d).port p).lost held (13500 + Config.forwardLatency d s.draws % 1501) := by
  rw [State.linkedUp_dev]
  exact State.dev_modDev_self { s with draws := s.draws + 1 } d _ hl

theorem State.linkedUp_dev_other (held : Bool) {e : Nat} (he : e ≠ d) : (s.linkedUp d p held).dev e = s.dev e := by
  rw [State.linkedUp_dev]
  exact State.dev_modDev_other { s with draws := s.draws + 1 } d e _ he

theorem State.linkedUp_triggers {held : Bool} (h : held = true ∧ d = 0 ∧ (s.dev d).isHead = true) :
    (s.linkedUp d p held).trv.trigger = true := by
  unfold State.linkedUp
  dsimp only
  rw [if_pos h]

theorem kept_linkedUp (s : State) (d : Nat) (p : RPort) (held : Bool) :
    kept [.draws, .devices, .traverse] s (s.linkedUp d p held) := by
  have hk : kept [.draws, .devices] s ({ s with draws := s.draws + 1 }.modDev d
      (·.comesUp p ((s.dev d).port p).lost held (13500 + Config.forwardLatency d s.draws % 1501))) :=
    kept_trans (kept_draws s (s.draws + 1)) (kept_modDev _ d _)
  unfold State.linkedUp
  dsimp only
  split
  · exact kept_trans hk (kept_traverse _ _)
  · exact State.kept_mono hk (by decide)

/-! ### The clauses of O38 -/

/-- A clause of O38: alignment takes a port to ACQUIRE (R249). -/
theorem characterAlignment_acquires (inv : Bool) (ha : (s.dev d).awake = true)
    (h : ((s.dev d).port p).st = .down ∨ ((s.dev d).port p).st = .wake ∧ ((s.dev d).port p).wakeAt = none) :
    answers (.characterAlignment d p inv) s fun t => deviceBecomes s t d
      ((s.dev d).modPort p fun q => { q with st := .acquire, invPol := inv, okSets := 0, badSets := 0 }) s.now :=
  answers_becomes_now (show _ = execCharacterAlignment d p inv s from rfl) ha (if_pos h) rfl

/-- A clause of O38: the receiver is good, and a member without a clock source takes it for one (R247, R249). -/
theorem rxGood_takes_clock (ha : (s.dev d).awake = true) (h : ((s.dev d).port p).st = .acquire) :
    answers (.rxGood d p) s fun t => deviceBecomes s t d ((s.dev d).modPort p fun q => { q with
      rxGood := true
      clkSrc := q.clkSrc || (!(s.dev d).isHead && !(s.dev d).portE.clkSrc && !(s.dev d).portW.clkSrc) }) s.now :=
  answers_becomes_now (show _ = execRxGood d p s from rfl) ha (if_pos h) rfl

section
variable {held : Bool} (h : ((s.dev d).port p).st = .acquire) (hg : ((s.dev d).port p).rxGood = true)
  (hs : 16 ≤ ((s.dev d).port p).okSets) (hh : held = ((s.dev d).adopted && (((s.dev d).port p).leftUp
    || ((s.dev d).port p).wrapped || (s.dev (s.peer d p)).pos.isNone)))
include h hg hs hh

/-- A port whose peer is accepted comes UP (R249). -/
theorem exec_linkUp_accepted : exec (.linkUp d p) s = onS s d fun s => s.linkedUp d p held := by
  have hc : ¬ (((s.dev d).port p).st ≠ .acquire ∨ ((s.dev d).port p).rxGood = false ∨ ((s.dev d).port p).okSets < 16) := by
    simp [h, hg, hs]
  subst hh
  exact (show _ = execLinkUp d p s from rfl).trans (onS_congr (if_neg hc))

/-- A clause of O38: a port comes UP, held or not (R249, R288). -/
theorem linkUp_comes_up (ha : (s.dev d).awake = true) :
    answers (.linkUp d p) s fun t =>
      (t.dev d).port p = { (s.dev d).port p with
        lost := false, st := .up, peerOk := true, held := held, everUp := true
        fwd := 13500 + Config.forwardLatency d s.draws % 1501 } ∧
      (t.dev d).port (rportOther p) = (s.dev d).port (rportOther p) ∧ othersKept s t d ∧
      (t.dev d).notices = (s.dev d).notices ++ (if held then [Item.mk 0xC4 0 (.notice (word (t.dev d).portE.word)
        (word (t.dev d).portW.word))] else []) ∧
      (held = true → d = 0 → (s.dev 0).isHead = true → t.trv.trigger = true) ∧
      kept (.devices :: .traverse :: .positions :: faultParts) s t := by
  obtain ⟨t, ht, hb, htrv, hk⟩ := onS_keeps (f := fun s => s.linkedUp d p held) ha (kept_linkedUp s d p held)
  have hd := hb d
  rw [State.linkedUp_dev_self (s.lt_of_awake d ha)] at hd
  refine ⟨t, (exec_linkUp_accepted h hg hs hh).trans ht, ?_, ?_, fun k hk => ?_, ?_, fun h1 h2 h3 => ?_, State.kept_mono hk (by decide)⟩
  · rw [Dev.port_of_body hd, Dev.comesUp_port]
  · rw [Dev.port_of_body hd, Dev.comesUp_port_other]
  · rw [hb, State.linkedUp_dev_other _ hk]
  · rw [Dev.eq_of_body (·.notices) hd, Dev.eq_of_body (·.portE) hd, Dev.eq_of_body (·.portW) hd]
    exact Dev.comesUp_notices _ p _ held _
  · subst h2
    rw [htrv]
    exact State.linkedUp_triggers ⟨h1, rfl, h3⟩

end

end

/-- Settles O38: alignment, a good receiver, and the port that comes UP with what it clears, notes and triggers. -/
theorem linksComeUp : Obligations.LinksComeUp := fun _ _ _ ha =>
  ⟨fun inv => characterAlignment_acquires inv ha, rxGood_takes_clock ha, fun _ h hg hs hh => linkUp_comes_up h hg hs hh ha⟩

end Sys2Proof.Machine
end

section
/-!
SUPPORT. Links are watched (R242, R249 to R253, R285): what an idle set, a clock that moves and a port that leaves UP make of the
ports of a device, and O39.
-/

namespace Sys2Proof.Machine

namespace Dev

variable (d : Dev) (p : RPort)

/-! ### The clock source moves (R247) -/

theorem moveClock_port_self : (d.moveClock p).port p = { d.port p with clkSrc := false } := by
  unfold moveClock
  dsimp only
  split
  · rw [port_modPort_rportOther, port_modPort_self]
  · rw [port_modPort_self]

/-- A clock source that is lost passes to the opposite receiver where that is good. -/
theorem moveClock_clkSrc_other (h : (d.port p).clkSrc = true) (hg : (d.port (rportOther p)).rxGood = true) :
    ((d.moveClock p).port (rportOther p)).clkSrc = true := by
  unfold moveClock
  dsimp only
  rw [if_pos ⟨h, by rwa [port_modPort_other]⟩, port_modPort_self]

/-! ### A port leaves UP (R251, R285, R288) -/

/-- The device whose port has left UP, before the frames that stood there turn back. -/
def leavesUp (now : Nat) (st : PortState) (quiet : Bool) : Dev :=
  let x := d.clearsLink p ((d.port p).degraded = true) 2 fun q => { q with degraded := false }
  x.modPort p fun q => { q with
    st := st, peerOk := false, okSets := 0, losses := q.losses + 1, leftUp := true, held := false, downAt := now
    upAll := false, lost := q.lost || ((d.port p).everUp && !(d.port p).held && !quiet)
    wrapped := q.wrapped || (x.adopted && !x.isHead && q.everUp) }.cut now

theorem leavesUp_port_self (now : Nat) (st : PortState) (quiet : Bool) : (d.leavesUp p now st quiet).port p =
    { d.port p with
      degraded := false, st := st, peerOk := false, okSets := 0, losses := (d.port p).losses + 1, leftUp := true, held := false
      downAt := now, upAll := false, lost := (d.port p).lost || ((d.port p).everUp && !(d.port p).held && !quiet)
      wrapped := (d.port p).wrapped || (d.adopted && !d.isHead && (d.port p).everUp) }.cut now := by
  have hq : (d.clearsLink p ((d.port p).degraded = true) 2 fun q => { q with degraded := false }).port p
      = { d.port p with degraded := false } :=
    clearsLink_port d p 2 (fun _ => rfl) fun h => by rw [← Bool.eq_false_of_not_eq_true h]
  have ha : (d.clearsLink p ((d.port p).degraded = true) 2 fun q => { q with degraded := false }).adopted = d.adopted :=
    eq_of_inner (·.adopted) (clearsLink_inner d p 2)
  have hh : (d.clearsLink p ((d.port p).degraded = true) 2 fun q => { q with degraded := false }).isHead = d.isHead :=
    eq_of_inner (·.isHead) (clearsLink_inner d p 2)
  unfold leavesUp
  dsimp only
  rw [port_modPort_self, hq, ha, hh]

theorem leavesUp_port_other (now : Nat) (st : PortState) (quiet : Bool) :
    (d.leavesUp p now st quiet).port (rportOther p) = d.port (rportOther p) := by
  unfold leavesUp
  dsimp only
  rw [port_modPort_other, clearsLink_port_other]

/-- The frames that turn back change of the ports only what a transmitter holds. -/
theorem leaveUp_port_keep {β : Type} (g : PortSt → β) (h : ∀ x now own f, g (PortSt.transmit x now own f) = g x)
    (now : Nat) (st : PortState) (quiet : Bool) (r : RPort) :
    g ((d.leaveUp p now st quiet).port r) = g ((d.leavesUp p now st quiet).port r) := by
  have hfold (l : List TxFrame) (x : Dev) := foldl_keep (fun y : Dev => g (y.port r))
    (fun (d : Dev) (y : TxFrame) => d.emit p now y.own y.frame) (fun x y => emit_port_keep g h x p r now y.own y.frame) l x
  have he : d.leaveUp p now st quiet =
      let x := (((d.port p).tx.filter fun x => decide (now < x.at')).reverse.foldl
        (fun (d : Dev) (y : TxFrame) => d.emit p now y.own y.frame) (d.leavesUp p now st quiet))
      if (d.port p).everUp && !(d.port p).held && !quiet then x.ringLink true 1 p else x := rfl
  rw [he]
  dsimp only
  split
  · rw [ringLink_port, hfold]
  · rw [hfold]

/-! ### An idle set, a rolling second (R242, R249 to R253) -/

/-- The device that has taken an idle set on a port: a miswiring that the set refutes is cleared. -/
def takesIdle (peer : RPort) (miswired good : Bool) (now : Nat) : Dev :=
  (d.clearsLink p (miswired = true ∧ peer ≠ p) 3 fun q => { q with miswired := false }).modPort p fun q => { q with
    okSets := if decide (peer = rportOther p) && good then min (q.okSets + 1) 255 else 0
    badSets := if good then 0 else min (q.badSets + 1) 255
    peerOk := decide (peer = rportOther p) && good && decide (1 ≤ q.okSets)
    miswiredAt := if peer = p then some (q.miswiredAt.getD now) else none }

theorem takesIdle_port_self (peer : RPort) (good : Bool) (now : Nat) : (d.takesIdle p peer (d.port p).miswired good now).port p =
    { d.port p with
      okSets := if peer = rportOther p ∧ good = true then min ((d.port p).okSets + 1) 255 else 0
      badSets := if good then 0 else min ((d.port p).badSets + 1) 255
      peerOk := decide (peer = rportOther p) && good && decide (1 ≤ (d.port p).okSets)
      miswired := (d.port p).miswired && decide (peer = p)
      miswiredAt := if peer = p then some ((d.port p).miswiredAt.getD now) else none } := by
  have hq : (d.clearsLink p ((d.port p).miswired = true ∧ peer ≠ p) 3 fun q => { q with miswired := false }).port p
      = { d.port p with miswired := (d.port p).miswired && decide (peer = p) } := by
    refine clearsLink_port d p 3 (fun h => ?_) fun h => ?_
    · rw [decide_eq_false h.2, Bool.and_false]
    · have hm : ((d.port p).miswired && decide (peer = p)) = (d.port p).miswired := by
        cases hw : (d.port p).miswired
        · rfl
        · exact decide_eq_true (by_contra fun hne => h ⟨hw, hne⟩)
      rw [hm]
  unfold takesIdle
  rw [port_modPort_self, hq]
  simp only [Bool.and_eq_true, decide_eq_true_eq]

theorem takesIdle_port_other (peer : RPort) (miswired good : Bool) (now : Nat) :
    (d.takesIdle p peer miswired good now).port (rportOther p) = d.port (rportOther p) := by
  unfold takesIdle
  rw [port_modPort_other, clearsLink_port_other]

/-- The device after a rolling second with `missed` missed periods on a port: a link that is degraded or no longer is, is reported
(R252, R253). -/
def endsSecond (missed : Nat) (bad stood : Bool) : Dev :=
  let x := d.modPort p fun q => { q with
    missed := missed, kerr := q.kerrRun, kerrRun := 0, degraded := bad, upAll := decide (q.st = .up) }
  if bad = stood then x else x.ringLink bad 2 p

theorem endsSecond_port (missed : Nat) (bad stood : Bool) (q : RPort) : (d.endsSecond p missed bad stood).port q =
    (d.modPort p fun q => { q with
      missed := missed, kerr := q.kerrRun, kerrRun := 0, degraded := bad, upAll := decide (q.st = .up) }).port q := by
  unfold endsSecond
  dsimp only
  split
  · rfl
  · rw [ringLink_port]

end Dev

/-! ### The clauses of O39 -/

section
variable {s : State} {d : Nat} {p peer : RPort} {good : Bool}

/-- An idle set on a port in ACQUIRE or UP is counted, and takes the port out of UP where it is the second that reports the peer's
receiver not good (R251). -/
theorem exec_idleSet_counted (h : ((s.dev d).port p).st = .acquire ∨ ((s.dev d).port p).st = .up) :
    exec (.idleSet d p peer good) s = onS s d fun s =>
      let y := s.modDev d (·.takesIdle p peer ((s.dev d).port p).miswired good s.now)
      if ((s.dev d).port p).st = .up ∧ good = false ∧ 1 ≤ ((s.dev d).port p).badSets then
        y.modDev d (·.leaveUp p s.now .acquire (y.quietLoss d p)) else y :=
  (show _ = execIdleSet d p peer good s from rfl).trans (onS_congr (if_neg (by obtain h | h := h <;> simp [h])))

variable (ha : (s.dev d).awake = true)
include ha

theorem idleSet_becomes (h : ((s.dev d).port p).st = .acquire ∨ ((s.dev d).port p).st = .up)
    (hn : ¬ (((s.dev d).port p).st = .up ∧ good = false ∧ 1 ≤ ((s.dev d).port p).badSets)) :
    answers (.idleSet d p peer good) s fun t =>
      deviceBecomes s t d ((s.dev d).takesIdle p peer ((s.dev d).port p).miswired good s.now) s.now :=
  answers_becomes_now (exec_idleSet_counted h) ha (if_neg hn) rfl

theorem idleSet_leaves (h : ((s.dev d).port p).st = .up ∧ good = false ∧ 1 ≤ ((s.dev d).port p).badSets) :
    ∃ quiet, answers (.idleSet d p peer good) s fun t => deviceBecomes s t d
      (((s.dev d).takesIdle p peer ((s.dev d).port p).miswired good s.now).leaveUp p s.now .acquire quiet) s.now :=
  ⟨_, answers_becomes_now (exec_idleSet_counted (.inr h.1)) ha ((if_pos h).trans (State.modDev_modDev s d _ _)) rfl⟩

/-- A clause of O39: an idle set is counted, or takes its port out of UP (R242, R249 to R251). -/
theorem idleSet_counts (h : ((s.dev d).port p).st = .acquire ∨ ((s.dev d).port p).st = .up) :
    answers (.idleSet d p peer good) s fun t => othersKept s t d ∧
      (((s.dev d).port p).st = .acquire ∨ good = true ∨ ((s.dev d).port p).badSets = 0 →
        (t.dev d).port (rportOther p) = (s.dev d).port (rportOther p) ∧
        (t.dev d).port p = { (s.dev d).port p with
          okSets := if peer = rportOther p ∧ good = true then min (((s.dev d).port p).okSets + 1) 255 else 0
          badSets := if good then 0 else min (((s.dev d).port p).badSets + 1) 255
          peerOk := decide (peer = rportOther p) && good && decide (1 ≤ ((s.dev d).port p).okSets)
          miswired := ((s.dev d).port p).miswired && decide (peer = p)
          miswiredAt := if peer = p then some (((s.dev d).port p).miswiredAt.getD s.now) else none }) ∧
      (((s.dev d).port p).st = .up → good = false → 1 ≤ ((s.dev d).port p).badSets →
        ((t.dev d).port p).st = .acquire ∧ ((t.dev d).port p).losses = ((s.dev d).port p).losses + 1 ∧
        ((t.dev d).port p).downAt = s.now ∧ ((t.dev d).port p).held = false) := by
  by_cases hc : ((s.dev d).port p).st = .up ∧ good = false ∧ 1 ≤ ((s.dev d).port p).badSets
  · obtain ⟨quiet, hq⟩ := idleSet_leaves (peer := peer) ha hc
    refine answers_mono hq fun t ht => ⟨ht.2.1, fun hk => ?_, fun _ _ _ => ?_⟩
    · obtain ⟨h1, h2, h3⟩ := hc
      simp only [h1, h2, reduceCtorEq, false_or, Bool.false_eq_true] at hk
      omega
    · have hport {β : Type} (g : PortSt → β) (hg : ∀ x now own f, g (PortSt.transmit x now own f) = g x) :=
        (congrArg g (Dev.port_of_body ht.1 p)).trans ((Dev.leaveUp_port_keep _ p g hg s.now .acquire quiet p).trans
          (congrArg g (by rw [Dev.leavesUp_port_self, Dev.takesIdle_port_self])))
      exact ⟨hport (·.st) fun _ _ _ _ => rfl, hport (·.losses) fun _ _ _ _ => rfl, hport (·.downAt) fun _ _ _ _ => rfl,
        hport (·.held) fun _ _ _ _ => rfl⟩
  · refine answers_mono (idleSet_becomes ha h hc) fun t ht => ⟨ht.2.1, fun _ => ⟨?_, ?_⟩, fun h1 h2 h3 => absurd ⟨h1, h2, h3⟩ hc⟩
    · rw [Dev.port_of_body ht.1, Dev.takesIdle_port_other]
    · rw [Dev.port_of_body ht.1, Dev.takesIdle_port_self]

/-- A clause of O39: a port in ACQUIRE whose receiver is lost goes DOWN (R250). -/
theorem rxLoss_acquiring (h : ((s.dev d).port p).st = .acquire) : answers (.rxLoss d p) s fun t =>
    deviceBecomes s t d (((s.dev d).modPort p fun q => { q with
      rxGood := false, st := .down, downAt := s.now, okSets := 0, peerOk := false, miswiredAt := none }).moveClock p) s.now :=
  answers_becomes_now (show _ = execRxLoss d p s from rfl) ha ((if_neg (by simp [h])).trans (if_pos h)) rfl

/-- A clause of O39: a port whose receiver is lost leaves UP, and its clock source moves (R247, R250, R251). -/
theorem rxLoss_leaves (h : ((s.dev d).port p).st = .up) : answers (.rxLoss d p) s fun t =>
    deviceBecomes s t d ((((s.dev d).modPort p fun q => { q with rxGood := false }).moveClock p).leaveUp p s.now .down
      (s.quietLoss d p)) s.now ∧
    ((t.dev d).port p).st = .down ∧ ((t.dev d).port p).rxGood = false ∧ ((t.dev d).port p).clkSrc = false ∧
    ((t.dev d).port p).losses = ((s.dev d).port p).losses + 1 ∧
    (((s.dev d).port p).clkSrc = true → ((s.dev d).port (rportOther p)).rxGood = true →
      ((t.dev d).port (rportOther p)).clkSrc = true) := by
  refine answers_mono (answers_becomes_now (show _ = execRxLoss d p s from rfl) ha (if_pos h) rfl) fun t ht => ⟨ht, ?_⟩
  have hport {β : Type} (g : PortSt → β) (hg : ∀ x now own f, g (PortSt.transmit x now own f) = g x) (r : RPort) :=
    (congrArg g (Dev.port_of_body ht.1 r)).trans (Dev.leaveUp_port_keep _ p g hg s.now .down (s.quietLoss d p) r)
  have hself {β : Type} (g : PortSt → β) (hg : ∀ x now own f, g (PortSt.transmit x now own f) = g x) :=
    (hport g hg p).trans (congrArg g (by rw [Dev.leavesUp_port_self, Dev.moveClock_port_self, Dev.port_modPort_self]))
  refine ⟨hself (·.st) fun _ _ _ _ => rfl, hself (·.rxGood) fun _ _ _ _ => rfl, hself (·.clkSrc) fun _ _ _ _ => rfl,
    hself (·.losses) fun _ _ _ _ => rfl, fun hclk hgood => (hport (·.clkSrc) (fun _ _ _ _ => rfl) (rportOther p)).trans ?_⟩
  rw [Dev.leavesUp_port_other]
  exact Dev.moveClock_clkSrc_other _ p (by rw [Dev.port_modPort_self]; exact hclk) (by rw [Dev.port_modPort_other]; exact hgood)

/-- A clause of O39: a port whose peer names the same port for 10 ms is reported (R249, R252). -/
theorem miswireTimeout_reports {n : Nat} (hn : ((s.dev d).port p).miswiredAt = some n) (hm : ((s.dev d).port p).miswired = false)
    (hs : s.alone = false) : answers (.miswireTimeout d p) s fun t =>
      deviceBecomes s t d (((s.dev d).modPort p fun q => { q with miswired := true }).ringLink true 3 p) (n + 10000000) := by
  have hms : ms 10 = 10000000 := by simp [ms]
  have e : exec (.miswireTimeout d p) s = onS s d fun s => (s.until (n + ms 10)).modDev d fun x =>
      (x.modPort p fun q => { q with miswired := true }).ringLink true 3 p :=
    (show _ = execMiswireTimeout d p s from rfl).trans (onS_congr (by simp only [hn, hm, hs, Bool.false_eq_true, or_self, if_false]))
  rw [← hms]
  exact answers_becomes_at e ha rfl rfl

/-- A clause of O39: a rolling second ends with its missed periods, of which 64 in a port that was UP throughout degrade the link
(R252, R253). -/
theorem linkDegraded_counts (missed : Nat) : answers (.linkDegraded d p missed) s fun t =>
    (t.dev d).port p = { (s.dev d).port p with
      missed := missed, kerr := ((s.dev d).port p).kerrRun, kerrRun := 0
      upAll := decide (((s.dev d).port p).st = .up)
      degraded := decide (64 ≤ missed) && decide (((s.dev d).port p).st = .up) && ((s.dev d).port p).upAll && !s.alone } ∧
    (t.dev d).port (rportOther p) = (s.dev d).port (rportOther p) ∧ othersKept s t d := by
  refine answers_mono (answers_becomes_now (g := (·.endsSecond p missed (decide (64 ≤ missed)
    && decide (((s.dev d).port p).st = .up) && ((s.dev d).port p).upAll && !s.alone) ((s.dev d).port p).degraded))
    (show _ = execLinkDegraded d p missed s from rfl) ha rfl rfl) fun t ht => ⟨?_, ?_, ht.2.1⟩
  · rw [Dev.port_of_body ht.1, Dev.endsSecond_port, Dev.port_modPort_self]
  · rw [Dev.port_of_body ht.1, Dev.endsSecond_port, Dev.port_modPort_other]

end

/-- Settles O39: an idle set counted, a receiver lost in ACQUIRE and in UP, a miswired port, and a rolling second. -/
theorem linksAreWatched : Obligations.LinksAreWatched := fun _ _ _ ha =>
  ⟨fun _ _ => idleSet_counts ha, rxLoss_acquiring ha, rxLoss_leaves ha, fun _ => miswireTimeout_reports ha, linkDegraded_counts ha⟩

end Sys2Proof.Machine
end

section
/-!
SUPPORT. The end of a Traverse pass (R278, R281 to R284): what TRAVERSE_PASS_END makes of the state in each of its cases, what
every case has in common, and the room that an ADOPT finds in a sweep; with them O44.
-/

namespace Sys2Proof.Machine

/-! ### An ADOPT that finds no other frame waiting (R266, R283) -/

/-- A single waiting frame that fits into the room of the sweep leaves. -/
theorem fitDown_single {room : Nat} {f : Frame} (h : frameNs f / 32 ≤ room) : fitDown room [f] = ([f], []) := by
  simp only [fitDown, if_pos h]

/-- An ADOPT payload names all 32 positions, so that its length is fixed. -/
theorem payloadBytes_adopt_length (a : AdoptMsg) : (payloadBytes (.adopt a)).length = 136 := by
  simp [payloadBytes, leBytes_length, List.length_flatMap]

namespace State

variable (s : State)

/-- The ADOPT of the head with the next SEQ (R264, R283). -/
def adoptFrame (a : AdoptMsg) : Frame := mkFrame 0xFF 0 (if s.trv.n = 0 then 31 else s.trv.n - 1) s.swp.seq (.adopt a)

theorem adoptFrame_ns (a : AdoptMsg) : frameNs (s.adoptFrame a) / 32 = 152 := by
  have h : (s.adoptFrame a).lenField = 136 := payloadBytes_adopt_length a
  rw [frameNs, h]

/-- The head's state once an ADOPT is numbered and waits (R260, R266). -/
def adoptQueued (a : AdoptMsg) : State :=
  { s with swp := { s.swp with seq := (s.swp.seq + 1) % 65536, downWait := queueDown (s.adoptFrame a) s.swp.downWait } }

theorem downFrame_adopt (a : AdoptMsg) (h : s.ringHead = true) : s.downFrame 0xFF (.adopt a) = (s.adoptQueued a).drainDown := by
  have hrank : ¬ downRank (s.adoptFrame a) ≤ 2 := by
    rw [show downRank (s.adoptFrame a) = 3 from rfl]
    omega
  unfold downFrame
  rw [if_pos h]
  exact if_neg hrank

/-- Of the waiting frames those stay that do not fit into this sweep (R266). -/
theorem drainDown_downWait (h : s.ringHead = true) :
    s.drainDown.swp.downWait = (fitDown (s.downBudget - s.swp.downUsed) s.swp.downWait).2 := by
  unfold drainDown
  rw [if_pos h]
  exact congrArg SweepSt.downWait (foldl_keep State.swp (fun s f => s.sendDown f) (fun _ _ => rfl) _ _)

/-- An ADOPT that finds nothing waiting and nothing sent leaves in its sweep, however short the sweep. -/
theorem downFrame_adopt_leaves (a : AdoptMsg) (hw : s.swp.downWait = []) (hu : s.swp.downUsed = 0) :
    (s.downFrame 0xFF (.adopt a)).swp.downWait = [] := by
  by_cases h : s.ringHead = true
  · have hr : (s.adoptQueued a).ringHead = true := h
    have hq : (s.adoptQueued a).swp.downWait = [s.adoptFrame a] := by simp only [adoptQueued, hw, queueDown]
    have hroom : frameNs (s.adoptFrame a) / 32 ≤ (s.adoptQueued a).downBudget - (s.adoptQueued a).swp.downUsed := by
      rw [show (s.adoptQueued a).swp.downUsed = 0 from hu, adoptFrame_ns]
      exact (by omega : 152 ≤ 320).trans (downBudget_le _)
    rw [downFrame_adopt s a h, drainDown_downWait _ hr, hq, fitDown_single hroom]
  · unfold downFrame
    rw [if_neg h, hw]

/-! ### A Traverse settles -/

/-- A Traverse ends with the adoption `a` of the pass `cur` decided (R283). -/
def endSettled (a : AdoptMsg) (cur : PassResult) : State :=
  { s with trv := { s.trv with adopting := some (a, cur) } }.traverseEnd 0 false

/-- A Traverse that settles (R282, R283) changes the frames that wait and the head's S-die, which holds the adoption, with s_a two
sweeps on or three, and two where nothing else has to leave (R266). -/
theorem settle_form (cur : PassResult) : ∃ (x : SweepSt) (g : Dev → Dev) (a : AdoptMsg),
    s.settle cur = ({ s with swp := x }.modDev 0 g).endSettled a cur ∧
      (∀ d, (g d).adoptMsg = some a) ∧ a.trav = s.trv.trav ∧ a.n = cur.n ∧ (a.sa = s.sweep + 2 ∨ a.sa = s.sweep + 3) ∧
      (s.swp.downWait = [] → s.swp.downUsed = 0 → a.sa = s.sweep + 2) := by
  unfold settle
  extract_lets ids adopt send sa u
  obtain ⟨x, g, hx, -, -, -⟩ := s.downFrame_form 0xFF (.adopt (adopt (sa % 2 ^ 32)))
  have hu : u = { s with swp := x }.modDev 0 fun d => { g d with adoptMsg := some (adopt sa) } :=
    (congrArg (·.modDev 0 fun d => { d with adoptMsg := some (adopt sa) }) hx).trans (modDev_modDev _ 0 _ _)
  refine ⟨x, _, adopt sa, congrArg (·.endSettled (adopt sa) cur) hu, fun _ => rfl, rfl, rfl, ?_, fun hw hu => ?_⟩
  · exact (ite_eq_or_eq _ _ _).symm
  · exact if_neg (by simp [adoptWaits, send, downFrame_adopt_leaves s _ hw hu])

/-! ### The cases of TRAVERSE_PASS_END -/

/-- Every token that was sent in the pass has returned (R278). -/
def passWhole : Bool := (!s.trv.sentE || s.trv.backE.isSome) && (!s.trv.sentW || s.trv.backW.isSome)

/-- The instant of the end of the running pass has come: at once, or after 20 ms (R278). -/
def atPassEnd : State := if s.passWhole then s else s.until (s.trv.passAt + ms 20)

/-- The result with which the running pass ends (R281). -/
def endedPass : PassResult := { s.atPassEnd.passResult with valid := s.atPassEnd.passResult.valid && s.passWhole }

/-- The running pass has ended, and its result is kept (R282). -/
def closePass : State := { s.atPassEnd with trv := { s.trv with passOpen := false, prev := some s.endedPass } }

/-- A pass that does not settle the Traverse is counted (R282). -/
def countRetry : State := { s with trv := { s.trv with retries := s.trv.retries + 1 } }

/-- A Traverse ends and an occurrence of RING_POS says why (R284). -/
def endFailed (k sub : Nat) (retry : Bool) : State := (s.traverseEnd k retry).raiseOpenEv 0x0B sub 0 (openDetail 0x0B sub 0)

/-- Waiting for the end of a pass does not change its result. -/
theorem endedPass_eq : s.endedPass = { s.passResult with valid := s.passResult.valid && s.passWhole } := by
  have h : s.atPassEnd.passResult = s.passResult := by
    unfold atPassEnd
    split <;> rfl
  rw [endedPass, h]

end State

/-- A pass of more devices than a combination holds (R281, R284). -/
def PassResult.tooMany (x : PassResult) : Prop := x.ovl = true ∨ x.valid = true ∧ 32 < x.n

/-- Two passes in a row that settle the Traverse (R282). -/
def PassResult.settles (x y : PassResult) : Prop := x.valid = true ∧ y.valid = true ∧ x.same y = true

/-- What the end of a pass makes of the Traverse: too many devices, a first result, two that settle it, the eighth retry, or a
retry before it (R281, R282, R284). -/
inductive PassOutcome (s : State) : State → Prop
  | tooMany (h : s.endedPass.tooMany) : PassOutcome s (s.closePass.endFailed 3 3 false)
  | first (h : ¬ s.endedPass.tooMany) (hp : s.trv.prev = none) : PassOutcome s s.closePass
  | settles {prev : PassResult} (h : ¬ s.endedPass.tooMany) (hp : s.trv.prev = some prev) (hs : prev.settles s.endedPass) :
      PassOutcome s (s.closePass.settle s.endedPass)
  | unsettled {prev : PassResult} (h : ¬ s.endedPass.tooMany) (hp : s.trv.prev = some prev) (hs : ¬ prev.settles s.endedPass)
      (hr : s.trv.retries = 7) : PassOutcome s (s.closePass.countRetry.endFailed 1 2 true)
  | retries {prev : PassResult} (h : ¬ s.endedPass.tooMany) (hp : s.trv.prev = some prev) (hs : ¬ prev.settles s.endedPass)
      (hr : s.trv.retries ≠ 7) : PassOutcome s s.closePass.countRetry

/-- All that TRAVERSE_PASS_END can do with an open pass. -/
theorem traversePassEnd_outcome {s : State} (hc : s.coreUp) (hop : s.trv.passOpen = true) :
    ∃ y, exec .traversePassEnd s = done s y ∧ PassOutcome s y := by
  have e : exec .traversePassEnd s = _ := (show _ = execTraversePassEnd s from rfl).trans (onCore_up hc)
  have hclosed : ¬ s.trv.passOpen = false := by simp [hop]
  by_cases h : s.endedPass.tooMany
  · exact ⟨_, e.trans (congrArg (done s) ((if_neg hclosed).trans (if_pos h))), .tooMany h⟩
  have e' := e.trans (congrArg (done s) ((if_neg hclosed).trans (if_neg h)))
  cases hp : s.trv.prev with
  | none => exact ⟨_, e'.trans (by rw [hp]; rfl), .first h hp⟩
  | some prev =>
    rw [hp] at e'
    by_cases hs : prev.settles s.endedPass
    · exact ⟨_, e'.trans (congrArg (done s) (if_pos hs)), .settles h hp hs⟩
    have e' := e'.trans (congrArg (done s) (if_neg hs))
    by_cases hr : s.trv.retries = 7
    · exact ⟨_, e'.trans (congrArg (done s) (if_pos (by rw [hr]))), .unsettled h hp hs hr⟩
    · exact ⟨_, e'.trans (congrArg (done s) (if_neg (by omega))), .retries h hp hs hr⟩

/-! ### What every case has in common -/

/-- The pass has ended and its result is kept; of the devices the head's S-die alone may have changed. -/
structure PassEnded (s y : State) : Prop where
  passOpen : y.trv.passOpen = false
  prev : y.trv.prev = some s.endedPass
  now : y.now = s.atPassEnd.now
  others : othersKept s y 0
  kept : kept (.traverse :: .devices :: .sweep :: faultParts) s y

namespace State

variable (s : State)

theorem atPassEnd_eq : s.atPassEnd = s.until s.atPassEnd.now := by
  unfold atPassEnd
  split
  · rw [until_now_self]
  · simp [State.until]

theorem closePass_swp : s.closePass.swp = s.swp := by
  unfold closePass
  rw [atPassEnd_eq]
  rfl

theorem closePass_sweep : s.closePass.sweep = s.sweep := congrArg (·.count.getD 0) s.closePass_swp

/-- The instant at which the pass has ended, where time does not run back (R278). -/
theorem atPassEnd_instant :
    max s.now s.atPassEnd.now = if s.passWhole then s.now else max s.now (s.trv.passAt + 20000000) := by
  unfold atPassEnd
  split
  · exact max_self _
  · exact max_eq_right (le_max_left _ _)

theorem closePass_dev (e : Nat) : s.closePass.dev e = s.dev e := by
  unfold closePass
  rw [atPassEnd_eq]
  rfl

end State

theorem passEnded_closePass (s : State) : PassEnded s s.closePass where
  passOpen := rfl
  prev := rfl
  now := rfl
  others := fun e _ => by rw [State.closePass_dev]
  kept := by
    have h := kept_trans (kept_until s s.atPassEnd.now) (kept_traverse _ s.closePass.trv)
    rw [← State.atPassEnd_eq] at h
    exact State.kept_mono h (by simp)

namespace PassEnded

variable {s u : State} (h : PassEnded s u)
include h

/-- The Traverse may end with the pass. -/
theorem traverseEnd (k : Nat) (retry : Bool) : PassEnded s (u.traverseEnd k retry) where
  passOpen := rfl
  prev := h.prev
  now := h.now
  others := h.others
  kept := kept_chain h.kept (State.kept_mono (kept_trans (kept_traverse u _) (kept_event _ Ev.trav)) (by simp [faultParts]))

theorem countRetry : PassEnded s u.countRetry where
  passOpen := h.passOpen
  prev := h.prev
  now := h.now
  others := h.others
  kept := kept_chain h.kept (State.kept_mono (kept_traverse u _) (by simp))

theorem endFailed (k sub : Nat) (retry : Bool) : PassEnded s (u.endFailed k sub retry) := by
  have he := h.traverseEnd k retry
  have hb : (u.endFailed k sub retry).bare = (u.traverseEnd k retry).bare := State.raiseOpenEv_bare _ _ _ _ _
  have ht := State.trv_of_bare hb
  exact {
    passOpen := by rw [ht, he.passOpen]
    prev := by rw [ht, he.prev]
    now := (State.raiseOpenAt_now _ _ _ _).trans he.now
    others := fun e hne => (State.body_of_bare hb e).trans (he.others e hne)
    kept := kept_chain he.kept (State.kept_mono (State.kept_of_bare hb) (by simp [faultParts])) }

/-- Frames that wait and the head's S-die change. -/
theorem sent (x : SweepSt) (g : Dev → Dev) : PassEnded s ({ u with swp := x }.modDev 0 g) where
  passOpen := h.passOpen
  prev := h.prev
  now := h.now
  others := fun e hne => (congrArg Dev.body (State.dev_modDev_other { u with swp := x } 0 e g hne)).trans (h.others e hne)
  kept := kept_chain h.kept (State.kept_mono (State.kept_sent u x g) (by simp))

theorem endSettled (a : AdoptMsg) (cur : PassResult) : PassEnded s (u.endSettled a cur) :=
  traverseEnd (u := { u with trv := { u.trv with adopting := some (a, cur) } })
    { h with kept := kept_chain h.kept (State.kept_mono (kept_traverse u _) (by simp)) } 0 false

theorem settle (cur : PassResult) : PassEnded s (u.settle cur) := by
  obtain ⟨x, g, a, e, -⟩ := u.settle_form cur
  rw [e]
  exact (h.sent x g).endSettled a cur

end PassEnded

/-- Every case of TRAVERSE_PASS_END ends the pass and keeps its result. -/
theorem PassOutcome.passEnded {s y : State} (h : PassOutcome s y) : PassEnded s y := by
  have hu := passEnded_closePass s
  cases h with
  | tooMany => exact hu.endFailed 3 3 false
  | first => exact hu
  | settles => exact hu.settle _
  | unsettled => exact hu.countRetry.endFailed 1 2 true
  | retries => exact hu.countRetry

/-- A Traverse that fails is over, with its RESULT, and the cause is present (R284, R392). -/
theorem State.endFailed_ends (s : State) (k sub : Nat) (retry : Bool) :
    (s.endFailed k sub retry).trv = (s.traverseEnd k retry).trv ∧
      (s.endFailed k sub retry).hasCause ⟨0x0B, sub, 0, openDetail 0x0B sub 0⟩ = true :=
  ⟨State.trv_of_bare (State.raiseOpenEv_bare _ _ _ _ _), State.raiseOpenAt_hasCause _ _ _ _⟩

/-- A Traverse that settles is over, and its adoption is decided and held by the head's S-die (R282, R283). -/
theorem State.settle_adopts {s : State} (hl : 0 < s.devs.length) (cur : PassResult) :
    (s.settle cur).trv.running = false ∧ (s.settle cur).trv.result = 0 ∧
      ∃ a, (s.settle cur).trv.adopting = some (a, cur) ∧ ((s.settle cur).dev 0).adoptMsg = some a ∧ a.trav = s.trv.trav ∧
        a.n = cur.n ∧ (a.sa = s.sweep + 2 ∨ a.sa = s.sweep + 3) ∧
        (s.swp.downWait = [] → s.swp.downUsed = 0 → a.sa = s.sweep + 2) := by
  obtain ⟨x, g, a, e, hg, hform⟩ := s.settle_form cur
  rw [e]
  refine ⟨rfl, rfl, a, rfl, ?_, hform⟩
  exact (congrArg Dev.adoptMsg (State.dev_modDev_self { s with swp := x } 0 g hl)).trans (hg _)

/-! ### The statement -/

/-- Settles O44: what every case has in common, then each case of TRAVERSE_PASS_END. -/
theorem traversePassesEnd : Obligations.TraversePassesEnd := by
  intro s whole cur hc ha hop hw hcur
  subst hw
  obtain rfl : cur = s.endedPass := hcur.trans s.endedPass_eq.symm
  obtain ⟨y, e, hy⟩ := traversePassEnd_outcome hc hop
  have hp := hy.passEnded
  have hl : 0 < s.closePass.devs.length := State.lt_of_awake _ 0 (by rw [State.closePass_dev]; exact ha)
  have hmsg : ((s.finish y).dev 0).adoptMsg = (y.dev 0).adoptMsg := Dev.adoptMsg_of_body (s.finish_body y 0)
  refine answers_done e ?_
  rw [State.finish_trv, hmsg, State.finish_hasCause, State.finish_hasCause]
  refine ⟨hp.passOpen, hp.prev, fun k hk => (s.finish_body y k).trans (hp.others k hk), ?_,
    State.kept_mono (kept_finish hp.kept) (by simp [tripParts, faultParts]), ?_⟩
  · rw [State.finish_now, hp.now]
    exact s.atPassEnd_instant
  cases hy with
  | tooMany h =>
    obtain ⟨htrv, hcause⟩ := s.closePass.endFailed_ends 3 3 false
    rw [htrv]
    exact ⟨fun _ => ⟨rfl, rfl, hcause⟩, fun hn => absurd h hn, fun _ hn => absurd h hn⟩
  | first h hnone =>
    exact ⟨fun hm => absurd hm h, fun _ _ => rfl, fun _ _ hsome => nomatch hnone.symm.trans hsome⟩
  | settles h hprev hs =>
    rw [hprev]
    refine ⟨fun hm => absurd hm h, fun _ => nofun, ?_⟩
    rintro _ - ⟨⟩
    refine ⟨fun _ => ?_, fun hn => absurd hs hn⟩
    have hadopt := State.settle_adopts hl s.endedPass
    rw [s.closePass_swp, s.closePass_sweep] at hadopt
    exact hadopt
  | unsettled h hprev hs hr =>
    obtain ⟨htrv, hcause⟩ := s.closePass.countRetry.endFailed_ends 1 2 true
    rw [hprev]
    refine ⟨fun hm => absurd hm h, fun _ => nofun, ?_⟩
    rintro _ - ⟨⟩
    rw [htrv]
    exact ⟨fun h => absurd h hs, fun _ => ⟨rfl, fun _ => ⟨rfl, rfl, hcause⟩, fun hn => absurd hr hn⟩⟩
  | retries h hprev hs hr =>
    rw [hprev]
    refine ⟨fun hm => absurd hm h, fun _ => nofun, ?_⟩
    rintro _ - ⟨⟩
    exact ⟨fun h => absurd h hs, fun _ => ⟨rfl, fun h => absurd h hr, fun _ => rfl⟩⟩

end Sys2Proof.Machine
end

section
/-!
SUPPORT. What a step does, whatever the command (R434; log 1, log 51): O1, O2 and O3.
-/

namespace Sys2Proof.Machine

/-- Settles O1: `step` matches on the queue, whose front is `c`. -/
theorem stepRunsTheFrontCommand : Obligations.StepRunsTheFrontCommand := fun _ _ _ => rfl

/-- On an empty queue a step lets time pass. -/
theorem step_idle {s : State} (h : s.pending = []) : step s = .next s.tick := by
  unfold step
  rw [h]

/-- Settles O2: every command ends with `done`, which gives the queue back and lets time stand or pass. -/
theorem everyStepAnswers : Obligations.EveryStepAnswers := by
  refine ⟨fun c s => ?_, fun s h => step_idle h⟩
  obtain ⟨x, hx⟩ := exec_done c s
  refine ⟨s.finish x, hx, s.finish_pending x, ?_⟩
  rw [State.finish_now]
  exact Nat.le_max_left _ _

/-- Whatever the command, the trip path is at rest after it where the C-die runs (R353, R354). -/
theorem exec_atRest {c : Instr} {s t : State} (h : exec c s = .next t) (hr : t.pw.running = true) : t.atRest := by
  obtain ⟨x, hx⟩ := exec_done c s
  obtain rfl : s.finish x = t := Host.Outcome.next.inj (hx.symm.trans h)
  exact s.finish_atRest x (by rwa [State.finish_pw] at hr)

/-- Settles O3: a command ends with the trip path at rest, and time alone moves nothing that it reads. -/
theorem tripPathFollowsItsSources : Obligations.TripPathFollowsItsSources := by
  intro s t hs ht hr
  cases hp : s.pending with
  | nil =>
    obtain rfl : s.tick = t := Host.Outcome.next.inj ((step_idle hp).symm.trans ht)
    exact hs hr
  | cons c rest =>
    unfold step at ht
    rw [hp] at ht
    exact exec_atRest ht hr

end Sys2Proof.Machine
end


section
/-!
SUPPORT. The commands that land a setting or answer what they read (R441 to R443, R452 to R454, R458, R460, R464, R467): O7, O8, O9,
O11, O19 and O20.
-/

namespace Sys2Proof.Machine

/-! ### What taking the message leaves -/

namespace State

variable (s : State) (h : HostId) (pair : Nat)

@[simp] theorem takeMsg_traverseResult : (s.takeMsg h pair).traverseResult = s.traverseResult :=
  s.takeMsg_read State.traverseResult h pair fun _ _ _ _ => by cases h <;> rfl

@[simp] theorem takeMsg_atlasGet : (s.takeMsg h pair).atlasGet = s.atlasGet :=
  s.takeMsg_read State.atlasGet h pair fun _ _ _ _ => by cases h <;> rfl

@[simp] theorem takeMsg_chassisRec : (s.takeMsg h pair).chassisRec = s.chassisRec :=
  s.takeMsg_read State.chassisRec h pair fun _ _ _ _ => by cases h <;> rfl

@[simp] theorem takeMsg_identity : (s.takeMsg h pair).identity = s.identity :=
  s.takeMsg_read State.identity h pair fun _ _ _ _ => by cases h <;> rfl

@[simp] theorem takeMsg_latchesResult : (s.takeMsg h pair).latchesResult = s.latchesResult :=
  s.takeMsg_read State.latchesResult h pair fun _ _ _ _ => by cases h <;> rfl

@[simp] theorem takeMsg_detectorBytes : (s.takeMsg h pair).detectorBytes = s.detectorBytes :=
  s.takeMsg_read State.detectorBytes h pair fun _ _ _ _ => by cases h <;> rfl

@[simp] theorem takeMsg_inputsResult : (s.takeMsg h pair).inputsResult = s.inputsResult :=
  s.takeMsg_read State.inputsResult h pair fun _ _ _ _ => by cases h <;> rfl

@[simp] theorem takeMsg_dormantFit : (s.takeMsg h pair).dormantFit = s.dormantFit :=
  s.takeMsg_read State.dormantFit h pair fun _ _ _ _ => by cases h <;> rfl

@[simp] theorem takeMsg_pendingFields : (s.takeMsg h pair).pendingFields = s.pendingFields :=
  s.takeMsg_read State.pendingFields h pair fun _ _ _ _ => by cases h <;> rfl

@[simp] theorem takeMsg_loadOf : (s.takeMsg h pair).loadOf = s.loadOf :=
  s.takeMsg_read State.loadOf h pair fun _ _ _ _ => by cases h <;> rfl

@[simp] theorem takeMsg_quotaNow : (s.takeMsg h pair).quotaNow = s.quotaNow :=
  s.takeMsg_read State.quotaNow h pair fun _ _ _ _ => by cases h <;> rfl

@[simp] theorem takeMsg_loopRefusal : (s.takeMsg h pair).loopRefusal = s.loopRefusal :=
  s.takeMsg_read State.loopRefusal h pair fun _ _ _ _ => by cases h <;> rfl

@[simp] theorem takeMsg_modeRefusal : (s.takeMsg h pair).modeRefusal = s.modeRefusal :=
  s.takeMsg_read State.modeRefusal h pair fun _ _ _ _ => by cases h <;> rfl

@[simp] theorem takeMsg_modeResult : (s.takeMsg h pair).modeResult = s.modeResult :=
  s.takeMsg_read State.modeResult h pair fun _ _ _ _ => by cases h <;> rfl

@[simp] theorem takeMsg_tuneRefusal : (s.takeMsg h pair).tuneRefusal = s.tuneRefusal :=
  s.takeMsg_read State.tuneRefusal h pair fun _ _ _ _ => by cases h <;> rfl

end State

/-! ### Settings that land, refusals -/

section
variable {s : State} {h : HostId} {pair code : Nat} {body : List Byte} {guard : Req → Option Guard} {g : Guard}
  {act : Req → State → State} (T : Taken s h pair code body) (hg : guard (request h pair code body) = some g)
  (hfit : g.fits = true) (hmay : s.may h g.sem g.level)
include T hg hfit hmay

/-- A command that is one setting, for which the commit record has room, lands it (R64, R67, R437). -/
theorem serve_settles {x : Landed} {more : List Byte}
    (hact : act (request h pair code body) (s.takeMsg h pair) = (s.takeMsg h pair).settle' (request h pair code body) x more)
    (hroom : s.commitFull x = false) :
    ∃ t, serve s h pair code guard act = .next t ∧ lands s t (request h pair code body) x more := by
  refine serve_lands T hg hfit hmay (hact.trans ?_)
  simp only [State.settle', State.takeMsg_commitFull, hroom, State.takeMsg_effect]
  rfl

/-- A command that is one change set, for which the commit record has room, lands it (R67, R437, R473). -/
theorem serve_settlesChange {fs : SMap Nat} {more : List Byte}
    (hact : act (request h pair code body) (s.takeMsg h pair)
      = (s.takeMsg h pair).settleChange (request h pair code body) fs more)
    (hroom : s.commitFull (.legend ⟨fs, 0, 0, 0, false, []⟩) = false) :
    ∃ t, serve s h pair code guard act = .next t ∧ changesLegend s t (request h pair code body) fs more := by
  refine serve_changes T hg hfit hmay (hact.trans ?_)
  simp only [State.settleChange, State.takeMsg_commitFull, hroom, State.takeMsg_effect, request, State.takeMsg_level]
  rfl

/-- A command that is denied answers the STATUS and DETAIL, and changes nothing else (R439). -/
theorem serve_refuses {st idx : Nat}
    (hact : act (request h pair code body) (s.takeMsg h pair)
      = (s.takeMsg h pair).deny (request h pair code body) st idx 0) :
    ∃ t, serve s h pair code guard act = .next t ∧ refused s t (request h pair code body) st idx := by
  obtain ⟨t, ht, hserved, hkept⟩ := serve_reads T hg hfit hmay hact
  exact ⟨t, ht, hserved, hkept⟩

end

section
variable {s : State} {h : HostId} {pair : Nat} {body : List Byte}

/-! ### TRAVERSE (R441) -/

/-- Settles O7: a start lands through the commit record, and a result is read. -/
theorem traverseAnswers : Obligations.TraverseAnswers := by
  refine fun s h pair body T hlen => ⟨fun hstart hmay hroom => ?_, fun hresult => ?_⟩
  · refine serve_settles (guard := guardTraverse) (act := doTraverse) (g := ⟨true, some Sem.ring, 1⟩) T ?_ rfl hmay ?_ hroom
    · simp only [guardTraverse, Req.get, Req.len, request, hstart, hlen, decide_true]
    · exact if_pos hstart
  · refine serve_reads (guard := guardTraverse) (act := doTraverse) (g := ⟨true, none, 0⟩) T ?_ rfl ⟨rfl, Nat.zero_le _⟩ ?_
    · simp only [guardTraverse, Req.get, Req.len, request, hresult, hlen, decide_true]
    · simp only [doTraverse, Req.get, request, hresult, State.takeMsg_traverseResult]
      rfl

/-! ### DORMANT (R467) -/

/-- Settles O11: the key is judged first, then the entry conditions, and then the order lands. -/
theorem dormantLands : Obligations.DormantLands := by
  intro s h pair body T hlen hmay
  have hguard : guardDormant (request h pair 0x0308 body) = some ⟨true, some Sem.power, 1⟩ := by
    simp only [guardDormant, Req.len, request, hlen, decide_true]
  refine ⟨fun hkey hfit hroom => ?_, fun hkey => ?_, fun hkey hfit => ?_⟩
  · obtain ⟨t, ht, hlands⟩ := serve_settles (act := doDormant) T hguard rfl hmay (x := .dormant) (more := [])
      (by simp [doDormant, Req.get, request, hkey, hfit]) hroom
    exact ⟨t, ht, hlands, by simp [reply, leBytes_length]⟩
  · exact serve_refuses (act := doDormant) T hguard rfl hmay (if_pos hkey)
  · exact serve_refuses (act := doDormant) T hguard rfl hmay (by simp [doDormant, Req.get, request, hkey, hfit])

/-! ### The commands that only read (R443, R458, R460, R464) -/

/-- A page read within the page and the response answers the sweep and its entries (R443). -/
theorem pageRead_answers {r : Req} {size most : Nat} {entry : Nat → Entry} (h1 : 1 ≤ r.get 4 2) (hmost : r.get 4 2 ≤ most)
    (hsize : r.get 2 2 + r.get 4 2 ≤ size) : pageRead r size most entry s = s.answer r
      (leBytes 4 s.sweep ++ (List.range (r.get 4 2)).flatMap fun i => entryBytes (entry (r.get 2 2 + i))) := by
  unfold pageRead
  dsimp only
  rw [if_neg (by omega)]

/-- Clauses of O8: ATLAS_READ and CHASSIS_READ (R443). -/
theorem pageReads_answer (hlen : body.length = 6) (h1 : 1 ≤ field body 4 2) :
    (Taken s h pair 0x0103 body → field body 4 2 ≤ 255 → field body 2 2 + field body 4 2 ≤ 6144 →
      answers (.atlasRead h pair) s fun t => readsOut s t (request h pair 0x0103 body)
        (leBytes 4 s.sweep ++ (List.range (field body 4 2)).flatMap fun i => entryBytes (s.atlasGet (field body 2 2 + i)))) ∧
    (Taken s h pair 0x0104 body → field body 4 2 ≤ 128 → field body 2 2 + field body 4 2 ≤ 128 →
      answers (.chassisRead h pair) s fun t => readsOut s t (request h pair 0x0104 body)
        (leBytes 4 s.sweep ++ (List.range (field body 4 2)).flatMap fun i =>
          entryBytes (s.chassisRec (field body 2 2 + i)).entry)) := by
  have hguard (code : Nat) : guardPageRead (request h pair code body) = some ⟨true, none, 0⟩ := by
    simp only [guardPageRead, Req.len, request, hlen, decide_true]
  refine ⟨fun T hmost hsize => ?_, fun T hmost hsize => ?_⟩
  · refine serve_reads (act := fun r s => pageRead r 6144 255 s.atlasGet s) T (hguard _) rfl ⟨rfl, Nat.zero_le _⟩
      ((pageRead_answers (r := request h pair _ body) h1 hmost hsize).trans ?_)
    rw [State.takeMsg_sweep, State.takeMsg_atlasGet]
    rfl
  · refine serve_reads (act := fun r s => pageRead r 128 128 (fun i => (s.chassisRec i).entry) s) T (hguard _) rfl
      ⟨rfl, Nat.zero_le _⟩ ((pageRead_answers (r := request h pair _ body) h1 hmost hsize).trans ?_)
    rw [State.takeMsg_sweep, State.takeMsg_chassisRec]
    rfl

/-- A clause of O8: LOG_READ of the log that the request names (R464). -/
theorem logRead_answers (T : Taken s h pair 0x0305 body) (hlen : body.length = 10) {res : List Byte}
    (hdo : doLogRead (request h pair 0x0305 body) (s.takeMsg h pair) = (s.takeMsg h pair).answer (request h pair 0x0305 body) res) :
    answers (.logRead h pair) s fun t => readsOut s t (request h pair 0x0305 body) res :=
  serve_reads (guard := guardLogRead) (act := doLogRead) (g := ⟨true, none, 0⟩) T
    (by simp only [guardLogRead, Req.len, request, hlen, decide_true]) rfl ⟨rfl, Nat.zero_le _⟩ hdo

/-- A clause of O8: FAULT_READ of what the request names (R458). -/
theorem faultRead_answers (T : Taken s h pair 0x0206 body) (hlen : body.length = 8) (hop : field body 2 1 < 3) {res : List Byte}
    (hdo : doFaultRead (request h pair 0x0206 body) (s.takeMsg h pair)
      = (s.takeMsg h pair).answer (request h pair 0x0206 body) res) :
    answers (.faultRead h pair) s fun t => readsOut s t (request h pair 0x0206 body) res :=
  serve_reads (guard := guardFaultRead) (act := doFaultRead) (g := ⟨true, none, 0⟩) T
    (by simp only [guardFaultRead, Req.get, Req.len, request, hop, hlen, decide_true, if_true]) rfl ⟨rfl, Nat.zero_le _⟩ hdo

end

/-- Settles O8: each command answers what it reads once its operands are within their bounds. -/
theorem readsAnswer : Obligations.ReadsAnswer := by
  refine ⟨fun s h pair body hlen h1 => pageReads_answer hlen h1, fun s h pair body => ⟨fun T hlen => ?_, ?_, ?_⟩,
    fun s h pair body T hlen => ⟨fun hop => ?_, fun hop hlo hhi hpos => ?_, fun hop => ?_⟩⟩
  · refine serve_reads (guard := guardIdentify) (act := fun r s => s.answer r s.identity) (g := ⟨true, none, 0⟩) T ?_ rfl ⟨rfl, Nat.zero_le _⟩ ?_
    · simp only [guardIdentify, Req.len, request, hlen, decide_true]
    · rw [State.takeMsg_identity]
      rfl
  · exact fun T hlen hop hlo hhi => logRead_answers T hlen (by simp [doLogRead, Req.get, request, hop, hlo, hhi])
  · exact fun T hlen hop hlo hhi => logRead_answers T hlen (by simp [doLogRead, Req.get, request, hop, hlo, hhi])
  · exact faultRead_answers T hlen (by omega) (by simp [doFaultRead, Req.get, request, hop])
  · have hclass : ¬ (field body 3 1 = 0 ∨ 31 < field body 3 1) := by omega
    have hheld : ¬ (field body 4 1 ≠ 0 ∧ s.posStatus (field body 4 1) ≠ 0) := by tauto
    refine faultRead_answers T hlen (by omega) ?_
    simp only [doFaultRead, Req.get, request, hop, hclass, State.takeMsg_posStatus, hheld, State.takeMsg_detectorBytes, if_false]
  · exact faultRead_answers T hlen (by omega) (by simp [doFaultRead, Req.get, request, hop])

/-! ### WINDOW_SET (R442) -/

/-- Settles O9: the three ways to name positions give the fields, which land as one change set. -/
theorem windowSetLands : Obligations.WindowSetLands := by
  intro s h pair body ps fs T hlen hmay hw hnamed hfs hroom
  refine serve_settlesChange (guard := guardWindowSet) (act := doWindowSet) (g := ⟨true, some Sem.legend, 1⟩) T ?_ rfl hmay ?_ hroom
  · simp only [guardWindowSet, Req.len, request, hlen, decide_true]
  have hgroup : ¬ (field body 4 2 = 0 ∨ ¬ (field body 3 1 < 9 ∨ (16 ≤ field body 3 1 ∧ field body 3 1 < 24))) := by omega
  have hheld : ¬ (field body 3 1 < 9 ∧ field body 2 1 ≠ 0xFF ∧ s.posStatus (field body 2 1) ≠ 0) := by
    rintro ⟨hg, hp, hst⟩
    obtain ⟨hlo, -⟩ | ⟨-, hall, -⟩ | ⟨-, -, hok, -⟩ := hnamed
    · omega
    · exact hp hall
    · exact hst hok
  have hps : (if 16 ≤ field body 3 1 then [0] else if field body 2 1 = 0xFF then List.range s.trv.n else [field body 2 1]) = ps := by
    obtain ⟨hlo, -, rfl⟩ | ⟨hlt, hall, rfl⟩ | ⟨hlt, hone, -, rfl⟩ := hnamed
    · exact if_pos hlo
    · rw [if_neg (by omega), if_pos hall]
    · rw [if_neg (by omega), if_neg hone]
  unfold doWindowSet
  simp only [Req.get, request, hgroup, if_false, State.takeMsg_posStatus, hheld, State.takeMsg_trv, hps, ← hfs, State.takeMsg_loadOf,
    State.takeMsg_pendingFields, State.takeMsg_quotaNow]

/-! ### The loops (R316, R322, R334, R452 to R454) -/

/-- The slot that a body names at offset 2 (R452). -/
theorem Req.slot_eq {r : Req} {n : Nat} (hn : n < 16) (h : r.get 2 1 = n + 1) : r.slot = some n := by
  unfold Req.slot
  rw [if_pos (by omega), h, Nat.add_sub_cancel]

/-- Settles O19: the operation picks a read or the change set of one record. -/
theorem loopConfigActs : Obligations.LoopConfigActs := by
  intro s h pair body n T hn hslot
  have hr : (request h pair 0x0201 body).slot = some n := Req.slot_eq hn hslot
  refine ⟨fun fs hset hlen hmay hok hfs hroom => ?_, fun hread hlen => ?_, fun hread hlen => ?_⟩
  · refine serve_settlesChange (guard := guardLoopConfig) (act := doLoopConfig) (g := ⟨true, some Sem.loops, 2⟩) T ?_ rfl hmay ?_ hroom
    · simp only [guardLoopConfig, Req.get, Req.len, request, hset, hlen, decide_true]
    · simp only [doLoopConfig, hr, State.takeMsg_loopRefusal, hfs, Req.get]
      simp [request, hset, hok]
  · refine serve_reads (guard := guardLoopConfig) (act := doLoopConfig) (g := ⟨true, none, 0⟩) T ?_ rfl ⟨rfl, Nat.zero_le _⟩ ?_
    · simp only [guardLoopConfig, Req.get, Req.len, request, hread, hlen, decide_true]
    · simp only [doLoopConfig, hr, State.takeMsg_par, Req.get]
      exact if_pos hread
  · refine serve_reads (guard := guardLoopConfig) (act := doLoopConfig) (g := ⟨true, none, 0⟩) T ?_ rfl ⟨rfl, Nat.zero_le _⟩ ?_
    · simp only [guardLoopConfig, Req.get, Req.len, request, hread, hlen, decide_true]
    · simp only [doLoopConfig, hr, State.takeMsg_pendingFields, Req.get]
      simp [request, hread, State.answer]

/-- Settles O20: an order passes its checks and lands, and a LOOP_MODE without an item answers the slot. -/
theorem loopOrdersLand : Obligations.LoopOrdersLand := by
  refine fun s h pair body n hn hslot => ⟨fun items more T hlen hitems hmore => ⟨fun hnone => ?_, fun hsome hmay hok => ?_⟩,
    fun o T hlen hmay ho hok hroom => ?_⟩
  all_goals have hr (code : Nat) : (request h pair code body).slot = some n := Req.slot_eq hn hslot
  · subst hitems
    refine serve_reads (guard := guardLoopMode) (act := doLoopMode) (g := ⟨true, none, 0⟩) T ?_ rfl ⟨rfl, Nat.zero_le _⟩ ?_
    · simp only [guardLoopMode, Req.items, Req.get, Req.len, request, hnone, hlen, decide_true, if_true]
    · simp only [doLoopMode, hr, Req.items, Req.get, State.takeMsg_modeResult]
      simp [request, hnone, State.answer, State.modeResult, hmore]
  · subst hitems
    refine serve_lands (guard := guardLoopMode) (act := doLoopMode) (g := ⟨true, some Sem.loops, 1⟩) T ?_ rfl hmay ?_
    · simp only [guardLoopMode, Req.items, Req.get, Req.len, request, hsome, hlen, decide_true, if_false]
    · simp only [doLoopMode, hr, Req.items, Req.get, State.takeMsg_modeResult, State.takeMsg_modeRefusal, State.takeMsg_effect, hok]
      simp [request, hsome, State.answer, State.modeResult, hmore]
      rfl
  · refine serve_settles (guard := guardLoopTune) (act := doLoopTune) (g := ⟨true, some Sem.loops, 2⟩) T ?_ rfl hmay ?_ hroom
    · simp only [guardLoopTune, Req.len, request, hlen, decide_true]
    · subst ho
      simp [doLoopTune, hr, hok]

end Sys2Proof.Machine
end

section
/-!
SUPPORT. CONTACTOR_CMD lands its orders one after the other (R346, R352, R455): O21.
-/

namespace Sys2Proof.Machine

/-- The sweep block with a setting that has landed, in the next sweep past the cut-off (R64). -/
def SweepSt.lands (w : SweepSt) (x : Landed) : SweepSt :=
  cond w.hold { w with landNext := w.landNext ++ [x] } { w with landed := w.landed ++ [x] }

namespace State

theorem land_eq (s : State) (x : Landed) : s.land x = { s with swp := s.swp.lands x } := by
  have hcond (b : Bool) (v w : SweepSt) : cond b { s with swp := v } { s with swp := w } = { s with swp := cond b v w } := by
    cases b <;> rfl
  exact hcond _ _ _

/-- Settings that land one after the other change the sweep block alone. -/
theorem foldl_land (f : Nat → Landed) (l : List Nat) (s : State) :
    l.foldl (fun s n => s.land (f n)) s = { s with swp := l.foldl (fun w n => w.lands (f n)) s.swp } := by
  induction l generalizing s with
  | nil => rfl
  | cons n l ih => rw [List.foldl_cons, ih, land_eq, List.foldl_cons]

@[simp] theorem takeMsg_contactCodes (s : State) (h : HostId) (pair : Nat) : (s.takeMsg h pair).contactCodes = s.contactCodes :=
  s.takeMsg_read State.contactCodes h pair fun _ _ _ _ => by cases h <;> rfl

/-- The result of CONTACTOR_CMD is read from the channels and the trip path (R352, R455). -/
theorem contactResult_of_saf {s t : State} (h : t.saf = s.saf) : t.contactResult = s.contactResult := by
  funext effect codes
  simp only [State.contactResult, State.chanWord, State.chan, h]

end State

/-- Settles O21: the codes pick the channels, whose orders land in ascending order of channel. -/
theorem contactorCmdLands : Obligations.ContactorCmdLands := by
  refine fun s h pair body T hlen => ⟨fun hread => ?_, fun close opn codes ns u hset hmay hclose hopn hcodes hns hu => ?_⟩
  · refine serve_reads (guard := guardContactorCmd) (act := doContactorCmd) (g := ⟨true, none, 0⟩) T ?_ rfl ⟨rfl, Nat.zero_le _⟩ ?_
    · simp only [guardContactorCmd, Req.get, Req.len, request, hread, hlen, decide_true]
    · rw [← State.contactResult_of_saf (s.takeMsg_saf h pair)]
      exact if_pos hread
  obtain ⟨w, hw⟩ : ∃ w, w = ns.foldl (fun (w : SweepSt) n => w.lands (.channel n (close.testBit n))) s.swp := ⟨_, rfl⟩
  have hus : u = { s with swp := w } := by rw [hu, hw, State.foldl_land]
  have hdo : doContactorCmd (request h pair 0x0204 body) (s.takeMsg h pair)
      = ({ s.takeMsg h pair with swp := w } : State).respond h pair 0x0204 (field body 0 2)
        ((codes.find? fun c => decide (c ≠ 0)).getD St.ok) (u.contactResult (if ns = [] then 0 else s.effect) codes) := by
    have hop : (request h pair 0x0204 body).get 2 1 ≠ 1 := by simp [Req.get, request, hset]
    have hres : ({ s.takeMsg h pair with swp := w } : State).contactResult = u.contactResult :=
      State.contactResult_of_saf (by rw [hus]; exact s.takeMsg_saf h pair)
    unfold doContactorCmd
    rw [if_neg hop]
    simp only [Req.get, request, State.takeMsg_contactCodes, ← hclose, ← hopn, ← hcodes, ← hns, State.takeMsg_effect,
      State.foldl_land, State.takeMsg_swp, ← hw, hres]
  obtain ⟨t, ht, et, hserved, hkept⟩ := serve_answers (guard := guardContactorCmd) (g := ⟨true, some Sem.contact, 1⟩) T
    (by simp only [guardContactorCmd, Req.get, Req.len, request, hset, hlen, decide_true]) rfl hmay hdo
    (by cases h <;> rfl) rfl rfl (kept_swp _ _) (s.takeMsg_tripMask h pair) (s.takeMsg_saf h pair)
    (congrArg Dev.cErr (s.takeMsg_dev h pair 0))
  refine ⟨t, ht, ?_, hserved, hkept⟩
  obtain ⟨p, hp⟩ := State.respond_form { s.takeMsg h pair with swp := w } h pair 0x0204 (field body 0 2)
    ((codes.find? fun c => decide (c ≠ 0)).getD St.ok) (u.contactResult (if ns = [] then 0 else s.effect) codes)
  rw [et, hp, hus]
  cases h <;> rfl

end Sys2Proof.Machine
end

section
/-!
SUPPORT. The heartbeat, the end of ERR_OUT and of a masking interval (R400, R402 to R404): O35.
-/

namespace Sys2Proof.Machine

namespace State

variable (s : State)

/-! ### What an occurrence leaves of the open masking intervals -/

theorem applySev_masks (old : Option Nat) (new : Nat) : (s.applySev old new).flt.masks = s.flt.masks := by
  unfold State.applySev
  dsimp only
  rw [evalTrip_flt_masks, errEval_flt_masks, cond_keep (fun t => t.flt.masks) _ _ _ (by rw [enter_flt]),
    cond_keep (fun t => t.flt.masks) _ _ _ (by rw [tripFallback_flt]), cond_keep (fun t => t.flt.masks) _ _ _ (by rw [lock_flt])]

theorem furtherReaction_flt (x : Source) : (s.furtherReaction x).flt = s.flt := by
  unfold State.furtherReaction State.react State.landReaction
  split
  · cases s.swp.reactCut <;> rfl
  · split
    · cases s.swp.reactCut <;> rfl
    · rfl

theorem occur_masks (x : Source) (v : Word) (seen : Nat) : (s.occur x v seen).flt.masks = s.flt.masks := by
  unfold State.occur
  extract_lets old new first s1 f1 s2 s3
  have h3 : s3.flt.masks = s.flt.masks := by
    simp only [s3]
    have h2 : s2.flt.masks = s.flt.masks := rfl
    clear_value s2
    cases old.latched
    · exact h2
    · exact (cond_keep (fun t : State => t.flt.masks) _ (s2.event Ev.fesc) s2 rfl).trans h2
  clear_value s3
  rw [furtherReaction_flt, applySev_masks, h3]

/-! ### The end of a masking interval -/

/-- A masked cause that is still present becomes an occurrence when its interval ends (R400). -/
def unmask (s : State) (c : Cause) : State :=
  if s.consequential c.src then s
  else
    let s := { s with flt := { s.flt with
      causes := s.flt.causes.map (fun (y : Cause) => if y.src = c.src then { y with masked := false } else y) } }
    (s.logAt 0 c.src.cls c.src.sub c.src.pos c.src.detail s.sweep c.value).occur c.src c.value s.sweep

theorem unmask_masks (c : Cause) : (s.unmask c).flt.masks = s.flt.masks := by
  unfold State.unmask
  split
  · rfl
  · exact occur_masks _ _ _ _

theorem unmask_steady (c : Cause) : (s.unmask c).steady = s.steady := by
  unfold State.unmask
  split
  · rfl
  · exact occur_steady _ _ _ _

/-- The interval of kind `k` is gone from the list. -/
def dropMask (s : State) (k : MaskKind) : State :=
  { s with flt := { s.flt with masks := s.flt.masks.filter (fun m => decide (m.kind ≠ k)) } }

theorem endMask_eq (k : MaskKind) :
    s.endMask k = (s.flt.causes.filter (fun c => c.masked && s.masks k c.src)).foldl unmask (s.dropMask k) := rfl

theorem endMask_masks (k : MaskKind) : (s.endMask k).flt.masks = s.flt.masks.filter (fun m => decide (m.kind ≠ k)) := by
  rw [endMask_eq, foldl_keep (fun t : State => t.flt.masks) unmask unmask_masks]
  rfl

theorem endMask_steady (k : MaskKind) : (s.endMask k).steady = s.steady := by
  rw [endMask_eq, foldl_keep steady unmask unmask_steady]
  rfl

/-- With no masked cause of the interval present nothing occurs at its end. -/
theorem endMask_quiet (k : MaskKind) (h : ∀ c ∈ s.flt.causes, (c.masked && s.masks k c.src) = false) :
    s.endMask k = s.dropMask k := by
  rw [endMask_eq, List.filter_eq_nil_iff.2 fun c hc => by simp [h c hc], List.foldl_nil]

theorem kept_dropMask (k : MaskKind) : kept [.collector] s (s.dropMask k) := fun p hp => by
  cases p
  case host k => cases k <;> rfl
  case collector => exact absurd (by simp) hp
  all_goals simp [Part.same, State.dev, State.dropMask]

/-! ### ERR_OUT at the end of a command -/

theorem errDrop_errLow : s.errDrop.flt.errLow = true := by
  unfold State.errDrop
  cases h : s.flt.errLow
  · rfl
  · exact h

theorem kept_errDrop : kept [.errOut] s s.errDrop := by
  unfold State.errDrop
  cases s.flt.errLow
  · intro p hp
    cases p
    case host k => cases k <;> rfl
    case errOut => exact absurd (by simp) hp
    all_goals simp [Part.same, State.dev, Collector.body]
  · exact kept_refl _ s

/-- ERR_OUT that is low stays low through the trip path. -/
theorem evalTrip_errLow (h : s.flt.errLow = true) : s.evalTrip.flt.errLow = true := by
  unfold State.evalTrip
  dsimp only
  split
  · split <;> exact h
  · split
    · rw [dropAll_flt]; exact h
    · exact errDrop_errLow _

/-- With no source asserted the trip path leaves the collector alone. -/
theorem evalTrip_flt_quiet (h : s.tripMask = 0) : s.evalTrip.flt = s.flt := by
  unfold State.evalTrip; simp only [h, if_true]; split <;> rfl

theorem finish_errLow {t : State} (h : t.flt.errLow = true) : (s.finish t).flt.errLow = true := by
  unfold State.finish
  dsimp only
  cases t.pw.running
  · exact h
  · exact evalTrip_errLow _ h

theorem finish_flt_quiet {t : State} (h : t.tripMask = 0) : (s.finish t).flt = t.flt := by
  unfold State.finish
  dsimp only
  cases t.pw.running
  · rfl
  · refine evalTrip_flt_quiet _ (Eq.trans ?_ h)
    exact tripMask_congr t rfl rfl rfl rfl rfl rfl rfl rfl

/-- Where no condition of R402 is present, no trip source stands. -/
theorem tripMask_of_errCond (h : s.errCond = false) : s.tripMask = 0 := by
  unfold State.errCond at h
  simp only [Bool.or_eq_false_iff, decide_eq_false_iff_not, not_not] at h
  exact h.1.2

end State

/-! ### The commands -/

/-- The collector after a heartbeat that was missed (R403, R404). -/
def State.stall (s : State) (n : Nat) : State :=
  { s.until n with flt := { (s.until n).flt with stalled := true } }

/-- ERR_OUT ends TMIN after it began (R402, R403). -/
def State.freeErrOut (s : State) : State :=
  { s.until (s.flt.lowSince + s.errTmin) with flt := { s.flt with errLow := false, wave := s.errCompat } }

section
variable {s : State} (hr : s.pw.running = true)
include hr

theorem heartbeatTimeout_stalls : answers .heartbeatTimeout s fun t =>
    t.flt.stalled = true ∧ t.now = max s.now (s.flt.heartbeat + 10000000) ∧ (s.errCompat = true → t.flt.errLow = true) ∧
    kept (.collector :: tripParts) s t := by
  obtain ⟨u, hu⟩ : ∃ u, u = s.stall (s.flt.heartbeat + ms 10) := ⟨_, rfl⟩
  have hk : kept [.collector] s u := by
    rw [hu]
    intro p hp
    cases p
    case host k => cases k <;> rfl
    case collector => exact absurd (by simp) hp
    all_goals simp [Part.same, State.dev, State.stall]
  have hnow : u.now = max s.now (s.flt.heartbeat + 10000000) := by rw [hu]; rfl
  have hst : u.flt.stalled = true := by rw [hu]; rfl
  have hc : u.errCompat = s.errCompat := by rw [hu]; rfl
  refine answers_onC hr (f := fun s => if (s.stall (s.flt.heartbeat + ms 10)).errCompat
    then (s.stall (s.flt.heartbeat + ms 10)).errDrop else s.stall (s.flt.heartbeat + ms 10)) rfl ?_
  rw [← hu]
  have hbody (t : State) : (s.finish t).flt.stalled = t.flt.stalled := by
    have e := congrArg Collector.stalled (s.finish_flt_body t)
    exact e
  split
  · next he =>
    have hd : u.errDrop.flt.body = u.flt.body := by unfold State.errDrop; cases u.flt.errLow <;> rfl
    refine ⟨(hbody _).trans ((congrArg Collector.stalled hd).trans hst), by rw [State.finish_now, State.errDrop_now, hnow]; simp,
      fun _ => State.finish_errLow s u.errDrop_errLow, kept_end (b := [.collector]) (kept_trans hk (State.kept_errDrop u)) (by simp [tripParts])⟩
  · next he =>
    rw [hc] at he
    exact ⟨(hbody _).trans hst, by rw [State.finish_now, hnow]; simp, fun h => absurd h he,
      kept_end (b := [.collector]) hk (by simp [tripParts])⟩

theorem errOutRelease_releases (hl : s.flt.errLow = true) (he : s.errCond = false)
    (hs : ¬ (s.errCompat = true ∧ s.flt.stalled = true)) : answers .errOutRelease s fun t =>
    t.flt.errLow = false ∧ t.flt.wave = s.errCompat ∧ t.now = max s.now (s.flt.lowSince + s.errTmin) ∧ kept tripParts s t := by
  obtain ⟨u, hu⟩ : ∃ u, u = s.freeErrOut := ⟨_, rfl⟩
  have hk : kept [.errOut] s u := by
    rw [hu]
    intro p hp
    cases p
    case host k => cases k <;> rfl
    case errOut => exact absurd (by simp) hp
    all_goals simp [Part.same, State.dev, State.freeErrOut, Collector.body]
  have hm : u.tripMask = 0 := by
    rw [hu, ← State.tripMask_of_errCond s he]
    exact State.tripMask_congr s rfl rfl rfl rfl rfl rfl rfl rfl
  refine answers_onC hr (f := fun s => if s.flt.errLow ∧ s.errCond = false ∧ ¬ (s.errCompat ∧ s.flt.stalled)
    then s.freeErrOut else s) rfl ?_
  rw [if_pos ⟨hl, he, hs⟩, ← hu, State.finish_flt_quiet s hm, State.finish_now]
  exact ⟨by rw [hu]; rfl, by rw [hu]; rfl, by rw [hu]; simp [State.freeErrOut],
    kept_end (b := []) hk (by simp [tripParts])⟩

theorem maskingIntervalEnd_ends {k : MaskKind} {m : MaskRec} (hf : s.flt.masks.find? (fun x => decide (x.kind = k)) = some m) :
    answers (.maskingIntervalEnd k) s fun t =>
      t.flt.masks = s.flt.masks.filter (fun x => decide (x.kind ≠ k)) ∧ t.now = max s.now m.untilNs ∧ kept faultParts s t ∧
      ((∀ c ∈ s.flt.causes, (c.masked && s.masks k c.src) = false) → kept (.collector :: tripParts) s t) := by
  refine answers_onC hr (by rfl) ?_
  rw [hf]
  dsimp only
  rw [State.finish_flt_masks, State.endMask_masks, State.finish_now, State.now_of_steady (State.endMask_steady _ k)]
  refine ⟨rfl, by simp, ?_, fun hq => ?_⟩
  · exact State.kept_mono (kept_finish (kept_trans (kept_until s m.untilNs) (State.kept_of_bare (State.endMask_bare _ k))))
      (by simp [tripParts, faultParts])
  · rw [State.endMask_quiet (s.until m.untilNs) k hq]
    exact kept_end (b := [.collector]) (kept_trans (kept_until s m.untilNs) (State.kept_dropMask _ k)) (by simp)

end

/-- Settles O35: each command as what it makes of the collector; the masked causes of an interval become occurrences at its
end, and with none present only the list of intervals changes. -/
theorem errOutAndMaskingEnd : Obligations.ErrOutAndMaskingEnd := by
  unfold Obligations.ErrOutAndMaskingEnd
  exact fun s hr => ⟨heartbeatTimeout_stalls hr, errOutRelease_releases hr, fun k m => maskingIntervalEnd_ends hr⟩

end Sys2Proof.Machine
end

section
/-!
SUPPORT. The SENT supplies as the active Legend, SENTVS and the C-die's temperature have them, channel by channel (R308, R536,
R537).
-/

namespace Sys2Proof.Machine

namespace State

variable (s : State)

/-- One channel as the active Legend configures it (R537). -/
def sentStep (s : State) (n : Nat) : State :=
  let c := s.sentCh n
  let want := s.sentSupplied n && !s.pw.sentvsLow && !s.saf.overTemp
  if s.sentUse n = false then
    ([1, 2, 3, 4].foldl (fun s k => s.sentClear n k) s).modSent n (fun _ => {})
  else if want ∧ c.supply = false ∧ c.offAt = none then s.sentOn n false
  else if want = false ∧ c.supply then
    s.modSent n (fun (c : SentCh) => { c with supply := false, offAt := none, onAt := none })
  else if c.lastAt = 0 then s.modSent n (fun (c : SentCh) => { c with lastAt := s.now + s.sentStart })
  else s

theorem sentApply_eq : s.sentApply = (List.range 8).foldl sentStep s := rfl

/-- What `sentStep` makes of its channel (R537). -/
def sentSet (s : State) (n : Nat) : SentCh :=
  let c := s.sentCh n
  let want := s.sentSupplied n && !s.pw.sentvsLow && !s.saf.overTemp
  if s.sentUse n = false then {}
  else if want ∧ c.supply = false ∧ c.offAt = none then
    { c with supply := true, offAt := none, onAt := none, limited := false, lastAt := s.now + s.sentStart, prevCal := none }
  else if want = false ∧ c.supply then { c with supply := false, offAt := none, onAt := none }
  else if c.lastAt = 0 then { c with lastAt := s.now + s.sentStart }
  else c

theorem kept_modSent (n : Nat) (f : SentCh → SentCh) : kept [.sent] s (s.modSent n f) := fun p hp => by
  cases p
  case host k => cases k <;> rfl
  case sent => exact absurd (by simp) hp
  all_goals simp [Part.same, State.dev]

theorem kept_foldl {α : Type} {out : List Part} (f : State → α → State) (h : ∀ t a, kept out t (f t a)) (l : List α) (s : State) :
    kept out s (l.foldl f s) := by
  induction l generalizing s with
  | nil => exact kept_refl out s
  | cons a l ih => exact kept_chain (h s a) (ih (f s a))

theorem kept_sentClears (n : Nat) (l : List Nat) : kept [.collector, .flags] s (l.foldl (fun s k => s.sentClear n k) s) :=
  kept_foldl _ (fun t _ => kept_clearAt t _ _) l s

theorem kept_sentStep (n : Nat) : kept [.sent, .collector, .flags] s (s.sentStep n) := by
  have hset (t : State) (f : SentCh → SentCh) : kept [.sent, .collector, .flags] t (t.modSent n f) :=
    kept_mono (kept_modSent t n f) (by simp)
  unfold State.sentStep
  extract_lets c want
  split
  · exact kept_chain (kept_mono (kept_sentClears s n _) (by simp)) (hset _ _)
  · split
    · exact hset _ _
    · split
      · exact hset _ _
      · split
        · exact hset _ _
        · exact kept_refl _ s

theorem kept_sentApply : kept [.sent, .collector, .flags] s s.sentApply :=
  kept_foldl sentStep (fun t n => kept_sentStep t n) _ s

/-- What the SENT supplies follow beside the channels themselves. -/
def sentRules (s : State) : PowerSt × SafetySt × LegendSt × Nat × Nat := (s.pw, s.saf, s.leg, s.now, s.sent.length)

theorem sentClear_rules (n k : Nat) : (s.sentClear n k).sentRules = s.sentRules := by
  unfold State.sentClear State.clear State.clearAt
  split <;> rfl

theorem modSent_rules (n : Nat) (f : SentCh → SentCh) : (s.modSent n f).sentRules = s.sentRules := by
  simp [State.sentRules, State.modSent, modAt]

theorem sentStep_rules (n : Nat) : (s.sentStep n).sentRules = s.sentRules := by
  unfold State.sentStep
  extract_lets c want
  split
  · rw [modSent_rules, foldl_keep sentRules _ fun t k => sentClear_rules t n k]
  · split
    · exact modSent_rules _ _ _
    · split
      · exact modSent_rules _ _ _
      · split
        · exact modSent_rules _ _ _
        · rfl

/-- A channel is set by what it holds and by the rules alone. -/
theorem sentSet_congr {t : State} (hr : t.sentRules = s.sentRules) {n : Nat} (hc : t.sentCh n = s.sentCh n) :
    t.sentSet n = s.sentSet n := by
  simp only [State.sentRules, Prod.mk.injEq] at hr
  obtain ⟨hpw, hsaf, hleg, hnow, -⟩ := hr
  have hu : t.sentUse n = s.sentUse n := by unfold State.sentUse State.par; rw [hleg]
  have hsup : t.sentSupplied n = s.sentSupplied n := by unfold State.sentSupplied State.par; rw [hu, hleg]
  have hst : t.sentStart = s.sentStart := by unfold State.sentStart State.par; rw [hleg]
  unfold State.sentSet
  rw [hu, hsup, hst, hc, hpw, hsaf, hnow]

/-- The step of a channel sets that channel. -/
theorem sentStep_self {n : Nat} (hn : n < s.sent.length) : (s.sentStep n).sentCh n = s.sentSet n := by
  have hset (t : State) (ht : n < t.sent.length) (f : SentCh → SentCh) : (t.modSent n f).sentCh n = f (t.sentCh n) :=
    sentCh_modSent_self t n f ht
  unfold State.sentStep State.sentSet
  extract_lets c want
  split
  · exact hset _ (by rw [(s.sentClears_keep n).1]; exact hn) _
  · split
    · exact hset s hn _
    · split
      · exact hset s hn _
      · split
        · exact hset s hn _
        · rfl

/-- The step of a channel leaves every other. -/
theorem sentStep_other {m n : Nat} (h : n ≠ m) : (s.sentStep m).sentCh n = s.sentCh n := by
  have hset (t : State) (f : SentCh → SentCh) : (t.modSent m f).sentCh n = t.sentCh n := by
    simp only [State.sentCh, State.modSent, getD_modAt]
    rw [if_neg fun x => h x.1.symm]
  unfold State.sentStep
  extract_lets c want
  split
  · rw [hset]
    unfold State.sentCh
    rw [(s.sentClears_keep m).1]
  · split
    · exact hset _ _
    · split
      · exact hset _ _
      · split
        · exact hset _ _
        · rfl

theorem sentSteps_ch (l : List Nat) (hl : l.Nodup) (s : State) {n : Nat} (hn : n < s.sent.length) :
    (l.foldl sentStep s).sentCh n = if n ∈ l then s.sentSet n else s.sentCh n := by
  induction l generalizing s with
  | nil => simp
  | cons m l ih =>
    obtain ⟨hm, hl⟩ := List.nodup_cons.1 hl
    have hr := sentStep_rules s m
    have hlen : (s.sentStep m).sent.length = s.sent.length := congrArg (·.2.2.2.2) hr
    rw [List.foldl_cons, ih hl _ (by rw [hlen]; exact hn)]
    by_cases h : n = m
    · subst h
      rw [if_neg hm, if_pos (by simp), sentStep_self s hn]
    · have ho := sentStep_other s h
      rw [ho, sentSet_congr s hr ho]
      simp [h]

/-- Each channel of a SENT input is set as the Legend configures it (R537). -/
theorem sentApply_ch {n : Nat} (h8 : n < 8) (hn : n < s.sent.length) : s.sentApply.sentCh n = s.sentSet n := by
  rw [sentApply_eq, sentSteps_ch _ List.nodup_range s hn, if_pos (List.mem_range.2 h8)]

theorem sentApply_rules : s.sentApply.sentRules = s.sentRules := by
  rw [sentApply_eq, foldl_keep sentRules sentStep sentStep_rules]

/-- Where no supply is wanted, the supply is off (R308, R536). -/
theorem sentSet_off (n : Nat) (h : s.pw.sentvsLow = true ∨ s.saf.overTemp = true) : (s.sentSet n).supply = false := by
  have hw : (s.sentSupplied n && !s.pw.sentvsLow && !s.saf.overTemp) = false := by
    rcases h with h | h <;> simp [h]
  unfold State.sentSet
  rw [hw]
  dsimp only
  split
  · rfl
  · rw [if_neg (by simp)]
    split
    · rfl
    · next ho =>
      have hs : (s.sentCh n).supply = false := by simpa using ho
      split <;> exact hs

/-- A supply that is wanted and does not restart is on (R536, R537). -/
theorem sentSet_on (n : Nat) (hu : s.sentUse n = true) (hs : s.sentSupplied n = true) (hl : s.pw.sentvsLow = false)
    (ho : s.saf.overTemp = false) (hoff : (s.sentCh n).offAt = none) : (s.sentSet n).supply = true := by
  have hw : (s.sentSupplied n && !s.pw.sentvsLow && !s.saf.overTemp) = true := by simp [hs, hl, ho]
  unfold State.sentSet
  rw [hw]
  dsimp only
  rw [if_neg (by simp [hu])]
  split
  · rfl
  · next h =>
    have hon : (s.sentCh n).supply = true := by simpa [hoff] using h
    rw [if_neg (by simp)]
    split <;> exact hon

end State

end Sys2Proof.Machine
end

section
/-!
SUPPORT. The dies' over-temperature (R308): O32. What S_ERR and the reports of DIE_OT leave of a device is said once.
-/

namespace Sys2Proof.Machine

namespace State

variable (s : State)

/-! ### S_ERR -/

/-- The causes of S_ERR that stand at the head's S-die (R308, R401). -/
def sErrDue (s : State) : Bool := (s.dev 0).ocCause.1 || (s.dev 0).ocCause.2 || ((s.dev 0).overTemp && (s.dev 0).isHead)

/-- S_ERR at the C-die follows its causes (R401). -/
theorem sErrUpdate_sErr (hr : s.pw.running = true) : s.sErrUpdate.saf.sErr = s.sErrDue := by
  unfold State.sErrUpdate
  dsimp only
  rw [if_pos (show (s.modDev 0 _).pw.running = true from hr), evalTrip_saf_sErr]
  rfl

/-- A die over its temperature is a trip source (R353). -/
theorem tripMask_of_overTemp (h : s.saf.overTemp = true) : s.tripMask ≠ 0 := by
  unfold State.tripMask
  rw [h]
  simp [b2n]

/-! ### The reports of DIE_OT -/

/-- Only reports change at a device when DIE_OT is reported (R308). -/
theorem sDieOt_body (d : Nat) (on : Bool) (e : Nat) : ((s.sDieOt d on).dev e).body = (s.dev e).body := by
  unfold State.sDieOt
  dsimp only
  split
  · rfl
  · split
    · split
      · cases on
        · exact body_of_bare (clearAt_bare s _ _) e
        · exact body_of_bare (raiseAt_bare s _ _ _ _) e
      · rfl
    · exact modDev_body s d e _ fun _ => rfl

/-- Over-temperature at the S-die of slot d comes or goes: the device's own change, its report, and S_ERR at the head (R308). -/
def sDieTemp (s : State) (d : Nat) (g : Dev → Dev) (on : Bool) : State :=
  cond (decide (d = 0)) ((s.modDev d g).sDieOt d on).sErrUpdate ((s.modDev d g).sDieOt d on)

/-- What of a device neither a report nor S_ERR touches, over-temperature changes as its own change does. -/
theorem sDieTemp_dev {β : Type} (p : Dev → β) (d e : Nat) (g : Dev → Dev) (on : Bool) (hb : ∀ x : Dev, p x.body = p x)
    (hs : ∀ (x : Dev) b, p { x with sErr := b } = p x) : p ((s.sDieTemp d g on).dev e) = p ((s.modDev d g).dev e) := by
  have h := Dev.eq_of_body p (sDieOt_body (s.modDev d g) d on e) hb
  unfold State.sDieTemp
  cases decide (d = 0)
  · exact h
  · exact (sErrUpdate_dev _ p e hb fun t b => State.dev_modDev_keep p t 0 e _ fun x => hs x b).trans h

/-- Over-temperature at one S-die changes no other. -/
theorem sDieTemp_other (d e : Nat) (g : Dev → Dev) (on : Bool) (he : e ≠ d) :
    ((s.sDieTemp d g on).dev e).body = (s.dev e).body := by
  have h := (sDieOt_body (s.modDev d g) d on e).trans (congrArg Dev.body (s.dev_modDev_other d e g he))
  unfold State.sDieTemp
  by_cases hd : d = 0
  · rw [decide_eq_true hd, cond_true]
    refine (sErrUpdate_dev _ Dev.body e (fun _ => rfl) fun t b => ?_).trans h
    exact congrArg Dev.body (t.dev_modDev_other 0 e _ (hd ▸ he))
  · rw [decide_eq_false hd]
    exact h

/-- At the head's S-die DIE_OT goes to the collector as the temperature stands (R308). -/
theorem sDieTemp_head (g : Dev → Dev) (on : Bool) (hl : 0 < s.devs.length) (hr : s.pw.running = true)
    (hh : (g (s.dev 0)).isHead = true) (hc : (g (s.dev 0)).coreReset = none) :
    s.sDieTemp 0 g on = ((s.modDev 0 g).judge on 0x17 1 0 0 0).sErrUpdate := by
  have hself : (s.modDev 0 g).dev 0 = g (s.dev 0) := dev_modDev_self s 0 g hl
  have hot : (s.modDev 0 g).sDieOt 0 on = (s.modDev 0 g).judge on 0x17 1 0 0 0 := by
    unfold State.sDieOt
    rw [hself]
    dsimp only
    rw [hc, if_neg (by simp), if_pos ⟨rfl, hh⟩, if_pos (show (s.modDev 0 g).pw.running = true from hr)]
  unfold State.sDieTemp
  rw [hot]
  rfl

/-- At a member DIE_OT waits as a report for the device's items (R308). -/
theorem sDieTemp_member {d : Nat} (g : Dev → Dev) (on : Bool) (hl : d < s.devs.length) (hd : d ≠ 0)
    (hc : (g (s.dev d)).coreReset = none) :
    s.sDieTemp d g on = (s.modDev d g).modDev d fun x => x.report on 0x17 1 0 0 := by
  have hself : (s.modDev d g).dev d = g (s.dev d) := dev_modDev_self s d g hl
  unfold State.sDieTemp
  rw [decide_eq_false hd, cond_false]
  unfold State.sDieOt
  rw [hself]
  dsimp only
  rw [hc, if_neg (by simp), if_neg fun h => hd h.1]

theorem judge_bare (on : Bool) (c b p d : Nat) (v : Word) : (s.judge on c b p d v).bare = s.bare := by
  cases on
  · exact clearAt_bare s _ _
  · exact raiseAt_bare s _ _ _ _

theorem judge_hasCause (on : Bool) (c b p d : Nat) (v : Word) : (s.judge on c b p d v).hasCause ⟨c, b, p, d⟩ = on := by
  cases on
  · exact clearAt_hasCause s _ _
  · exact raiseAt_hasCause s _ _ _ _

theorem sDieOt_steady (d : Nat) (on : Bool) : (s.sDieOt d on).steady = s.steady := by
  unfold State.sDieOt
  dsimp only
  split
  · rfl
  · split
    · split
      · cases on
        · exact clearAt_steady s _ _
        · exact raiseAt_steady s _ _ _ _
      · rfl
    · rfl

end State

/-! ### The S-dies -/

/-- The S-die whose over-temperature comparator trips at `t` (R308). -/
def Dev.tripTemp (x : Dev) (t : Nat) : Dev := { x.cutBleed t with overTemp := true, bleedOff := true }

theorem Dev.tripTemp_frame (x : Dev) (t : Nat) : x.tripTemp t =
    { x with
      cells := x.cells.map (fun (c : Cell) => { c.endBleed t 3 with held := none }), snd := (x.tripTemp t).snd
      overTemp := true, bleedOff := true } := by
  unfold Dev.tripTemp
  rw [Dev.cutBleed_frame]

theorem Dev.tripTemp_gate (x : Dev) (t k : Nat) : ((x.tripTemp t).cell k).gate = false := by
  rw [Dev.tripTemp_frame]
  unfold Dev.cell
  rw [List.getD_eq_getElem?_getD, List.getElem?_map]
  cases x.cells[k]? with
  | none => rfl
  | some c => exact c.endBleed_gate t 3

section
variable {s : State} {d : Nat} (ha : (s.dev d).awake = true)
include ha

/-- What a command that brings or ends over-temperature at an S-die leaves, at that die and at every other (R308). -/
theorem dieTemp_finish {c : Instr} {g : Dev → Dev} {on : Bool} {f : State → State} {P : State → Prop} (e : exec c s = onS s d f)
    (hf : f s = s.sDieTemp d g on)
    (h : ∀ t : State, (∀ {β : Type} (p : Dev → β), (∀ x : Dev, p x.body = p x) → (∀ (x : Dev) b, p { x with sErr := b } = p x) →
        p (t.dev d) = p (g (s.dev d))) → othersKept s t d →
      (d ≠ 0 → t = s.finish (s.sDieTemp d g on)) → (d = 0 → t = s.finish (s.sDieTemp d g on).headReports) → P t) : answers c s P := by
  have hl := s.lt_of_awake d ha
  have hself : (s.modDev d g).dev d = g (s.dev d) := State.dev_modDev_self s d g hl
  by_cases hd : d = 0
  · subst hd
    refine ⟨_, hf ▸ e.trans (onS_head ha), h _ (fun p hb hs => ?_) (fun k hk => ?_) (fun hn => absurd rfl hn) fun _ => rfl⟩
    · rw [← hself, ← s.sDieTemp_dev p 0 0 g on hb hs]
      exact Dev.eq_of_body p ((s.finish_body _ 0).trans (State.headReports_body _ 0)) hb
    · exact ((s.finish_body _ k).trans (State.headReports_body _ k)).trans (s.sDieTemp_other 0 k g on hk)
  · refine ⟨_, hf ▸ e.trans (onS_member ha hd), h _ (fun p hb hs => ?_) (fun k hk => ?_) (fun _ => rfl) fun hn => absurd hn hd⟩
    · rw [← hself, ← s.sDieTemp_dev p d d g on hb hs]
      exact Dev.eq_of_body p (s.finish_body _ d) hb
    · exact (s.finish_body _ k).trans (s.sDieTemp_other d k g on hk)

end

/-- At the head the cause of DIE_OT stands with no report waiting as the temperature does (R308). -/
theorem sDieTemp_hasCause {s : State} {g : Dev → Dev} {on : Bool} (hl : 0 < s.devs.length) (hr : s.pw.running = true)
    (hh : (g (s.dev 0)).isHead = true) (hc : (g (s.dev 0)).coreReset = none) (he : (g (s.dev 0)).events = []) :
    (s.finish (s.sDieTemp 0 g on).headReports).hasCause ⟨0x17, 1, 0, 0⟩ = on := by
  have hself : (s.modDev 0 g).dev 0 = g (s.dev 0) := State.dev_modDev_self s 0 g hl
  rw [s.sDieTemp_head g on hl hr hh hc]
  have hnone : (((s.modDev 0 g).judge on 0x17 1 0 0 0).sErrUpdate.dev 0).events = [] := by
    rw [State.sErrUpdate_events, State.events_of_bare (State.judge_bare _ _ _ _ _ _ _), hself, he]
  rw [State.headReports_of_no_events _ hnone, State.finish_hasCause, State.sErrUpdate_hasCause, State.judge_hasCause]

/-- Over-temperature at the head's S-die asserts S_ERR, which trips (R308, R353). -/
theorem sDieTemp_trips {s : State} {g : Dev → Dev} {on : Bool} (hl : 0 < s.devs.length) (hr : s.pw.running = true)
    (hh : (g (s.dev 0)).isHead = true) (ho : (g (s.dev 0)).overTemp = true) :
    (s.finish (s.sDieTemp 0 g on).headReports).saf.sErr = true ∧
    (s.finish (s.sDieTemp 0 g on).headReports).saf.tripLatch = true := by
  obtain ⟨y, hy⟩ : ∃ y, y = (s.modDev 0 g).sDieOt 0 on := ⟨_, rfl⟩
  have hbody : (y.dev 0).body = (g (s.dev 0)).body := by
    rw [hy, State.sDieOt_body, State.dev_modDev_self s 0 g hl]
  have hyr : y.pw.running = true := by
    rw [hy]
    exact (congrArg PowerSt.running (State.pw_of_steady (State.sDieOt_steady _ 0 on))).trans hr
  have hdue : y.sErrDue = true := by
    have h1 := Dev.eq_of_body (·.isHead) hbody
    have h2 := Dev.eq_of_body (·.overTemp) hbody
    unfold State.sErrDue
    rw [h1, h2, hh, ho]
    simp
  have hx : s.sDieTemp 0 g on = y.sErrUpdate := by rw [hy]; rfl
  have hsaf : y.sErrUpdate.headReports.saf.sErr = true := by
    have h := congrArg SafetySt.sErr (State.headReports_saf y.sErrUpdate)
    exact h.trans ((State.sErrUpdate_sErr y hyr).trans hdue)
  have hrun : y.sErrUpdate.headReports.pw.running = true :=
    (congrArg PowerSt.running (State.pw_of_steady ((State.headReports_steady _).trans (State.sErrUpdate_steady _)))).trans hyr
  rw [hx]
  refine ⟨by rw [State.finish_saf_sErr, hsaf], ?_⟩
  obtain ⟨-, htrip, -⟩ := State.finish_atRest s _ hrun
  exact (htrip (State.tripMask_of_sErr _ (by rw [State.finish_saf_sErr, hsaf]))).1

theorem dieOvertempTrip_cuts {s : State} {d : Nat} (ha : (s.dev d).awake = true) (ho : (s.dev d).overTemp = false) :
    answers (.dieOvertempTrip d .S) s fun t =>
      (t.dev d).overTemp = true ∧ (t.dev d).bleedOff = true ∧ (∀ k, k < (s.dev d).cells.length → ((t.dev d).cell k).gate = false) ∧
      othersKept s t d ∧
      (d ≠ 0 → (s.dev d).coreReset = none → ∃ v, (t.dev d).events = (s.dev d).events ++
        [Item.mk 0xC2 1 (.event 0x17 1 0 ((s.dev d).sweep % 2 ^ 32) v 0)]) ∧
      (d = 0 → (s.dev 0).isHead = true → s.pw.running = true → t.saf.sErr = true ∧ t.saf.tripLatch = true ∧
        ((s.dev 0).coreReset = none → (s.dev 0).events = [] → t.hasCause ⟨0x17, 1, 0, 0⟩ = true)) := by
  have hl := s.lt_of_awake d ha
  have hx := (s.dev d).tripTemp_frame s.now
  obtain ⟨f, e, hf⟩ : ∃ f, exec (.dieOvertempTrip d .S) s = onS s d f ∧ f s = s.sDieTemp d (·.tripTemp s.now) true := by
    refine ⟨_, by unfold exec execDieOvertempTrip; rfl, ?_⟩
    rw [if_neg (by simp [ho])]
    unfold State.sDieTemp
    by_cases hd : d = 0
    · rw [if_pos hd, decide_eq_true hd]; rfl
    · rw [if_neg hd, decide_eq_false hd]; rfl
  refine dieTemp_finish ha e hf fun t hdev hoth hm h0 => ⟨?_, ?_, fun k _ => ?_, hoth, fun hd hc => ⟨0, ?_⟩, fun hd hh hr => ?_⟩
  · exact hdev (·.overTemp) (fun _ => rfl) fun _ _ => rfl
  · exact hdev (·.bleedOff) (fun _ => rfl) fun _ _ => rfl
  · rw [hdev (fun x => (x.cell k).gate) (fun _ => rfl) fun _ _ => rfl]
    exact (s.dev d).tripTemp_gate s.now k
  · have hself : (s.modDev d (·.tripTemp s.now)).dev d = (s.dev d).tripTemp s.now := State.dev_modDev_self s d _ hl
    rw [hm hd, State.events_of_bare (State.finish_bare s _), s.sDieTemp_member _ _ hl hd (by rw [hx]; exact hc),
      State.dev_modDev_self _ d _ (by simpa [State.modDev, modAt] using hl), hself, hx]
    rfl
  · subst hd
    have hhead : ((s.dev 0).tripTemp s.now).isHead = true := by rw [hx]; exact hh
    have htemp : ((s.dev 0).tripTemp s.now).overTemp = true := rfl
    obtain ⟨hs, hlatch⟩ := sDieTemp_trips (g := (·.tripTemp s.now)) (on := true) hl hr hhead htemp
    rw [h0 rfl]
    refine ⟨hs, hlatch, fun hc he => ?_⟩
    · exact sDieTemp_hasCause (g := (·.tripTemp s.now)) hl hr hhead (by rw [hx]; exact hc) (by rw [hx]; exact he)

theorem dieOvertempRelease_ends {s : State} {d : Nat} (ha : (s.dev d).awake = true) (ho : (s.dev d).overTemp = true) :
    answers (.dieOvertempRelease d .S) s fun t =>
      (t.dev d).overTemp = false ∧ othersKept s t d ∧
      (d = 0 → (s.dev 0).isHead = true → s.pw.running = true → (s.dev 0).coreReset = none → (s.dev 0).events = [] →
        t.hasCause ⟨0x17, 1, 0, 0⟩ = false) := by
  have hl := s.lt_of_awake d ha
  obtain ⟨f, e, hf⟩ : ∃ f, exec (.dieOvertempRelease d .S) s = onS s d f ∧
      f s = s.sDieTemp d (fun x => { x with overTemp := false }) false := by
    refine ⟨_, by unfold exec execDieOvertempRelease; rfl, ?_⟩
    rw [if_pos ho]
    unfold State.sDieTemp
    by_cases hd : d = 0
    · rw [if_pos hd, decide_eq_true hd]; rfl
    · rw [if_neg hd, decide_eq_false hd]; rfl
  refine dieTemp_finish ha e hf fun t hdev hoth _ h0 => ⟨?_, hoth, fun hd hh hr hc he => ?_⟩
  · exact hdev (·.overTemp) (fun _ => rfl) fun _ _ => rfl
  · subst hd
    rw [h0 rfl]
    exact sDieTemp_hasCause hl hr hh hc he

/-! ### The C-die -/

section
variable {s : State} (hr : s.pw.running = true)
include hr

theorem dieOvertempTrip_cDie (ho : s.saf.overTemp = false) : answers (.dieOvertempTrip 0 .C) s fun t =>
    t.saf.overTemp = true ∧ t.saf.tripLatch = true ∧ t.pwm = List.replicate 8 0 ∧
    (∀ n, n < 8 → n < s.sent.length → (t.sentCh n).supply = false) ∧ faulted [.inputs, .pwm, .sent] s t ⟨0x17, 2, 0, 0⟩ := by
  obtain ⟨u, hu⟩ : ∃ u, u = { s with saf := { s.saf with overTemp := true }, pwm := List.replicate 8 0 } := ⟨_, rfl⟩
  obtain ⟨y, hy⟩ : ∃ y, y = (u.sentApply.raise 0x17 2 0 0 0).evalTrip := ⟨_, rfl⟩
  have hrules := u.sentApply_rules
  have hbare : y.bare = u.sentApply.bare := by
    rw [hy, State.evalTrip_bare]; exact State.raiseAt_bare _ _ _ _ _
  have hsteady : y.steady = u.sentApply.steady := by
    rw [hy, State.evalTrip_steady]; exact State.raiseAt_steady _ _ _ _ _
  have hrun : y.pw.running = true :=
    (congrArg PowerSt.running (State.pw_of_steady hsteady)).trans
      ((congrArg (·.1.running) hrules).trans (by subst hu; exact hr))
  have hover : y.saf.overTemp = true := by
    have h := congrArg SafetySt.overTemp (State.saf_of_bare hbare)
    exact h.trans ((congrArg (·.2.1.overTemp) hrules).trans (by subst hu; rfl))
  have hk1 : kept [.inputs, .pwm] s u := by
    rw [hu]
    intro p hp
    cases p
    case host k => cases k <;> rfl
    case inputs => exact absurd (by simp) hp
    case pwm => exact absurd (by simp) hp
    all_goals simp [Part.same, State.dev]
  have hk : kept ([.inputs, .pwm, .sent] ++ faultParts) s y :=
    State.kept_mono (kept_trans hk1 (kept_trans u.kept_sentApply (State.kept_of_bare hbare))) (by simp [faultParts])
  have hcause : y.hasCause ⟨0x17, 2, 0, 0⟩ = true := by
    unfold State.hasCause
    rw [hy, State.evalTrip_flt_causes]
    exact State.raiseAt_hasCause _ _ _ _ _
  refine answers_onC hr (f := fun _ => y) (by
    change execDieOvertempTrip 0 .C s = _
    unfold execDieOvertempTrip
    rw [onC_running hr, onC_running hr, if_neg (by simp [ho]), hy, hu]) ?_
  refine ⟨by rw [State.finish_saf_overTemp, hover], (State.finish_tripped s hrun (State.tripMask_of_overTemp y hover)).1, ?_,
    fun n h8 hn => ?_, faulted_finish hcause hk⟩
  · rw [State.finish_pwm, State.pwm_of_bare hbare]
    exact (u.kept_sentApply .pwm (by simp)).trans (by subst hu; rfl)
  · rw [State.sentCh_finish, State.sentCh_of_bare hbare, State.sentApply_ch u h8 (by rw [hu]; exact hn)]
    exact u.sentSet_off n (.inr (by subst hu; rfl))

theorem dieOvertempRelease_cDie (ho : s.saf.overTemp = true) : answers (.dieOvertempRelease 0 .C) s fun t =>
    t.saf.overTemp = false ∧ t.hasCause ⟨0x17, 2, 0, 0⟩ = false ∧ kept (.inputs :: .sent :: faultParts) s t := by
  obtain ⟨u, hu⟩ : ∃ u, u = { s with saf := { s.saf with overTemp := false } } := ⟨_, rfl⟩
  obtain ⟨y, hy⟩ : ∃ y, y = (u.sentApply.clear 0x17 2 0 0).evalTrip := ⟨_, rfl⟩
  have hbare : y.bare = u.sentApply.bare := by
    rw [hy, State.evalTrip_bare]; exact State.clearAt_bare _ _ _
  have hk1 : kept [.inputs] s u := hu ▸ kept_inputs s _ ⟨rfl, rfl, rfl, rfl⟩
  refine answers_onC hr (f := fun _ => y) (by
    change execDieOvertempRelease 0 .C s = _
    unfold execDieOvertempRelease
    rw [onC_running hr, onC_running hr, if_neg (by simp [ho]), hy, hu]) ?_
  refine ⟨?_, ?_, State.kept_mono (kept_finish (kept_trans hk1 (kept_trans u.kept_sentApply (State.kept_of_bare hbare))))
    (by simp [tripParts, faultParts])⟩
  · have h := congrArg SafetySt.overTemp (State.saf_of_bare hbare)
    rw [State.finish_saf_overTemp]
    exact h.trans ((congrArg (·.2.1.overTemp) u.sentApply_rules).trans (by subst hu; rfl))
  · rw [State.finish_hasCause]
    unfold State.hasCause
    rw [hy, State.evalTrip_flt_causes]
    exact State.clearAt_hasCause _ _ _

end

/-- Settles O32: each die's command as what it makes of the die, of S_ERR and of the supplies. -/
theorem overTemperatureActs : Obligations.OverTemperatureActs := by
  unfold Obligations.OverTemperatureActs
  exact fun s d => ⟨dieOvertempTrip_cuts, dieOvertempRelease_ends, dieOvertempTrip_cDie, dieOvertempRelease_cDie⟩

end Sys2Proof.Machine
end

section
/-!
SUPPORT. The SENT channels (R387, R536, R538): O57. What a message leaves of the causes and of the channel is said step by step.
-/

namespace Sys2Proof.Machine

namespace State

variable (s : State)

/-! ### What faults and clearances leave of the other causes -/

/-- An occurrence leaves whether the cause of another source is present. -/
theorem raiseAt_hasCause_other {x y : Source} (h : y ≠ x) (v : Word) (ev : Bool) (seen : Nat) :
    (s.raiseAt x v ev seen).hasCause y = s.hasCause y := by
  unfold State.raiseAt
  split
  · rfl
  · dsimp only
    unfold State.hasCause
    rw [cond_keep (fun t => t.flt.causes) _ _ _ (occur_causes _ _ _ _).symm, occur_causes]
    cases decide (x.cls = 0x1C ∧ 1 ≤ x.sub ∧ x.sub ≤ 6) <;> simp [State.logAt, State.event, h.symm]

theorem raiseOpenAt_hasCause_other {x y : Source} (h : y ≠ x) (ev : Bool) (seen : Nat) :
    (s.raiseOpenAt x ev seen).hasCause y = s.hasCause y := by
  unfold State.raiseOpenAt
  split
  · rfl
  · exact raiseAt_hasCause_other s h _ ev seen

/-- A clearance raises no cause. -/
theorem clearAt_hasCause_of (x y : Source) (seen : Nat) (h : s.hasCause y = false) : (s.clearAt x seen).hasCause y = false := by
  unfold State.clearAt
  split
  · simp only [State.hasCause, List.any_eq_false] at h ⊢
    exact fun c hc => h c (List.mem_filter.1 hc).1
  · exact h

/-! ### The Chassis page -/

theorem kept_chInvalid (i : Nat) : kept [.chassis] s (s.chInvalid i) := by
  unfold State.chInvalid
  split
  · exact kept_chassisPut s i _
  · exact kept_refl _ s

theorem chInvalid_flt (i : Nat) : (s.chInvalid i).flt = s.flt := by
  unfold State.chInvalid; split <;> rfl

theorem kept_sentInvalid (n : Nat) : kept [.chassis] s (s.sentInvalid n) := by
  unfold State.sentInvalid
  split
  · exact kept_chain (kept_chInvalid s _) (kept_chInvalid _ _)
  · exact kept_refl _ s

theorem sentInvalid_hasCause (n : Nat) (x : Source) : (s.sentInvalid n).hasCause x = s.hasCause x := by
  unfold State.sentInvalid
  split
  · unfold State.hasCause
    rw [chInvalid_flt, chInvalid_flt]
  · rfl

theorem sentInvalid_now (n : Nat) : (s.sentInvalid n).now = s.now := by
  have h (t : State) (i : Nat) : (t.chInvalid i).now = t.now := by unfold State.chInvalid; split <;> rfl
  unfold State.sentInvalid
  split
  · exact (h _ _).trans (h _ _)
  · rfl

theorem sentInvalid_ch (n m : Nat) : (s.sentInvalid n).sentCh m = s.sentCh m := by
  unfold State.sentCh; rw [sentInvalid_sent]

/-! ### What a current sample leaves (R193, R197) -/

theorem isentJudge_hasCause (n : Nat) (ma : Int) {x : Source} (hx : x.cls ≠ 0x0E) (h : s.hasCause x = false) :
    (s.isentJudge n ma).hasCause x = false := by
  have hraise (t : State) (k : Nat) (v : Word) (ht : t.hasCause x = false) : (t.raise 0x0E k 0 1 v).hasCause x = false :=
    (raiseAt_hasCause_other t (fun e => hx (by rw [e])) v false t.sweep).trans ht
  have hclear (t : State) (k : Nat) (ht : t.hasCause x = false) : (t.clear 0x0E k 0 1).hasCause x = false :=
    clearAt_hasCause_of t _ x t.sweep ht
  unfold State.isentJudge
  extract_lets dis chg u c v w
  have hu : u.hasCause x = false := h
  have hv : v.hasCause x = false := iteInduction (motive := fun y : State => y.hasCause x = false)
    (fun _ => hraise _ _ _ hu) fun _ => hu
  have hw : w.hasCause x = false := iteInduction (motive := fun y : State => y.hasCause x = false)
    (fun _ => hraise _ _ _ hv) fun _ => hv
  exact iteInduction (motive := fun y : State => y.hasCause x = false) (fun _ => hclear _ _ (hclear _ _ hw)) fun _ => hw

theorem sentSample_hasCause (i raw : Nat) {x : Source} (hx : x.cls ≠ 0x0E) (h : s.hasCause x = false) :
    (s.sentSample i raw).hasCause x = false := by
  have hch (t : State) (j : Nat) (code : Int) (inv : Bool) : (t.chSample j code inv).flt = t.flt := by
    unfold State.chSample; split <;> rfl
  have hsame {t t' : State} (e : t'.flt = t.flt) (ht : t.hasCause x = false) : t'.hasCause x = false := by
    unfold State.hasCause at ht ⊢; rw [e]; exact ht
  unfold State.sentSample
  extract_lets u ma v x1 w
  have hu : u.hasCause x = false := h
  refine iteInduction (motive := fun y : State => y.hasCause x = false) (fun _ => ?_) fun _ => hsame (hch _ _ _ _) hu
  refine isentJudge_hasCause _ _ _ hx ?_
  exact hsame (t := u) (hch _ _ _ _) hu

/-- What the overcurrent counts leave of a channel, a sample leaves (R193). -/
theorem isentJudge_ch {β : Type} (p : SentCh → β)
    (hp : ∀ (c : SentCh) a b i f, p { c with ocDis := a, ocChg := b, ocIn := i, ocFirst := f } = p c) (n m : Nat) (ma : Int) :
    p ((s.isentJudge m ma).sentCh n) = p (s.sentCh n) := by
  have hfault {t t' : State} (e : t'.bare = t.bare) : p (t'.sentCh n) = p (t.sentCh n) := congrArg p (sentCh_of_bare e n)
  unfold State.isentJudge
  extract_lets dis chg u c v w
  have hu : p (u.sentCh n) = p (s.sentCh n) := sentCh_modSent_keep s p n m _ fun c => hp c _ _ _ _
  have hv : p (v.sentCh n) = p (u.sentCh n) := iteInduction (motive := fun y : State => p (y.sentCh n) = p (u.sentCh n))
    (fun _ => hfault (raiseAt_bare _ _ _ _ _)) fun _ => rfl
  have hw : p (w.sentCh n) = p (v.sentCh n) := iteInduction (motive := fun y : State => p (y.sentCh n) = p (v.sentCh n))
    (fun _ => hfault (raiseAt_bare _ _ _ _ _)) fun _ => rfl
  refine (iteInduction (motive := fun y : State => p (y.sentCh n) = p (w.sentCh n)) (fun _ => ?_) fun _ => rfl).trans
    (hw.trans (hv.trans hu))
  exact (hfault (clearAt_bare _ _ _)).trans (hfault (clearAt_bare _ _ _))

theorem sentSample_ch {β : Type} (p : SentCh → β)
    (hp : ∀ (c : SentCh) a b i f, p { c with ocDis := a, ocChg := b, ocIn := i, ocFirst := f } = p c) (n i raw : Nat) :
    p ((s.sentSample i raw).sentCh n) = p (s.sentCh n) := by
  have hsame {t t' : State} (e : t'.sent = t.sent) : p (t'.sentCh n) = p (t.sentCh n) := by unfold State.sentCh; rw [e]
  unfold State.sentSample
  extract_lets u ma v x w
  refine iteInduction (motive := fun y : State => p (y.sentCh n) = p (s.sentCh n)) (fun _ => ?_) fun _ => hsame (chSample_sent _ _ _ _)
  rw [isentJudge_ch _ p hp]
  have hv : v.sent = u.sent := chSample_sent _ _ _ _
  exact hsame hv

end State

/-- What SENT keeps of a channel's messages (R387, R538). -/
def SentCh.heardOf (c : SentCh) : Nat × Option Nat × Nat × Nat := (c.lastAt, c.prevCal, c.bad, c.good)

section
variable {s : State} (hr : s.pw.running = true) {n : Nat} (h8 : n < 8) (hn : n < s.sent.length)
include hr h8 hn

theorem sentMessage_valid {msg : SentMsg} (hu : s.sentUse n = true) (hk : s.sentCheck n msg = 0) :
    answers (.sentMessage n msg) s fun t =>
      (t.sentCh n).lastAt = s.now ∧ (t.sentCh n).prevCal = some msg.cal ∧ (t.sentCh n).bad = 0 ∧
      (t.sentCh n).good = (s.sentCh n).good + 1 ∧ t.hasCause ⟨0x0F, 2, 0, n + 1⟩ = false ∧
      (10 ≤ (s.sentCh n).good + 1 → t.hasCause ⟨0x0F, 1, 0, n + 1⟩ = false) := by
  obtain ⟨f, e, hch, h2, h1⟩ : ∃ (f : State → State) (_ : execSentMessage n msg s = onC s f),
      ((f s).sentCh n).heardOf = (s.now, some msg.cal, 0, (s.sentCh n).good + 1) ∧ (f s).hasCause ⟨0x0F, 2, 0, n + 1⟩ = false ∧
      (10 ≤ (s.sentCh n).good + 1 → (f s).hasCause ⟨0x0F, 1, 0, n + 1⟩ = false) := by
    refine ⟨_, by unfold execSentMessage; rfl, ?_⟩
    rw [if_neg (by simp [hu]; omega)]
    extract_lets k lim u0 u1 v st u c u2 u3 u4 u5 u6
    rw [if_neg (by simp [k, hk])]
    have hc0 : (u.sentCh n).heardOf = (s.now, some msg.cal, 0, (s.sentCh n).good + 1) := by
      rw [State.sentCh_modSent_self s n _ hn]
      rfl
    have hgood : c.good = (s.sentCh n).good + 1 := congrArg (·.2.2.2) hc0
    have hclear (t : State) (j : Nat) : ((t.sentClear n j).sentCh n).heardOf = (t.sentCh n).heardOf :=
      congrArg SentCh.heardOf (State.sentCh_of_bare (t.sentClear_bare n j) n)
    have hsamp (t : State) (i raw : Nat) : ((t.sentSample i raw).sentCh n).heardOf = (t.sentCh n).heardOf :=
      t.sentSample_ch SentCh.heardOf (fun _ _ _ _ _ => rfl) n i raw
    have hstep {x : Source} (hx : x ≠ ⟨0x0F, 4, 0, n + 1⟩) (hx' : x.cls ≠ 0x0E) (h : u3.hasCause x = false) :
        (u6.sentInvalid n).hasCause x = false := by
      have h4 : u4.hasCause x = false := iteInduction (motive := fun y : State => y.hasCause x = false)
        (fun _ => (State.raiseOpenAt_hasCause_other u3 hx false u3.sweep).trans h) fun _ =>
        iteInduction (motive := fun y : State => y.hasCause x = false) (fun _ => State.clearAt_hasCause_of u3 _ x _ h) fun _ => h
      have h5 : u5.hasCause x = false := State.sentSample_hasCause _ _ _ hx' h4
      have h6 : u6.hasCause x = false := iteInduction (motive := fun y : State => y.hasCause x = false) (fun _ => h5)
        fun _ => State.sentSample_hasCause _ _ _ hx' h5
      rw [State.sentInvalid_hasCause]
      exact h6
    refine ⟨?_, hstep (by simp) (by simp) ?_, fun hg => hstep (by simp) (by simp) ?_⟩
    · have h2 : (u2.sentCh n).heardOf = (u.sentCh n).heardOf := hclear _ _
      have h3 : (u3.sentCh n).heardOf = (u2.sentCh n).heardOf :=
        iteInduction (motive := fun y : State => (y.sentCh n).heardOf = (u2.sentCh n).heardOf) (fun _ => hclear _ _) fun _ => rfl
      have h4 : (u4.sentCh n).heardOf = (u3.sentCh n).heardOf :=
        iteInduction (motive := fun y : State => (y.sentCh n).heardOf = (u3.sentCh n).heardOf)
          (fun _ => congrArg SentCh.heardOf (State.sentCh_of_bare (u3.sentRaise_bare n 4) n)) fun _ =>
          iteInduction (motive := fun y : State => (y.sentCh n).heardOf = (u3.sentCh n).heardOf) (fun _ => hclear _ _) fun _ => rfl
      have h5 : (u5.sentCh n).heardOf = (u4.sentCh n).heardOf := hsamp _ _ _
      have h6 : (u6.sentCh n).heardOf = (u5.sentCh n).heardOf :=
        iteInduction (motive := fun y : State => (y.sentCh n).heardOf = (u5.sentCh n).heardOf) (fun _ => rfl) fun _ => hsamp _ _ _
      rw [State.sentInvalid_ch, h6, h5, h4, h3, h2, hc0]
    · have h2 : u2.hasCause ⟨0x0F, 2, 0, n + 1⟩ = false := State.clearAt_hasCause u _ _
      exact iteInduction (motive := fun y : State => y.hasCause ⟨0x0F, 2, 0, n + 1⟩ = false)
        (fun _ => State.clearAt_hasCause_of u2 _ _ _ h2) fun _ => h2
    · simp only [u3]
      rw [if_pos (by rw [hgood]; exact hg)]
      exact State.clearAt_hasCause u2 _ _
  refine answers_onC hr e ?_
  rw [State.sentCh_finish, State.finish_hasCause, State.finish_hasCause]
  exact ⟨congrArg (·.1) hch, congrArg (·.2.1) hch, congrArg (·.2.2.1) hch, congrArg (·.2.2.2) hch, h2, h1⟩

theorem sentMessage_invalid {msg : SentMsg} (hu : s.sentUse n = true) (hk : s.sentCheck n msg ≠ 0) :
    answers (.sentMessage n msg) s fun t =>
      t.sentCh n = { s.sentCh n with bad := (s.sentCh n).bad + 1, good := 0, stBad := 0, stGood := 0, prevCal := none } ∧
      (s.par Fld.sentN 0 ≤ (s.sentCh n).bad + 1 → t.hasCause ⟨0x0F, 1, 0, n + 1⟩ = true) ∧
      kept (.sent :: .chassis :: faultParts) s t := by
  obtain ⟨f, e, u, hu1, v, hv1, hf⟩ : ∃ (f : State → State) (_ : execSentMessage n msg s = onC s f) (u : State)
      (_ : u = s.modSent n fun c => { c with bad := c.bad + 1, good := 0, stBad := 0, stGood := 0, prevCal := none }) (v : State)
      (_ : v = if s.par Fld.sentN 0 ≤ (u.sentCh n).bad then u.raise 0x0F 1 0 (n + 1) (word (s.sentCheck n msg)) else u),
      f s = v.sentInvalid n := by
    refine ⟨_, by unfold execSentMessage; rfl, _, rfl, _, rfl, ?_⟩
    rw [if_neg (by simp [hu]; omega)]
    dsimp only
    rw [if_pos hk]
  have hself : u.sentCh n = { s.sentCh n with bad := (s.sentCh n).bad + 1, good := 0, stBad := 0, stGood := 0, prevCal := none } := by
    rw [hu1, State.sentCh_modSent_self s n _ hn]
  have hbare : v.bare = u.bare := by
    rw [hv1]
    split
    · exact State.raiseAt_bare _ _ _ _ _
    · rfl
  refine answers_onC hr e ?_
  rw [hf, State.sentCh_finish, State.sentInvalid_ch, State.sentCh_of_bare hbare, hself, State.finish_hasCause, State.sentInvalid_hasCause]
  refine ⟨rfl, fun hlim => ?_, ?_⟩
  · rw [hv1, if_pos (by rw [hself]; exact hlim)]
    exact State.raiseAt_hasCause _ _ _ _ _
  · have hk := kept_trans (kept_trans (hu1 ▸ State.kept_modSent s n _) (State.kept_of_bare hbare)) (v.kept_sentInvalid n)
    exact State.kept_mono (kept_finish hk) (by simp [tripParts, faultParts])

omit hn in
theorem sentTimeout_raises (hu : s.sentUse n = true) (ho : (s.sentCh n).offAt = none)
    (hc : s.hasCause ⟨0x0F, 2, 0, n + 1⟩ = false) : answers (.sentTimeout n) s fun t =>
      t.now = max s.now ((s.sentCh n).lastAt + 1000000 * s.par Fld.sentTmo 0) ∧ faulted [.chassis] s t ⟨0x0F, 2, 0, n + 1⟩ := by
  refine answers_onC hr (by rfl) ?_
  rw [if_pos ⟨hu, h8, ho, hc⟩]
  obtain ⟨u, hu1⟩ : ∃ u, u = s.until ((s.sentCh n).lastAt + ms (s.par Fld.sentTmo 0)) := ⟨_, rfl⟩
  have hnow : ((u.sentRaise n 2).sentInvalid n).now = max s.now ((s.sentCh n).lastAt + 1000000 * s.par Fld.sentTmo 0) := by
    rw [State.sentInvalid_now]
    refine (State.now_of_steady (State.raiseOpenAt_steady u _ _ _)).trans ?_
    rw [hu1]
    simp [ms, Nat.mul_comm]
  rw [← hu1]
  refine ⟨by rw [State.finish_now, hnow]; simp, faulted_finish ?_ ?_⟩
  · rw [State.sentInvalid_hasCause]
    exact State.raiseOpenAt_hasCause _ _ _ _
  · have hk := kept_trans (kept_trans (hu1 ▸ kept_until s _) (State.kept_of_bare (u.sentRaise_bare n 2)))
      (State.kept_sentInvalid (u.sentRaise n 2) n)
    exact State.kept_mono hk (by simp [faultParts])

omit h8

theorem sentSupplyLimit_raises (hs : (s.sentCh n).supply = true) : answers (.sentSupplyLimit n) s fun t =>
      t.sentCh n = { s.sentCh n with limited := true } ∧ faulted [.sent] s t ⟨0x0F, 3, 0, n + 1⟩ := by
  refine answers_onC hr (by rfl) ?_
  rw [if_pos hs, State.sentCh_finish, State.sentCh_of_bare (State.sentRaise_bare _ _ _), State.sentCh_modSent_self s n _ hn]
  exact ⟨rfl, faulted_raiseOpenAt (State.kept_modSent s n _) _ _ _⟩

theorem sentSupplyOn_restores {m : Nat} (ho : (s.sentCh n).offAt = some m) : answers (.sentSupplyOn n) s fun t =>
      t.now = max s.now (m + 100000000) ∧ kept (.sent :: tripParts) s t ∧
      t.sentCh n = (if s.sentSupplied n = true ∧ s.pw.sentvsLow = false ∧ s.saf.overTemp = false then { s.sentCh n with
          supply := true, offAt := none, onAt := some t.now, limited := false
          lastAt := t.now + 1000000 * s.par Fld.sentTstart 0, prevCal := none }
        else { s.sentCh n with offAt := none }) := by
  obtain ⟨u, hu⟩ : ∃ u, u = s.until (m + ms 100) := ⟨_, rfl⟩
  have hnow : max s.now u.now = max s.now (m + 100000000) := by rw [hu]; simp [ms]
  have hunow : u.now = max s.now (m + 100000000) := by rw [hu]; rfl
  have hk (g : SentCh → SentCh) : kept (.sent :: tripParts) s (s.finish (u.modSent n g)) :=
    State.kept_mono (kept_finish (kept_trans (hu ▸ kept_until s _) (State.kept_modSent u n g))) (by simp [tripParts])
  have hself (g : SentCh → SentCh) : (u.modSent n g).sentCh n = g (s.sentCh n) := by
    rw [hu]; exact State.sentCh_modSent_self (s.until _) n g hn
  have hstart : u.sentStart = 1000000 * s.par Fld.sentTstart 0 := by rw [hu]; simp [State.sentStart, ms, State.par, Nat.mul_comm]
  refine answers_onC hr (f := fun _ => if s.sentSupplied n = true ∧ s.pw.sentvsLow = false ∧ s.saf.overTemp = false
    then u.sentOn n true else u.modSent n fun c => { c with offAt := none }) ?_ ?_
  · change execSentSupplyOn n s = _
    unfold execSentSupplyOn
    rw [onC_running hr, onC_running hr, ho, hu]
    rfl
  split
  · unfold State.sentOn
    rw [State.finish_now, State.sentCh_finish, hself]
    refine ⟨hnow, hk _, ?_⟩
    rw [if_pos rfl, hstart, hunow]
    have hmax : max s.now (u.modSent n fun c => { c with
        supply := true, offAt := none, onAt := some (max s.now (m + 100000000)), limited := false
        lastAt := max s.now (m + 100000000) + 1000000 * s.par Fld.sentTstart 0, prevCal := none }).now = max s.now (m + 100000000) :=
      hnow
    rw [hmax]
  · rw [State.finish_now, State.sentCh_finish, hself]
    exact ⟨hnow, hk _, rfl⟩

theorem sentSupplyRunTimer_clears {m : Nat} (ho : (s.sentCh n).onAt = some m) : answers (.sentSupplyRunTimer n) s fun t =>
      t.now = max s.now (m + 100000000) ∧ t.sentCh n = { s.sentCh n with onAt := none } ∧
      ((s.sentCh n).limited = false → t.hasCause ⟨0x0F, 3, 0, n + 1⟩ = false) ∧ kept (.sent :: .collector :: tripParts) s t := by
  obtain ⟨u, hu⟩ : ∃ u, u = (s.until (m + ms 100)).modSent n (fun (c : SentCh) => { c with onAt := none }) := ⟨_, rfl⟩
  have hself : u.sentCh n = { s.sentCh n with onAt := none } := by rw [hu]; exact State.sentCh_modSent_self (s.until _) n _ hn
  have hnow : max s.now u.now = max s.now (m + 100000000) := by
    have h : u.now = max s.now (m + 100000000) := by rw [hu]; rfl
    rw [h]; simp
  have hk : kept [.sent] s u := hu ▸ kept_trans (kept_until s _) (State.kept_modSent _ n _)
  refine answers_onC hr (f := fun _ => if (u.sentCh n).limited then u else u.sentClear n 3) ?_ ?_
  · change execSentSupplyRunTimer n s = _
    unfold execSentSupplyRunTimer
    rw [onC_running hr, onC_running hr, ho, hu]
  split
  · next hl =>
    rw [State.finish_now, State.sentCh_finish]
    refine ⟨hnow, hself, fun h => ?_, State.kept_mono (kept_finish hk) (by simp [tripParts])⟩
    rw [hself] at hl
    exact absurd (hl.symm.trans h) (by decide)
  · rw [State.finish_now, State.sentCh_finish, State.sentCh_of_bare (State.sentClear_bare _ _ _), State.finish_hasCause]
    exact ⟨(congrArg (max s.now) (State.now_of_steady (State.clearAt_steady u _ _))).trans hnow, hself,
      fun _ => State.clearAt_hasCause u _ _,
      State.kept_mono (kept_finish (kept_trans hk (State.kept_clearAt u _ _))) (by simp [tripParts])⟩

include h8

theorem sentvsUndervoltage_acts (low : Bool) : answers (.sentvsUndervoltage low) s fun t => t.pw = { s.pw with sentvsLow := low } ∧
      (low = true → (t.sentCh n).supply = false) ∧
      (low = false → s.sentUse n = true → s.sentSupplied n = true → s.saf.overTemp = false → (s.sentCh n).offAt = none →
        (t.sentCh n).supply = true) ∧
      kept (.power :: .sent :: .collector :: tripParts) s t := by
  obtain ⟨u, hu⟩ : ∃ u, u = { s with pw := { s.pw with sentvsLow := low } } := ⟨_, rfl⟩
  have hlen : n < u.sent.length := by rw [hu]; exact hn
  refine answers_onC hr (f := fun _ => u.sentApply) ?_ ?_
  · change execSentvsUndervoltage low s = _
    unfold execSentvsUndervoltage
    rw [onC_running hr, onC_running hr, hu]
  rw [State.finish_pw, State.sentCh_finish, State.sentApply_ch u h8 hlen]
  refine ⟨(congrArg (·.1) u.sentApply_rules).trans (by subst hu; rfl), fun hl => ?_, fun hl hus hsu hot hoff => ?_, ?_⟩
  · exact u.sentSet_off n (.inl (by subst hu; exact hl))
  · subst hu
    exact State.sentSet_on _ n hus hsu hl hot hoff
  · exact State.kept_mono (kept_finish (kept_trans (hu ▸ kept_power s _) u.kept_sentApply)) (by simp [tripParts])

end

/-- Settles O57: one lemma for each command; a valid message passes the clearances and the current sample in steps. -/
theorem sentChannelsAct : Obligations.SentChannelsAct := by
  unfold Obligations.SentChannelsAct
  intro s n m c hr h8 hn hc
  subst hc
  exact ⟨fun msg hu hk => sentMessage_valid hr h8 hn hu hk, fun msg hu hk => sentMessage_invalid hr h8 hn hu hk,
    sentTimeout_raises hr h8, sentSupplyLimit_raises hr hn, sentSupplyOn_restores hr hn, sentSupplyRunTimer_clears hr hn,
    sentvsUndervoltage_acts hr h8 hn⟩

end Sys2Proof.Machine
end

section
/-!
SUPPORT. The contactor channels (R344, R345, R348, R349, R353, R354): O54. What a channel's own fault makes of it is said once.
-/

namespace Sys2Proof.Machine

/-- What its own fault makes of a channel (R348, R349). -/
def Channel.failed (c : Channel) (now : Nat) : Channel :=
  if c.energised then c.drop now true
  else if c.phase = .drop then { c with ownFault := true }
  else { c with phase := .blocked, cmd := false, klOn := false }

theorem Channel.failed_off (c : Channel) (now : Nat) : (c.failed now).energised = false := by
  unfold Channel.failed
  split
  · exact State.drop_not_energised _ _ _
  · next he =>
    split
    · exact (Bool.not_eq_true _).mp he
    · rfl

theorem Channel.failed_tpi (c : Channel) (now : Nat) : (c.failed now).tpi = c.tpi := by
  unfold Channel.failed; (repeat' split) <;> rfl

theorem Channel.failed_pinBad (c : Channel) (now : Nat) : (c.failed now).pinBad = c.pinBad := by
  unfold Channel.failed; (repeat' split) <;> rfl

/-- A channel that fails with its contact recognised open has nothing to wait for (log 17). -/
theorem Channel.failed_blocked {c : Channel} (h : c.phase = .hold) (hk : c.kf = false) (now : Nat) :
    (c.failed now).phase = .blocked ∧ (c.failed now).kf = false := by
  have he : c.energised = true := by unfold Channel.energised; rw [h]; rfl
  unfold Channel.failed
  rw [if_pos he]
  unfold Channel.drop
  rw [hk]
  exact ⟨rfl, rfl⟩

namespace State

variable (s : State)

theorem kept_modChan (n : Nat) (f : Channel → Channel) : kept [.channels] s (s.modChan n f) := fun p hp => by
  cases p
  case host k => cases k <;> rfl
  case channels => exact absurd (by simp) hp
  all_goals simp [Part.same, State.dev, State.modChan, SafetySt.body]

/-- A channel that is not as after reset is one of the six (R338). -/
theorem lt_of_chan {n : Nat} (h : s.chan n ≠ {}) : n < s.saf.ch.length := by
  by_contra hn
  refine h ?_
  unfold State.chan
  rw [List.getD_eq_getElem?_getD, List.getElem?_eq_none (Nat.le_of_not_lt hn)]
  rfl

theorem lt_of_phase {n : Nat} (h : (s.chan n).phase ≠ .opened) : n < s.saf.ch.length :=
  s.lt_of_chan fun e => h (by rw [e])

theorem lt_of_kf {n : Nat} (h : (s.chan n).kf = true) : n < s.saf.ch.length :=
  s.lt_of_chan fun e => absurd ((congrArg Channel.kf e).symm.trans h) (by decide)

theorem lt_of_energised {n : Nat} (h : (s.chan n).energised = true) : n < s.saf.ch.length :=
  s.lt_of_chan fun e => absurd ((congrArg Channel.energised e).symm.trans h) (by decide)

/-- A channel that is not energised ends a command as it stands. -/
theorem finish_chan_off {t : State} {n : Nat} (h : (t.chan n).energised = false) : (s.finish t).chan n = t.chan n :=
  Channel.settles_off (finish_settles s t n) h

theorem raiseOpenAt_chan_off {n : Nat} (x : Source) (ev : Bool) (seen : Nat) (h : (s.chan n).energised = false) :
    (s.raiseOpenAt x ev seen).chan n = s.chan n := Channel.settles_off (raiseOpenAt_settles s x ev seen n) h

/-! ### A channel's own fault -/

theorem chanFault_chan {n : Nat} (hn : n < s.saf.ch.length) (cls sub : Nat) :
    (s.chanFault n cls sub).chan n = (s.chan n).failed s.now := by
  unfold State.chanFault
  extract_lets c u
  have hu : u.chan n = (s.chan n).failed s.now := chan_modChan_self s n _ hn
  have he (b : Bool) : (u.eventIf b Ev.cont).chan n = u.chan n := by unfold State.chan; rw [eventIf_saf]
  exact (raiseOpenAt_chan_off _ _ _ _ (by rw [he, hu, Channel.failed_off])).trans ((he _).trans hu)

theorem chanFault_steady (n cls sub : Nat) : (s.chanFault n cls sub).steady = s.steady := by
  unfold State.chanFault
  extract_lets c u
  exact (raiseOpenAt_steady _ _ _ _).trans ((eventIf_steady _ _ _).trans rfl)

theorem kept_chanFault (n cls sub : Nat) : kept faultParts s (s.chanFault n cls sub) := by
  unfold State.chanFault
  extract_lets c u
  have hu : kept [.channels] s u := kept_modChan s n _
  have hb (b : Bool) : ((u.eventIf b Ev.cont).raiseOpenEv cls sub 0 (chanDetail n)).bare = u.bare :=
    (raiseOpenAt_bare _ _ _ _).trans (eventIf_bare _ _ _)
  exact kept_mono (kept_trans hu (kept_of_bare (hb _))) (by simp [faultParts])

/-- A command that ends with a channel's own fault (R349). -/
theorem chanFault_ends {u : State} {n cls sub : Nat} (hn : n < u.saf.ch.length) (hk : kept faultParts s u) :
    (s.finish (u.chanFault n cls sub)).chan n = (u.chan n).failed u.now ∧
    (s.finish (u.chanFault n cls sub)).now = max s.now u.now ∧
    faulted [] s (s.finish (u.chanFault n cls sub)) ⟨cls, sub, 0, n + 1⟩ := by
  have hc := u.chanFault_chan hn cls sub
  refine ⟨?_, by rw [finish_now, now_of_steady (u.chanFault_steady n cls sub)],
    faulted_finish (chanFault_hasCause u n cls sub) (kept_mono (kept_chain hk (u.kept_chanFault n cls sub)) (by simp))⟩
  rw [s.finish_chan_off (by rw [hc, Channel.failed_off]), hc]

/-! ### What a recognised change of KFn does -/

/-- A contact is recognised closed (R345, R349). -/
def kfCloses (s : State) (n : Nat) : State :=
  let c := s.chan n
  let u := s.modChan n (fun c => { c with kf := true })
  match c.phase with
  | .pull =>
    if s.now - c.t0 < s.tPi n then
      u.modChan n (fun x => { x with holdAt := some (s.now + s.tHd n), tpi := min ((s.now - c.t0) / 1000000) 511 })
    else u.pullInFail n
  | .opened => if s.saf.weldDue then u else u.raiseOpenEv 0x12 2 0 (chanDetail n)
  | .blocked => if s.saf.weldDue then u else u.raiseOpenEv 0x12 2 0 (chanDetail n)
  | _ => u

/-- A contact is recognised open (R348, R349). -/
def kfOpens (s : State) (n : Nat) : State :=
  let c := s.chan n
  let u := s.modChan n (fun c => { c with kf := false })
  match c.phase with
  | .hold => u.chanFault n 0x11 2
  | .drop =>
    if s.now - c.t0 < s.tDo n then
      (u.modChan n (fun x => { x with
        phase := cond x.ownFault .blocked .opened, tdo := min ((s.now - c.t0) / 2000000) 127 })).event Ev.cont
    else if c.welded then u
    else (u.modChan n (fun x => { x with welded := true, tdo := min (s.tDo n / 2000000) 127 })).raiseOpenEv
           0x12 1 0 (chanDetail n)
  | _ => u

theorem kfCloses_pull {n : Nat} (hp : (s.chan n).phase = .pull) : s.kfCloses n =
    if s.now - (s.chan n).t0 < s.tPi n then
      (s.modChan n fun c => { c with kf := true }).modChan n fun x => { x with
        holdAt := some (s.now + s.tHd n), tpi := min ((s.now - (s.chan n).t0) / 1000000) 511 }
    else (s.modChan n fun c => { c with kf := true }).pullInFail n := by
  unfold State.kfCloses
  dsimp only
  rw [hp]

theorem kfCloses_weld {n : Nat} (hp : (s.chan n).phase = .opened ∨ (s.chan n).phase = .blocked) (hw : s.saf.weldDue = false) :
    s.kfCloses n = (s.modChan n fun c => { c with kf := true }).raiseOpenEv 0x12 2 0 (chanDetail n) := by
  have hnw : ¬ s.saf.weldDue = true := by rw [hw]; decide
  unfold State.kfCloses
  dsimp only
  rcases hp with hp | hp
  · rw [hp]
    exact if_neg hnw
  · rw [hp]
    exact if_neg hnw

theorem kfOpens_hold {n : Nat} (hp : (s.chan n).phase = .hold) :
    s.kfOpens n = (s.modChan n fun c => { c with kf := false }).chanFault n 0x11 2 := by
  unfold State.kfOpens
  dsimp only
  rw [hp]

theorem kfOpens_drop {n : Nat} (hp : (s.chan n).phase = .drop) : s.kfOpens n =
    if s.now - (s.chan n).t0 < s.tDo n then
      ((s.modChan n fun c => { c with kf := false }).modChan n fun x => { x with
        phase := cond x.ownFault .blocked .opened, tdo := min ((s.now - (s.chan n).t0) / 2000000) 127 }).event Ev.cont
    else if (s.chan n).welded then s.modChan n fun c => { c with kf := false }
    else ((s.modChan n fun c => { c with kf := false }).modChan n fun x => { x with
      welded := true, tdo := min (s.tDo n / 2000000) 127 }).raiseOpenEv 0x12 1 0 (chanDetail n) := by
  unfold State.kfOpens
  dsimp only
  rw [hp]

end State

section
variable {s : State} {n : Nat} (hr : s.pw.running = true) (hu : s.contUse n = true) {level : Bool}
include hr hu

theorem kfRecognised_closes (hk : (s.chan n).kf = false) (hl : (level != bit (s.par Fld.contCfg n) 1) = true)
    {P : State → Prop} (h : P (s.finish (s.kfCloses n))) : answers (.kfRecognised n level) s P := by
  refine answers_onC hr (f := fun _ => s.kfCloses n) ?_ h
  change execKfRecognised n level s = _
  unfold execKfRecognised
  rw [onC_running hr, onC_running hr, hl]
  dsimp only
  rw [if_neg (by simp [hu, hk]), if_pos rfl]
  unfold State.kfCloses
  dsimp only
  cases (s.chan n).phase <;> rfl

theorem kfRecognised_opens (hk : (s.chan n).kf = true) (hl : (level != bit (s.par Fld.contCfg n) 1) = false)
    {P : State → Prop} (h : P (s.finish (s.kfOpens n))) : answers (.kfRecognised n level) s P := by
  refine answers_onC hr (f := fun _ => s.kfOpens n) ?_ h
  change execKfRecognised n level s = _
  unfold execKfRecognised
  rw [onC_running hr, onC_running hr, hl]
  dsimp only
  rw [if_neg (by simp [hu, hk]), if_neg (by simp)]
  unfold State.kfOpens
  dsimp only
  cases (s.chan n).phase <;> rfl

end

/-! ### KF_RECOGNISED -/

section
variable {s : State} {n : Nat} (hr : s.pw.running = true) (hu : s.contUse n = true) {level : Bool}
include hr hu

section
variable (hk : (s.chan n).kf = false) (hl : (level != bit (s.par Fld.contCfg n) 1) = true)
include hk hl

/-- A closing in time times the hold (R345). -/
theorem kfRecognised_holds (ha : s.atRest) (hp : (s.chan n).phase = .pull) (ht : s.now - (s.chan n).t0 < s.tPi n) :
    answers (.kfRecognised n level) s fun t =>
      t.chan n = { s.chan n with
        kf := true, holdAt := some (s.now + s.tHd n), tpi := min ((s.now - (s.chan n).t0) / 1000000) 511 } ∧ kept tripParts s t := by
  have hn := s.lt_of_phase (n := n) (by rw [hp]; decide)
  have hm := State.quiet_of_energised ha hn (Channel.energised_of_pull hp)
  refine kfRecognised_closes hr hu hk hl ?_
  rw [s.kfCloses_pull hp, if_pos ht, State.finish_chan s (by rw [State.modChan_tripMask, State.modChan_tripMask, hm]),
    State.chan_modChan_self _ _ _ (by simpa [State.modChan, modAt] using hn), State.chan_modChan_self _ _ _ hn]
  exact ⟨rfl, State.kept_mono (kept_finish (kept_trans (State.kept_modChan s n _) (State.kept_modChan _ n _))) (by simp [tripParts])⟩

/-- A closing after the limit is the pull-in's fault (R345). -/
theorem kfRecognised_late (hp : (s.chan n).phase = .pull) (ht : s.tPi n ≤ s.now - (s.chan n).t0) :
    answers (.kfRecognised n level) s fun t => (t.chan n).energised = false ∧ faulted [] s t ⟨0x11, 1, 0, n + 1⟩ := by
  have hn := s.lt_of_phase (n := n) (by rw [hp]; decide)
  refine kfRecognised_closes hr hu hk hl ?_
  rw [s.kfCloses_pull hp, if_neg (Nat.not_lt.2 ht)]
  unfold State.pullInFail
  have h := State.chanFault_ends s (u := (s.modChan n fun c => { c with kf := true }).modChan n fun c => { c with
    tpi := min ((s.modChan n fun c => { c with kf := true }).tPi n / 1000000) 511 }) (n := n) (cls := 0x11) (sub := 1)
    (by simpa [State.modChan, modAt] using hn)
    (State.kept_mono (kept_chain (State.kept_modChan s n _) (State.kept_modChan _ n _)) (by simp [faultParts]))
  exact ⟨by rw [h.1, Channel.failed_off], h.2.2⟩

/-- A closing where none belongs (R349). -/
theorem kfRecognised_welded (hp : (s.chan n).phase = .opened ∨ (s.chan n).phase = .blocked) (hw : s.saf.weldDue = false) :
    answers (.kfRecognised n level) s fun t => faulted [] s t ⟨0x12, 2, 0, n + 1⟩ := by
  have hf : faulted [] s (s.finish ((s.modChan n fun c => { c with kf := true }).raiseOpenEv 0x12 2 0 (chanDetail n)))
      ⟨0x12, 2, 0, n + 1⟩ :=
    faulted_mono (faulted_raiseOpenAt (State.kept_modChan s n _) _ _ _) (by simp [faultParts])
  refine kfRecognised_closes hr hu hk hl ?_
  rw [s.kfCloses_weld hp hw]
  exact hf

end

section
variable (hk : (s.chan n).kf = true) (hl : (level != bit (s.par Fld.contCfg n) 1) = false)
include hk hl

/-- An opening in HOLD is the channel's own fault (R349). -/
theorem kfRecognised_lost (hp : (s.chan n).phase = .hold) : answers (.kfRecognised n level) s fun t =>
      (t.chan n).phase = .blocked ∧ (t.chan n).kf = false ∧ faulted [] s t ⟨0x11, 2, 0, n + 1⟩ := by
  have hn := s.lt_of_kf hk
  refine kfRecognised_opens hr hu hk hl ?_
  rw [s.kfOpens_hold hp]
  obtain ⟨hc, -, hf⟩ := State.chanFault_ends s (u := s.modChan n fun c => { c with kf := false }) (n := n) (cls := 0x11) (sub := 2)
    (by simpa [State.modChan, modAt] using hn) (State.kept_mono (State.kept_modChan s n _) (by simp [faultParts]))
  rw [State.chan_modChan_self s n _ hn] at hc
  obtain ⟨h1, h2⟩ := Channel.failed_blocked (c := { s.chan n with kf := false }) hp rfl (s.modChan n fun c => { c with kf := false }).now
  exact ⟨by rw [hc, h1], by rw [hc, h2], hf⟩

/-- An opening in time ends the drop (R348). -/
theorem kfRecognised_drops (hp : (s.chan n).phase = .drop) (ht : s.now - (s.chan n).t0 < s.tDo n) :
    answers (.kfRecognised n level) s fun t =>
      t.chan n = { s.chan n with
        kf := false, phase := if (s.chan n).ownFault then .blocked else .opened
        tdo := min ((s.now - (s.chan n).t0) / 2000000) 127 } ∧ kept tripParts s t := by
  have hn := s.lt_of_kf hk
  refine kfRecognised_opens hr hu hk hl ?_
  rw [s.kfOpens_drop hp, if_pos ht]
  obtain ⟨u, hu1⟩ : ∃ u, u = (s.modChan n fun c => { c with kf := false }).modChan n fun x => { x with
      phase := cond x.ownFault .blocked .opened, tdo := min ((s.now - (s.chan n).t0) / 2000000) 127 } := ⟨_, rfl⟩
  have hc : u.chan n = { s.chan n with
      kf := false, phase := if (s.chan n).ownFault then .blocked else .opened
      tdo := min ((s.now - (s.chan n).t0) / 2000000) 127 } := by
    rw [hu1, State.chan_modChan_self _ _ _ (by simpa [State.modChan, modAt] using hn), State.chan_modChan_self _ _ _ hn]
    dsimp only
    rw [Bool.cond_eq_ite]
  have hoff : (u.chan n).energised = false := by
    rw [hc]
    cases (s.chan n).ownFault <;> rfl
  have hce : (u.event Ev.cont).chan n = u.chan n := rfl
  have hku : kept [.channels] s u := hu1 ▸ kept_chain (State.kept_modChan s n _) (State.kept_modChan _ n _)
  rw [← hu1, s.finish_chan_off (by rw [hce, hoff]), hce, hc]
  exact ⟨rfl, State.kept_mono (kept_finish (kept_trans hku (kept_event u _))) (by simp [tripParts])⟩

end

end

/-! ### The limits -/

/-- A drop that has reached its limit: WELD 0x01, and the channel stays in DROP (R348). -/
theorem dropLimit_ends {s u : State} {n v : Nat} (hn : n < u.saf.ch.length) (hp : (u.chan n).phase = .drop) (hk : kept [.channels] s u) :
    let t := s.finish ((u.modChan n fun x => { x with welded := true, tdo := v }).raiseOpenEv 0x12 1 0 (chanDetail n))
    t.now = max s.now u.now ∧ (t.chan n).phase = .drop ∧ (t.chan n).welded = true ∧ faulted [] s t ⟨0x12, 1, 0, n + 1⟩ := by
  intro t
  obtain ⟨x, hx⟩ : ∃ x, x = u.modChan n fun x => { x with welded := true, tdo := v } := ⟨_, rfl⟩
  have hc : x.chan n = { u.chan n with welded := true, tdo := v } := hx ▸ State.chan_modChan_self u n _ hn
  have hoff : (x.chan n).energised = false := by rw [hc]; exact Channel.off_of_drop hp
  have ht : t.chan n = x.chan n := by
    have hro := x.raiseOpenAt_chan_off ⟨0x12, 1, 0, chanDetail n⟩ true x.sweep hoff
    simp only [t, ← hx]
    unfold State.raiseOpenEv
    rw [s.finish_chan_off (by rw [hro, hoff]), hro]
  have hnow : t.now = max s.now x.now := by
    simp only [t, ← hx]
    rw [State.finish_now]
    exact congrArg (max s.now) (State.now_of_steady (State.raiseOpenAt_steady x _ _ _))
  refine ⟨by rw [hnow, hx]; rfl, by rw [ht, hc, hp], by rw [ht, hc], ?_⟩
  simp only [t, ← hx]
  exact faulted_mono (faulted_raiseOpenAt (hx ▸ kept_chain hk (State.kept_modChan u n _)) _ _ _) (by simp [faultParts])

section
variable {s : State} {n m : Nat} (hr : s.pw.running = true)
include hr

/-- An opening after the limit is a weld (R348). -/
theorem kfRecognised_weldLate {level : Bool} (hu : s.contUse n = true) (hk : (s.chan n).kf = true)
    (hl : (level != bit (s.par Fld.contCfg n) 1) = false) (hp : (s.chan n).phase = .drop) (ht : s.tDo n ≤ s.now - (s.chan n).t0)
    (hw : (s.chan n).welded = false) : answers (.kfRecognised n level) s fun t =>
      (t.chan n).phase = .drop ∧ (t.chan n).welded = true ∧ faulted [] s t ⟨0x12, 1, 0, n + 1⟩ := by
  have hn := s.lt_of_kf hk
  refine kfRecognised_opens hr hu hk hl ?_
  rw [s.kfOpens_drop hp, if_neg (Nat.not_lt.2 ht), if_neg (by rw [hw]; decide)]
  exact (dropLimit_ends (u := s.modChan n fun c => { c with kf := false }) (by simpa [State.modChan, modAt] using hn)
    (by rw [State.chan_modChan_self s n _ hn]; exact hp) (State.kept_modChan s n _)).2

theorem pullInTimeout_fails (hp : (s.chan n).phase = .pull) (hh : (s.chan n).holdAt = none) : answers (.pullInTimeout n) s fun t =>
      t.now = max s.now ((s.chan n).t0 + s.tPi n) ∧ (t.chan n).energised = false ∧ (t.chan n).tpi = min (s.tPi n / 1000000) 511 ∧
      faulted [] s t ⟨0x11, 1, 0, n + 1⟩ := by
  have hn := s.lt_of_phase (n := n) (by rw [hp]; decide)
  refine answers_onC hr (by rfl) ?_
  rw [if_pos ⟨hp, hh⟩]
  unfold State.pullInFail
  obtain ⟨u, hu⟩ : ∃ u, u = (s.until ((s.chan n).t0 + s.tPi n)).modChan n fun c => { c with tpi := min (s.tPi n / 1000000) 511 } :=
    ⟨_, rfl⟩
  have hc : u.chan n = { s.chan n with tpi := min (s.tPi n / 1000000) 511 } :=
    hu ▸ State.chan_modChan_self (s.until ((s.chan n).t0 + s.tPi n)) n _ hn
  have hlen : n < u.saf.ch.length := by rw [hu]; simpa [State.modChan, modAt] using hn
  have hku : kept faultParts s u := hu ▸ State.kept_mono (kept_trans (kept_until s _) (State.kept_modChan _ n _)) (by simp [faultParts])
  obtain ⟨h1, h2, h3⟩ := State.chanFault_ends s (u := u) (n := n) (cls := 0x11) (sub := 1) hlen hku
  rw [← show u = (s.until ((s.chan n).t0 + s.tPi n)).modChan n fun c => { c with
    tpi := min ((s.until ((s.chan n).t0 + s.tPi n)).tPi n / 1000000) 511 } from hu, h1, h2, Channel.failed_off, Channel.failed_tpi, hc]
  refine ⟨?_, rfl, rfl, h3⟩
  rw [hu]
  exact max_eq_right (le_max_left _ _)

theorem holdDelayEnd_holds (ha : s.atRest) (hp : (s.chan n).phase = .pull) (hh : (s.chan n).holdAt = some m) :
    answers (.holdDelayEnd n) s fun t => t.now = max s.now m ∧
      ((s.chan n).kf = true → t.chan n = { s.chan n with phase := .hold, holdAt := none } ∧ kept tripParts s t) ∧
      ((s.chan n).kf = false → (t.chan n).phase = .blocked ∧ faulted [] s t ⟨0x11, 2, 0, n + 1⟩) := by
  have hn := s.lt_of_phase (n := n) (by rw [hp]; decide)
  have hm := State.quiet_of_energised ha hn (Channel.energised_of_pull hp)
  refine answers_onC hr (by rfl) ?_
  simp only [hp, hh]
  obtain ⟨u, hu, hc, hum, hlen, hnow, hk⟩ : ∃ u, u = ((s.until m).modChan n fun c => { c with
        phase := .hold, holdAt := none }).event Ev.cont ∧ u.chan n = { s.chan n with phase := .hold, holdAt := none } ∧
      u.tripMask = s.tripMask ∧ n < u.saf.ch.length ∧ max s.now u.now = max s.now m ∧ kept [.channels, .flags] s u :=
    ⟨_, rfl, State.chan_modChan_self (s.until m) n _ hn, State.tripMask_congr s rfl rfl rfl rfl rfl rfl rfl rfl,
      by simpa [State.modChan, modAt, State.event] using hn, max_eq_right (le_max_left _ _),
      kept_trans (kept_trans (kept_until s m) (State.kept_modChan _ n _)) (kept_event _ _)⟩
  have hkf : (u.chan n).kf = (s.chan n).kf := by rw [hc]
  rw [← hu]
  split
  · next h =>
    rw [hkf] at h
    rw [State.finish_now, hnow, State.finish_chan s (hum.trans hm), hc]
    exact ⟨rfl, fun _ => ⟨rfl, State.kept_mono (kept_finish hk) (by simp [tripParts])⟩, fun h0 => absurd (h.symm.trans h0) (by decide)⟩
  · next h =>
    rw [hkf] at h
    obtain ⟨h1, h2, h3⟩ := State.chanFault_ends s (u := u) (n := n) (cls := 0x11) (sub := 2) hlen (State.kept_mono hk (by simp [faultParts]))
    refine ⟨by rw [h2, hnow], fun h0 => absurd h0 h, fun h0 => ⟨?_, h3⟩⟩
    rw [h1, (Channel.failed_blocked (by rw [hc]) (by rw [hkf, h0]) _).1]

theorem dropOutTimeout_welds (hp : (s.chan n).phase = .drop) (hw : (s.chan n).welded = false) : answers (.dropOutTimeout n) s fun t =>
      t.now = max s.now ((s.chan n).t0 + s.tDo n) ∧ (t.chan n).phase = .drop ∧ (t.chan n).welded = true ∧
      faulted [] s t ⟨0x12, 1, 0, n + 1⟩ := by
  have hn := s.lt_of_phase (n := n) (by rw [hp]; decide)
  refine answers_onC hr (by rfl) ?_
  rw [if_pos ⟨hp, hw⟩]
  obtain ⟨h1, h2⟩ := dropLimit_ends (s := s) (u := s.until ((s.chan n).t0 + s.tDo n)) (n := n) (v := min (s.tDo n / 2000000) 127) hn hp
    (State.kept_mono (kept_until s _) (by simp))
  exact ⟨h1.trans (max_eq_right (le_max_left _ _)), h2⟩

theorem coilCurrentTimeout_low (hu : s.contUse n = true) (he : (s.chan n).energised = true) (hl : (s.chan n).lowAt = some m) :
    answers (.coilCurrentTimeout n) s fun t =>
      t.now = max s.now (m + 20000000) ∧ (t.chan n).energised = false ∧ faulted [] s t ⟨0x13, 1, 0, n + 1⟩ := by
  have hn := s.lt_of_energised he
  refine answers_onC hr (by rfl) ?_
  simp only [hu, he, hl, if_true, Bool.true_eq_false, if_false]
  obtain ⟨h1, h2, h3⟩ := State.chanFault_ends s (u := s.until (m + ms 20)) (n := n) (cls := 0x13) (sub := 1) hn
    (State.kept_mono (kept_until s _) (by simp))
  exact ⟨h2.trans (max_eq_right (le_max_left _ _)), by rw [h1, Channel.failed_off], h3⟩

theorem coilCurrentTimeout_high (hu : s.contUse n = true) (he : (s.chan n).energised = false) (hl : (s.chan n).highAt = some m) :
    answers (.coilCurrentTimeout n) s fun t => t.now = max s.now (m + 20000000) ∧ faulted [] s t ⟨0x13, 3, 0, n + 1⟩ := by
  refine answers_onC hr (by rfl) ?_
  simp only [hu, he, hl, Bool.true_eq_false, if_false, Bool.false_eq_true]
  refine ⟨?_, faulted_raiseOpenAt (kept_until s (m + ms 20)) _ _ _⟩
  rw [State.finish_now]
  exact (congrArg (max s.now) (State.now_of_steady (State.raiseOpenAt_steady (s.until (m + ms 20)) _ _ _))).trans
    (max_eq_right (le_max_left _ _))

/-! ### The coil's pins and the trip sources -/

theorem coilPinMismatch_fails (hu : s.contUse n = true) (hn : n < s.saf.ch.length) : answers (.coilPinMismatch n true) s fun t =>
      (t.chan n).pinBad = true ∧ (t.chan n).energised = false ∧ faulted [] s t ⟨0x13, 4, 0, n + 1⟩ := by
  refine answers_onC hr (by rfl) ?_
  rw [if_neg (by simp), if_pos hu]
  obtain ⟨h1, -, h3⟩ := State.chanFault_ends s (u := s.modChan n fun c => { c with pinBad := true }) (n := n) (cls := 0x13) (sub := 4)
    (by simpa [State.modChan, modAt] using hn) (State.kept_mono (State.kept_modChan s n _) (by simp [faultParts]))
  rw [h1, Channel.failed_off, Channel.failed_pinBad, State.chan_modChan_self s n _ hn]
  exact ⟨rfl, rfl, h3⟩

theorem coilPinMismatch_ends (ha : s.atRest) : answers (.coilPinMismatch n false) s fun t =>
      t.chan n = { s.chan n with pinBad := false } ∧ kept tripParts s t := by
  refine answers_onC hr (by rfl) ?_
  rw [if_pos rfl]
  obtain ⟨u, hu⟩ : ∃ u, u = s.modChan n fun c => { c with pinBad := false } := ⟨_, rfl⟩
  have hc : u.chan n = { s.chan n with pinBad := false } := by
    rw [hu]
    by_cases hn : n < s.saf.ch.length
    · exact State.chan_modChan_self s n _ hn
    · have hdef : s.chan n = {} := by_contra fun h => hn (s.lt_of_chan h)
      have hsame : (s.modChan n fun c => { c with pinBad := false }).chan n = s.chan n := by
        simp only [State.chan, State.modChan, State.getD_modAt]
        rw [if_neg fun h => hn h.2]
      rw [hsame, hdef]
  rw [← hu]
  refine ⟨?_, State.kept_mono (kept_finish (hu ▸ State.kept_modChan s n _)) (by simp [tripParts])⟩
  rw [← hc]
  cases he : (s.chan n).energised
  · exact s.finish_chan_off (by rw [hc]; exact he)
  · refine State.finish_chan s ?_ n
    rw [hu, State.modChan_tripMask, State.quiet_of_energised ha (s.lt_of_energised he) he]

theorem tripSourceAssert_trips {src : TripSource} (hsrc : src = .sErr ∨ s.tripBit src = true) : answers (.tripSourceAssert src) s fun t =>
      t.saf.tripLatch = true ∧ t.saf.armed = false ∧ (∀ x ∈ t.saf.ch, x.energised = false) ∧
      (src = .sErr → t.saf.sErr = true) ∧ kept (.inputs :: tripParts) s t := by
  have hbit {t : State} (h : t.tripBit src = true) : t.tripMask ≠ 0 := fun hz => by
    unfold State.tripBit at h
    rw [hz] at h
    cases src <;> simp at h
  obtain ⟨u, f, e, hf, hm, hrun, hse, hk⟩ : ∃ (u : State) (f : State → State) (_ : execTripSourceAssert src s = onC s f),
      (f s = u.evalTrip ∨ f s = u) ∧ u.tripMask ≠ 0 ∧ u.pw.running = true ∧ (src = .sErr → u.saf.sErr = true) ∧ kept [.inputs] s u := by
    by_cases hs : src = .sErr
    · subst hs
      refine ⟨{ s with saf := { s.saf with sErr := true, sErrAt := cond s.saf.sErr s.saf.sErrAt (some s.now) } }, _,
        by unfold execTripSourceAssert; rfl, ?_, State.tripMask_of_sErr _ rfl, hr, fun _ => rfl,
        kept_inputs s _ ⟨rfl, rfl, rfl, rfl⟩⟩
      dsimp only
      split
      · exact .inl rfl
      · exact .inr rfl
    · have hb := hsrc.resolve_left hs
      refine ⟨s, _, by unfold execTripSourceAssert; rfl, .inl ?_, hbit hb, hr, fun h => absurd h hs, kept_refl _ s⟩
      cases src with
      | sErr => exact absurd rfl hs
      | _ => exact if_pos hb
  refine answers_onC hr e ?_
  obtain ⟨y, hy, hym, hyr, hyk, hys⟩ : ∃ y, f s = y ∧ y.tripMask ≠ 0 ∧ y.pw.running = true ∧ kept (.inputs :: tripParts) s y ∧
      y.saf.sErr = u.saf.sErr := by
    rcases hf with hf | hf
    · exact ⟨_, hf, by rw [State.evalTrip_tripMask]; exact hm, by rw [State.evalTrip_pw]; exact hrun,
        State.kept_mono (kept_trans hk (State.kept_evalTrip u hrun)) (by simp), State.evalTrip_saf_sErr u⟩
    · exact ⟨_, hf, hm, hrun, State.kept_mono hk (by simp), rfl⟩
  rw [hy]
  obtain ⟨h0, htrip, -⟩ := State.finish_atRest s y hyr
  have hmask : (s.finish y).tripMask ≠ 0 := by
    rw [State.finish_running s y hyr, State.evalTrip_tripMask]
    rwa [State.tripMask_congr y (t := { y with pending := s.pending, now := max s.now y.now }) rfl rfl rfl rfl rfl rfl rfl rfl]
  obtain ⟨h1, h2, h3⟩ := htrip hmask
  exact ⟨h1, h2, fun x hx => by simpa using List.all_eq_true.1 h3 x hx, fun h => by rw [State.finish_saf_sErr, hys, hse h],
    State.kept_mono (kept_finish hyk) (by simp [tripParts])⟩

end

/-- Settles O54: one lemma for each clause; what its own fault makes of a channel stands through the end of the command, as it
is not energised. -/
theorem contactorsAct : Obligations.ContactorsAct := by
  unfold Obligations.ContactorsAct
  intro s n m c hr ha hc
  subst hc
  exact ⟨fun level hu hk hl => ⟨kfRecognised_holds hr hu hk hl ha, kfRecognised_late hr hu hk hl, kfRecognised_welded hr hu hk hl⟩,
    fun level hu hk hl => ⟨kfRecognised_lost hr hu hk hl, kfRecognised_drops hr hu hk hl, kfRecognised_weldLate hr hu hk hl⟩,
    pullInTimeout_fails hr, holdDelayEnd_holds hr ha, dropOutTimeout_welds hr, coilCurrentTimeout_low hr,
    coilCurrentTimeout_high hr, coilPinMismatch_fails hr, coilPinMismatch_ends hr ha, fun src => tripSourceAssert_trips hr⟩

end Sys2Proof.Machine
end

section
/-!
SUPPORT. The session's timers (R372, R374, R375): O56. What forming a frame and beginning a session touch is said once.
-/

namespace Sys2Proof.Machine

/-! ### The session number -/

/-- Among three numbers in a row one is neither 0 nor the previous one (R375). -/
theorem sessionNumber_new (draw : Word) (prev : Nat) : sessionNumber draw prev ≠ 0 ∧ sessionNumber draw prev ≠ prev := by
  unfold sessionNumber
  extract_lets c
  have hc : c < 65536 := Nat.mod_lt _ (by decide)
  clear_value c
  generalize hf : [c, (c + 1) % 65536, (c + 2) % 65536].find? (fun x => decide (x ≠ 0 ∧ x ≠ prev)) = r
  cases r with
  | none =>
    have h := List.find?_eq_none.1 hf
    simp only [List.mem_cons, List.not_mem_nil, or_false, forall_eq_or_imp, forall_eq, decide_eq_true_eq] at h
    omega
  | some x =>
    have h := List.find?_some hf
    exact of_decide_eq_true h

namespace State

variable (s : State)

/-! ### Frames -/

theorem kept_ses (x : SessionSt) : kept [.session] s { s with ses := x } := fun p hp => by
  cases p
  case host k => cases k <;> rfl
  case session => exact absurd (by simp) hp
  all_goals simp [Part.same, State.dev]

theorem kept_modQueue (q : Nat) (f : Queue → Queue) : kept [.queues] s (s.modQueue q f) := fun p hp => by
  cases p
  case host k => cases k <;> rfl
  case queues => exact absurd (by simp) hp
  all_goals simp [Part.same, State.dev, State.modQueue]

/-- Placing a safe frame touches the response queues, the port and its interrupt flags (R371). -/
theorem kept_placeSafe (h : HostId) : kept [.host h, .queues, .flags] s (s.placeSafe h) := by
  have hport (t : State) (f : HostPort → HostPort) : kept [.host h, .queues, .flags] t (t.modPort h f) :=
    kept_mono (kept_modPort_flags t h f) (by simp)
  unfold State.placeSafe
  split
  · exact kept_refl _ s
  · dsimp only
    split
    · exact kept_refl _ s
    · unfold State.placeWords State.eventOn
      exact kept_chain (kept_chain (kept_chain (kept_mono (kept_modQueue s _ _) (by simp)) (hport _ _)) (hport _ _)) (hport _ _)

/-- Forming a safe frame touches the session's sequence number, the response queues and the port of SF_HOST (R371, R372). -/
theorem kept_formFrame (type : Nat) (payload : List Byte) :
    kept [.session, .host s.sfHost, .queues, .flags] s (s.formFrame type payload) := by
  unfold State.formFrame
  extract_lets b frame h old x
  have hx : kept [.session] s x := kept_ses s _
  cases (x.port h).frozen
  · have hp : kept [.host h, .queues, .flags] x ((x.modPort h fun p => { p with safeOut := some frame }).placeSafe h) :=
      kept_chain (kept_mono (kept_modPort x h (fun p => { p with safeOut := some frame }) fun _ => ⟨rfl, rfl⟩) (by simp))
        (kept_placeSafe _ h)
    exact kept_mono (kept_trans hx hp) (by simp [h])
  · exact kept_mono hx (by simp)

theorem kept_setSession (st : SState) : kept [.session, .flags] s (s.setSession st) := by
  unfold State.setSession
  split
  · exact kept_refl _ s
  · exact kept_mono (kept_trans (kept_ses s _) (kept_event _ _)) (by simp)

/-- The host of SF_HOST is read from the Legend alone (R370). -/
theorem sfHost_congr {t : State} (h : t.leg = s.leg) : t.sfHost = s.sfHost := by
  unfold State.sfHost State.par; rw [h]

theorem kept_formConnect : kept [.session, .host s.sfHost, .queues, .flags] s s.formConnect :=
  kept_mono (kept_trans (kept_formFrame s 0x51 s.connectPayload) (kept_ses _ _)) (by simp)

theorem kept_formStatus : kept [.session, .host s.sfHost, .queues, .flags] s s.formStatus :=
  kept_mono (kept_trans (kept_formFrame s 0x53 s.statusPayload) (kept_ses _ _)) (by simp)

/-- What a new session touches (R375). -/
theorem kept_newSession : kept [.draws, .power, .session, .host .A, .host .B, .queues, .flags] s s.newSession := by
  unfold State.newSession
  extract_lets n old u old' v
  have hu : kept [.draws, .power] s u :=
    kept_trans (kept_draws s (s.draws + 1)) (kept_power { s with draws := s.draws + 1 } { s.pw with prevSession := n })
  have hv : kept [.session] u v := kept_ses u _
  have hc := kept_formConnect (v.setSession .connecting)
  refine kept_mono (kept_trans (kept_trans hu hv) (kept_trans (kept_setSession v .connecting) hc)) ?_
  cases (v.setSession .connecting).sfHost <;> simp

/-! ### What a new session holds -/

theorem newSession_ownSeq : s.newSession.ses.ownSeq = 1 := by simp [State.newSession, State.formConnect]

theorem formFrame_pw (type : Nat) (payload : List Byte) : (s.formFrame type payload).pw = s.pw :=
  s.formFrame_keep State.pw (fun _ _ _ => rfl) (fun _ _ _ => modPort_pw _ _ _) type payload

theorem setSession_pw (st : SState) : (s.setSession st).pw = s.pw := by unfold State.setSession; split <;> rfl

theorem setSession_now (st : SState) : (s.setSession st).now = s.now := by unfold State.setSession; split <;> rfl

/-- The number of a new session, which the always-on domain keeps (R375). -/
theorem newSession_number : s.newSession.ses.number =
    sessionNumber ((Config.sessionDraw s.draws).setWidth 32) s.pw.prevSession ∧
    s.newSession.pw.prevSession = s.newSession.ses.number := by
  unfold State.newSession State.formConnect
  simp only [formFrame_ses, setSession_ses, formFrame_pw, setSession_pw, and_self]

theorem newSession_now : s.newSession.now = s.now := by
  unfold State.newSession State.formConnect
  simp only [formFrame_now, setSession_now]

/-- A new session: CONNECTING, with another number than before and its first frame formed (R375). -/
theorem newSession_begins : s.newSession.ses.st = .connecting ∧ s.newSession.ses.number ≠ 0 ∧
    s.newSession.ses.number ≠ s.pw.prevSession ∧ s.newSession.ses.ownSeq = 1 := by
  rw [(newSession_number s).1]
  exact ⟨s.newSession_st, (sessionNumber_new _ _).1, (sessionNumber_new _ _).2, newSession_ownSeq s⟩

/-! ### The frame that is formed -/

theorem connectPayload_length : s.connectPayload.length = 10 := by simp [State.connectPayload, leBytes_length]

theorem statusPayload_length : s.statusPayload.length = 10 := by simp [State.statusPayload, leBytes_length]

/-- Where a message waits ahead of it, the frame formed stays with the port (R367, R371, R372). -/
theorem formFrame_safeOut (type : Nat) (payload : List Byte) (ht : type < 256) (hl : payload.length = 10)
    (hf : (s.port s.sfHost).frozen = false) (ho : (s.queue (rspQ s.sfHost 15)).opened = true) :
    ∃ f, ((s.formFrame type payload).port s.sfHost).safeOut = some f ∧ f.length = 24 ∧ field f 0 1 = type := by
  unfold State.formFrame
  extract_lets b frame h old x
  have hx : (x.port h).frozen = false := by
    have e : x.port h = s.port h := by cases h <;> rfl
    rw [e]; exact hf
  refine ⟨frame, ?_, by simp [frame, b, leBytes_length, hl], ?_⟩
  · have hplace : (x.modPort h fun p => { p with safeOut := some frame }).placeSafe h
        = x.modPort h fun p => { p with safeOut := some frame } := by
      have hq : ((x.modPort h fun p => { p with safeOut := some frame }).queue (rspQ h 15)).opened = true := by
        have e : (x.modPort h fun p => { p with safeOut := some frame }).queues = s.queues := by cases h <;> rfl
        unfold State.queue
        rw [e]
        exact ho
      unfold State.placeSafe
      rw [port_modPort_self]
      dsimp only
      rw [hq]
      exact if_pos rfl
    rw [hx, cond_false, hplace]
    exact congrArg HostPort.safeOut (port_modPort_self x h _)
  · have e : frame = leBytes 1 type ++ ([0] ++ leBytes 2 s.ses.number ++ leBytes 2 s.ses.ownSeq ++ leBytes 4 s.stamp ++ payload
        ++ leBytes 4 (safeCrc (s.par Fld.sfIdOwn 0) (s.par Fld.sfIdPart 0) b)) := by
      simp only [frame, b, List.append_assoc]
    rw [e, field_leBytes_append]
    omega

/-- What a frame formed leaves, with the session's notes of its sending (R372). -/
theorem formed {u v : State} {type : Nat} {payload : List Byte} {x : SessionSt} (ht : type < 256) (hl : payload.length = 10)
    (hv : v = { u.formFrame type payload with ses := x }) :
    v.now = u.now ∧
    ((u.port u.sfHost).frozen = false → (u.queue (rspQ u.sfHost 15)).opened = true →
      ∃ f, (v.port u.sfHost).body.safeOut = some f ∧ f.length = 24 ∧ field f 0 1 = type) ∧
    kept [.session, .host u.sfHost, .queues, .flags] u v := by
  have hport : v.port u.sfHost = (u.formFrame type payload).port u.sfHost := by rw [hv]; cases u.sfHost <;> rfl
  refine ⟨by rw [hv, formFrame_now], fun hf ho => ?_, ?_⟩
  · obtain ⟨f, h1, h2⟩ := u.formFrame_safeOut type payload ht hl hf ho
    exact ⟨f, by rw [hport]; exact h1, h2⟩
  · rw [hv]
    exact kept_mono (kept_trans (kept_formFrame u type payload) (kept_ses _ _)) (by simp)

end State

/-! ### The timers -/

theorem until_max (s : State) (t : Nat) : s.until (max s.now t) = s.until t := by
  unfold State.until
  rw [← max_assoc, max_self]

section
variable {s : State} {n : Nat} (hc : s.coreUp)
include hc

/-- What the end of a frame's sending gives the timer's command (R372). -/
theorem safeFrame_sent {type : Nat} {payload : List Byte} {u v : State} (ht : type < 256) (hl : payload.length = 10)
    (hu : u = s.until n) (hn : s.now ≤ n) (hv : v = { u.formFrame type payload with ses := v.ses }) (hsent : v.ses.sentAt = n)
    (hseq : v.ses.ownSeq = (s.ses.ownSeq + 1) % 65536) (hst : v.ses.st = s.ses.st) (hnum : v.ses.number = s.ses.number)
    {f : State → State} (e : exec .safeFrameSendTimer s = onCore s f) (hf : f s = v) :
    answers .safeFrameSendTimer s fun t => t.now = n ∧ t.ses.sentAt = n ∧ t.ses.ownSeq = (s.ses.ownSeq + 1) % 65536 ∧
        t.ses.st = s.ses.st ∧ t.ses.number = s.ses.number ∧
        ((s.port s.sfHost).frozen = false → (s.queue (rspQ s.sfHost 15)).opened = true →
          ∃ f, (t.port s.sfHost).safeOut = some f ∧ f.length = 24 ∧ field f 0 1 = type) ∧
        kept (.session :: .host s.sfHost :: .queues :: tripParts) s t := by
  have hun : u.now = n := by rw [hu]; exact max_eq_right hn
  have hsf : u.sfHost = s.sfHost := s.sfHost_congr (by rw [hu]; rfl)
  have hup : u.port s.sfHost = s.port s.sfHost := by rw [hu]; cases s.sfHost <;> rfl
  have huq (q : Nat) : u.queue q = s.queue q := by rw [hu]; rfl
  obtain ⟨h1, h2, h3⟩ := State.formed ht hl hv
  rw [hsf] at h2 h3
  refine answers_onCore hc e ?_
  rw [hf, State.finish_now, State.finish_ses, h1, hun]
  refine ⟨max_eq_right hn, hsent, hseq, hst, hnum, fun hfr ho => ?_, ?_⟩
  · obtain ⟨f, g1, g2⟩ := h2 (by rw [hup]; exact hfr) (by rw [huq]; exact ho)
    exact ⟨f, (congrArg HostPort.safeOut (s.finish_port_body v s.sfHost)).trans g1, g2⟩
  · exact State.kept_mono (kept_finish (kept_trans (hu ▸ kept_until s n) h3)) (by simp [tripParts])

theorem safeFrameSendTimer_sends {type : Nat} (hn : n = max s.now (s.ses.sentAt + 1000000 * s.par Fld.sfTper 0))
    (hs : s.ses.st = .connecting ∧ type = 0x51 ∨ s.ses.st = .accepted ∧ type = 0x53) :
    answers .safeFrameSendTimer s fun t => t.now = n ∧ t.ses.sentAt = n ∧ t.ses.ownSeq = (s.ses.ownSeq + 1) % 65536 ∧
        t.ses.st = s.ses.st ∧ t.ses.number = s.ses.number ∧
        ((s.port s.sfHost).frozen = false → (s.queue (rspQ s.sfHost 15)).opened = true →
          ∃ f, (t.port s.sfHost).safeOut = some f ∧ f.length = 24 ∧ field f 0 1 = type) ∧
        kept (.session :: .host s.sfHost :: .queues :: tripParts) s t := by
  have hle : s.now ≤ n := by rw [hn]; exact le_max_left _ _
  have hms : s.until (s.ses.sentAt + ms (s.par Fld.sfTper 0)) = s.until n := by
    rw [hn, until_max, ms, Nat.mul_comm]
  obtain ⟨hst, rfl⟩ | ⟨hst, rfl⟩ := hs
  · refine safeFrame_sent hc (type := 0x51) (u := s.until n) (v := (s.until n).formConnect) (by decide)
      (State.connectPayload_length (s.until n)) rfl hle rfl ?_ ?_ ?_ ?_ (by rfl) ?_
    · simp [State.formConnect, hle]
    · simp [State.formConnect]
    · simp [State.formConnect]
    · simp [State.formConnect]
    · simp only [hst, hms]
  · refine safeFrame_sent hc (type := 0x53) (u := s.until n) (v := (s.until n).formStatus) (by decide)
      (State.statusPayload_length (s.until n)) rfl hle rfl ?_ ?_ ?_ ?_ (by rfl) ?_
    · simp [State.formStatus, hle]
    · simp [State.formStatus]
    · simp [State.formStatus]
    · simp [State.formStatus]
    · simp only [hst, hms]

/-- A session that fails at `n`: the cause, and a new session where the combination is coupled (R374, R375). -/
theorem failSession_answers {c : Instr} {sub : Nat} {f : State → State} (e : exec c s = onCore s f)
    (hf : f s = (s.until n).failSession sub (hostNum s.sfHost)) (hn : s.now ≤ n) : answers c s fun t => t.now = n ∧
        (s.saf.coupled = false → t.ses = { s.ses with st := .failed }) ∧
        (s.saf.coupled = true → t.ses.st = .connecting ∧ t.ses.number ≠ 0 ∧ t.ses.number ≠ s.pw.prevSession ∧
          t.ses.ownSeq = 1) ∧
        faulted [.session, .host .A, .host .B, .queues] s t ⟨0x15, sub, 0, hostNum s.sfHost⟩ := by
  obtain ⟨u, hu⟩ : ∃ u, u = (s.until n).raise 0x15 sub 0 (hostNum s.sfHost) (word s.ses.number) := ⟨_, rfl⟩
  have hbare : u.bare = (s.until n).bare := hu ▸ State.raiseAt_bare _ _ _ _ _
  have hsteady : u.steady = (s.until n).steady := hu ▸ State.raiseAt_steady _ _ _ _ _
  have hun : u.now = n := (State.now_of_steady hsteady).trans (max_eq_right hn)
  have hprev : u.pw.prevSession = s.pw.prevSession := by
    have h := congrArg PowerSt.prevSession (State.pw_of_steady hsteady)
    exact h
  have hcpl : u.saf.coupled = s.saf.coupled := by
    have h := congrArg SafetySt.coupled (State.saf_of_bare hbare)
    exact h
  have hses : u.ses = s.ses := State.ses_of_bare hbare
  obtain ⟨v, hv⟩ : ∃ v, v = u.setSession .failed := ⟨_, rfl⟩
  have hvs : v.ses = { s.ses with st := .failed } := by rw [hv, State.setSession_ses, hses]
  have hvc : v.saf.coupled = s.saf.coupled := by rw [hv, State.setSession_saf, hcpl]
  have hvp : v.pw.prevSession = s.pw.prevSession := by rw [hv, State.setSession_pw, hprev]
  have hvn : v.now = n := by rw [hv, State.setSession_now, hun]
  have hvk : kept ([.session, .host .A, .host .B, .queues] ++ faultParts) s v :=
    State.kept_mono (kept_trans (kept_trans (kept_until s n) (State.kept_of_bare hbare)) (hv ▸ State.kept_setSession u .failed))
      (by simp [faultParts])
  have hvf : v.hasCause ⟨0x15, sub, 0, hostNum s.sfHost⟩ = true := by
    unfold State.hasCause
    rw [hv, State.setSession_flt, hu]
    exact State.raiseAt_hasCause _ _ _ _ _
  have hfs : f s = cond v.saf.coupled v.newSession v := by rw [hf, hv, hu]; rfl
  refine answers_onCore hc e ?_
  rw [hfs, hvc, State.finish_now, State.finish_ses]
  cases hcp : s.saf.coupled
  · rw [cond_false, hvs, hvn]
    exact ⟨max_eq_right hn, fun _ => rfl, fun h => absurd h (by decide), faulted_finish hvf hvk⟩
  · obtain ⟨h1, h2, h3, h4⟩ := v.newSession_begins
    rw [hvp] at h3
    rw [cond_true, State.newSession_now, hvn]
    refine ⟨max_eq_right hn, fun h => absurd h (by decide), fun _ => ⟨h1, h2, h3, h4⟩, faulted_finish ?_ ?_⟩
    · unfold State.hasCause
      rw [State.newSession_flt]
      exact hvf
    · exact State.kept_mono (kept_trans hvk v.kept_newSession) (by simp [faultParts])

theorem sessionReconnectDelay_ends {m : Nat} (hm : s.ses.reconnectAt = some m) (hn : n = max s.now (m + 1000000000)) :
    answers .sessionReconnectDelay s fun t => t.now = n ∧
        (s.saf.coupled = true → s.ses.st = .idle → t.ses.st = .connecting ∧ t.ses.number ≠ 0 ∧
          t.ses.number ≠ s.pw.prevSession ∧ t.ses.reconnectAt = none) ∧
        (¬ (s.saf.coupled = true ∧ s.ses.st = .idle) → t.ses = { s.ses with reconnectAt := none }) ∧
        kept (.draws :: .power :: .session :: .host .A :: .host .B :: .queues :: tripParts) s t := by
  obtain ⟨u, hu⟩ : ∃ u, u = { s.until (m + 1000000000) with ses := { s.ses with reconnectAt := none } } := ⟨_, rfl⟩
  have hun : u.now = n := by rw [hu, hn]; rfl
  have hle : s.now ≤ n := by rw [hn]; exact le_max_left _ _
  have hk : kept [.session] s u := hu ▸ kept_trans (kept_until s _) (State.kept_ses _ _)
  refine answers_onCore hc (f := fun _ => if s.saf.coupled ∧ s.ses.st = .idle then u.newSession else u) ?_ ?_
  · change execSessionReconnectDelay s = _
    unfold execSessionReconnectDelay
    rw [onCore_up hc, onCore_up hc, hm, hu]
    rfl
  split
  · next h =>
    obtain ⟨h1, h2, h3, -⟩ := u.newSession_begins
    have hp : u.pw.prevSession = s.pw.prevSession := by rw [hu]; rfl
    rw [hp] at h3
    rw [State.finish_now, State.finish_ses, State.newSession_now, hun]
    exact ⟨max_eq_right hle, fun _ _ => ⟨h1, h2, h3, u.newSession_reconnectAt⟩, fun hno => absurd h hno,
      State.kept_mono (kept_finish (kept_trans hk u.kept_newSession)) (by simp [tripParts])⟩
  · next h =>
    rw [State.finish_now, State.finish_ses, hun]
    exact ⟨max_eq_right hle, fun h1 h2 => absurd ⟨h1, h2⟩ h, fun _ => by rw [hu],
      State.kept_mono (kept_finish hk) (by simp [tripParts])⟩

end

/-- Settles O56: the frames of the timers, a session that fails, and the wait after a DISCONNECT. -/
theorem sessionTimersAct : Obligations.SessionTimersAct := by
  unfold Obligations.SessionTimersAct
  refine fun s n hc => ⟨fun type hn hs => safeFrameSendTimer_sends hc hn hs, fun c sub h => ?_, fun m hm hn =>
    sessionReconnectDelay_ends hc hm hn⟩
  obtain ⟨hst, rfl, rfl, hn⟩ | ⟨hst, rfl, rfl, hn⟩ := h
  · refine failSession_answers hc (f := fun s => if s.ses.st = .accepted then
      (s.until (s.ses.accAt + ms (s.par Fld.sfTexp 0))).failSession 6 (hostNum s.sfHost) else s) (by rfl) ?_ (hn ▸ le_max_left _ _)
    rw [if_pos hst, hn, until_max s]
    simp only [ms, Nat.mul_comm]
  · refine failSession_answers hc (f := fun s => if s.ses.st = .connecting then
      (s.until (s.ses.firstAt + ms (1000 * s.par Fld.sfTcon 0))).failSession 7 (hostNum s.sfHost) else s) (by rfl) ?_ (hn ▸ le_max_left _ _)
    have hms : ms (1000 * s.par Fld.sfTcon 0) = 1000000000 * s.par Fld.sfTcon 0 := by unfold ms; omega
    rw [if_pos hst, hn, until_max s, hms]

end Sys2Proof.Machine
end

section
/-!
SUPPORT. The two-channel inputs, RESTART and COUPLED (R356 to R366): O55. What the steps of a recognised change do to an input
and to the trip path's sources is said once.
-/

namespace Sys2Proof.Machine

namespace State

variable (s : State)

/-! ### Single updates -/

theorem kept_modInput (i : Nat) (f : SafeIn → SafeIn) : kept [.inputs] s (s.modInput i f) := fun p hp => by
  cases p
  case host k => cases k <;> rfl
  case inputs => exact absurd (by simp) hp
  all_goals simp [Part.same, State.dev, State.modInput]

theorem input_modInput_other (i j : Nat) (f : SafeIn → SafeIn) (h : j ≠ i) : (s.modInput i f).input j = s.input j := by
  simp only [State.input, State.modInput, getD_modAt]
  rw [if_neg fun x => h x.1.symm]

/-- What `f` only adds to at an input, its change leaves at every input. -/
theorem input_modInput_mono (i j : Nat) (f : SafeIn → SafeIn) (p : SafeIn → Prop) (hf : ∀ x, p x → p (f x)) (h : p (s.input j)) :
    p ((s.modInput i f).input j) := by
  simp only [State.input, State.modInput, getD_modAt] at h ⊢
  split
  · exact hf _ h
  · exact h

/-- A clearance leaves the causes of every other source. -/
theorem clearAt_hasCause_other {x y : Source} (h : y ≠ x) (seen : Nat) : (s.clearAt x seen).hasCause y = s.hasCause y := by
  unfold State.clearAt
  split
  · simp only [State.hasCause, State.logAt, State.event, List.any_filter]
    refine congrArg (fun g => s.flt.causes.any g) (funext fun c => ?_)
    by_cases hc : c.src = y
    · simp [hc, h]
    · simp [hc]
  · rfl

/-- Whether the channels of an input stand active is read from its levels and the Legend (R357). -/
theorem siActive_congr {t : State} {i : Nat} (hl : t.leg = s.leg) (ha : (t.input i).a = (s.input i).a)
    (hb : (t.input i).b = (s.input i).b) : t.siActive i = s.siActive i := by
  unfold State.siActive State.siAnti State.siWord State.par
  dsimp only
  rw [hl, ha, hb]

theorem siRole_congr {t : State} (hl : t.leg = s.leg) (i : Nat) : t.siRole i = s.siRole i := by
  unfold State.siRole State.siWord State.par; rw [hl]

theorem siAuto_congr {t : State} (hl : t.leg = s.leg) (i : Nat) : t.siAuto i = s.siAuto i := by
  unfold State.siAuto; rw [siRole_congr s hl]; unfold State.siWord State.par; rw [hl]

theorem siTd_congr {t : State} (hl : t.leg = s.leg) (i : Nat) : t.siTd i = s.siTd i := by
  unfold State.siTd State.siWord State.par; rw [hl]

theorem siBoth_of (i : Nat) (h : s.siActive i = (true, true)) : s.siBoth i = true := by
  unfold State.siBoth; rw [h]; rfl

/-! ### Steps that take no source up -/

/-- No trip source stands (R353). -/
theorem tripMask_eq_zero_iff : s.tripMask = 0 ↔
    s.sevAtLeast 3 = false ∧ (∀ i < 4, s.siRole i = 1 → (s.input i).act = true) ∧ s.saf.sErr = false ∧ s.saf.slEqual.1 = false ∧
    s.saf.overTemp = false ∧ s.saf.watchdog = false ∧ s.pw.locked = false := by
  have hb (b : Bool) : b2n b = 0 ↔ b = false := by cases b <;> simp [b2n]
  have hsum : ((List.range 4).map (fun i => cond (decide (s.siRole i = 1) && !(s.input i).act) (2 ^ (i + 1)) 0)).foldl (· + ·) 0 = 0 ↔
      ∀ i < 4, s.siRole i = 1 → (s.input i).act = true := by
    rw [← List.sum_eq_foldl, List.sum_eq_zero_iff]
    simp only [List.mem_map, List.mem_range, forall_exists_index, and_imp, forall_apply_eq_imp_iff₂]
    refine forall_congr' fun i => forall_congr' fun _ => ?_
    by_cases hr : s.siRole i = 1 <;> cases (s.input i).act <;> simp [hr]
  unfold State.tripMask
  rw [← hsum]
  simp only [Nat.add_eq_zero_iff, Nat.mul_eq_zero, hb, Bool.or_eq_false_iff]
  simp [and_assoc]

/-- A step that takes no trip source up: inputs become active at most, latches and levels stay (R353, R358). -/
structure Eases (s t : State) : Prop where
  kept : kept [.inputs, .collector, .flags, .channels, .errOut] s t
  latches : t.flt.latches = s.flt.latches
  act : ∀ j, (s.input j).act = true → (t.input j).act = true
  levels : t.saf.sErr = s.saf.sErr ∧ t.saf.slEqual = s.saf.slEqual ∧ t.saf.overTemp = s.saf.overTemp ∧ t.saf.watchdog = s.saf.watchdog

variable {s}

theorem Eases.trans {t u : State} (h : Eases s t) (k : Eases t u) : Eases s u where
  kept := kept_chain h.kept k.kept
  latches := k.latches.trans h.latches
  act j hj := k.act j (h.act j hj)
  levels := ⟨k.levels.1.trans h.levels.1, k.levels.2.1.trans h.levels.2.1, k.levels.2.2.1.trans h.levels.2.2.1,
    k.levels.2.2.2.trans h.levels.2.2.2⟩

theorem Eases.pw {t : State} (h : Eases s t) : t.pw = s.pw := h.kept .power (by simp)

theorem Eases.leg {t : State} (h : Eases s t) : t.leg = s.leg := h.kept .legend (by simp)

/-- Such a step leaves no trip source where none stood. -/
theorem Eases.quiet {t : State} (h : Eases s t) (hm : s.tripMask = 0) : t.tripMask = 0 := by
  obtain ⟨h1, h2, h3, h4, h5, h6, h7⟩ := (tripMask_eq_zero_iff s).1 hm
  obtain ⟨k1, k2, k3, k4⟩ := h.levels
  refine (tripMask_eq_zero_iff t).2 ⟨?_, fun i hi hr => h.act i (h2 i hi ?_), by rw [k1, h3], by rw [k2, h4], by rw [k3, h5],
    by rw [k4, h6], by rw [h.pw, h7]⟩
  · unfold State.sevAtLeast at h1 ⊢
    rw [h.latches, h1]
  · rw [← siRole_congr s h.leg]
    exact hr

variable (s)

theorem Eases.refl : Eases s s := ⟨kept_refl _ s, rfl, fun _ h => h, rfl, rfl, rfl, rfl⟩

theorem eases_modInput (i : Nat) (f : SafeIn → SafeIn) (hf : ∀ x, x.act = true → (f x).act = true) : Eases s (s.modInput i f) where
  kept := kept_mono (kept_modInput s i f) (by simp)
  latches := rfl
  act j hj := input_modInput_mono s i j f (fun x => x.act = true) hf hj
  levels := ⟨rfl, rfl, rfl, rfl⟩

theorem eases_clear (c b p d : Nat) : Eases s (s.clear c b p d) where
  kept := kept_mono (kept_clearAt s _ _) (by simp)
  latches := by unfold State.clear State.clearAt; split <;> rfl
  act j hj := by
    have h : (s.clear c b p d).input j = s.input j := input_of_bare (clearAt_bare s _ _) j
    rw [h, hj]
  levels := by unfold State.clear State.clearAt; split <;> exact ⟨rfl, rfl, rfl, rfl⟩

theorem eases_modChan (n : Nat) (f : Channel → Channel) : Eases s (s.modChan n f) where
  kept := kept_mono (kept_modChan s n f) (by simp)
  latches := rfl
  act _ hj := hj
  levels := ⟨rfl, rfl, rfl, rfl⟩

theorem eases_eventIf (c : Bool) (b : Nat) : Eases s (s.eventIf c b) where
  kept := kept_mono (kept_eventIf s c b) (by simp)
  latches := by cases c <;> rfl
  act j hj := by cases c <;> exact hj
  levels := by cases c <;> exact ⟨rfl, rfl, rfl, rfl⟩

theorem eases_evalTrip (hr : s.pw.running = true) : Eases s s.evalTrip where
  kept := kept_mono (kept_evalTrip s hr) (by simp [tripParts])
  latches := evalTrip_flt_latches s
  act j hj := by
    have h : s.evalTrip.input j = s.input j := input_of_bare (evalTrip_bare s) j
    rw [h, hj]
  levels := ⟨evalTrip_saf_sErr s, evalTrip_saf_slEqual s, evalTrip_saf_overTemp s, evalTrip_saf_watchdog s⟩

theorem eases_siMakeActive (i : Nat) : Eases s (s.siMakeActive i) := by
  have h : Eases s (s.modInput i fun x => { x with act := true, rwait := false, wasAct := true }) :=
    eases_modInput s i _ fun _ _ => rfl
  unfold State.siMakeActive
  dsimp only
  split
  · refine h.trans ⟨kept_mono (kept_inputs _ _ ⟨rfl, rfl, rfl, rfl⟩) (by simp), rfl, fun _ hj => hj, rfl, rfl, rfl, rfl⟩
  · exact h

theorem eases_foldNat (l : List Nat) (f : State → Nat → State) (h : ∀ t n, Eases t (f t n)) : Eases s (s.foldNat l f) := by
  unfold State.foldNat
  induction l generalizing s with
  | nil => exact Eases.refl s
  | cons n l ih => exact (h s n).trans (ih (f s n))

/-- A RESTART edge with no source standing releases the trip latch and arms (R363). -/
theorem restartEdge_arms (hr : s.pw.running = true) (hm : s.tripMask = 0) :
    Eases s s.restartEdge ∧ s.restartEdge.saf.armed = true ∧ s.restartEdge.saf.tripLatch = false := by
  unfold State.restartEdge
  extract_lets s1 s2 any s3 s4 s5
  have h1 : Eases s s1 := eases_foldNat s _ _ fun t n => by
    split
    · exact (eases_modInput t n (fun x => { x with disc := false }) fun _ h => h).trans (eases_clear _ _ _ _ _)
    · exact Eases.refl t
  have h2 : Eases s1 s2 := eases_foldNat s1 _ _ fun t n => by
    split
    · exact eases_siMakeActive t n
    · exact Eases.refl t
  have h3 : Eases s2 s3 := eases_foldNat s2 _ _ fun t n => by
    split
    · exact eases_modChan t n _
    · exact Eases.refl t
  have h4 : Eases s s4 := ((h1.trans h2).trans h3).trans (eases_eventIf s3 any Ev.cont)
  have h5 : Eases s s5 := h4.trans (eases_evalTrip s4 (by rw [h4.pw]; exact hr))
  clear_value s5
  rw [if_pos (h5.quiet hm)]
  refine ⟨h5.trans ⟨fun p hp => ?_, rfl, fun _ hj => hj, rfl, rfl, rfl, rfl⟩, rfl, rfl⟩
  cases p
  case host k => cases k <;> rfl
  case inputs => exact absurd (by simp) hp
  case channels => exact absurd (by simp) hp
  case flags => exact absurd (by simp) hp
  all_goals simp [Part.same, State.dev, State.event]

/-! ### What a recognised change does (R356 to R363) -/

/-- The input with a new level of one channel (R356). -/
def inputSet (c : SiChan) (level : Bool) (x : SafeIn) : SafeIn :=
  match c with
  | .A => { x with a := level }
  | .B => { x with b := level }

/-- A level leaves the rest of the input. -/
theorem inputSet_keeps (c : SiChan) (level : Bool) (x : SafeIn) : ∃ a b, inputSet c level x = { x with a := a, b := b } := by
  cases c
  · exact ⟨level, x.b, rfl⟩
  · exact ⟨x.a, level, rfl⟩

section
variable {s} {i : Nat} {c : SiChan} {level : Bool} {u : State} (hu : u = s.modInput i (inputSet c level))
include hu

/-- A TRIP input whose first channel leaves the active position: SAFE, and SAFEIN 0x02 (R358, R359). -/
theorem siChange_leaves (hi : i < s.saf.inputs.length) (hb : s.siActive i = (true, true))
    (hd : (u.siActive i).1 ≠ (u.siActive i).2) (h4 : i < 4) (hro : s.siRole i = 1) (ha : (s.input i).act = true) :
    ∃ w : State, s.siChange i c level = w.raiseOpen 0x10 2 0 (i + 1) ∧ kept [.inputs] s w ∧ (w.input i).act = false ∧
      (w.input i).discAt = some s.now ∧ w.siRole i = 1 ∧ w.pw.running = s.pw.running := by
  unfold State.siChange
  extract_lets before u' after was v lost w
  have huu : u' = u := by
    rw [hu]
    cases c <;> rfl
  have hbef : before = (true, true) := hb
  clear_value before u'
  subst huu
  have hul : i < u'.saf.inputs.length := by rw [hu, modInput_inputs_length]; exact hi
  have hne : ¬ before = after := fun h => hd (by
    have hua : u'.siActive i = (true, true) := h.symm.trans hbef
    rw [hua])
  rw [if_neg hne, if_pos (show after.1 ≠ after.2 from hd)]
  have hact : (u'.input i).act = true := by
    rw [hu]
    refine input_modInput_mono s i i _ (fun x => x.act = true) (fun x hx => ?_) ha
    obtain ⟨a, b, e⟩ := inputSet_keeps c level x
    rw [e]
    exact hx
  have hwas : was = true := by simp only [was, hbef, Bool.and_self]
  have hvi : v.input i = { u'.input i with
      discAt := some u'.now, wasActive := true, rwait := false, accepted := false } := by
    simp only [v, hwas]
    rw [input_modInput_self u' i _ hul]
    rfl
  have hvr : v.siRole i = 1 := by
    rw [siRole_congr u' (t := v) rfl, hu]; exact hro
  have hvl : i < v.saf.inputs.length := by rw [modInput_inputs_length]; exact hul
  have hvk : kept [.inputs] s v := kept_chain (hu ▸ kept_modInput s i _) (kept_modInput u' i _)
  have hlost : lost = true := by simp only [lost, hwas, hvi, hact, h4, decide_true, Bool.and_self]
  have hw : w = v.modInput i fun x => { x with act := false } := siSafe_eq v (by omega)
  have hwi : w.input i = { v.input i with act := false } := by rw [hw, input_modInput_self v i _ hvl]
  have hwr : w.siRole i = 1 := by rw [siRole_congr v (t := w) (by rw [hw]; rfl)]; exact hvr
  have hnow : u'.now = s.now := by rw [hu]; rfl
  refine ⟨w, ?_, hw ▸ kept_chain hvk (kept_modInput v i _), by rw [hwi], by rw [hwi, hvi, hnow], hwr, by rw [hw]; exact congrArg PowerSt.running (hvk .power (by simp))⟩
  rw [hlost, hwr]
  rfl

/-- The channels of an input agree on the active position again after a discrepancy time that started at `n` (R359). -/
theorem siChange_agrees {n : Nat} (hi : i < s.saf.inputs.length) (hb : s.siActive i ≠ (true, true)) (ha : u.siActive i = (true, true))
    (hn : (s.input i).discAt = some n) : s.siChange i c level =
      if i = 4 then (u.siAgree i n).restartStands
      else if (u.siAgree i n).siBoth i then (u.siAgree i n).siStands i
      else (u.siAgree i n).modInput i (fun x => { x with rwait := false, accepted := false }) := by
  unfold State.siChange
  extract_lets before u' after was v lost w y
  have huu : u' = u := by
    rw [hu]
    cases c <;> rfl
  have hbef : before = s.siActive i := rfl
  clear_value before u'
  subst huu
  have haft : after = (true, true) := ha
  have hdisc : (u'.input i).discAt = some n := by
    obtain ⟨a, b, e⟩ := inputSet_keeps c level (s.input i)
    rw [hu, input_modInput_self s i _ hi, e, ← hn]
  have hy : y = u'.siAgree i n := by
    simp only [y]
    rw [hdisc]
  rw [if_neg (by rw [hbef, haft]; exact hb), if_neg (by rw [haft]; simp), hy]

end

/-! ### Discrepancies and agreements -/

/-- The input whose discrepancy latch has set (R359, R362). -/
def discLatched (x : SafeIn) : SafeIn := { x with disc := true, discAt := none, rwait := false, accepted := false, act := false }

/-- The discrepancy latch of a TRIP input, or of RESTART, sets (R359, R362). -/
theorem siDiscrepancy_eq {i : Nat} (hi : i < s.saf.inputs.length) (hro : i < 4 ∧ s.siRole i = 1 ∨ i = 4 ∧ s.siRole 4 ≠ 2) :
    ∃ w : State, s.siDiscrepancy i = w.raiseOpen 0x10 1 0 (i + 1) ∧ kept [.inputs] s w ∧ w.input i = discLatched (s.input i) ∧
      w.now = s.now := by
  have h2 : s.siRole i ≠ 2 := by
    obtain ⟨_, h⟩ | ⟨rfl, h⟩ := hro
    · omega
    · exact h
  have hc : (decide (i = 4) || decide (s.siRole i ≠ 0)) = true := by
    obtain ⟨_, h⟩ | ⟨rfl, _⟩ := hro <;> simp [*]
  unfold State.siDiscrepancy
  extract_lets v w
  have hv : v.siRole i = s.siRole i := siRole_congr s (t := v) rfl i
  have hw : w = v.modInput i fun x => { x with act := false } := siSafe_eq v (hv ▸ h2)
  have hwr : w.siRole i = s.siRole i := siRole_congr s (t := w) (by rw [hw]; rfl) i
  refine ⟨w, by rw [hwr, hc, cond_true], hw ▸ kept_chain (kept_modInput s i _) (kept_modInput v i _), ?_, by rw [hw]; rfl⟩
  rw [hw, input_modInput_self v i _ (by rw [modInput_inputs_length]; exact hi), input_modInput_self s i _ hi]
  rfl

/-- The input that has taken a change to the active position, with the time `dt` between its channels (R358, R366). -/
def agreed (dt : Nat) (x : SafeIn) : SafeIn := { x with discAt := none, skew := dt / 50000, accepted := true }

/-- Both channels become active in time (R358, R359). -/
theorem siAgree_accepts {i n : Nat} (hb : s.siActive i = (true, true)) (ht : s.now - n < s.siTd i)
    (hw : (s.input i).wasActive = false) : s.siAgree i n = s.modInput i (agreed (s.now - n)) := by
  unfold State.siAgree
  dsimp only
  rw [if_neg (Nat.not_le.2 ht), s.siBoth_of i hb, hw, if_neg (by decide)]
  rfl

/-- Where an input stands, the trip path ends the command (R353, R354). -/
theorem finish_off {y : State} (hr : y.pw.running = true) (hm : y.tripMask ≠ 0) :
    (s.finish y).saf.tripLatch = true ∧ (s.finish y).saf.armed = false ∧ ∀ x ∈ (s.finish y).saf.ch, x.energised = false := by
  obtain ⟨-, htrip, -⟩ := finish_atRest s y hr
  have hmask : (s.finish y).tripMask ≠ 0 := by
    rw [finish_running s y hr, evalTrip_tripMask]
    rwa [tripMask_congr y (t := { y with pending := s.pending, now := max s.now y.now }) rfl rfl rfl rfl rfl rfl rfl rfl]
  obtain ⟨h1, h2, h3⟩ := htrip hmask
  exact ⟨h1, h2, fun x hx => by simpa using List.all_eq_true.1 h3 x hx⟩

/-- With no source standing, the end of a command leaves the latch of the trip path and ARMED. -/
theorem finish_latch_quiet {y : State} (hm : y.tripMask = 0) :
    (s.finish y).saf.tripLatch = y.saf.tripLatch ∧ (s.finish y).saf.armed = y.saf.armed := by
  have hm' : { y with pending := s.pending, now := max s.now y.now }.tripMask = 0 :=
    (tripMask_congr y rfl rfl rfl rfl rfl rfl rfl rfl).trans hm
  unfold State.finish
  dsimp only
  cases y.pw.running
  · exact ⟨rfl, rfl⟩
  · obtain ⟨-, h1, h2⟩ := evalTrip_quiet _ hm'
    exact ⟨h1, h2⟩

/-! ### The end of a recognised change -/

/-- A recognised change as it ends: its event, and the trip path (R353, R433). -/
def sensed (s y : State) (b : Bool) : State := s.finish ((y.eventIf b Ev.sin).evalTrip)

section
variable {s} {y : State} (b : Bool)

theorem sensed_input (j : Nat) : (s.sensed y b).input j = y.input j := by
  unfold State.sensed
  rw [finish_input]
  exact input_of_bare ((evalTrip_bare _).trans (eventIf_bare _ _ _)) j

theorem sensed_hasCause (x : Source) : (s.sensed y b).hasCause x = y.hasCause x := by
  unfold State.sensed State.hasCause
  rw [finish_flt_causes, evalTrip_flt_causes]
  cases b <;> rfl

theorem eventIf_running : (y.eventIf b Ev.sin).pw.running = y.pw.running := by cases b <;> rfl

theorem eventIf_tripMask : (y.eventIf b Ev.sin).tripMask = y.tripMask := by
  cases b
  · rfl
  · exact tripMask_congr y rfl rfl rfl rfl rfl rfl rfl rfl

theorem kept_sensed {out : List Part} (hr : y.pw.running = true) (h : kept out s y) : kept (out ++ tripParts) s (s.sensed y b) := by
  have hk := kept_trans (kept_trans h (kept_eventIf y b Ev.sin)) (kept_evalTrip _ ((eventIf_running b).trans hr))
  refine kept_mono (kept_finish hk) fun p hp => ?_
  simp only [tripParts, List.mem_append, List.mem_cons, List.not_mem_nil, or_false] at hp ⊢
  tauto

theorem sensed_off (hr : y.pw.running = true) (hm : y.tripMask ≠ 0) :
    (s.sensed y b).saf.tripLatch = true ∧ (s.sensed y b).saf.armed = false ∧ ∀ x ∈ (s.sensed y b).saf.ch, x.energised = false :=
  s.finish_off (by rw [evalTrip_pw, eventIf_running, hr]) (by rw [evalTrip_tripMask, eventIf_tripMask]; exact hm)

theorem sensed_quiet (hm : y.tripMask = 0) :
    (s.sensed y b).saf.tripLatch = y.saf.tripLatch ∧ (s.sensed y b).saf.armed = y.saf.armed := by
  have hb : (y.eventIf b Ev.sin).saf = y.saf := eventIf_saf _ _ _
  have hq : (y.eventIf b Ev.sin).tripMask = 0 := (eventIf_tripMask b).trans hm
  obtain ⟨h1, h2⟩ := s.finish_latch_quiet (y := (y.eventIf b Ev.sin).evalTrip) (by rw [evalTrip_tripMask, hq])
  obtain ⟨-, h3, h4⟩ := evalTrip_quiet _ hq
  exact ⟨h1.trans (h3.trans (by rw [hb])), h2.trans (h4.trans (by rw [hb]))⟩

/-- A fault that a recognised change has raised stands at its end. -/
theorem sensed_faulted {x : Source} (hr : y.pw.running = true) (hc : y.hasCause x = true) (hk : kept ([.inputs] ++ faultParts) s y) :
    faulted [.inputs] s (s.sensed y b) x :=
  ⟨by rw [sensed_hasCause, hc], kept_mono (kept_sensed b hr hk) (by simp [tripParts, faultParts])⟩

end

end State

/-! ### SAFETY_CHANNEL_RECOGNISED -/

section
variable {s : State} (hr : s.pw.running = true) {i n : Nat} {c : SiChan} {level : Bool}
include hr

theorem safetyChannelRecognised_answers {P : State → Prop} (h : ∀ b, P (s.sensed (s.siChange i c level) b)) :
    answers (.safetyChannelRecognised i c level) s P :=
  answers_onC hr (f := fun s => ((s.siChange i c level).eventIf
    (decide ((s.siChange i c level).inputWord i ≠ s.inputWord i)) Ev.sin).evalTrip) (by rfl) (h _)

variable (hi : i < s.saf.inputs.length) {u : State} (hu : u = s.modInput i (State.inputSet c level))
include hi hu

/-- One channel of a TRIP input leaves the active position (R358, R359). -/
theorem safetyChannelRecognised_leaves (hb : s.siActive i = (true, true)) (hd : (u.siActive i).1 ≠ (u.siActive i).2) (h4 : i < 4)
    (hro : s.siRole i = 1) (ha : (s.input i).act = true) : answers (.safetyChannelRecognised i c level) s fun t =>
          (t.input i).act = false ∧ (t.input i).discAt = some s.now ∧ t.saf.tripLatch = true ∧ t.saf.armed = false ∧
          (∀ x ∈ t.saf.ch, x.energised = false) ∧ faulted [.inputs] s t ⟨0x10, 2, 0, i + 1⟩ := by
  obtain ⟨w, e, hk, hact, hdisc, hwr, hrun⟩ := State.siChange_leaves hu hi hb hd h4 hro ha
  have hbare : (w.raiseOpen 0x10 2 0 (i + 1)).bare = w.bare := State.raiseOpenAt_bare _ _ _ _
  have hyr : (w.raiseOpen 0x10 2 0 (i + 1)).pw.running = true := by
    have h := congrArg PowerSt.running (State.pw_of_steady (State.raiseOpenAt_steady w ⟨0x10, 2, 0, i + 1⟩ false w.sweep))
    exact h.trans (hrun.trans hr)
  have hin : (w.raiseOpen 0x10 2 0 (i + 1)).input i = w.input i := State.input_of_bare hbare i
  have hm : (w.raiseOpen 0x10 2 0 (i + 1)).tripMask ≠ 0 :=
    State.tripMask_of_input _ h4 ((State.siRole_of_bare hbare i).trans hwr) (by rw [hin, hact])
  refine safetyChannelRecognised_answers hr fun b => ?_
  rw [e, State.sensed_input, hin]
  obtain ⟨h1, h2, h3⟩ := State.sensed_off (s := s) b hyr hm
  exact ⟨hact, hdisc, h1, h2, h3, State.sensed_faulted b hyr (State.raiseOpenAt_hasCause _ _ _ _)
    (kept_trans hk (State.kept_of_bare hbare))⟩

variable (hb : s.siActive i ≠ (true, true)) (hon : u.siActive i = (true, true)) (hn : (s.input i).discAt = some n)
include hb hon hn

/-- The channels of a TRIP input agree too late (R359). -/
theorem safetyChannelRecognised_late (ht : s.siTd i ≤ s.now - n) (hro : s.siRole i = 1) (h4 : i < 4) :
    answers (.safetyChannelRecognised i c level) s fun t =>
          (t.input i).disc = true ∧ (t.input i).act = false ∧ (t.input i).discAt = none ∧
          faulted [.inputs] s t ⟨0x10, 1, 0, i + 1⟩ := by
  have hul : i < u.saf.inputs.length := by rw [hu, State.modInput_inputs_length]; exact hi
  have huleg : u.leg = s.leg := by rw [hu]; rfl
  obtain ⟨w, e, hk, hwi, -⟩ := State.siDiscrepancy_eq u hul (.inl ⟨h4, by rw [State.siRole_congr s huleg, hro]⟩)
  obtain ⟨y, hy⟩ : ∃ y, y = w.raiseOpen 0x10 1 0 (i + 1) := ⟨_, rfl⟩
  have hbare : y.bare = w.bare := hy ▸ State.raiseOpenAt_bare _ _ _ _
  have hyi : y.input i = State.discLatched (u.input i) := (State.input_of_bare hbare i).trans hwi
  have hyk : kept ([.inputs] ++ faultParts) s y :=
    kept_trans (kept_chain (hu ▸ State.kept_modInput s i _) hk) (State.kept_of_bare hbare)
  have hboth : y.siBoth i = true := by
    refine y.siBoth_of i ?_
    rw [State.siActive_congr u (t := y) ((State.leg_of_bare hbare).trans (hk .legend (by simp))) (by rw [hyi]; rfl) (by rw [hyi]; rfl), hon]
  have hagree : u.siAgree i n = y := by
    unfold State.siAgree
    dsimp only
    have hnow : u.now = s.now := by rw [hu]; rfl
    rw [hnow, State.siTd_congr s huleg, if_pos ht, e, hy]
  have hstands : y.siStands i = y.clear 0x10 2 0 (i + 1) := by
    unfold State.siStands
    dsimp only
    rw [hyi]
    exact if_pos (.inr rfl)
  have hch : s.siChange i c level = y.clear 0x10 2 0 (i + 1) := by
    rw [State.siChange_agrees hu hi hb hon hn, if_neg (by omega), hagree, if_pos hboth, hstands]
  have hzr : (y.clear 0x10 2 0 (i + 1)).pw.running = true := by
    have hys : y.steady = w.steady := hy ▸ State.raiseOpenAt_steady _ _ _ _
    have h1 := congrArg PowerSt.running (State.pw_of_steady ((State.clearAt_steady y ⟨0x10, 2, 0, i + 1⟩ y.sweep).trans hys))
    have h2 : w.pw = u.pw := hk .power (by simp)
    exact h1.trans ((congrArg PowerSt.running h2).trans (by rw [hu]; exact hr))
  have hzi : (y.clear 0x10 2 0 (i + 1)).input i = y.input i := State.input_of_bare (State.clearAt_bare y _ _) i
  refine safetyChannelRecognised_answers hr fun b => ?_
  rw [hch, State.sensed_input, hzi, hyi]
  refine ⟨rfl, rfl, rfl, State.sensed_faulted b hzr ?_ ?_⟩
  · rw [show (y.clear 0x10 2 0 (i + 1)).hasCause ⟨0x10, 1, 0, i + 1⟩ = y.hasCause ⟨0x10, 1, 0, i + 1⟩ from
      State.clearAt_hasCause_other y (by simp) _, hy]
    exact State.raiseOpenAt_hasCause _ _ _ _
  · exact State.kept_mono (kept_trans hyk (State.kept_of_bare (State.clearAt_bare y _ _))) (by simp [faultParts])

variable (ht : s.now - n < s.siTd i) (hwas : (s.input i).wasActive = false) (hdisc : (s.input i).disc = false)
include ht hwas hdisc

omit hr hb hn hdisc in
/-- The input once both its channels have become active in time (R358, R366). -/
theorem agreed_step : ∃ v, v = u.siAgree i n ∧ State.Eases s v ∧ v.siBoth i = true ∧
    ∃ a b, v.input i = { State.agreed (s.now - n) (s.input i) with a := a, b := b } := by
  have hul : i < u.saf.inputs.length := by rw [hu, State.modInput_inputs_length]; exact hi
  have huleg : u.leg = s.leg := by rw [hu]; rfl
  have hnow : u.now = s.now := by rw [hu]; rfl
  obtain ⟨a, b, hx⟩ := State.inputSet_keeps c level (s.input i)
  have hui : u.input i = { s.input i with a := a, b := b } := by rw [hu, State.input_modInput_self s i _ hi, hx]
  have hv : u.siAgree i n = u.modInput i (State.agreed (s.now - n)) := by
    rw [State.siAgree_accepts u hon (by rw [hnow, State.siTd_congr s huleg]; exact ht) (by rw [hui]; exact hwas), hnow]
  have hvi : (u.modInput i (State.agreed (s.now - n))).input i = State.agreed (s.now - n) (u.input i) := State.input_modInput_self u i _ hul
  refine ⟨_, rfl, ?_, ?_, a, b, ?_⟩
  · rw [hv]
    refine State.Eases.trans (t := u) ?_ (State.eases_modInput u i _ fun _ h => h)
    rw [hu]
    refine State.eases_modInput s i _ fun x h => ?_
    obtain ⟨a, b, e⟩ := State.inputSet_keeps c level x
    rw [e]
    exact h
  · rw [hv]
    refine State.siBoth_of _ i ?_
    rw [State.siActive_congr u (by rfl) (by rw [hvi]; rfl) (by rw [hvi]; rfl), hon]
  · rw [hv, hvi, hui]
    rfl

/-- A TRIP or COUPLED input under automatic restart becomes ACTIVE again (R358, R361). -/
theorem safetyChannelRecognised_returns (h4 : i < 4) (hau : s.siAuto i = true) (ha : (s.input i).act = false) :
    answers (.safetyChannelRecognised i c level) s fun t =>
            (t.input i).act = true ∧ (t.input i).discAt = none ∧ (t.input i).skew = (s.now - n) / 50000 ∧
            kept (.inputs :: .collector :: tripParts) s t := by
  obtain ⟨v, hv, hve, hboth, a, b', hvi⟩ := agreed_step hi hu hon ht hwas
  obtain ⟨w, hw⟩ : ∃ w, w = v.clear 0x10 2 0 (i + 1) := ⟨_, rfl⟩
  have hwe : State.Eases s w := hw ▸ hve.trans (State.eases_clear v _ _ _ _)
  have hwi : w.input i = v.input i := hw ▸ State.input_of_bare (State.clearAt_bare v _ _) i
  have hstands : v.siStands i = w.siMakeActive i := by
    unfold State.siStands
    dsimp only
    rw [← hw, if_neg (by rw [hvi]; simp [State.agreed, ha, hdisc]), State.siAuto_congr s hwe.leg, if_pos hau,
      if_pos (by rw [hvi]; rfl)]
  have hye := hwe.trans (State.eases_siMakeActive w i)
  have hlen : i < w.saf.inputs.length := State.lt_of_input (s := w) (i := i) fun h => by
    have h1 := congrArg SafeIn.accepted h
    rw [hwi, hvi] at h1
    exact absurd h1 (by simp [State.agreed])
  have hyi : (w.siMakeActive i).input i = { w.input i with act := true, rwait := false, wasAct := true } := by
    unfold State.siMakeActive
    dsimp only
    split
    · exact State.input_modInput_self w i _ hlen
    · exact State.input_modInput_self w i _ hlen
  refine safetyChannelRecognised_answers hr fun b => ?_
  rw [State.siChange_agrees hu hi hb hon hn, if_neg (by omega), ← hv, if_pos hboth, hstands, State.sensed_input, hyi, hwi, hvi]
  exact ⟨rfl, rfl, rfl, State.kept_mono (State.kept_sensed b (by rw [hye.pw]; exact hr) hye.kept) (by simp [tripParts])⟩

/-- RESTART releases the trip latch and arms where no source stands (R363). -/
theorem safetyChannelRecognised_restarts (hi4 : i = 4) (hidle : (s.input 4).idleBefore = true) (ha : (s.input 4).act = false)
    (hm : s.tripMask = 0) : answers (.safetyChannelRecognised 4 c level) s fun t =>
              t.saf.armed = true ∧ t.saf.tripLatch = false ∧ (t.input 4).act = true ∧
              kept (.inputs :: .collector :: tripParts) s t := by
  subst hi4
  obtain ⟨v, hv, hve, hboth, a, b', hvi⟩ := agreed_step hi hu hon ht hwas
  obtain ⟨w, hw⟩ : ∃ w, w = v.modInput 4 fun x => { x with act := true } := ⟨_, rfl⟩
  have hwe : State.Eases s w := hw ▸ hve.trans (State.eases_modInput v 4 _ fun _ _ => rfl)
  have hlen : 4 < v.saf.inputs.length := State.lt_of_input (s := v) (i := 4) fun h => by
    have h1 := congrArg SafeIn.accepted h
    rw [hvi] at h1
    exact absurd h1 (by simp [State.agreed])
  have hwi : (w.input 4).act = true := by rw [hw, State.input_modInput_self v 4 _ hlen]
  have hstands : v.restartStands = w.restartEdge := by
    unfold State.restartStands
    dsimp only
    rw [← hw, if_pos hboth, if_neg (by rw [hvi]; simp [State.agreed, hdisc])]
    have hq : ((v.input 4).idleBefore && !(v.input 4).act) = true := by rw [hvi]; simp [State.agreed, hidle, ha]
    rw [hq, cond_true]
  obtain ⟨hre, harm, hlatch⟩ := w.restartEdge_arms (by rw [hwe.pw]; exact hr) (hwe.quiet hm)
  have hye := hwe.trans hre
  refine safetyChannelRecognised_answers hr fun b => ?_
  rw [State.siChange_agrees hu hi hb hon hn, if_pos rfl, ← hv, hstands, State.sensed_input]
  obtain ⟨h1, h2⟩ := State.sensed_quiet (s := s) b (hye.quiet hm)
  exact ⟨h2.trans harm, h1.trans hlatch, hre.act 4 hwi,
    State.kept_mono (State.kept_sensed b (by rw [hye.pw]; exact hr) hye.kept) (by simp [tripParts])⟩

end

/-! ### The timers of the inputs -/

/-- What a timer at `m` marks at RESTART, its event leaves (R363, R364). -/
theorem State.input_marked {s : State} (m : Nat) (f : SafeIn → SafeIn) (hi : 4 < s.saf.inputs.length) :
    (((s.until m).modInput 4 f).event Ev.sin).input 4 = f (s.input 4) := State.input_modInput_self (s.until m) 4 f hi

section
variable {s : State} (hr : s.pw.running = true) {i n : Nat}
include hr

theorem safeinDiscrepancyTimeout_latches (hi : i < s.saf.inputs.length) (hn : (s.input i).discAt = some n)
    (hro : i < 4 ∧ s.siRole i = 1 ∨ i = 4 ∧ s.siRole 4 ≠ 2) : answers (.safeinDiscrepancyTimeout i) s fun t =>
        t.now = max s.now (n + s.siTd i) ∧ (t.input i).disc = true ∧ (t.input i).act = false ∧ (t.input i).discAt = none ∧
        faulted [.inputs] s t ⟨0x10, 1, 0, i + 1⟩ := by
  obtain ⟨w, e, hk, hwi, hwn⟩ := State.siDiscrepancy_eq (s.until (n + s.siTd i)) hi hro
  obtain ⟨y, hy⟩ : ∃ y, y = ((w.raiseOpen 0x10 1 0 (i + 1)).event Ev.sin).evalTrip := ⟨_, rfl⟩
  have hbare : y.bare = w.bare := by
    rw [hy, State.evalTrip_bare, State.event_bare]; exact State.raiseOpenAt_bare _ _ _ _
  have hsteady : y.steady = w.steady := by
    rw [hy, State.evalTrip_steady, State.event_steady]; exact State.raiseOpenAt_steady _ _ _ _
  have hcause : y.hasCause ⟨0x10, 1, 0, i + 1⟩ = true := by
    unfold State.hasCause
    rw [hy, State.evalTrip_flt_causes]
    exact State.raiseOpenAt_hasCause w _ _ _
  refine answers_onC hr (f := fun _ => y) ?_ ?_
  · change execSafeinDiscrepancyTimeout i s = _
    unfold execSafeinDiscrepancyTimeout
    rw [onC_running hr, onC_running hr, hn, hy, ← e]
  · rw [State.finish_input, State.input_of_bare hbare, hwi, State.finish_now, State.now_of_steady hsteady, hwn]
    exact ⟨max_eq_right (le_max_left _ _), rfl, rfl, rfl,
      faulted_finish hcause (State.kept_mono (kept_trans (kept_trans (kept_until s _) hk) (State.kept_of_bare hbare)) (by simp))⟩

theorem restartIdleTimer_idles (hn : (s.input 4).safeAt = some n) (hs : s.siNone 4 = true) (hd : (s.input 4).idle = false) :
    answers .restartIdleTimer s fun t => t.now = max s.now (n + 100000000) ∧ t.input 4 = { s.input 4 with idle := true } ∧
      kept (.inputs :: tripParts) s t := by
  have hi := State.lt_of_input (s := s) (i := 4) fun h => by rw [h] at hn; cases hn
  refine answers_onC hr (f := fun _ => ((s.until (n + ms 100)).modInput 4 fun x => { x with idle := true }).event Ev.sin) ?_ ?_
  · change execRestartIdleTimer s = _
    unfold execRestartIdleTimer
    rw [onC_running hr, onC_running hr, hn]
    dsimp only
    rw [if_pos ⟨hs, hd⟩]
  rw [State.finish_input]
  refine ⟨?_, State.input_marked (n + ms 100) (fun x => { x with idle := true }) hi, ?_⟩
  · rw [State.finish_now]
    exact max_eq_right (le_max_left _ _)
  · exact State.kept_mono (kept_finish (kept_trans (kept_trans (kept_until s _) (State.kept_modInput _ 4 _)) (kept_event _ _)))
      (by simp [tripParts])

theorem restartStuck_raises (hn : (s.input 4).pressedAt = some n) (hs : s.siBoth 4 = true) : answers .restartStuck s fun t =>
      t.now = max s.now (n + 10000000000) ∧ t.input 4 = { s.input 4 with stuck := true } ∧
      faulted [.inputs] s t ⟨0x1F, 1, 0, openDetail 0x1F 1 0⟩ := by
  have hi := State.lt_of_input (s := s) (i := 4) fun h => by rw [h] at hn; cases hn
  obtain ⟨w, hw⟩ : ∃ w, w = ((s.until (n + ms 10000)).modInput 4 fun x => { x with stuck := true }).event Ev.sin := ⟨_, rfl⟩
  refine answers_onC hr (f := fun _ => w.raiseOpen 0x1F 1 0 (openDetail 0x1F 1 0)) ?_ ?_
  · change execRestartStuck s = _
    unfold execRestartStuck
    rw [onC_running hr, onC_running hr, hn, hw]
    dsimp only
    rw [if_pos hs]
  rw [State.finish_input]
  refine ⟨?_, ?_, faulted_mono (faulted_raiseOpenAt (out := [.inputs, .flags]) (hw ▸ ?_) _ _ _) (by simp [faultParts])⟩
  · rw [State.finish_now]
    refine (congrArg (max s.now) (State.now_of_steady (State.raiseOpenAt_steady w _ _ _))).trans ?_
    rw [hw]
    exact max_eq_right (le_max_left _ _)
  · refine (State.input_of_bare (State.raiseOpenAt_bare w _ _ _) 4).trans ?_
    rw [hw]
    exact State.input_marked (n + ms 10000) (fun x => { x with stuck := true }) hi
  · exact kept_trans (kept_trans (kept_until s _) (State.kept_modInput _ 4 _)) (kept_event _ _)

theorem couplingTimer_couples (hn : s.saf.cplAt = some n) (hc : s.saf.coupled = false) : answers .couplingTimer s fun t =>
      t.now = max s.now (n + 1000000 * s.par Fld.cplT 0) ∧ t.saf.coupled = true ∧
      (s.ses.st = .idle → t.ses.st = .connecting ∧ t.ses.number ≠ 0 ∧ t.ses.number ≠ s.pw.prevSession ∧ t.ses.ownSeq = 1 ∧
        t.pw.prevSession = t.ses.number) ∧
      (s.ses.st ≠ .idle → t.ses = s.ses) ∧
      kept (.draws :: .power :: .inputs :: .session :: .host .A :: .host .B :: .queues :: tripParts) s t := by
  obtain ⟨v, hv⟩ : ∃ v, v = s.until (n + 1000000 * s.par Fld.cplT 0) := ⟨_, rfl⟩
  obtain ⟨u, hu⟩ : ∃ u, u = { v with saf := { v.saf with coupled := true } } := ⟨_, rfl⟩
  have hun : u.now = max s.now (n + 1000000 * s.par Fld.cplT 0) := by rw [hu, hv]; rfl
  have hses : u.ses = s.ses := by rw [hu, hv]; rfl
  have hpw : u.pw = s.pw := by rw [hu, hv]; rfl
  have hk : kept [.inputs] s u := hu ▸ kept_trans (hv ▸ kept_until s _) (kept_inputs v { v.saf with coupled := true } ⟨rfl, rfl, rfl, rfl⟩)
  refine answers_onC hr (f := fun _ => if s.ses.st = .idle then u.newSession else u) ?_ ?_
  · change execCouplingTimer s = _
    unfold execCouplingTimer
    rw [onC_running hr, onC_running hr, hn]
    dsimp only
    rw [hc, if_neg (by decide), show n + ms (s.par Fld.cplT 0) = n + 1000000 * s.par Fld.cplT 0 by rw [ms, Nat.mul_comm], ← hv]
    unfold State.couple
    rw [hu, hv]
    rfl
  have hnow : max s.now u.now = max s.now (n + 1000000 * s.par Fld.cplT 0) := by rw [hun]; exact max_eq_right (le_max_left _ _)
  split
  · next h =>
    obtain ⟨h1, h2, h3, h4⟩ := u.newSession_begins
    rw [hpw] at h3
    rw [State.finish_now, State.finish_ses, State.finish_pw, State.finish_saf_coupled, State.newSession_now, State.newSession_saf]
    exact ⟨hnow, by rw [hu], fun _ => ⟨h1, h2, h3, h4, u.newSession_number.2⟩, fun hne => absurd h hne,
      State.kept_mono (kept_finish (kept_trans hk u.kept_newSession)) (by simp [tripParts])⟩
  · next h =>
    rw [State.finish_now, State.finish_ses, State.finish_saf_coupled]
    exact ⟨hnow, by rw [hu], fun he => absurd he h, fun _ => hses,
      State.kept_mono (kept_finish hk) (by simp [tripParts])⟩

end

/-- Settles O55: a recognised change in its steps, each of which keeps what the others read, and the timers. -/
theorem inputsAct : Obligations.InputsAct := by
  unfold Obligations.InputsAct
  refine fun s i n hr hi => ⟨fun c level u hu => ?_, safeinDiscrepancyTimeout_latches hr hi, restartIdleTimer_idles hr,
    restartStuck_raises hr, couplingTimer_couples hr⟩
  have hu' : u = s.modInput i (State.inputSet c level) := by
    rw [hu]
    cases c <;> rfl
  exact ⟨safetyChannelRecognised_leaves hr hi hu', fun hb hon hn => ⟨safetyChannelRecognised_late hr hi hu' hb hon hn,
    fun ht hw hd => ⟨safetyChannelRecognised_returns hr hi hu' hb hon hn ht hw hd,
      safetyChannelRecognised_restarts hr hi hu' hb hon hn ht hw hd⟩⟩⟩

end Sys2Proof.Machine
end

section
/-!
SUPPORT. Spot readings whose answer waits at a port (R147): emptying a port drops them, and placing such an answer ends the reading.
With them the refutations of O12, O33 and O59.
-/

namespace Sys2Proof.Machine

/-- A spot reading of a host whose answer waits to be placed (R147). -/
def answeredSpot (h : HostId) : SpotSlot := ⟨h, 0, 0, 0, 0, 0, 0, 0, true⟩

/-! ### UNFREEZE -/

/-- The body of an UNFREEZE of HOST B, with tag 0x0201 (R466). -/
def unfreezeBody : List Byte := [1, 2, 1, 0]

/-- HOST B is frozen with an answered spot reading, and an UNFREEZE of it waits at pair 3 of HOST A, an OPERATOR. -/
def frozenSpot : State :=
  { State.reset with
    portA := { State.reset.portA with level := 1 }
    portB := { State.reset.portB with frozen := true }
    queues := modAt State.reset.queues (cmdQ .A 3) fun q => { q with words := msgHeader 4 0x0307 false false :: packWords unfreezeBody }
    der := { State.reset.der with spots := [some (answeredSpot .B)] } }

theorem frozenSpot_taken : Taken frozenSpot .A 3 0x0307 unfreezeBody := by
  constructor
  · exact ⟨rfl, rfl⟩
  · simp only [State.atRest]
    decide +kernel
  all_goals decide +kernel

/-- The release of the port drops the reading whose answer waits there (R147, R431). -/
theorem unfreeze_frozenSpot_spots : answers (.unfreeze .A 3) frozenSpot fun t => t.der.spots = [none] :=
  ⟨_, rfl, by decide +kernel⟩

/-- Refutes O12: an UNFREEZE is said to leave all but the two ports and the queues where the released port held no semaphore, and
it drops the spot readings whose answers wait at that port. -/
theorem not_unfreezeReleasesTheOtherPort : ¬ Obligations.UnfreezeReleasesTheOtherPort := by
  unfold Obligations.UnfreezeReleasesTheOtherPort
  intro h
  obtain ⟨t, ht, hspots⟩ := unfreeze_frozenSpot_spots
  obtain ⟨hrelease, -⟩ := h frozenSpot .A 3 unfreezeBody frozenSpot_taken rfl ⟨rfl, by decide +kernel⟩
  obtain ⟨u, hu, -, -, -, -, -, -, hframe⟩ := hrelease rfl rfl
  obtain ⟨-, -, hkept⟩ := hframe fun k => by
    have hfree : ∀ k, frozenSpot.sems.getD k none = none := fun k => by
      have e : frozenSpot.sems = List.replicate 16 none := rfl
      rw [e, List.getD_eq_getElem?_getD, List.getElem?_replicate]
      split <;> rfl
    unfold State.holds
    rw [hfree]
    rfl
  obtain rfl : t = u := Host.Outcome.next.inj (ht.symm.trans hu)
  have hder : t.der = frozenSpot.der := hkept .derived (by decide)
  rw [hder] at hspots
  exact absurd hspots (by decide)

/-! ### The supervisor's watchdog -/

/-- The C-die runs with an answered spot reading of HOST A. -/
def waitingSpot : State := { State.reset with der := { State.reset.der with spots := [some (answeredSpot .A)] } }

/-- The reset of the ports drops the reading whose answer waits (R147, R516). -/
theorem supervisorWatchdogExpiry_waitingSpot_spots : answers .supervisorWatchdogExpiry waitingSpot fun t => t.der.spots = [none] :=
  ⟨_, rfl, by decide +kernel⟩

/-- Refutes O33: a watchdog expiry is said to leave the derived values, and it drops the spot readings whose answers wait at a port. -/
theorem not_supervisorResets : ¬ Obligations.SupervisorResets := by
  unfold Obligations.SupervisorResets
  intro h
  obtain ⟨t, ht, hspots⟩ := supervisorWatchdogExpiry_waitingSpot_spots
  obtain ⟨hexpiry, -⟩ := h waitingSpot rfl
  obtain ⟨u, hu, -, -, -, -, -, -, -, -, -, -, -, -, -, hkept⟩ := hexpiry rfl
  obtain rfl : t = u := Host.Outcome.next.inj (ht.symm.trans hu)
  have hder : t.der = waitingSpot.der := hkept .derived (by decide)
  rw [hder] at hspots
  exact absurd hspots (by decide)

/-! ### The placing of a response -/

/-- The answer of spot reading 0, staged for pair 3 (R147, R447). -/
def spotAnswer : Staged := ⟨3, 0x8106, false, [0, 0, 0, 0, 0, 0], 0⟩

/-- The same reading, with its answer staged at HOST A. -/
def stagedSpot : State := { waitingSpot with portA := { State.reset.portA with staged := [spotAnswer] } }

/-- The placing of the answer ends the reading (R147). -/
theorem responsePlacement_stagedSpot_spots : answers (.responsePlacement .A 3) stagedSpot fun t => t.der.spots = [none] :=
  ⟨_, rfl, by decide +kernel⟩

/-- Refutes O59: the placing of a staged message is said to touch its queue and its port alone, and the placing of a spot reading's
answer ends the reading. -/
theorem not_queuesAct : ¬ Obligations.QueuesAct := by
  unfold Obligations.QueuesAct
  intro h
  obtain ⟨t, ht, hspots⟩ := responsePlacement_stagedSpot_spots
  obtain ⟨-, -, -, hplaced, -⟩ := h stagedSpot .A 3 rfl (by decide)
  obtain ⟨u, hu, -, -, -, hkept⟩ := hplaced spotAnswer (rspQ .A 3) rfl rfl rfl (by decide +kernel) rfl (by decide +kernel)
  obtain rfl : t = u := Host.Outcome.next.inj (ht.symm.trans hu)
  have hder : t.der = stagedSpot.der := hkept .derived (by decide)
  rw [hder] at hspots
  exact absurd hspots (by decide)

end Sys2Proof.Machine
end

section
/-!
SUPPORT. The supplies, the resets and the starts of the C-die (R475, R486, R496, R501, R502): O27 and O28.
-/

namespace Sys2Proof.Machine

theorem answers_guarded {c : Instr} {s : State} {b : Bool} {f : State → State} {P : State → Prop} (e : exec c s = guarded b s f)
    (hb : b = true) (h : P (s.finish (f s))) : answers c s P := by
  subst hb
  exact ⟨_, e, h⟩

/-! ### The C-die in reset -/

/-- What is in force while the C-die is in reset (R486, R502). -/
theorem State.cDieDown_reset (s : State) (op : OpState) :
    ((s.cDieDown op).dev 0).body = { s.dev 0 with d1 := false }.body ∧ othersKept s (s.cDieDown op) 0 ∧
    (∀ n, ((s.cDieDown op).chan n).energised = false) ∧ (∀ n, ((s.cDieDown op).latch n).latched = false) := by
  refine ⟨?_, fun e he => ?_, fun n => ?_, fun n => ?_⟩
  · by_cases hl : 0 < s.devs.length
    · exact congrArg Dev.body (s.dev_modDev_self 0 (fun (d : Dev) => { d with d1 := false }) hl)
    · have hnil : s.devs = [] := List.eq_nil_of_length_eq_zero (Nat.eq_zero_of_not_pos hl)
      have hd : (s.cDieDown op).dev 0 = {} := by
        unfold State.dev State.cDieDown
        rw [hnil]
        rfl
      have hs : s.dev 0 = {} := by
        unfold State.dev
        rw [hnil]
        rfl
      rw [hd, hs]
  · exact congrArg Dev.body (s.dev_modDev_other 0 e (fun (d : Dev) => { d with d1 := false }) he)
  · have h : (s.cDieDown op).saf.ch = List.replicate 6 {} := rfl
    unfold State.chan
    rw [h, List.getD_eq_getElem?_getD, List.getElem?_replicate]
    split <;> rfl
  · have h : (s.cDieDown op).flt.latches = List.replicate 32 {} := rfl
    unfold State.latch
    rw [h, List.getD_eq_getElem?_getD, List.getElem?_replicate]
    split <;> rfl

/-- A fall of VSUP or an assertion of RESET_N, after its own mark `p`, puts the C-die into reset (R486, R502). -/
theorem cDieDown_answers {c : Instr} {s u : State} {op : OpState} {b : Bool} {f : State → State} (e : exec c s = guarded b s f)
    (hb : b = true) (hf : f s = u.cDieDown op) {p : PowerSt} (hu : u = { s with pw := p })
    (hp : p.locked = s.pw.locked ∧ p.prevSession = s.pw.prevSession ∧ p.vsup = (s.pw.vsup && decide (c ≠ .vsupFall)) ∧
      p.resetN = (s.pw.resetN && decide (c ≠ .resetNAssert))) : answers c s fun t =>
      t.pw.running = false ∧ t.pw.locked = s.pw.locked ∧ t.pw.prevSession = s.pw.prevSession ∧
      t.pw.vsup = (s.pw.vsup && decide (c ≠ .vsupFall)) ∧ t.pw.resetN = (s.pw.resetN && decide (c ≠ .resetNAssert)) ∧
      t.leg.copyA = s.leg.copyA ∧ t.leg.copyB = s.leg.copyB ∧ t.leg.gaz = s.leg.gaz ∧ t.leg.staged = [] ∧
      t.pwm = List.replicate 8 0 ∧ (∀ n, (t.chan n).energised = false) ∧ t.saf.tripLatch = true ∧ t.saf.armed = false ∧
      t.flt.errLow = true ∧ (∀ n, (t.latch n).latched = false) ∧ t.sems = List.replicate 16 none ∧
      (t.dev 0).body = { s.dev 0 with d1 := false }.body ∧ othersKept s t 0 := by
  obtain ⟨h1, h2, h3, h4⟩ := u.cDieDown_reset op
  obtain ⟨hlock, hprev, hvsup, hreset⟩ := hp
  refine answers_guarded e hb ?_
  rw [hf, s.finish_halted _ rfl]
  subst hu
  exact ⟨rfl, hlock, hprev, hvsup, hreset, rfl, rfl, rfl, rfl, rfl, h3, rfl, rfl, rfl, h4, rfl, h1, h2⟩

/-- Settles O27: what each edge of VSUP and RESET_N marks, and the reset of the C-die as a state of its own. -/
theorem suppliesAct : Obligations.SuppliesAct := by
  unfold Obligations.SuppliesAct
  refine fun s => ⟨fun hv => ?_, fun hn => ?_, fun n hv hn => ?_, fun c hc => ?_⟩
  · refine answers_guarded (b := !s.pw.vsup) (by rfl) (by rw [hv]; rfl) ?_
    exact ⟨by rw [State.finish_pw], State.kept_mono (kept_finish (kept_power s _)) (by simp [tripParts])⟩
  · refine answers_guarded (b := !s.pw.resetN) (by rfl) (by rw [hn]; rfl) ?_
    exact ⟨by rw [State.finish_pw], State.kept_mono (kept_finish (kept_power s _)) (by simp [tripParts])⟩
  · refine answers_done (y := { s.until (n + ms 500) with pw := { s.pw with locked := false, prevSession := 0 } }) ?_ ?_
    · change execLockedLatchClear s = _
      unfold execLockedLatchClear
      rw [hv, hn]
      rfl
    · rw [State.finish_pw, State.finish_now]
      exact ⟨rfl, max_eq_right (le_max_left _ _),
        State.kept_mono (kept_finish (kept_trans (kept_until s _) (kept_power _ _))) (by simp [tripParts])⟩
  · obtain ⟨rfl, hv⟩ | ⟨rfl, hn⟩ := hc
    · exact cDieDown_answers (u := { s with pw := { s.pw with vsup := false, vsupFell := some s.now } }) (by rfl) hv (by rfl) rfl
        ⟨rfl, rfl, by simp, by simp⟩
    · exact cDieDown_answers (u := { s with pw := { s.pw with resetN := false } }) (by rfl) hn (by rfl) rfl
        ⟨rfl, rfl, by simp, by simp⟩

/-! ### What a start leaves as a reset has it -/

namespace State

variable {s : State}

/-- The trip latch is set, ERR_OUT is low, and the first boundary is still to come (R354, R402, R496). -/
def Awaits (s : State) : Prop := s.saf.tripLatch = true ∧ s.flt.errLow = true ∧ s.flt.beforeFirst = true

theorem Awaits.of_parts {t : State} (h : s.Awaits) (hs : t.saf.tripLatch = s.saf.tripLatch) (hf : t.flt.errLow = s.flt.errLow)
    (hb : t.flt.beforeFirst = s.flt.beforeFirst) : t.Awaits := ⟨hs.trans h.1, hf.trans h.2.1, hb.trans h.2.2⟩

theorem Awaits.errDrop (h : s.Awaits) : s.errDrop.Awaits := by
  unfold State.errDrop
  rw [h.2.1]
  exact h

theorem Awaits.errEval (h : s.Awaits) : s.errEval.Awaits := by
  unfold State.errEval
  cases s.errCond
  · exact h
  · exact h.errDrop

theorem Awaits.evalTrip (h : s.Awaits) : s.evalTrip.Awaits := by
  have hdrop (t : State) : t.dropAll.Awaits ↔ t.Awaits := by
    unfold Awaits
    rw [dropAll_saf, dropAll_flt]
  unfold State.evalTrip
  dsimp only
  split
  · split <;> exact h
  · have hd := (hdrop { s with saf := { s.saf with lastSrc := s.tripMask, tripLatch := true, armed := false } }).2 ⟨rfl, h.2⟩
    split
    · exact hd
    · exact Awaits.errDrop (hd.of_parts rfl rfl rfl)

theorem Awaits.finish (h : s.Awaits) (r : State) : (r.finish s).Awaits := by
  unfold State.finish
  dsimp only
  cases s.pw.running
  · exact h
  · exact Awaits.evalTrip (h.of_parts rfl rfl rfl)

theorem Awaits.of_eq {t : State} (h : s.Awaits) (hs : t.saf = s.saf) (hf : t.flt = s.flt) : t.Awaits :=
  h.of_parts (by rw [hs]) (by rw [hf]) (by rw [hf])

theorem Awaits.applySev (h : s.Awaits) (old : Option Nat) (new : Nat) : (s.applySev old new).Awaits := by
  unfold State.applySev
  extract_lets was trips s1 s2 s3
  have h1 : s1.Awaits := h.of_eq (cond_keep State.saf _ _ _ (lock_saf s)) (cond_keep State.flt _ _ _ (lock_flt s))
  have h2 : s2.Awaits := h1.of_eq (cond_keep State.saf _ _ _ (tripFallback_saf s1)) (cond_keep State.flt _ _ _ (tripFallback_flt s1))
  have h3 : s3.Awaits := h2.of_eq (cond_keep State.saf _ _ _ (enter_saf s2 _)) (cond_keep State.flt _ _ _ (enter_flt s2 _))
  exact h3.errEval.evalTrip

theorem Awaits.occur (h : s.Awaits) (x : Source) (v : Word) (seen : Nat) : (s.occur x v seen).Awaits := by
  unfold State.occur
  extract_lets old new first s1 f1 s2 s3
  have h2 : s2.Awaits := h.of_parts rfl rfl rfl
  have hev (b : Bool) (k : Nat) : (cond b (s2.event k) s2).Awaits := by cases b <;> exact h2.of_parts rfl rfl rfl
  have h3 : s3.Awaits := by
    simp only [s3]
    clear_value s2
    cases old.latched
    · exact h2.of_parts rfl rfl rfl
    · exact hev _ _
  clear_value s3
  exact (h3.applySev _ _).of_eq (furtherReaction_saf _ _) (furtherReaction_flt _ _)

theorem Awaits.raiseAt (h : s.Awaits) (x : Source) (v : Word) (ev : Bool) (seen : Nat) : (s.raiseAt x v ev seen).Awaits := by
  unfold State.raiseAt
  split
  · exact h
  · extract_lets m x1 s1 x2 s2 s3
    have h1 : s1.Awaits := by
      simp only [s1]
      cases decide (x.cls = 0x1C ∧ 1 ≤ x.sub ∧ x.sub ≤ 6) <;> exact h.of_parts rfl rfl rfl
    have h3 : s3.Awaits := h1.of_parts rfl rfl rfl
    clear_value s3 m
    cases m
    · exact h3.occur _ _ _
    · exact h3

theorem Awaits.raiseOpenAt (h : s.Awaits) (x : Source) (ev : Bool) (seen : Nat) : (s.raiseOpenAt x ev seen).Awaits := by
  unfold State.raiseOpenAt
  split
  · exact h
  · exact (h.raiseAt x _ ev seen).of_parts rfl rfl rfl

theorem Awaits.sentApply (h : s.Awaits) : s.sentApply.Awaits := by
  have hclear (t : State) (n k : Nat) : (t.sentClear n k).flt.errLow = t.flt.errLow ∧
      (t.sentClear n k).flt.beforeFirst = t.flt.beforeFirst := by
    unfold State.sentClear State.clear State.clearAt
    split <;> exact ⟨rfl, rfl⟩
  have hstep (t : State) (n : Nat) : (fun t : State => (t.flt.errLow, t.flt.beforeFirst)) (t.sentStep n) =
      (fun t : State => (t.flt.errLow, t.flt.beforeFirst)) t := by
    unfold State.sentStep
    extract_lets c want
    split
    · exact foldl_keep (fun t : State => (t.flt.errLow, t.flt.beforeFirst)) _
        (fun t k => Prod.ext (hclear t n k).1 (hclear t n k).2) [1, 2, 3, 4] t
    · (repeat' split) <;> rfl
  have hf := foldl_keep (fun t : State => (t.flt.errLow, t.flt.beforeFirst)) sentStep hstep (List.range 8) s
  exact h.of_parts (congrArg (·.2.1.tripLatch) s.sentApply_rules) (congrArg Prod.fst hf) (congrArg Prod.snd hf)

/-! ### The steps of a start -/

/-- The copy that a start tries first is copy B (R475). -/
def firstIsB (s : State) : Bool :=
  (!s.leg.copyB.erased && s.leg.copyB.done) &&
    (!(!s.leg.copyA.erased && s.leg.copyA.done) || versionNewer s.leg.copyB.version s.leg.copyA.version)

/-- An image comes into force (R475). -/
def inForce (s : State) (b : Bool) (i : Image) (fb : Bool) : State :=
  { s with leg := { s.leg with useB := b, active := i, fallback := fb } }

/-- The C-die out of reset, before a Legend copy is chosen (R496). -/
def begun (s : State) : State :=
  { s.cDieDown .wake with
    pw := { (s.cDieDown .wake).pw with running := true, startAt := s.now }
    swp := { (s.cDieDown .wake).swp with nextB := s.now + ms 50 }
    flt := { (s.cDieDown .wake).flt with lowSince := s.now, heartbeat := s.now }
    portA := { (s.cDieDown .wake).portA with lastCmd := s.now }, portB := { (s.cDieDown .wake).portB with lastCmd := s.now } }

/-- What a start does with the active copy: sizes, inputs, accumulators, supplies, trip path (R358, R417, R496). -/
def settled (s : State) : State :=
  (chIndices.foldl (fun s i => s.chStart i 0) s.sizeQueues.startInputs).sentApply.evalTrip

theorem cDieUp_eq : s.cDieUp = s.begun.chooseLegend.settled := rfl

theorem begun_awaits : s.begun.Awaits := ⟨rfl, rfl, rfl⟩

theorem chooseLegend_usable (h : (bif s.firstIsB then s.leg.copyB else s.leg.copyA).usable = true) :
    s.chooseLegend = s.inForce s.firstIsB (bif s.firstIsB then s.leg.copyB else s.leg.copyA) false := by
  unfold State.chooseLegend
  extract_lets a b cand bFirst first second
  exact if_pos h

theorem chooseLegend_fallback (h : ¬ (bif s.firstIsB then s.leg.copyB else s.leg.copyA).usable = true) :
    ∃ (b fb : Bool) (i : Image) (o n : Nat),
      s.chooseLegend = ((s.inForce b i fb).raiseOpenEv 0x1E 3 0 (openDetail 0x1E 3 0)).gazAdd 0 2 0 0 o n := by
  unfold State.chooseLegend
  extract_lets a b cand bFirst first second l img s1
  exact ⟨bFirst != second.usable, !second.usable, img, first.crc, img.crc, if_neg h⟩

/-- The choice of a copy changes the Legend, and where it falls back what an occurrence changes (R475). -/
theorem chooseLegend_keeps : kept (.legend :: faultParts) s s.chooseLegend ∧ s.chooseLegend.steady = s.steady ∧
    (s.Awaits → s.chooseLegend.Awaits) := by
  have hin (b : Bool) (i : Image) (fb : Bool) : kept [.legend] s (s.inForce b i fb) := kept_legend s _
  by_cases h : (bif s.firstIsB then s.leg.copyB else s.leg.copyA).usable = true
  · rw [chooseLegend_usable h]
    exact ⟨kept_mono (hin _ _ _) (by simp), rfl, fun a => a⟩
  · obtain ⟨b, fb, i, o, n, e⟩ := chooseLegend_fallback h
    have hr : kept faultParts (s.inForce b i fb) ((s.inForce b i fb).raiseOpenEv 0x1E 3 0 (openDetail 0x1E 3 0)) :=
      kept_of_bare (raiseOpenAt_bare _ _ _ _)
    rw [e]
    refine ⟨kept_mono (kept_trans (kept_trans (hin b i fb) hr) (kept_legend _ _)) (by decide), ?_, fun a => ?_⟩
    · exact (raiseOpenAt_steady (s.inForce b i fb) ⟨0x1E, 3, 0, openDetail 0x1E 3 0⟩ true _)
    · have ha : (s.inForce b i fb).Awaits := a
      exact ha.raiseOpenAt ⟨0x1E, 3, 0, openDetail 0x1E 3 0⟩ true _

/-- A usable copy A is chosen before a copy B that is not newer, or not complete (R475). -/
theorem chooseLegend_copyA (ha : s.leg.copyA.usable = true)
    (hn : s.leg.copyB.usable = true → versionNewer s.leg.copyB.version s.leg.copyA.version = false)
    (hu : s.leg.copyB.usable = false → (s.leg.copyB.erased || !s.leg.copyB.done) = true) :
    s.chooseLegend = s.inForce false s.leg.copyA false := by
  have hf : s.firstIsB = false := by
    unfold firstIsB
    unfold Image.usable at ha hn hu
    grind
  rw [chooseLegend_usable (by rw [hf]; exact ha), hf]
  rfl

/-- A usable copy B is chosen before a copy A that is older, or not complete (R475). -/
theorem chooseLegend_copyB (hb : s.leg.copyB.usable = true)
    (hn : s.leg.copyA.usable = true → versionNewer s.leg.copyB.version s.leg.copyA.version = true)
    (hu : s.leg.copyA.usable = false → (s.leg.copyA.erased || !s.leg.copyA.done) = true) :
    s.chooseLegend = s.inForce true s.leg.copyB false := by
  have hf : s.firstIsB = true := by
    unfold firstIsB
    unfold Image.usable at hb hn hu
    grind
  rw [chooseLegend_usable (by rw [hf]; exact hb), hf]
  rfl

theorem kept_chStart (i n : Nat) : kept [.chassis] s (s.chStart i n) := by
  unfold State.chStart
  split <;> exact kept_chassisPut s i _

theorem chStart_parts (i n : Nat) : (fun t : State => (t.pw, t.saf, t.leg, t.swp, t.flt, t.now)) (s.chStart i n) =
    (fun t : State => (t.pw, t.saf, t.leg, t.swp, t.flt, t.now)) s := by
  unfold State.chStart
  split <;> rfl

/-- The rest of a start leaves the operating state, the copy chosen, the sweep and the devices alone. -/
theorem settled_keeps (hr : s.pw.running = true) : kept ([.queues, .inputs, .chassis, .sent, .collector] ++ tripParts) s s.settled ∧
    s.settled.now = s.now ∧ (s.Awaits → s.settled.Awaits) := by
  have hk (l : List Nat) (t : State) : kept [.chassis] t (l.foldl (fun s i => s.chStart i 0) t) := by
    induction l generalizing t with
    | nil => exact kept_refl _ t
    | cons i l ih => exact kept_chain (kept_chStart (s := t) i 0) (ih _)
  have hp (t : State) := foldl_keep (fun t : State => (t.pw, t.saf, t.leg, t.swp, t.flt, t.now)) (fun s i => s.chStart i 0)
    (fun t i => chStart_parts (s := t) i 0) chIndices t
  have h0 : kept [.queues, .inputs] s s.sizeQueues.startInputs := fun p hp => by
    cases p
    case queues => simp at hp
    case inputs => simp at hp
    case host k => cases k <;> rfl
    all_goals simp [Part.same, State.dev, State.sizeQueues, State.startInputs]
  unfold settled
  have h1 := hk chIndices s.sizeQueues.startInputs
  have h2 := hp s.sizeQueues.startInputs
  generalize chIndices.foldl (fun s i => s.chStart i 0) s.sizeQueues.startInputs = y at h1 h2
  simp only [Prod.mk.injEq] at h2
  obtain ⟨hpw, hsaf, -, -, hflt, hnow⟩ := h2
  have hy : y.sentApply.pw.running = true := by
    exact (congrArg PowerSt.running ((congrArg (·.1) y.sentApply_rules).trans hpw)).trans hr
  refine ⟨kept_mono (kept_trans (kept_trans (kept_trans h0 h1) y.kept_sentApply) (kept_evalTrip _ hy)) (by decide), ?_, fun a => ?_⟩
  · rw [evalTrip_now]
    exact (congrArg (·.2.2.2.1) y.sentApply_rules).trans hnow
  · have ha : y.Awaits := a.of_parts (by rw [hsaf]; rfl) (by rw [hflt]; rfl) (by rw [hflt]; rfl)
    exact ha.sentApply.evalTrip

end State

/-- A start of the C-die, at the instant `m` of `u` (R475, R496). -/
theorem State.cDieUp_finish {s u : State} {n m : Nat} (hu : u = s.until n) (hm : u.now = m) :
    let t := s.finish u.cDieUp
    t.pw.running = true ∧ t.pw.startAt = m ∧ t.now = m ∧ t.swp.nextB = m + 50000000 ∧ t.swp.count = none ∧
      t.saf.tripLatch = true ∧ t.flt.errLow = true ∧ t.flt.beforeFirst = true ∧ t.sems = List.replicate 16 none ∧
      (s.leg.copyA.usable = true → (s.leg.copyB.usable = true → versionNewer s.leg.copyB.version s.leg.copyA.version = false) →
        (s.leg.copyB.usable = false → (s.leg.copyB.erased || !s.leg.copyB.done) = true) →
        t.pw.op = .wake ∧ t.leg.active = s.leg.copyA ∧ t.leg.fallback = false ∧ othersKept s t 0) ∧
      (s.leg.copyB.usable = true → (s.leg.copyA.usable = true → versionNewer s.leg.copyB.version s.leg.copyA.version = true) →
        (s.leg.copyA.usable = false → (s.leg.copyA.erased || !s.leg.copyA.done) = true) →
        t.pw.op = .wake ∧ t.leg.active = s.leg.copyB ∧ t.leg.fallback = false ∧ othersKept s t 0) := by
  intro t
  subst hm
  obtain ⟨hck, hcs, hca⟩ := State.chooseLegend_keeps (s := u.begun)
  have hbp := State.pw_of_steady hcs
  have hbs := State.swp_of_steady hcs
  obtain ⟨hsk, hsn, hsa⟩ := State.settled_keeps (congrArg PowerSt.running hbp)
  have ht : t = s.finish u.begun.chooseLegend.settled := rfl
  have hnow : u.begun.chooseLegend.settled.now = u.now := hsn.trans ((State.now_of_steady hcs).trans rfl)
  have hpw : t.pw = u.begun.chooseLegend.pw := by rw [ht, State.finish_pw]; exact hsk .power (by decide)
  have hswp : t.swp = u.begun.chooseLegend.swp := by rw [ht, State.finish_swp]; exact hsk .sweep (by decide)
  have hleg : t.leg = u.begun.chooseLegend.leg := by rw [ht, State.finish_leg]; exact hsk .legend (by decide)
  have hw : t.Awaits := (hsa (hca State.begun_awaits)).finish s
  have hdevs : othersKept s t 0 := fun e he => by
    rw [ht, State.finish_body]
    have h1 := (u.cDieDown_reset .wake).2.1 e he
    subst hu
    exact (hsk .devices (by decide) e).trans ((hck .devices (by decide) e).trans h1)
  have hsu : u.leg.copyA = s.leg.copyA ∧ u.leg.copyB = s.leg.copyB := by subst hu; exact ⟨rfl, rfl⟩
  obtain ⟨hA, hB⟩ := hsu
  refine ⟨?_, ?_, ?_, ?_, ?_, ?_, ?_, ?_, ?_, fun h1 h2 h3 => ?_, fun h1 h2 h3 => ?_⟩
  · rw [hpw]; exact congrArg PowerSt.running hbp
  · rw [hpw]; exact congrArg PowerSt.startAt hbp
  · rw [ht, State.finish_now, hnow, hu]; exact max_eq_right (le_max_left _ _)
  · rw [hswp]; exact congrArg SweepSt.nextB hbs
  · rw [hswp]; exact congrArg SweepSt.count hbs
  · exact hw.1
  · exact hw.2.1
  · exact hw.2.2
  · rw [ht, State.finish_sems]
    exact (hsk .semaphores (by decide)).trans (hck .semaphores (by decide))
  · rw [← hA] at h1 h2
    rw [← hB] at h2 h3
    rw [hpw, hleg, State.chooseLegend_copyA (s := u.begun) h1 h2 h3]
    exact ⟨rfl, hA, rfl, hdevs⟩
  · rw [← hB] at h1 h2
    rw [← hA] at h2 h3
    rw [hpw, hleg, State.chooseLegend_copyB (s := u.begun) h1 h2 h3]
    exact ⟨rfl, hB, rfl, hdevs⟩

/-- WAKE is left, by an entry that changes the operating state and orders reactions (R490, R492). -/
theorem State.wakeLeft (s : State) (b : Bool) (h : s.pw.op = .wake) :
    (s.enter (if b then .locked else .config)).pw = { s.pw with op := if b then .locked else .config } ∧
      kept [.power, .sweep, .flags] s (s.enter (if b then .locked else .config)) := by
  have hreact (t : State) (x : Setting) : kept [.sweep] t (t.react x) ∧ (t.react x).pw = t.pw := by
    unfold State.react
    cases t.swp.reactCut <;> exact ⟨kept_sweep t _, rfl⟩
  have henter (o : OpState) (ho : o = .config ∨ o = .locked) :
      s.enter o = ((({ s with pw := { s.pw with op := o } }.event Ev.state).react ⟨255, .clearTimers⟩).react
        ⟨255, .cancelTest⟩).react ⟨255, .soundHalt⟩ := by
    unfold State.enter
    rw [h]
    obtain rfl | rfl := ho <;> rfl
  rw [henter _ (by cases b <;> simp)]
  refine ⟨by rw [(hreact _ _).2, (hreact _ _).2, (hreact _ _).2]; rfl, ?_⟩
  exact kept_mono (kept_trans (kept_trans (kept_trans (kept_trans (kept_power s _) (kept_event _ _)) (hreact _ _).1)
    (hreact _ _).1) (hreact _ _).1) (by simp)

/-- Settles O28: a start as its three steps, and WAKE left by a change of the operating state alone. -/
theorem cDieStarts : Obligations.CDieStarts := by
  unfold Obligations.CDieStarts
  refine ⟨fun s c n hc => ?_, fun s hr hw => ?_⟩
  · obtain ⟨rfl, hv, hn, hh, ho, rfl⟩ | ⟨⟨w, rfl⟩, ho, rfl⟩ := hc
    · have hms : s.pw.readyAt + 2000000 = s.pw.readyAt + ms 2 := rfl
      rw [hms]
      have e : exec .cDieStart s = guarded (s.pw.vsup && s.pw.resetN && !s.pw.running && decide (s.pw.op ≠ .dormant)) s
          fun s => (s.until (s.pw.readyAt + ms 2)).cDieUp := by rfl
      exact answers_guarded e (by simp [hv, hn, hh, ho]) (State.cDieUp_finish (n := s.pw.readyAt + ms 2) rfl rfl)
    · refine answers_guarded (b := decide (s.pw.op = .dormant)) (f := State.cDieUp) (by cases w <;> rfl) (by simp [ho]) ?_
      exact State.cDieUp_finish (n := s.now) (by unfold State.until; rw [max_self]) rfl
  · have hms : s.pw.startAt + 2000000000 = s.pw.startAt + ms 2000 := rfl
    rw [hms]
    refine answers_onC hr (f := fun s => ((s.until (s.pw.startAt + ms 2000)).enter (if s.pw.locked then .locked else .config)).event
      Ev.wake) ?_ ?_
    · change execWakeTimeout s = _
      unfold execWakeTimeout
      rw [onC_running hr, onC_running hr, if_pos hw]
    · generalize ms 2000 = k
      obtain ⟨hp, hk⟩ := State.wakeLeft (s.until (s.pw.startAt + k)) s.pw.locked hw
      refine ⟨?_, ?_, State.kept_mono (kept_finish (kept_trans (kept_trans (kept_until s _) hk) (kept_event _ _)))
        (by simp [tripParts])⟩
      · rw [State.finish_pw]
        exact hp
      · rw [State.finish_now, State.event_now, State.enter_now]
        exact max_eq_right (le_max_left _ _)

end Sys2Proof.Machine
end

section
/-!
SUPPORT. Commands whose action changes more than the sweep block before it responds (R423, R434, R439), and FAULT_ACK (R395, R459): O10.
-/

namespace Sys2Proof.Machine

/-! ### Commands that close with the trip path -/

theorem State.kept_takeMsg (s : State) (h : HostId) (pair : Nat) : kept (hostParts h) s (s.takeMsg h pair) := fun p hp => by
  obtain ⟨x, q, e⟩ := State.takeMsg_form s h pair
  rw [e]
  cases p
  case flags => exact absurd (by simp [hostParts]) hp
  case turn => exact absurd (by simp [hostParts]) hp
  case queues => exact absurd (by simp [hostParts]) hp
  case host k => cases h <;> cases k <;> first | rfl | exact absurd (by simp [hostParts]) hp
  all_goals cases h <;> simp [Part.same, State.modPort, State.dev]

theorem State.kept_respond (s : State) (h : HostId) (pair code tag status : Nat) (res : List Byte) :
    kept [.host h] s (s.respond h pair code tag status res) := by
  unfold State.respond State.stageMsg
  cases (s.port h).frozen
  · refine kept_modPort s h (fun p => { p with staged := p.staged ++ [⟨pair, code, false, leBytes 2 tag ++ leBytes 2 status ++ res, 0⟩] })
      fun _ => ⟨rfl, rfl⟩
  · exact kept_mono (kept_refl [] s) (by simp)

section
variable {s y : State} {h : HostId} {pair code : Nat} {body : List Byte} {guard : Req → Option Guard} {g : Guard}
  {act : Req → State → State} {out : List Part} (T : Taken s h pair code body)
  (hg : guard (request h pair code body) = some g) (hfit : g.fits = true) (hmay : s.may h g.sem g.level)
include T hg hfit hmay

/-- A command whose action stages the messages `l` at its port, and leaves the queues and the turn alone (R423, R434). -/
theorem serve_closes {l : List Staged} (hact : act (request h pair code body) (s.takeMsg h pair) = y)
    (hp : (y.port h).body = { ((s.takeMsg h pair).port h).body with staged := ((s.takeMsg h pair).port h).staged ++ l })
    (hq : y.queues = (s.takeMsg h pair).queues) (hl : y.lastA = (s.takeMsg h pair).lastA) (hk : kept out (s.takeMsg h pair) y) :
    serve s h pair code guard act = .next (s.finish y) ∧ served s (s.finish y) (request h pair code body) l ∧
      kept (tripParts ++ (hostParts h ++ out)) s (s.finish y) := by
  refine ⟨?_, served_of T hp hq hl, kept_finish (kept_trans (s.kept_takeMsg h pair) hk)⟩
  rw [serve_act T hg hfit hmay (by rw [hact]; simp only [State.queue, hq]; exact T.last), hact]
  rfl

/-- As `serve_closes`, for a command that responds at its end, after it has left its port alone but for the flags. -/
theorem serve_responds {u : State} {status : Nat} {res : List Byte}
    (hact : act (request h pair code body) (s.takeMsg h pair) = u.respond h pair code (field body 0 2) status res)
    (hp : (u.port h).body = ((s.takeMsg h pair).port h).body)
    (hq : u.queues = (s.takeMsg h pair).queues) (hl : u.lastA = (s.takeMsg h pair).lastA) (hk : kept out (s.takeMsg h pair) u) :
    ∃ p, serve s h pair code guard act = .next (s.finish (u.modPort h fun _ => p)) ∧
      served s (s.finish (u.modPort h fun _ => p)) (request h pair code body) [reply (request h pair code body) status res] ∧
      kept (tripParts ++ (hostParts h ++ (out ++ [.host h]))) s (s.finish (u.modPort h fun _ => p)) := by
  have hf : (u.port h).frozen = false := by
    have e := congrArg HostPort.frozen hp
    exact (e.trans (State.takeMsg_frozen s h pair)).trans T.thawed
  have hst : (u.port h).staged = ((s.takeMsg h pair).port h).staged := by
    have e := congrArg HostPort.staged hp
    exact e
  obtain ⟨p, hform⟩ := State.respond_form u h pair code (field body 0 2) status res
  refine ⟨p, ?_⟩
  rw [← hform]
  refine serve_closes T hg hfit hmay hact ?_ ?_ ?_ (kept_trans hk (u.kept_respond h pair code _ status res))
  · rw [State.respond_port _ _ _ _ _ _ _ hf, ← hst]
    rw [← hp]
    rfl
  · rw [← hq, hform]
    cases h <;> rfl
  · rw [← hl, hform]
    cases h <;> rfl

end

/-! ### FAULT_ACK (R395, R396, R459) -/

namespace State

variable (s : State)

/-- Latches of the classes of a list change alike, where changing one twice is changing it once. -/
theorem modLatches_latch {f : Latch → Latch} (hf : ∀ x, f (f x) = f x) (l : List Nat) (c : Nat) (hc : c < s.flt.latches.length) :
    (l.foldl (fun s c => s.modLatch c f) s).latch c = if l.contains c then f (s.latch c) else s.latch c := by
  have hone (t : State) (k : Nat) (hk : c < t.flt.latches.length) :
      (t.modLatch k f).latch c = if c = k then f (t.latch c) else t.latch c := by
    simp only [State.latch, State.modLatch, modAt, List.getD_eq_getElem?_getD, List.getElem?_modify, List.getElem?_eq_getElem hk]
    by_cases h : c = k
    · simp [h]
    · simp [h, Ne.symm h]
  induction l generalizing s with
  | nil => rfl
  | cons k l ih =>
    rw [List.foldl_cons, ih (s.modLatch k f) (by simpa [State.modLatch, modAt] using hc), hone s k hc, List.contains_cons]
    by_cases h : c = k
    · simp only [h, if_true, beq_self_eq_true, Bool.true_or, hf, ite_self]
    · have hb : (c == k) = false := by simpa using h
      simp only [h, if_false, hb, Bool.false_or]

/-- The collector alone has changed, and ERR_OUT not (R394). -/
def Collects (t : State) : Prop :=
  t = { s with flt := t.flt } ∧ t.flt.errLow = s.flt.errLow ∧ t.flt.lowSince = s.flt.lowSince ∧ t.flt.wave = s.flt.wave

variable {s} in
theorem Collects.trans {t u : State} (h : s.Collects t) (k : t.Collects u) : s.Collects u := by
  obtain ⟨h0, h1, h2, h3⟩ := h
  obtain ⟨k0, k1, k2, k3⟩ := k
  refine ⟨?_, k1.trans h1, k2.trans h2, k3.trans h3⟩
  rw [h0] at k0
  exact k0

theorem Collects.fold {f : State → Nat → State} (hf : ∀ (t : State) (c : Nat), t.Collects (f t c)) (l : List Nat) : s.Collects (l.foldl f s) := by
  induction l generalizing s with
  | nil => exact ⟨rfl, rfl, rfl, rfl⟩
  | cons c l ih => exact (hf s c).trans (ih (f s c))

variable {s} in
theorem Collects.kept {t : State} (h : s.Collects t) : kept [.collector] s t := fun p hp => by
  obtain ⟨h0, h1, h2, h3⟩ := h
  rw [h0]
  cases p
  case collector => simp at hp
  case errOut => exact ⟨h1, h2, h3⟩
  case host k => cases k <;> rfl
  all_goals simp [Part.same, State.dev]

variable {s} in
theorem Collects.parts {t : State} (h : s.Collects t) : (∀ k, t.port k = s.port k) ∧ t.queues = s.queues ∧ t.lastA = s.lastA ∧
    t.saf = s.saf ∧ t.devs = s.devs ∧ t.pw = s.pw := by
  rw [h.1]
  exact ⟨fun k => by cases k <;> rfl, rfl, rfl, rfl, rfl, rfl⟩

theorem logClasses_collects (kind : Nat) (h : HostId) (l : List Nat) : s.Collects (s.logClasses kind h l) :=
  Collects.fold s (f := fun s c => s.logAt kind c 0 0 (hostNum h) s.sweep 0) (fun _ _ => ⟨rfl, rfl, rfl, rfl⟩) l

theorem modLatches_collects (f : Latch → Latch) (l : List Nat) : s.Collects (l.foldl (fun s c => s.modLatch c f) s) :=
  Collects.fold s (f := fun s c => s.modLatch c f) (fun _ _ => ⟨rfl, rfl, rfl, rfl⟩) l

@[simp] theorem logClasses_latch (kind : Nat) (h : HostId) (l : List Nat) (c : Nat) : (s.logClasses kind h l).latch c = s.latch c := by
  have e : (s.logClasses kind h l).flt.latches = s.flt.latches :=
    foldl_keep (fun t : State => t.flt.latches) (fun s c => s.logAt kind c 0 0 (hostNum h) s.sweep 0) (fun _ _ => rfl) l s
  unfold State.latch
  rw [e]

/-- What no change tells apart in a list, a change at one place leaves alone. -/
theorem any_modify {α : Type} {f : α → α} {p : α → Bool} (hf : ∀ x, p (f x) = p x) (l : List α) (k : Nat) :
    (l.modify k f).any p = l.any p := by
  induction l generalizing k with
  | nil => simp
  | cons a l ih => cases k <;> simp [hf, ih]

/-- An acknowledgement changes no trip source. -/
theorem ackLatches_tripMask (l : List Nat) : (s.ackLatches l).tripMask = s.tripMask :=
  foldl_keep State.tripMask (fun s c => s.modLatch c fun (x : Latch) => { x with acked := true }) (fun t c => by
    have e : (t.modLatch c fun (x : Latch) => { x with acked := true }).sevAtLeast 3 = t.sevAtLeast 3 :=
      any_modify (f := fun (x : Latch) => { x with acked := true }) (fun _ => rfl) _ _
    simp only [State.tripMask, e]
    rfl) l s

theorem logClasses_tripMask (kind : Nat) (h : HostId) (l : List Nat) : (s.logClasses kind h l).tripMask = s.tripMask :=
  foldl_keep State.tripMask (fun s c => s.logAt kind c 0 0 (hostNum h) s.sweep 0) (fun _ _ => rfl) l s

/-- A CLEAR of latches touches the collector, and the trip path follows (R395, R396). -/
theorem clearLatches_clears (l : List Nat) (hr : s.pw.running = true) :
    kept (.collector :: tripParts) s (s.clearLatches l) ∧
      (∀ c, c < s.flt.latches.length → (s.clearLatches l).latch c = if l.contains c then {} else s.latch c) := by
  have key (u : State) (hu : s.Collects u) (hl : ∀ c, c < s.flt.latches.length → u.latch c = if l.contains c then {} else s.latch c) :
      kept (.collector :: tripParts) s u.evalTrip ∧
      (∀ c, c < s.flt.latches.length → u.evalTrip.latch c = if l.contains c then {} else s.latch c) := by
    refine ⟨kept_trans hu.kept (kept_evalTrip _ (by rw [hu.1]; exact hr)), fun c hc => ?_⟩
    rw [← hl c hc]
    simp only [State.latch, evalTrip_flt_latches]
  have hc := s.modLatches_collects (fun _ => {}) l
  have hl := s.modLatches_latch (f := fun _ => {}) (fun _ => rfl) l
  unfold State.clearLatches
  dsimp only
  generalize l.foldl (fun s c => s.modLatch c fun _ => {}) s = u at hc hl ⊢
  split
  · exact key u hc hl
  · exact key _ (hc.trans ⟨rfl, rfl, rfl, rfl⟩) hl

end State

theorem contains_filter_eq {l : List Nat} {p : Nat → Bool} (c : Nat) : (l.filter p).contains c = (l.contains c && p c) := by
  rw [Bool.eq_iff_iff]
  simp [List.mem_filter]

/-- Settles O10: ACK changes no trip source, and a CLEAR with no cause present ends with the trip path. -/
theorem faultAckActs : Obligations.FaultAckActs := by
  unfold Obligations.FaultAckActs
  intro s h pair body T hlen
  have hlat (c : Nat) : (s.takeMsg h pair).latch c = s.latch c := by simp only [State.latch, State.takeMsg_flt]
  have hlt {c : Nat} (hc : c < s.flt.latches.length) : c < (s.takeMsg h pair).flt.latches.length := by rwa [State.takeMsg_flt]
  have hcnt (c : Nat) := contains_filter_eq (l := classesOf (field body 4 4)) (p := fun c => (s.latch c).latched) c
  refine ⟨fun hop hmay => ?_, fun hop hmay hcause => ?_⟩
  · generalize hl : (classesOf (field body 4 4)).filter (fun c => (s.latch c).latched) = l at hcnt ⊢
    have hc := ((s.takeMsg h pair).modLatches_collects (fun x => { x with acked := true }) l).trans
      (State.logClasses_collects _ 3 h l)
    obtain ⟨hport, hqueues, hturn, hsaf, hdevs, -⟩ := hc.parts
    obtain ⟨t, ht, ⟨p, n, hform⟩, hserved, hkept⟩ := serve_acts (out := [.collector]) (guard := guardFaultAck) (act := doFaultAck)
      (g := ⟨true, none, 1⟩) (u := (((s.takeMsg h pair).ackLatches l).logClasses 3 h l)) (status := St.ok)
      (res := leBytes 4 (maskOf l) ++ leBytes 4 0) T
      (by simp only [guardFaultAck, Req.get, Req.len, request, hop, hlen, decide_true]) rfl hmay
      (by
        unfold doFaultAck
        simp only [Req.get, request, hop, if_true, hlat, hl]
        rfl)
      (hport h) hqueues hturn hc.kept
      (by rw [State.logClasses_tripMask, State.ackLatches_tripMask, State.takeMsg_tripMask])
      (hsaf.trans (State.takeMsg_saf s h pair)) (by simp only [State.dev]; rw [← State.takeMsg_devs s h pair, ← hdevs]; rfl)
    refine ⟨t, ht, fun c hc => ?_, hserved, hkept⟩
    have e : t.latch c = (((s.takeMsg h pair).ackLatches l).logClasses 3 h l).latch c := by
      rw [hform]
      cases h <;> rfl
    have hack := (s.takeMsg h pair).modLatches_latch (f := fun x => { x with acked := true }) (fun _ => rfl) l c (hlt hc)
    rw [e, State.logClasses_latch, State.ackLatches, hack, hlat, hcnt]
  · have hnone : (classesOf (field body 4 4)).filter (fun c => (s.latch c).latched && s.causeOf c) = [] := by
      rw [List.filter_eq_nil_iff]
      intro c hc hx
      rw [Bool.and_eq_true] at hx
      exact absurd ((hcause c hc hx.1).symm.trans hx.2) (by decide)
    have hall : (classesOf (field body 4 4)).filter (fun c => (s.latch c).latched && !s.causeOf c)
        = (classesOf (field body 4 4)).filter fun c => (s.latch c).latched := by
      refine List.filter_congr fun c hc => ?_
      cases hx : (s.latch c).latched
      · rfl
      · rw [hcause c hc hx]
        rfl
    generalize hl : (classesOf (field body 4 4)).filter (fun c => (s.latch c).latched) = l at hall hcnt ⊢
    obtain ⟨hk, hcl⟩ := (s.takeMsg h pair).clearLatches_clears l (by rw [State.takeMsg_pw]; exact T.up.1)
    have hk2 := kept_trans hk (State.logClasses_collects _ 4 h l).kept
    obtain ⟨p, ht, hserved, hkept⟩ := serve_responds (guard := guardFaultAck) (act := doFaultAck)
      (g := ⟨true, some Sem.fault, 1⟩) (u := (((s.takeMsg h pair).clearLatches l).logClasses 4 h l)) (status := St.ok)
      (res := leBytes 4 (maskOf l) ++ leBytes 4 0) T
      (by simp only [guardFaultAck, Req.get, Req.len, request, hop, hlen, decide_true]) rfl hmay
      (by
        have hcs (c : Nat) : (s.takeMsg h pair).causeOf c = s.causeOf c := by simp only [State.causeOf, State.takeMsg_flt]
        unfold doFaultAck
        simp only [Req.get, request, hop, hlat, hcs, hnone, hall]
        rfl)
      (hk2 (.host h) (by simp [tripParts])) (hk2 .queues (by simp [tripParts])) (hk2 .turn (by simp [tripParts])) hk2
    refine ⟨_, ht, fun c hc => ?_, hserved, State.kept_mono hkept (by simp [tripParts, hostParts])⟩
    have e : (s.finish ((((s.takeMsg h pair).clearLatches l).logClasses 4 h l).modPort h fun _ => p)).latch c
        = (((s.takeMsg h pair).clearLatches l).logClasses 4 h l).latch c := by
      simp only [State.latch, State.finish_flt_latches]
      cases h <;> rfl
    rw [e, State.logClasses_latch, hcl c (hlt hc), hlat, hcnt]

end Sys2Proof.Machine
end

section
/-!
SUPPORT. Commands that change the sweep block, the Legend block or the derived state and then respond, and CALIBRATE (R446): O15.
-/

namespace Sys2Proof.Machine

section
variable {s : State} {h : HostId} {pair code : Nat} {body : List Byte} {guard : Req → Option Guard} {g : Guard}
  {act : Req → State → State} {out : List Part} {status : Nat} {res : List Byte} (T : Taken s h pair code body)
  (hg : guard (request h pair code body) = some g) (hfit : g.fits = true) (hmay : s.may h g.sem g.level)
include T hg hfit hmay

/-- As `serve_acts`, for a command that may flag events at its port. -/
theorem serve_kept {u : State}
    (hact : act (request h pair code body) (s.takeMsg h pair) = u.respond h pair code (field body 0 2) status res)
    (hp : (u.port h).body = ((s.takeMsg h pair).port h).body)
    (hq : u.queues = (s.takeMsg h pair).queues) (hl : u.lastA = (s.takeMsg h pair).lastA) (hk : kept out (s.takeMsg h pair) u)
    (hm : u.tripMask = s.tripMask) (h3 : u.saf = s.saf) (he : (u.dev 0).cErr = (s.dev 0).cErr) :
    ∃ t, serve s h pair code guard act = .next t ∧ (∃ p, t = { u.modPort h (fun _ => p) with pending := s.pending, now := max s.now u.now }) ∧
      served s t (request h pair code body) [reply (request h pair code body) status res] ∧ kept (out ++ hostParts h) s t := by
  obtain ⟨p, ht, hserved, -⟩ := serve_responds T hg hfit hmay hact hp hq hl hk
  have hid : s.finish (u.modPort h fun _ => p) = { u.modPort h (fun _ => p) with pending := s.pending, now := max s.now u.now } := by
    cases h <;> exact State.finish_same s T.rest hm h3 he
  obtain ⟨p', hform⟩ := State.respond_form u h pair code (field body 0 2) status res
  have hku : kept (out ++ hostParts h) s u := State.kept_mono (kept_trans (s.kept_takeMsg h pair) hk) (by simp; tauto)
  refine ⟨_, ht, ⟨p, hid⟩, hserved, ?_⟩
  rw [hid]
  intro x hx
  have hx' := hku x hx
  cases x
  case host k =>
    cases h <;> cases k <;> first | exact hx' | (exfalso; exact hx (by simp [hostParts]))
  case flags => exact absurd (by simp [hostParts]) hx
  all_goals cases h <;> exact hx'

/-- A command that changes the sweep block, the Legend block but for the active copy, or the derived state, and answers. -/
theorem serve_sets {u : State} {x : SweepSt} {y : LegendSt} {z : DerivedSt}
    (hact : act (request h pair code body) (s.takeMsg h pair) = u.respond h pair code (field body 0 2) status res)
    (hu : u = { s.takeMsg h pair with swp := x, leg := y, der := z }) (ha : y.active = s.leg.active)
    (hk : kept out (s.takeMsg h pair) u) :
    ∃ t, serve s h pair code guard act = .next t ∧ t.swp = x ∧ t.leg = y ∧ t.der = z ∧
      served s t (request h pair code body) [reply (request h pair code body) status res] ∧ kept (out ++ hostParts h) s t := by
  subst hu
  have hm := State.takeMsg_tripMask s h pair
  obtain ⟨t, ht, ⟨p, e⟩, hserved, hkept⟩ := serve_kept T hg hfit hmay hact (by cases h <;> rfl) rfl rfl hk
    (State.tripMask_congr s (by simp) ha (by simp) (by simp) (by simp) (by simp) (by simp) (by simp)) (by simp) (by simp [State.dev])
  refine ⟨t, ht, ?_, ?_, ?_, hserved, hkept⟩ <;> rw [e] <;> cases h <;> rfl

end

/-- What lands depends on the sweep block alone. -/
theorem land_swp_congr {s t : State} (x : Landed) (h : t.swp = s.swp) : (t.land x).swp = (s.land x).swp := by
  unfold State.land
  rw [h]
  cases s.swp.hold <;> rfl

/-! ### CALIBRATE (R446) -/

theorem guardCalibrate_order {r : Req} (hlen : r.len = 8) {n : Nat} (hop : r.get 2 1 = n) (h1 : 1 ≤ n) (h6 : n ≤ 6) :
    guardCalibrate r = some ⟨true, some Sem.calib, 2⟩ := by
  unfold guardCalibrate
  rw [hop, hlen]
  interval_cases n <;> rfl

theorem react_swp_congr {s t : State} (x : Setting) (h : t.swp = s.swp) : (t.react x).swp = (s.react x).swp := by
  unfold State.react
  rw [h]
  cases s.swp.reactCut <;> rfl

theorem react_form (s : State) (x : Setting) : s.react x = { s with swp := (s.react x).swp } := by
  unfold State.react
  cases s.swp.reactCut <;> rfl

/-- An order at one device goes to `calOrder` (R446). -/
theorem doCalibrate_order {r : Req} {s : State} {st : Nat} {d : Dev} (hd : s.deviceAt (r.get 3 1) = (st, some d)) (h3 : 3 ≤ r.get 2 1) :
    doCalibrate r s = calOrder r s (r.get 3 1) d := by
  unfold doCalibrate
  dsimp only
  rw [if_neg (by omega), hd]
  exact if_neg (by omega)

/-- A substitution or a revert that is ordered lands, and who ordered it is noted (R446, R479). -/
theorem calOrder_lands {r : Req} {s : State} {p : Nat} {d : Dev} {v : SettingVal} (h1 : 1 ≤ r.get 4 1) (h24 : r.get 4 1 ≤ 24)
    (hv : r.get 2 1 = 3 ∧ v = .substitute (r.get 4 1) ∧ bit (s.par Fld.convCfg 0) 7 = false
          ∧ (d.mod (r.get 4 1 - 1)).failed = true ∧ (d.cell (r.get 4 1 - 1)).subst = none
          ∧ (reliefTaken d.rm1 && reliefTaken d.rm2) = false
        ∨ r.get 2 1 = 4 ∧ v = .revert (r.get 4 1) ∧ (d.cell (r.get 4 1 - 1)).subst ≠ none)
    (hroom : s.commitFull (.device ⟨p, v⟩) = false) :
    calOrder r s p d = ((s.orderSubst r p (r.get 4 1 - 1)).land (.device ⟨p, v⟩)).answer r (leBytes 4 s.effect) := by
  have hcell : ¬ (r.get 4 1 = 0 ∨ 24 < r.get 4 1) := by omega
  unfold calOrder
  dsimp only
  obtain ⟨hop, rfl, hcfg, hfail, hsub, hrel⟩ | ⟨hop, rfl, hsub⟩ := hv
  · simp only [hop, hcell, hcfg, hfail, hsub, hrel, hroom]
    rfl
  · have hs : (d.cell (r.get 4 1 - 1)).subst.isNone = false := by
      cases hx : (d.cell (r.get 4 1 - 1)).subst
      · exact absurd hx hsub
      · rfl
    simp only [hop, hcell, hs, hroom]
    rfl

/-- The self-test of a device waits for its end (R446). -/
def State.testWaits (s : State) (r : Req) (p : Nat) : State :=
  { s with der := { s.der with tests := smapSet s.der.tests p ⟨r.h, r.pair, r.tag⟩ } }

/-- A self-test that is ordered lands (R446). -/
theorem calOrder_tests {r : Req} {s : State} {p : Nat} {d : Dev} (hop : r.get 2 1 = 6)
    (hstate : s.pw.op = .run ∨ s.pw.op = .safe ∨ s.pw.op = .config) (htest : d.sv.test = none) (hfree : smapGet s.der.tests p = none)
    (hroom : s.commitFull (.device ⟨p, .selfTest (decide (s.pw.op = .config))⟩) = false) :
    calOrder r s p d = ((s.testWaits r p).land (.device ⟨p, .selfTest (decide (s.pw.op = .config))⟩)).answer r (leBytes 4 s.effect) := by
  have hbusy : ¬ (d.sv.test.isSome = true ∨ (smapGet s.der.tests p).isSome = true) := by
    rw [htest, hfree]
    decide
  have hroom' : (s.testWaits r p).commitFull (.device ⟨p, .selfTest (decide (s.pw.op = .config))⟩) = false := hroom
  unfold calOrder State.settle'
  dsimp only
  rw [if_pos hop, if_pos hstate, if_neg hbusy, if_neg (by rw [hroom]; decide)]
  exact if_neg fun hx => absurd (hroom'.symm.trans hx) (by decide)

/-- Settles O15: a read, the orders to one device or to every one, and what each leaves in the sweep block. -/
theorem calibrateActs : Obligations.CalibrateActs := by
  unfold Obligations.CalibrateActs
  intro s h pair body T hlen
  refine ⟨fun st d hop hd => ?_, fun v hmay hop hpos hroom => ?_, fun st d v hmay hd h1 h24 hv hroom => ?_,
    fun st d hmay hd hop h1 h24 => ?_, fun st d x hmay hd hop hstate htest hfree hx hroom => ?_⟩
  · refine serve_reads (guard := guardCalibrate) (act := doCalibrate) (g := ⟨true, none, 0⟩) T ?_ rfl ⟨rfl, Nat.zero_le _⟩ ?_
    · simp only [guardCalibrate, Req.get, Req.len, request, hop, hlen, decide_true]
    · simp only [doCalibrate, Req.get, request, hop, State.takeMsg_deviceAt, hd, State.takeMsg_now]
      rfl
  · obtain ⟨n, hn, h12, hv⟩ : ∃ n, field body 2 1 = n ∧ (n = 1 ∨ n = 2) ∧ v = if n = 1 then .calHalt else .calResume := by
      obtain ⟨hop, rfl⟩ | ⟨hop, rfl⟩ := hop
      · exact ⟨1, hop, .inl rfl, rfl⟩
      · exact ⟨2, hop, .inr rfl, rfl⟩
    refine serve_settles (guard := guardCalibrate) (act := doCalibrate) (g := ⟨true, some Sem.calib, 2⟩) T
      (guardCalibrate_order hlen hn (by omega) (by omega)) rfl hmay ?_ hroom
    subst hv
    unfold doCalibrate
    simp only [Req.get, request, hn, State.takeMsg_posStatus]
    rw [if_pos ⟨h12, hpos⟩]
  · have hop : 3 ≤ field body 2 1 ∧ field body 2 1 ≤ 4 := by
      obtain ⟨hop, -⟩ | ⟨hop, -⟩ := hv <;> omega
    have hv' := calOrder_lands (r := request h pair 0x0107 body) (s := s.takeMsg h pair) h1 h24 (by rwa [State.takeMsg_par])
      (by rwa [State.takeMsg_commitFull])
    have hact : doCalibrate (request h pair 0x0107 body) (s.takeMsg h pair) = _ :=
      (doCalibrate_order (r := request h pair 0x0107 body) ((State.takeMsg_deviceAt s h pair _).trans hd) hop.1).trans hv'
    obtain ⟨t, ht, hswp, hleg, -, hserved, hkept⟩ := serve_sets (guard := guardCalibrate) (act := doCalibrate)
      (g := ⟨true, some Sem.calib, 2⟩) (out := [.sweep, .legend]) (x := (s.land (.device ⟨field body 3 1, v⟩)).swp)
      (y := { s.leg with substBy := smapSet s.leg.substBy (24 * field body 3 1 + (field body 4 1 - 1)) (hostNum h, s.levelOf h) })
      (z := (s.takeMsg h pair).der) T
      (guardCalibrate_order hlen rfl (by show 1 ≤ field body 2 1; omega) (by show field body 2 1 ≤ 6; omega)) rfl hmay hact (by
        rw [State.land_form, ← land_swp_congr (s := s) (t := (s.takeMsg h pair).orderSubst (request h pair 0x0107 body) (field body 3 1)
          (field body 4 1 - 1)) _ (State.takeMsg_swp s h pair), ← State.takeMsg_leg s h pair, ← State.takeMsg_level s h pair]
        rfl) rfl (by
        rw [State.land_form]
        exact kept_swp_leg (s.takeMsg h pair) _ _)
    refine ⟨t, ht, hswp, hleg, ?_, hkept⟩
    rwa [State.takeMsg_effect] at hserved
  · have hcal : calOrder (request h pair 0x0107 body) (s.takeMsg h pair) (field body 3 1) d =
        ((s.takeMsg h pair).react ⟨field body 3 1, .arbitrate (field body 4 1) true⟩).answer (request h pair 0x0107 body)
          (leBytes 4 s.effect) := by
      have hcell : ¬ (field body 4 1 = 0 ∨ 24 < field body 4 1) := by omega
      simp only [calOrder, Req.get, request, hop, hcell, State.takeMsg_effect]
      rfl
    have hact : doCalibrate (request h pair 0x0107 body) (s.takeMsg h pair) = _ :=
      (doCalibrate_order (r := request h pair 0x0107 body) ((State.takeMsg_deviceAt s h pair _).trans hd) (by show 3 ≤ field body 2 1; omega)).trans hcal
    obtain ⟨t, ht, hswp, -, -, hserved, hkept⟩ := serve_sets (guard := guardCalibrate) (act := doCalibrate)
      (g := ⟨true, some Sem.calib, 2⟩) (out := [.sweep]) (x := (s.react ⟨field body 3 1, .arbitrate (field body 4 1) true⟩).swp)
      (y := (s.takeMsg h pair).leg) (z := (s.takeMsg h pair).der) T (guardCalibrate_order hlen hop (by decide) (by decide)) rfl hmay hact
      (by
        rw [react_form, ← react_swp_congr _ (State.takeMsg_swp s h pair)]) (by rw [State.takeMsg_leg])
      (by
        rw [react_form]
        exact kept_swp _ _)
    exact ⟨t, ht, hswp, hserved, hkept⟩
  · have hop6 : calOrder (request h pair 0x0107 body) (s.takeMsg h pair) (field body 3 1) d = _ :=
      calOrder_tests hop (by rwa [State.takeMsg_pw]) htest (by rwa [State.takeMsg_der])
        (by rwa [State.takeMsg_pw, ← hx, State.takeMsg_commitFull])
    rw [State.takeMsg_pw, ← hx, State.takeMsg_effect] at hop6
    have hact : doCalibrate (request h pair 0x0107 body) (s.takeMsg h pair) = _ :=
      (doCalibrate_order (r := request h pair 0x0107 body) ((State.takeMsg_deviceAt s h pair _).trans hd)
        (by show 3 ≤ field body 2 1; omega)).trans hop6
    obtain ⟨t, ht, hswp, -, hder, hserved, hkept⟩ := serve_sets (guard := guardCalibrate) (act := doCalibrate)
      (g := ⟨true, some Sem.calib, 2⟩) (out := [.sweep, .derived]) (x := (s.land x).swp) (y := (s.takeMsg h pair).leg)
      (z := { s.der with tests := smapSet s.der.tests (field body 3 1) ⟨h, pair, field body 0 2⟩ }) T
      (guardCalibrate_order hlen hop (by decide) (by decide)) rfl hmay hact
      (by
        rw [State.land_form, ← land_swp_congr (s := s) (t := (s.takeMsg h pair).testWaits (request h pair 0x0107 body) (field body 3 1))
          _ (State.takeMsg_swp s h pair), ← State.takeMsg_der s h pair]
        rfl) (by rw [State.takeMsg_leg])
      (by
        rw [State.land_form]
        exact State.kept_mono (kept_trans (kept_derived _ _) (kept_swp _ _)) (by simp))
    exact ⟨t, ht, hswp, hder, hserved, hkept⟩

end Sys2Proof.Machine
end

section
/-!
SUPPORT. LEGEND_WRITE and LEGEND_COMMIT (R462, R463, R471 to R473): O24 and O25.
-/

namespace Sys2Proof.Machine

/-! ### LEGEND_WRITE (R462, R471, R472) -/

/-- What a stage answers is read in the Legend block alone. -/
theorem stageResult_congr {s t : State} (h : t.leg = s.leg) : t.stageResult = s.stageResult := by
  simp only [State.stageResult, State.buildWords, State.stagedCrc, State.stagedFields, h]

/-- A LEGEND_WRITE that changes what is staged, and answers with it (R462). -/
theorem legendWrite_stages {s : State} {h : HostId} {pair : Nat} {body : List Byte} {y : LegendSt} (T : Taken s h pair 0x0303 body)
    (hg : guardLegendWrite (request h pair 0x0303 body) = some ⟨true, some Sem.legend, 2⟩) (hmay : s.may h (some 0) 2)
    (ha : y.active = s.leg.active)
    (hact : doLegendWrite (request h pair 0x0303 body) (s.takeMsg h pair) = { s.takeMsg h pair with leg := y }.answer
      (request h pair 0x0303 body) { s.takeMsg h pair with leg := y }.stageResult) :
    answers (.legendWrite h pair) s fun t => t.leg = y ∧ answered [.legend] s t (request h pair 0x0303 body) t.stageResult := by
  obtain ⟨t, ht, -, hleg, -, hserved, hkept⟩ := serve_sets (act := doLegendWrite) T hg rfl hmay hact
    (x := (s.takeMsg h pair).swp) (y := y) (z := (s.takeMsg h pair).der) rfl ha (kept_legend _ y)
  have e : t.stageResult = { s.takeMsg h pair with leg := y }.stageResult := stageResult_congr hleg
  refine ⟨t, ht, hleg, ?_, hkept⟩
  rw [e]
  exact hserved

/-- Settles O24: what each operation leaves of the staged fields and of the build. -/
theorem legendWriteStages : Obligations.LegendWriteStages := by
  unfold Obligations.LegendWriteStages
  intro s h pair body T
  refine ⟨fun l hop hlen hrecs hbad hmay => ?_, fun b hop hlen hfour hlong hmay hroom hb hpart => ?_, fun hop hlen hmay => ?_,
    fun fs l hop hlen hfs hl hfit hlong => ?_⟩
  · refine legendWrite_stages T ?_ hmay rfl ?_
    · simp only [guardLegendWrite, Req.get, Req.len, request, hop, hlen, hrecs, decide_true]
      rfl
    · simp only [doLegendWrite, Req.get, request, hop, hrecs, Option.getD_some, hbad, State.takeMsg_leg]
  · refine legendWrite_stages T ?_ hmay rfl ?_
    · simp only [guardLegendWrite, Req.get, Req.len, request, hop, hlen, hfour, hlong, decide_true, and_self]
      rfl
    · subst hb
      simp only [doLegendWrite, State.imageBlock, Req.get, request, hop, State.takeMsg_leg, not_lt.2 hroom, hpart, if_true, if_false]
  · refine legendWrite_stages T ?_ hmay rfl ?_
    · simp only [guardLegendWrite, Req.get, Req.len, request, hop, hlen, decide_true]
    · simp only [doLegendWrite, State.dropStaged, Req.get, request, hop, State.takeMsg_leg]
  · have hnone : l.zipIdx.find? (fun x => !indicesFit x.1.1 x.1.2 1) = none := by
      rw [List.find?_eq_none]
      intro x hx
      simp [hfit x.1 (List.mem_of_getElem? (List.mem_zipIdx_iff_getElem?.1 hx))]
    refine serve_reads (guard := guardLegendWrite) (act := doLegendWrite) (g := ⟨true, none, 0⟩) T ?_ rfl ⟨rfl, Nat.zero_le _⟩ ?_
    · simp only [guardLegendWrite, Req.get, Req.len, request, hop, hlen, decide_true]
    · have hsf : (s.takeMsg h pair).stagedFields = s.stagedFields := by simp only [State.stagedFields, State.takeMsg_leg]
      have hfs' : (if field body 3 1 = 0 then s.leg.active.fields else s.stagedFields) = fs := by
        obtain ⟨h0, rfl⟩ | ⟨h1, rfl⟩ := hfs
        · exact if_pos h0
        · exact if_neg (by omega)
      have h1 : ¬ 1 < field body 3 1 := by
        obtain ⟨h0, -⟩ | ⟨h1, -⟩ := hfs <;> omega
      simp only [doLegendWrite, Req.get, request, hop, State.takeMsg_leg, hsf, hfs', h1, ← hl, hnone, not_lt.2 hlong, if_false]
      rfl

/-! ### LEGEND_COMMIT (R463, R473) -/

namespace State

variable {s : State}

/-- What a commit record holds of settings is no more than they all were (R65, R66). -/
theorem settingsSize_recordPart (l : List Setting) : settingsSize (recordPart l) ≤ settingsSize l := by
  have hlast (l : List Setting) : (lastWrites l).Sublist l := by
    induction l with
    | nil => exact .slnil
    | cons x l ih =>
      unfold lastWrites
      split
      · exact ih.cons x
      · exact ih.cons_cons x
  have hsub : (recordPart l).Sublist l := (hlast _).trans List.filter_sublist
  unfold settingsSize
  rw [← List.sum_eq_foldl, ← List.sum_eq_foldl]
  exact (hsub.map _).sum_le_sum fun _ _ => Nat.zero_le _

/-- A bulk operation that no device has to hear of sends nothing (R67). -/
theorem stageTo_none {b : Bulk} (hb : s.leg.bulk = [b]) (hneed : b.need = []) (p : Nat) : s.stageTo 0 p = s := by
  unfold State.stageTo
  simp [hb, hneed]

theorem settleBulks_lands {b : Bulk} (hb : s.leg.bulk = [b]) (hobj : b.object ≠ 3) (hfails : b.fails = []) (hneed : b.need = [])
    (hfits : s.bulkFits b = true) : s.settleBulks = { s.bulkLand b with leg := { (s.bulkLand b).leg with bulk := [] } } := by
  have hone : s.settleBulk b = (s.bulkLand b, []) := by
    unfold State.settleBulk
    simp [hobj, hfails, hneed, hfits]
  unfold State.settleBulks
  rw [hb]
  simp only [List.foldl_cons, List.foldl_nil, hone, List.nil_append]

/-- The state in which a bulk operation is the one under way. -/
def withBulk (s : State) (b : Bulk) : State := { s with leg := { s.leg with bulk := [b] } }

/-- A bulk operation that no device has to hear of lands at once where nothing else is staged (R67, R473). -/
theorem startBulk_lands {b : Bulk} (hs : s.leg.bulk = []) (hobj : b.object ≠ 3) (hfails : b.fails = []) (hneed : b.need = [])
    (hsent : b.sent = []) (hfits : (s.withBulk b).bulkFits b = true) :
    s.startBulk b = { (s.withBulk b).bulkLand b with leg := { ((s.withBulk b).bulkLand b).leg with bulk := [] } } := by
  have hb : (s.withBulk b).leg.bulk = [b] := rfl
  have hskip (l : List Nat) : l.foldl (fun s p => s.stageTo 0 p) (s.withBulk b) = s.withBulk b := by
    induction l with
    | nil => rfl
    | cons p l ih => rw [List.foldl_cons, stageTo_none hb hneed, ih]
  have hstart : s.startBulk b = (s.withBulk b).stageDue := by
    rw [State.startBulk, hs, List.nil_append]
    rfl
  rw [hstart, stageDue_one hb (by rw [hneed, List.filter_nil]) hsent, hskip, settleBulks_lands hb hobj hfails hneed hfits]

/-- The operation that a commit begins, with what was staged kept beside it (R473, R474). -/
def commitBulk (s : State) (r : Req) (fs : SMap Nat) : Bulk :=
  ⟨2, r.h, r.pair, r.tag, [], [], [], [], false, [], [], fs, s.droppedKeys, s.leg.staged, s.leg.loaded⟩

theorem landChange_bulk (f : SMap Nat) (a b : Nat) (c : Bool) (d : List Nat) : (s.landChange f a b c d).leg.bulk = s.leg.bulk := by
  unfold State.landChange
  dsimp only
  rw [land_form]
  dsimp only
  cases s.leg.useB <;> rfl

/-- The image of a change set is the same whatever is staged (R468, R473). -/
theorem landChange_withBulk (x : Bulk) (f : SMap Nat) (a b : Nat) (c : Bool) (d : List Nat) :
    (s.dropStaged.withBulk x).landChange f a b c d = { s.landChange f a b c d with leg := { (s.landChange f a b c d).leg with
      staged := [], loaded := none, build := none, bulk := [x] } } := by
  unfold State.landChange
  dsimp only
  rw [land_form, land_form s]
  have e (y : Landed) : ((s.dropStaged.withBulk x).land y).swp = (s.land y).swp := land_swp_congr y rfl
  rw [e]
  have hu : (s.dropStaged.withBulk x).leg.useB = s.leg.useB := rfl
  dsimp only
  rw [hu]
  cases s.leg.useB <;> rfl

/-- A response leaves the list of bulk operations alone. -/
theorem respond_bulk (h : HostId) (pair code tag status : Nat) (res : List Byte) (l : List Bulk) :
    { s.respond h pair code tag status res with leg := { (s.respond h pair code tag status res).leg with bulk := l } } =
      { s with leg := { s.leg with bulk := l } }.respond h pair code tag status res := by
  unfold State.respond State.stageMsg
  have e : ({ s with leg := { s.leg with bulk := l } } : State).port h = s.port h := by cases h <;> rfl
  rw [e]
  cases (s.port h).frozen
  · cases h <;> rfl
  · rfl

/-- A commit that no device has to hear of ends as the change set, with nothing staged, and its response (R463, R473). -/
theorem startCommit_lands {r : Req} {fs : SMap Nat} {u : State} (hcode : r.code = 0x0304) (hbulk : s.leg.bulk = [])
    (hroom : s.commitFull (.legend ⟨fs, 0, 0, 0, true, []⟩) = false)
    (hu : u = s.landChange fs (hostNum r.h) (s.levelOf r.h) true s.droppedKeys) :
    s.startCommit r fs [] = { u with leg := { u.leg with staged := [], loaded := none, build := none } }.answer r
      (leBytes 4 s.effect ++ leBytes 2 s.nextVersion ++ [0, 0] ++ leBytes 4 u.otherCrc) := by
  have hfits : (s.dropStaged.withBulk (s.commitBulk r fs)).bulkFits (s.commitBulk r fs) = true := by
    unfold State.commitFull at hroom
    change decide (settingsSize (s.recordWith ([Landed.legend ⟨fs, 0, 0, 0, true, []⟩].flatMap (landedSettings s.effect))) ≤ 1008) = true
    rw [List.flatMap_singleton]
    exact decide_eq_true (Nat.not_lt.1 (of_decide_eq_false hroom))
  have hstart : s.startCommit r fs [] = s.dropStaged.startBulk (s.commitBulk r fs) := rfl
  have hland : (s.dropStaged.withBulk (s.commitBulk r fs)).bulkLand (s.commitBulk r fs) =
      ((s.dropStaged.withBulk (s.commitBulk r fs)).landChange fs (hostNum r.h) (s.levelOf r.h) true s.droppedKeys).respond r.h r.pair
        0x0304 r.tag St.ok (leBytes 4 s.effect ++ leBytes 2 s.nextVersion ++ [0, 0] ++ leBytes 4
          ((s.dropStaged.withBulk (s.commitBulk r fs)).landChange fs (hostNum r.h) (s.levelOf r.h) true s.droppedKeys).otherCrc) := rfl
  have hnone : u.leg.bulk = [] := by rw [hu, landChange_bulk, hbulk]
  rw [hstart, startBulk_lands (s := s.dropStaged) hbulk (show 2 ≠ 3 by decide) rfl rfl rfl hfits, hland, landChange_withBulk, ← hu, respond_bulk,
    State.answer, hcode]
  exact congrArg (fun l => { u with leg := { u.leg with staged := [], loaded := none, build := none, bulk := l } }.respond r.h r.pair
    0x0304 r.tag St.ok (leBytes 4 s.effect ++ leBytes 2 s.nextVersion ++ [0, 0] ++ leBytes 4 u.otherCrc)) hnone.symm

end State

/-- A commit that no check refuses begins, and no device has to hear of it (R463). -/
theorem doLegendCommit_starts {r : Req} {s : State} (hop : r.get 2 1 = 0) (hbulk : s.leg.bulk = []) (hcrc : r.get 4 4 = s.stagedCrc)
    (hstaged : ¬ (s.leg.staged = [] ∧ s.leg.loaded = none)) (hrecs : recordsFit s.stagedFields = true)
    (hbreak : firstBreak s.stagedFields = none) (hnone : ∀ p, p < s.trv.n → fieldsOfPos s.commitFields p = [])
    (hroom : s.commitFull (.legend ⟨s.commitFields, 0, 0, 0, true, []⟩) = false)
    (hsize : settingsSize (landedSettings s.effect (.legend ⟨s.commitFields, 0, 0, 0, true, []⟩)) ≤ 1008) :
    doLegendCommit r s = s.startCommit r s.commitFields [] := by
  have hidle : s.staging 2 = false := by
    unfold State.staging
    rw [hbulk]
    rfl
  have hneed : (List.range s.trv.n).filter (fun p => decide (fieldsOfPos s.commitFields p ≠ [])) = [] := by
    rw [List.filter_eq_nil_iff]
    intro p hp
    simp [hnone p (List.mem_range.1 hp)]
  have hfit : ¬ (([] : List Nat) = [] ∧ s.commitFull (.legend ⟨s.commitFields, 0, 0, 0, true, []⟩) = true ∨
      1008 < settingsSize (recordPart (landedSettings s.effect (.legend ⟨s.commitFields, 0, 0, 0, true, []⟩)))) := by
    rw [hroom]
    have := State.settingsSize_recordPart (landedSettings s.effect (.legend ⟨s.commitFields, 0, 0, 0, true, []⟩))
    simp only [Bool.false_eq_true, and_false, false_or]
    omega
  unfold doLegendCommit
  rw [if_neg (by omega), if_neg (by rw [hidle]; decide), if_neg (not_not.2 hcrc), if_neg hstaged, if_neg (by rw [hrecs]; decide), hbreak]
  dsimp only
  rw [hneed]
  exact if_neg hfit

/-- What a commit reads is read the same after its message is taken. -/
theorem takeMsg_commit (s : State) (h : HostId) (pair : Nat) : (s.takeMsg h pair).stagedCrc = s.stagedCrc ∧
    (s.takeMsg h pair).stagedFields = s.stagedFields ∧ (s.takeMsg h pair).commitFields = s.commitFields ∧
    (s.takeMsg h pair).droppedKeys = s.droppedKeys ∧ (s.takeMsg h pair).legVersion = s.legVersion ∧
    (s.takeMsg h pair).nextVersion = s.nextVersion := by
  refine ⟨?_, ?_, ?_, ?_, ?_, s.takeMsg_read State.nextVersion h pair fun _ _ _ _ => by cases h <;> rfl⟩ <;>
    simp only [State.stagedCrc, State.stagedFields, State.commitFields, State.changesOf, State.droppedKeys, State.legVersion,
      State.takeMsg_leg]

/-- Settles O25: a commit that no device has to hear of goes through staging at once, and leaves the change set. -/
theorem legendCommitLands : Obligations.LegendCommitLands := by
  unfold Obligations.LegendCommitLands
  intro s h pair body T hlen
  obtain ⟨hsc, hsf, hcf, hdk, hv, hnv⟩ := takeMsg_commit s h pair
  refine ⟨fun hop => ?_, fun u hop hmay hbulk hcrc hstaged hrecs hbreak hnone hroom hsize hu => ?_⟩
  · refine serve_reads (guard := guardLegendCommit) (act := doLegendCommit) (g := ⟨true, none, 0⟩) T ?_ rfl ⟨rfl, Nat.zero_le _⟩ ?_
    · simp only [guardLegendCommit, Req.get, Req.len, request, hop, hlen, decide_true]
    · simp only [doLegendCommit, Req.get, request, hop, State.takeMsg_leg, hv, hsc, if_true]
      rfl
  · have hstart : doLegendCommit (request h pair 0x0304 body) (s.takeMsg h pair) =
        (s.takeMsg h pair).startCommit (request h pair 0x0304 body) (s.takeMsg h pair).commitFields [] := by
      refine doLegendCommit_starts hop ?_ ?_ ?_ ?_ ?_ ?_ ?_ ?_
      · exact (congrArg LegendSt.bulk (State.takeMsg_leg s h pair)).trans hbulk
      · exact hcrc.trans hsc.symm
      · rw [State.takeMsg_leg]
        exact hstaged
      · exact (congrArg recordsFit hsf).trans hrecs
      · exact (congrArg firstBreak hsf).trans hbreak
      · rw [State.takeMsg_trv, hcf]
        exact hnone
      · rw [State.takeMsg_commitFull, hcf]
        exact hroom
      · rw [State.takeMsg_effect, hcf]
        exact hsize
    have hland := State.startCommit_lands (s := s.takeMsg h pair) (r := request h pair 0x0304 body) (fs := s.commitFields) rfl
      ((congrArg LegendSt.bulk (State.takeMsg_leg s h pair)).trans hbulk) ((State.takeMsg_commitFull s h pair _).trans hroom) rfl
    obtain ⟨e1, e2⟩ := State.takeMsg_landChange s h pair s.commitFields (hostNum h) (s.levelOf h) true s.droppedKeys
    have hform := State.landChange_form (s.takeMsg h pair) s.commitFields (hostNum h) (s.levelOf h) true s.droppedKeys
    have hother : ((s.takeMsg h pair).landChange s.commitFields (hostNum h) (s.levelOf h) true s.droppedKeys).otherCrc = u.otherCrc := by
      rw [hu]
      simp only [State.otherCrc, e2]
    have hactive : u.leg.active = s.leg.active := by rw [hu, State.landChange_active]
    rw [e1, e2, ← hu] at hform
    simp only [request, State.takeMsg_level, hdk, hother, State.takeMsg_effect, hnv] at hland
    rw [hform] at hland
    rw [hcf] at hstart
    obtain ⟨t, ht, hswp, hleg, -, hserved, hkept⟩ := serve_sets (guard := guardLegendCommit) (act := doLegendCommit)
      (g := ⟨true, some Sem.legend, 2⟩) (out := [.sweep, .legend]) (x := u.swp)
      (y := { u.leg with staged := [], loaded := none, build := none }) (z := (s.takeMsg h pair).der) T
      (by simp only [guardLegendCommit, Req.get, Req.len, request, hop, hlen, decide_true]) rfl hmay (hstart.trans hland) rfl hactive
      (kept_swp_leg _ _ _)
    exact ⟨t, ht, hswp, hleg, hserved, hkept⟩

end Sys2Proof.Machine
end

section
/-!
SUPPORT. FW_UPDATE (R465, R480, R481): O26.
-/

namespace Sys2Proof.Machine

namespace State

variable {s : State}

theorem fwOf_eq_some {target : Nat} {f : FwUpdate} (h : s.fwOf target = some f) : s.leg.fw = some f ∧ f.target = target := by
  unfold State.fwOf at h
  rw [Option.filter_eq_some_iff] at h
  exact ⟨h.1, of_decide_eq_true h.2⟩

/-- An update that is abandoned leaves all but the Legend block, and the active copy (R480). -/
theorem fwAbandon_form : s.fwAbandon = { s with leg := s.fwAbandon.leg } ∧ s.fwAbandon.leg.active = s.leg.active := by
  unfold State.fwAbandon
  cases s.leg.fw with
  | none => exact ⟨rfl, rfl⟩
  | some f =>
    dsimp only
    split <;> exact ⟨rfl, rfl⟩

theorem takeMsg_fwAbandon (s : State) (h : HostId) (pair : Nat) : (s.takeMsg h pair).fwAbandon.leg = s.fwAbandon.leg := by
  unfold State.fwAbandon
  rw [State.takeMsg_leg]
  cases s.leg.fw with
  | none => exact State.takeMsg_leg s h pair
  | some f =>
    dsimp only
    split
    · exact State.takeMsg_leg s h pair
    · rfl

@[simp] theorem takeMsg_fwOf (s : State) (h : HostId) (pair target : Nat) : (s.takeMsg h pair).fwOf target = s.fwOf target := by
  simp only [State.fwOf, State.takeMsg_leg]

@[simp] theorem takeMsg_allSafe (s : State) (h : HostId) (pair : Nat) : (s.takeMsg h pair).allSafe = s.allSafe :=
  s.takeMsg_read State.allSafe h pair fun _ _ _ _ => by cases h <;> rfl

@[simp] theorem takeMsg_adopted' (s : State) (h : HostId) (pair : Nat) : (s.takeMsg h pair).adopted = s.adopted :=
  funext (s.takeMsg_adopted h pair)

/-! ### What each operation does where no check refuses it -/

theorem fwBegin_begins {r : Req} (hfree : ∀ f, s.leg.fw = some f → f.step ≠ 5) (hsize : r.get 4 4 ≤ fwSlot (r.get 3 1))
    (hmask : r.get 3 1 = 1 → r.get 12 4 ≠ 0)
    (hadopted : ∀ p ∈ positionsOf (if r.get 3 1 = 1 then r.get 12 4 else 0), s.adopted p = true) :
    s.fwBegin r = { s with leg := { s.fwAbandon.leg with fw := some ⟨r.get 3 1, 1, r.get 4 4, word (r.get 8 4),
      if r.get 3 1 = 1 then r.get 12 4 else 0, [], 0, 0⟩ } }.answer r (leBytes 4 0) := by
  have hall : (positionsOf (if r.get 3 1 = 1 then r.get 12 4 else 0)).find? (fun p => !s.adopted p) = none := by
    rw [List.find?_eq_none]
    intro p hp
    rw [hadopted p hp]
    decide
  have hbad : ¬ (fwSlot (r.get 3 1) < r.get 4 4 ∨ (r.get 3 1 = 1 ∧ (if r.get 3 1 = 1 then r.get 12 4 else 0) = 0)) := by
    rintro (h | ⟨h1, h0⟩)
    · omega
    · rw [if_pos h1] at h0
      exact hmask h1 h0
  unfold State.fwBegin
  extract_lets target size mask busy
  have hbusy : busy = false := by
    unfold busy
    cases hf : s.leg.fw with
    | none => rfl
    | some f => exact decide_eq_false (hfree f hf)
  rw [hbusy, if_neg (by decide), if_neg hbad, hall]
  change { s.fwAbandon with leg := { s.fwAbandon.leg with fw := _ } }.answer r (leBytes 4 0) = _
  rw [fwAbandon_form.1]

theorem fwBlock_takes {r : Req} {f : FwUpdate} (hf : s.fwOf (r.get 3 1) = some f) (hstep : f.step = 1) (hoff : r.get 4 4 = f.done)
    (hsize : f.done + (r.body.drop 8).length ≤ f.size) :
    s.fwBlock r = { s with leg := { s.leg with
      fw := some { f with data := f.data ++ r.body.drop 8, done := f.done + (r.body.drop 8).length } } }.answer r
        (leBytes 4 (f.done + (r.body.drop 8).length)) := by
  unfold State.fwBlock
  dsimp only
  rw [hf]
  dsimp only
  rw [if_neg (by tauto), if_neg (by omega)]

theorem fwVerify_verifies {r : Req} {f : FwUpdate} (hf : s.fwOf (r.get 3 1) = some f) (htarget : f.target = 0) (hstep : f.step = 1)
    (hdone : f.done = f.size) (hcrc : word (crc32c f.data) = f.crc) :
    s.fwVerify r = (({ s with leg := { s.leg with fw := some { f with step := 2 }, newSlot := some f.crc } }).event Ev.fwupd).answer r
      (leBytes 4 f.done) := by
  unfold State.fwVerify
  rw [hf]
  dsimp only
  rw [if_neg (not_not.2 hstep), if_neg (by tauto), if_pos htarget]

theorem fwActivate_lands {r : Req} {f : FwUpdate} (hf : s.fwOf (r.get 3 1) = some f) (hstep : f.step = if f.target = 0 then 2 else 4)
    (hstate : s.pw.op = .config ∨ s.pw.op = .safe ∧ s.allSafe = true) {x : Landed}
    (hx : x = .firmware (decide (f.target = 1)) (positionsOf f.positions) r.h (s.levelOf r.h)) (hroom : s.commitFull x = false) :
    s.fwActivate r = ({ s with leg := { s.leg with fw := some { f with step := 5 } } }.land x).answer r (leBytes 4 s.effect) := by
  have hok : (decide (s.pw.op = .config) || (decide (s.pw.op = .safe) && s.allSafe)) = true := by
    obtain h | ⟨h1, h2⟩ := hstate
    · rw [h]
      rfl
    · rw [h1, h2]
      rfl
  have hroom' : ({ s with leg := { s.leg with fw := some { f with step := 5 } } } : State).commitFull x = false := hroom
  unfold State.fwActivate
  dsimp only
  rw [hf, hok]
  dsimp only
  rw [if_neg (by simp [hstep]), ← hx, if_neg (by rw [hroom]; decide), State.settle']
  exact if_neg fun h => absurd (hroom'.symm.trans h) (by decide)

end State

section
variable {s : State} {h : HostId} {pair : Nat} {body : List Byte}

/-- An FW_UPDATE that changes the Legend block but for the active copy, and answers (R465). -/
theorem fwUpdate_sets {y : LegendSt} {res : List Byte} (T : Taken s h pair 0x0306 body)
    (hg : guardFwUpdate (request h pair 0x0306 body) = some ⟨true, some Sem.firmware, 2⟩) (hmay : s.may h (some 6) 2)
    (ha : y.active = s.leg.active)
    (hact : doFwUpdate (request h pair 0x0306 body) (s.takeMsg h pair) =
      { s.takeMsg h pair with leg := y }.answer (request h pair 0x0306 body) res) :
    answers (.fwUpdate h pair) s fun t => t.leg = y ∧ answered [.legend] s t (request h pair 0x0306 body) res := by
  obtain ⟨t, ht, -, hleg, -, hserved, hkept⟩ := serve_sets (act := doFwUpdate) T hg rfl hmay hact
    (x := (s.takeMsg h pair).swp) (y := y) (z := (s.takeMsg h pair).der) rfl ha (kept_legend _ y)
  exact ⟨t, ht, hleg, hserved, hkept⟩

/-- A verify flags FWUPD beside it (R433, R465). -/
theorem fwUpdate_flags {y : LegendSt} {res : List Byte} (T : Taken s h pair 0x0306 body)
    (hg : guardFwUpdate (request h pair 0x0306 body) = some ⟨true, some Sem.firmware, 2⟩) (hmay : s.may h (some 6) 2)
    (ha : y.active = s.leg.active)
    (hact : doFwUpdate (request h pair 0x0306 body) (s.takeMsg h pair) =
      ({ s.takeMsg h pair with leg := y }.event Ev.fwupd).answer (request h pair 0x0306 body) res) :
    answers (.fwUpdate h pair) s fun t => t.leg = y ∧ answered [.legend] s t (request h pair 0x0306 body) res := by
  have hk : kept [.legend, .flags] (s.takeMsg h pair) ({ s.takeMsg h pair with leg := y }.event Ev.fwupd) :=
    kept_trans (kept_legend _ y) (kept_event _ _)
  obtain ⟨t, ht, ⟨p, e⟩, hserved, hkept⟩ := serve_kept (act := doFwUpdate) T hg rfl hmay hact (hk (.host h) (by simp)) rfl rfl hk
    (State.tripMask_congr s (by simp) ha (by simp) (by simp) (by simp) (by simp) (by simp) (by simp)) (by simp) (by simp [State.dev])
  refine ⟨t, ht, ?_, hserved, State.kept_mono hkept (by simp [hostParts, request])⟩
  rw [e]
  cases h <;> rfl

end

/-- The operation of a request that names a target picks what it does (R465). -/
theorem doFwUpdate_of {r : Req} (s : State) (h : r.get 3 1 ≤ 1) : (r.get 2 1 = 0 → doFwUpdate r s = s.fwBegin r) ∧
    (r.get 2 1 = 1 → doFwUpdate r s = s.fwBlock r) ∧ (r.get 2 1 = 2 → doFwUpdate r s = s.fwVerify r) ∧
    (r.get 2 1 = 3 → doFwUpdate r s = s.fwActivate r) := by
  unfold doFwUpdate
  rw [if_neg (not_lt.2 h)]
  refine ⟨fun hop => ?_, fun hop => ?_, fun hop => ?_, fun hop => ?_⟩ <;> simp only [hop]

/-- Settles O26: each operation where no check refuses it, and what it leaves of the update that is under way. -/
theorem fwUpdateActs : Obligations.FwUpdateActs := by
  unfold Obligations.FwUpdateActs
  intro s h pair target body T htarget h1
  subst htarget
  obtain ⟨hbegins, hblocks, hverifies, hactivates⟩ := doFwUpdate_of (r := request h pair 0x0306 body) (s.takeMsg h pair) h1
  have hop1 : ¬ 1 < (request h pair 0x0306 body).get 3 1 := not_lt.2 h1
  have hleg := State.takeMsg_leg s h pair
  refine ⟨fun hop hlen hmay hfree hsize hmask hadopted => ?_, fun f hop h8 h4096 hmay hf hstep hoff hroom => ?_,
    fun f hop hlen hmay hf h0 hstep hdone hcrc => ?_, fun f x hop hlen hmay hf hstep hstate hx hroom => ?_, fun hop hlen => ?_,
    fun hop hlen hmay => ?_⟩
  · have hbegin := State.fwBegin_begins (s := s.takeMsg h pair) (r := request h pair 0x0306 body) (by rwa [hleg]) hsize hmask
      (by rwa [State.takeMsg_adopted'])
    rw [State.takeMsg_fwAbandon] at hbegin
    exact fwUpdate_sets T (by
        simp only [guardFwUpdate, Req.get, Req.len, request, hop]
        exact congrArg (fun b => some (⟨b, some Sem.firmware, 2⟩ : Guard)) (decide_eq_true hlen)) hmay
      State.fwAbandon_form.2 ((hbegins hop).trans hbegin)
  · have hdrop : (body.drop 8).length = body.length - 8 := List.length_drop
    have hblock := State.fwBlock_takes (s := s.takeMsg h pair) (r := request h pair 0x0306 body) ((State.takeMsg_fwOf _ _ _ _).trans hf)
      hstep hoff (by show f.done + (body.drop 8).length ≤ f.size; omega)
    rw [hleg] at hblock
    rw [← hdrop]
    exact fwUpdate_sets T (by simp only [guardFwUpdate, Req.get, Req.len, request, hop, h8, h4096, decide_true, and_self]) hmay rfl
      ((hblocks hop).trans hblock)
  · have hverify := State.fwVerify_verifies (s := s.takeMsg h pair) (r := request h pair 0x0306 body)
      ((State.takeMsg_fwOf _ _ _ _).trans hf) ((State.fwOf_eq_some hf).2.trans h0) hstep hdone hcrc
    rw [hleg] at hverify
    exact fwUpdate_flags T (by simp only [guardFwUpdate, Req.get, Req.len, request, hop, hlen, decide_true]) hmay rfl
      ((hverifies hop).trans hverify)
  · have htarget := (State.fwOf_eq_some hf).2
    have hact := State.fwActivate_lands (s := s.takeMsg h pair) (r := request h pair 0x0306 body)
      ((State.takeMsg_fwOf _ _ _ _).trans hf) (by rwa [htarget]) (by rwa [State.takeMsg_pw, State.takeMsg_allSafe]) (x := x)
      (by
        rw [hx, htarget]
        exact congrArg (Landed.firmware _ _ h) (State.takeMsg_level s h pair).symm)
      ((State.takeMsg_commitFull s h pair x).trans hroom)
    rw [hleg, State.takeMsg_effect] at hact
    obtain ⟨t, ht, hswp, hlg, -, hserved, hkept⟩ := serve_sets (guard := guardFwUpdate) (act := doFwUpdate)
      (g := ⟨true, some Sem.firmware, 2⟩) (out := [.sweep, .legend]) (x := (s.land x).swp)
      (y := { s.leg with fw := some { f with step := 5 } }) (z := (s.takeMsg h pair).der) T
      (by simp only [guardFwUpdate, Req.get, Req.len, request, hop, hlen, decide_true]) rfl hmay ((hactivates hop).trans hact)
      (by
        rw [State.land_form, land_swp_congr (s := s) (t := { s.takeMsg h pair with leg := { s.leg with fw := some { f with step := 5 } } })
          x (State.takeMsg_swp s h pair)]) rfl (by
        rw [State.land_form]
        exact kept_swp_leg _ _ _)
    exact ⟨t, ht, hswp, hlg, hserved, hkept⟩
  · refine serve_reads (guard := guardFwUpdate) (act := doFwUpdate) (g := ⟨true, none, 0⟩) T ?_ rfl ⟨rfl, Nat.zero_le _⟩ ?_
    · simp only [guardFwUpdate, Req.get, Req.len, request, hop, hlen, decide_true]
    · have hst : (s.takeMsg h pair).fwStatus (field body 3 1) = s.fwStatus (field body 3 1) := by
        simp only [State.fwStatus, State.takeMsg_fwOf]
      unfold doFwUpdate
      rw [if_neg hop1]
      simp only [Req.get, request, hop, hst]
      rfl
  · refine fwUpdate_sets T (by simp only [guardFwUpdate, Req.get, Req.len, request, hop, hlen, decide_true]) hmay ?_ ?_
    · split
      · exact State.fwAbandon_form.2
      · rfl
    · unfold doFwUpdate
      rw [if_neg hop1]
      simp only [Req.get, request, hop, State.takeMsg_fwOf]
      split
      · rw [State.fwAbandon_form.1, State.takeMsg_fwAbandon]
      · rw [← hleg]

end Sys2Proof.Machine
end

section
/-!
SUPPORT. LOGIN (R461, R477, R478): O23.
-/

namespace Sys2Proof.Machine

section
variable {s : State} {h : HostId} {pair code : Nat} {body : List Byte} {guard : Req → Option Guard} {g : Guard}
  {act : Req → State → State} {status : Nat} {res : List Byte} (T : Taken s h pair code body)
  (hg : guard (request h pair code body) = some g) (hfit : g.fits = true) (hmay : s.may h g.sem g.level)
include T hg hfit hmay

/-- A command that changes its own port and answers. -/
theorem serve_port {p : HostPort} (hact : act (request h pair code body) (s.takeMsg h pair)
      = ((s.takeMsg h pair).modPort h fun _ => p).respond h pair code (field body 0 2) status res) (hf : p.frozen = false) :
    ∃ t, serve s h pair code guard act = .next t ∧
      (t.port h).body = { p.body with staged := p.staged ++ [reply (request h pair code body) status res] } ∧
      kept (hostParts h) s t := by
  have hp : ((s.takeMsg h pair).modPort h fun _ => p).port h = p := State.port_modPort_self _ h _
  obtain ⟨q, hform⟩ := State.respond_form ((s.takeMsg h pair).modPort h fun _ => p) h pair code (field body 0 2) status res
  have hport := State.respond_port ((s.takeMsg h pair).modPort h fun _ => p) h pair code (field body 0 2) status res (by rw [hp]; exact hf)
  have hform' : ((s.takeMsg h pair).modPort h fun _ => p).respond h pair code (field body 0 2) status res =
      (s.takeMsg h pair).modPort h fun _ => q := by
    rw [hform]
    cases h <;> rfl
  have hm := State.takeMsg_tripMask s h pair
  have hid : s.finish ((s.takeMsg h pair).modPort h fun _ => q) =
      { (s.takeMsg h pair).modPort h (fun _ => q) with pending := s.pending, now := max s.now (s.takeMsg h pair).now } := by
    cases h <;> exact State.finish_same s T.rest hm (State.takeMsg_saf s _ pair) (by simp [State.dev, State.modPort])
  refine ⟨s.finish ((s.takeMsg h pair).modPort h fun _ => q), ?_, ?_, ?_⟩
  · rw [serve_act T hg hfit hmay (by rw [hact, hform', State.queue_modPort]; exact T.last), hact, hform']
    rfl
  · rw [State.finish_port_body, ← hform', hport, hp]
    rfl
  · rw [hid]
    intro x hx
    have hk := s.kept_takeMsg h pair x hx
    cases x
    case host k =>
      cases h <;> cases k <;> first | exact hk | exact absurd (by simp [hostParts]) hx
    case flags => exact absurd (by simp [hostParts]) hx
    all_goals cases h <;> exact hk

end

/-- A level that a port takes or loses changes that port alone (R461, R478). -/
theorem setLevel_form (s : State) (h : HostId) (v : Nat) :
    ∃ q, s.setLevel h v = s.modPort h (fun _ => q) ∧ q.body = { (s.port h).body with level := v } ∧ q.level = v ∧
      q.pwFail = (s.port h).pwFail := by
  unfold State.setLevel
  split
  · next hv =>
    refine ⟨s.port h, by cases h <;> rfl, ?_, hv, rfl⟩
    subst hv
    rfl
  · exact ⟨({ s.port h with level := v } : HostPort).flag Ev.login, by cases h <;> rfl, rfl, rfl, rfl⟩

section
variable {s : State} {h : HostId} {pair : Nat} {body : List Byte}

/-- The port whose message is taken, with another level and count of wrong passwords. -/
theorem login_answers {status level fails : Nat} {res : List Byte} {p : HostPort} {g : Guard} (T : Taken s h pair 0x0302 body)
    (hg : guardLogin (request h pair 0x0302 body) = some g) (hfit : g.fits = true) (hmay : s.may h g.sem g.level)
    (hact : doLogin (request h pair 0x0302 body) (s.takeMsg h pair) =
      ((s.takeMsg h pair).modPort h fun _ => p).respond h pair 0x0302 (field body 0 2) status res)
    (hp : p.body = { ((s.takeMsg h pair).port h).body with level := level, pwFail := fails }) :
    answers (.login h pair) s fun t =>
      (t.port h).body = { (s.port h).body with
        request := none, lastPair := pair, lastCmd := s.now, level := level, pwFail := fails
        staged := (s.port h).staged ++ [reply (request h pair 0x0302 body) status res] } ∧
      kept (hostParts h) s t := by
  rw [State.takeMsg_port_body] at hp
  have hst : p.staged = (s.port h).staged := by
    have e := congrArg HostPort.staged hp
    exact e
  have hf : p.frozen = false := by
    have e := congrArg HostPort.frozen hp
    exact e.trans T.thawed
  obtain ⟨t, ht, hbody, hkept⟩ := serve_port (act := doLogin) T hg hfit hmay hact hf
  refine ⟨t, ht, ?_, hkept⟩
  rw [hbody, hst, hp]

end

/-- Settles O23: each operation where no check refuses it, and what it leaves of the port. -/
theorem loginActs : Obligations.LoginActs := by
  unfold Obligations.LoginActs
  intro s h pair level body pw T hlen hlevel htake
  have hport := State.takeMsg_port_body s h pair
  have hfail : ((s.takeMsg h pair).port h).pwFail = (s.port h).pwFail := by
    have e := congrArg HostPort.pwFail hport
    exact e
  have hlev : ((s.takeMsg h pair).port h).level = (s.port h).level := State.takeMsg_level s h pair
  have hpass : (s.takeMsg h pair).passwordOf level = s.passwordOf level := by simp only [State.passwordOf, State.takeMsg_leg]
  have hok (hl : level = 1 ∨ level = 2) (hn : pwLength (field body 4 1) = true) :
      ¬ (¬ (level = 1 ∨ level = 2) ∨ pwLength (field body 4 1) = false) := by simp [hl, hn]
  refine ⟨fun hop => ?_, fun hop hl hn hpw => ?_, fun hop hl hn hpw hfew => ?_, fun new hop hmay hl hn hnn hnew hchars hpw => ?_⟩
  · obtain ⟨q, hq, hqb, hql, hqf⟩ := setLevel_form (s.takeMsg h pair) h 0
    refine login_answers (g := ⟨true, none, 0⟩) (p := q) (fails := (s.port h).pwFail) T
      (by simp only [guardLogin, Req.get, Req.len, request, hop, hlen, decide_true]) rfl ⟨rfl, Nat.zero_le _⟩ ?_ ?_
    · unfold doLogin State.loginResult
      simp only [Req.get, request, hop, if_true, hq, State.port_modPort_self, hql, hqf, hfail]
      rfl
    · rw [hqb, ← hfail]
      rfl
  · obtain ⟨q, hq, hqb, hql, hqf⟩ := setLevel_form ((s.takeMsg h pair).modPort h fun p => { p with pwFail := 0 }) h level
    rw [State.port_modPort_self] at hqb hqf
    refine login_answers (g := ⟨true, none, 0⟩) (p := q) T
      (by simp only [guardLogin, Req.get, Req.len, request, hop, hlen, decide_true]) rfl ⟨rfl, Nat.zero_le _⟩ ?_ hqb
    have hone : ((s.takeMsg h pair).modPort h fun p => { p with pwFail := 0 }).modPort h (fun _ => q) =
        (s.takeMsg h pair).modPort h fun _ => q := by cases h <;> rfl
    unfold doLogin State.loginResult
    simp only [Req.get, request, hop, ← hlevel, hok hl hn, ← htake, hpass, if_pos hpw, hq, State.port_modPort_self, hql, hqf, hone,
      if_true, if_false]
    rfl
  · have hfew' : ¬ 5 ≤ (s.port h).pwFail + 1 := by omega
    refine login_answers (g := ⟨true, none, 0⟩) (level := (s.port h).level) (fails := (s.port h).pwFail + 1)
      (p := { (s.takeMsg h pair).port h with pwFail := (s.port h).pwFail + 1 }) T
      (by simp only [guardLogin, Req.get, Req.len, request, hop, hlen, decide_true]) rfl ⟨rfl, Nat.zero_le _⟩ ?_ ?_
    · unfold doLogin State.wrongPassword
      simp only [Req.get, request, hop, ← hlevel, hok hl hn, ← htake, hpass, if_neg hpw, hfail, hfew', if_true, if_false]
      have e : (s.takeMsg h pair).modPort h (fun p => { p with pwFail := (s.port h).pwFail + 1 }) =
          (s.takeMsg h pair).modPort h fun _ => { (s.takeMsg h pair).port h with pwFail := (s.port h).pwFail + 1 } := by cases h <;> rfl
      rw [e]
      rfl
    · rw [← hlev]
      rfl
  · have hok2 : ¬ (pwLength (field body 5 1) = false ∨ pwChars new = false) := by simp [hnn, hchars]
    have hland (x : Landed) : ((s.takeMsg h pair).land x).port h = (s.takeMsg h pair).port h := by
      rw [State.land_form]
      cases h <;> rfl
    have hact : doLogin (request h pair 0x0302 body) (s.takeMsg h pair) =
        ((s.takeMsg h pair).land (.password level new h (s.levelOf h))).answer (request h pair 0x0302 body)
          (leBytes 1 (s.port h).level ++ leBytes 1 (s.port h).pwFail ++ [0, 0] ++ leBytes 4 s.effect) := by
      unfold doLogin State.loginResult
      simp only [Req.get, request, hop, ← hlevel, hok hl hn, ← htake, hpass, hpw, ← hnew, hok2, State.takeMsg_effect,
        State.takeMsg_level, hland, hlev, hfail, if_false]
      exact (if_neg (by decide)).trans ((if_neg (by decide)).trans (if_neg (not_not.2 rfl)))
    obtain ⟨t, ht, hswp, -, -, hserved, hkept⟩ := serve_sets (guard := guardLogin) (act := doLogin)
      (g := ⟨true, some Sem.passwd, 2⟩) (out := [.sweep]) (x := (s.land (.password level new h (s.levelOf h))).swp)
      (y := (s.takeMsg h pair).leg) (z := (s.takeMsg h pair).der) T
      (by simp only [guardLogin, Req.get, Req.len, request, hop, hlen, decide_true]) rfl hmay hact
      (by rw [State.land_form, land_swp_congr _ (State.takeMsg_swp s h pair)]) (by rw [State.takeMsg_leg]) (by
        rw [State.land_form]
        exact kept_swp _ _)
    exact ⟨t, ht, hswp, hserved, hkept⟩

end Sys2Proof.Machine
end

section
/-!
SUPPORT. SAFE_SESSION (R371, R373, R374, R456): O22.
-/

namespace Sys2Proof.Machine

namespace State

variable {s : State}

/-- The pair that Zardo takes next is one of 16 (R416, R423). -/
theorem lt_of_pick {h : HostId} {pair : Nat} (hp : s.pick = some (h, pair)) : pair < 16 := by
  have hnext {k : HostId} {p : Nat} (hn : s.nextPair k = some p) : p < 16 := by
    unfold State.nextPair at hn
    obtain ⟨i, -, rfl⟩ := List.mem_map.1 (List.mem_of_find?_eq_some hn)
    exact Nat.mod_lt _ (by decide)
  have hone {k : HostId} (hm : (s.nextPair k).map (fun p => (k, p)) = some (h, pair)) : pair < 16 := by
    obtain ⟨p, hn, e⟩ := Option.map_eq_some_iff.1 hm
    cases e
    exact hnext hn
  unfold State.pick at hp
  cases hl : s.lastA <;> rw [hl] at hp
  · obtain hp | ⟨-, hp⟩ := Option.or_eq_some_iff.1 hp <;> exact hone hp
  · obtain hp | ⟨-, hp⟩ := Option.or_eq_some_iff.1 hp <;> exact hone hp

/-! ### A frame that fails a check, a frame that passes -/

@[simp] theorem takeMsg_checkFrame (s : State) (h : HostId) (pair : Nat) : (s.takeMsg h pair).checkFrame = s.checkFrame :=
  s.takeMsg_read State.checkFrame h pair fun _ _ _ _ => by cases h <;> rfl

@[simp] theorem takeMsg_sessionResult (s : State) (h : HostId) (pair : Nat) : (s.takeMsg h pair).sessionResult = s.sessionResult :=
  s.takeMsg_read State.sessionResult h pair fun _ _ _ _ => by cases h <;> rfl

/-- A discarded frame that does not end the session is counted where one is in force (R374). -/
theorem failFrame_counts {h : HostId} {chk : Nat} (hfew : s.ses.st = .accepted → s.ses.failCnt + 1 < s.par Fld.sfBadn 0)
    (hst : s.ses.st ≠ .connecting) : s.failFrame h chk =
      { s with ses := { s.ses with lastFail := chk, failCnt := s.ses.failCnt + b2n (decide (s.ses.st = .accepted)) } } := by
  unfold State.failFrame
  dsimp only
  cases hs : s.ses.st with
  | connecting => exact absurd hs hst
  | accepted =>
    have hn : ¬ s.par Fld.sfBadn 0 ≤ s.ses.failCnt + 1 := by
      have := hfew hs
      omega
    exact if_neg hn
  | idle => rfl
  | failed => rfl

/-- A PARTNER frame without its fault bit is taken, and ends the fault that it would raise (R373, R378). -/
theorem acceptFrame_partner {f : List Byte} {x : SessionSt} (htype : field f 0 1 = 0x54) (hbit : field f 10 1 % 2 = 0)
    (hx : x = { s.ses with failCnt := 0, partSeq := field f 4 2, partTs := field f 6 4, accAt := s.now
                           partner := (f.drop 10).take 10 }) :
    s.acceptFrame f = { s with ses := x }.clear 0x15 0x0A 0 (hostNum s.sfHost) := by
  subst hx
  unfold State.acceptFrame
  simp only [htype, hbit]
  rfl

/-! ### A disconnect -/

/-- The messages that wait at the port of a host, whether it is frozen, and the command queues. -/
def Waits (s t : State) (h : HostId) : Prop := (t.port h).staged = (s.port h).staged ∧ (t.port h).frozen = (s.port h).frozen ∧
  ∀ k pair, pair < 16 → t.queue (cmdQ k pair) = s.queue (cmdQ k pair)

theorem Waits.trans {t u : State} {h : HostId} (a : s.Waits t h) (b : t.Waits u h) : s.Waits u h :=
  ⟨b.1.trans a.1, b.2.1.trans a.2.1, fun k p hp => (b.2.2 k p hp).trans (a.2.2 k p hp)⟩

theorem waits_modPort (h k : HostId) {f : HostPort → HostPort} (hf : ∀ p, (f p).staged = p.staged ∧ (f p).frozen = p.frozen) :
    s.Waits (s.modPort k f) h := by
  refine ⟨?_, ?_, fun _ _ _ => s.queue_modPort k f _⟩ <;>
  · cases h <;> cases k <;> first | rfl | exact (hf _).1 | exact (hf _).2

theorem waits_placeSafe (h k : HostId) : s.Waits (s.placeSafe k) h := by
  have hsame (t : State) : t.Waits t h := ⟨rfl, rfl, fun _ _ _ => rfl⟩
  have hqueue (t : State) (f : Queue → Queue) : t.Waits (t.modQueue (rspQ k 15) f) h := by
    refine ⟨by cases h <;> rfl, by cases h <;> rfl, fun k' p hp => ?_⟩
    have hne : cmdQ k' p ≠ rspQ k 15 := by
      unfold cmdQ rspQ
      cases k <;> cases k' <;> simp only [hostNum] <;> omega
    simp only [State.queue, State.modQueue, modAt, List.getD_eq_getElem?_getD, List.getElem?_modify]
    cases t.queues[cmdQ k' p]? <;> simp [hne.symm]
  unfold State.placeSafe
  split
  · exact hsame s
  · dsimp only
    split
    · exact hsame s
    · unfold State.placeWords State.eventOn
      refine (((hqueue s _).trans (waits_modPort h k ?_)).trans (waits_modPort h k ?_)).trans (waits_modPort h k ?_) <;>
        exact fun _ => ⟨rfl, rfl⟩

/-- Forming a frame leaves what waits at the ports and in the command queues alone (R371). -/
theorem waits_formFrame (type : Nat) (payload : List Byte) (h : HostId) : s.Waits (s.formFrame type payload) h := by
  unfold State.formFrame
  extract_lets b frame k old x
  have hx : s.Waits x h := ⟨by cases h <;> rfl, by cases h <;> rfl, fun _ _ _ => rfl⟩
  cases (x.port k).frozen
  · exact hx.trans ((waits_modPort (f := fun p => { p with safeOut := some frame }) h k fun _ => ⟨rfl, rfl⟩).trans (waits_placeSafe h k))
  · exact hx

theorem waits_setSession (st : SState) (h : HostId) : s.Waits (s.setSession st) h := by
  unfold State.setSession
  split
  · exact ⟨rfl, rfl, fun _ _ _ => rfl⟩
  · exact ⟨by cases h <;> rfl, by cases h <;> rfl, fun _ _ _ => rfl⟩

/-- A disconnect as the frame, the instant from which a new session waits, and the state IDLE (R456). -/
theorem disconnect_eq : s.disconnect = ({ s.formFrame 0x55 (List.replicate 10 0) with
    ses := { (s.formFrame 0x55 (List.replicate 10 0)).ses with
      reconnectAt := if s.saf.coupled then some s.now else none } } : State).setSession .idle := by
  unfold State.disconnect
  dsimp only
  rw [formFrame_saf, formFrame_now]

theorem disconnect_ses : s.disconnect.ses.st = .idle ∧ s.disconnect.ses.ownSeq = (s.ses.ownSeq + 1) % 65536 ∧
    s.disconnect.ses.reconnectAt = if s.saf.coupled then some s.now else none := by
  rw [disconnect_eq, setSession_ses, formFrame_ses]
  exact ⟨rfl, rfl, rfl⟩

theorem disconnect_waits (h : HostId) : s.Waits s.disconnect h := by
  rw [disconnect_eq]
  refine (waits_formFrame 0x55 (List.replicate 10 0) h).trans (.trans ?_ (waits_setSession .idle h))
  exact ⟨by cases h <;> rfl, by cases h <;> rfl, fun _ _ _ => rfl⟩

theorem kept_disconnect : kept [.session, .host s.sfHost, .queues, .flags] s s.disconnect := by
  rw [disconnect_eq]
  exact kept_mono (kept_trans (kept_trans (kept_formFrame s _ _) (kept_ses _ _)) (kept_setSession _ .idle)) (by simp)

/-- What a disconnect leaves of all that is no session, port or queue. -/
theorem disconnect_keep {β : Type} (g : State → β) (hq : ∀ t q f, g (State.modQueue t q f) = g t)
    (hp : ∀ t h f, g (State.modPort t h f) = g t) (hs : ∀ (t : State) x, g { t with ses := x } = g t)
    (he : ∀ (t : State) b, g (t.event b) = g t) : g s.disconnect = g s := by
  rw [disconnect_eq]
  have hset (t : State) : g (t.setSession .idle) = g t := by
    unfold State.setSession
    split
    · rfl
    · rw [he, hs]
  rw [hset, hs, s.formFrame_keep g hq hp, hs]

end State

/-- The queue of commands and the instant are no part that a frame names. -/
theorem kept_closed {s t : State} {out : List Part} (h : kept out s t) (l : List Instr) (n : Nat) :
    kept out s { t with pending := l, now := n } := fun p hp => by
  have hp' := h p hp
  cases p
  case host k => cases k <;> exact hp'
  all_goals exact hp'

section
variable {s : State} {h : HostId} {pair : Nat} {body : List Byte}

/-- A delivered frame is answered with its check and the state that it leaves (R456). -/
theorem doSafeSession_delivers {r : Req} (hop : r.get 2 1 = 0) (hlen : r.body.length = 28) :
    doSafeSession r s = (s.deliverFrame r.h (r.body.drop 4)).2.answer r (leBytes 1 (s.checkFrame (r.body.drop 4)) ++
      leBytes 1 (sstate (s.deliverFrame r.h (r.body.drop 4)).2.ses.st) ++ leBytes 1 (field (r.body.drop 4) 0 1) ++ [0] ++
      deliveredPayload (s.checkFrame (r.body.drop 4)) (r.body.drop 4) ++ [0, 0]) := by
  have htake : (r.body.drop 4).take 24 = r.body.drop 4 := List.take_of_length_le (by rw [List.length_drop]; omega)
  unfold doSafeSession
  simp only [hop, htake]
  rfl

/-- A command that changes the session alone and answers. -/
theorem safeSession_sets {x : SessionSt} {res : List Byte} {g : Guard} (T : Taken s h pair 0x0205 body)
    (hg : guardSafeSession (request h pair 0x0205 body) = some g) (hfit : g.fits = true) (hmay : s.may h g.sem g.level)
    (hact : doSafeSession (request h pair 0x0205 body) (s.takeMsg h pair) =
      { s.takeMsg h pair with ses := x }.answer (request h pair 0x0205 body) res) :
    answers (.safeSession h pair) s fun t => t.ses = x ∧ answered [.session] s t (request h pair 0x0205 body) res := by
  have hm := State.takeMsg_tripMask s h pair
  obtain ⟨t, ht, ⟨p, e⟩, hserved, hkept⟩ := serve_kept (act := doSafeSession) (u := { s.takeMsg h pair with ses := x }) T hg hfit hmay
    hact (by cases h <;> rfl) rfl rfl (State.kept_ses _ x) hm (State.takeMsg_saf s h pair) (by simp [State.dev])
  refine ⟨t, ht, ?_, hserved, hkept⟩
  rw [e]
  cases h <;> rfl

/-- A clause of O22: a PARTNER frame that passes is taken (R373, R378). -/
theorem safeSession_takes (T : Taken s h pair 0x0205 body) {f : List Byte} {chk : Nat} (hop : field body 2 1 = 0)
    (hlen : body.length = 28) (hf : f = body.drop 4) (hchk : chk = s.checkFrame f) (hgood : chk = 0) (htype : field f 0 1 = 0x54)
    (hbit : field f 10 1 % 2 = 0) : answers (.safeSession h pair) s fun t =>
      t.ses = { s.ses with
        failCnt := 0, partSeq := field f 4 2, partTs := field f 6 4, accAt := s.now
        partner := (f.drop 10).take 10 } ∧
      (t.port h).staged = (s.port h).staged ++ [reply (request h pair 0x0205 body) St.ok
        (leBytes 1 0 ++ leBytes 1 (sstate s.ses.st) ++ leBytes 1 0x54 ++ [0] ++ (f.drop 10).take 10 ++ [0, 0])] ∧
      kept (.session :: faultParts ++ hostParts h) s t := by
  have hses := State.takeMsg_ses s h pair
  have hd : ((s.takeMsg h pair).deliverFrame h f).2 = (s.takeMsg h pair).acceptFrame f := by
    unfold State.deliverFrame
    rw [State.takeMsg_checkFrame, ← hchk]
    exact congrArg (cond · _ _) (decide_eq_true hgood)
  generalize hx : ({ s.ses with failCnt := 0, partSeq := field f 4 2, partTs := field f 6 4, accAt := s.now
                                partner := (f.drop 10).take 10 } : SessionSt) = x
  have haccept := State.acceptFrame_partner (s := s.takeMsg h pair) (x := x) htype hbit (by rw [hses, State.takeMsg_now, hx])
  have hact := doSafeSession_delivers (s := s.takeMsg h pair) (r := request h pair 0x0205 body) hop hlen
  have hb : (request h pair 0x0205 body).body.drop 4 = f := hf.symm
  rw [hb, State.takeMsg_checkFrame, ← hchk, hgood] at hact
  have hpay : deliveredPayload 0 f = (f.drop 10).take 10 := (if_neg (by decide)).trans (if_pos htype)
  rw [hpay, htype, show (request h pair 0x0205 body).h = h from rfl, hd, haccept] at hact
  have hxst : x.st = s.ses.st := by rw [← hx]
  have hclear (t : State) (n : Nat) : (t.clear 0x15 0x0A 0 n).ses = t.ses := by
    unfold State.clear State.clearAt
    split <;> rfl
  have hk : kept [.session, .collector, .flags] (s.takeMsg h pair)
      ({ s.takeMsg h pair with ses := x }.clear 0x15 0x0A 0 (hostNum (s.takeMsg h pair).sfHost)) :=
    kept_trans (State.kept_ses _ x) (State.kept_clearAt _ _ _)
  rw [hclear, hxst] at hact
  obtain ⟨p, ht, hserved, hkept⟩ := serve_responds (guard := guardSafeSession) (act := doSafeSession) (g := ⟨true, none, 0⟩) T
    (by simp only [guardSafeSession, Req.get, Req.len, request, hop, hlen, decide_true]) rfl ⟨rfl, Nat.zero_le _⟩ hact
    (hk (.host h) (by simp)) (hk .queues (by simp)) (hk .turn (by simp)) hk
  refine ⟨_, ht, ?_, ?_, State.kept_mono hkept (by simp [tripParts, faultParts, hostParts])⟩
  · rw [State.finish_ses, State.modPort_ses, hclear]
  · have e := congrArg HostPort.staged hserved.1
    exact e

/-- A clause of O22: a disconnect out of ACCEPTED (R456). -/
theorem safeSession_disconnects (T : Taken s h pair 0x0205 body) (hop : field body 2 1 = 2) (hlen : body.length = 4)
    (hmay : s.may h (some 9) 1) (hst : s.ses.st = .accepted) : answers (.safeSession h pair) s fun t =>
      t.ses.st = .idle ∧ t.ses.ownSeq = (s.ses.ownSeq + 1) % 65536 ∧
      t.ses.reconnectAt = (if s.saf.coupled then some s.now else none) ∧
      (t.port h).staged = (s.port h).staged ++ [reply (request h pair 0x0205 body) St.ok []] ∧
      kept [.session, .host .A, .host .B, .queues, .turn, .flags] s t := by
  have hses := State.takeMsg_ses s h pair
  have hm : (s.takeMsg h pair).disconnect.tripMask = s.tripMask := by
    rw [← State.takeMsg_tripMask s h pair]
    refine (s.takeMsg h pair).disconnect_keep State.tripMask (fun _ _ _ => rfl) (fun t h f => ?_) (fun _ _ => rfl) (fun _ _ => rfl)
    cases h <;> rfl
  have hsaf : (s.takeMsg h pair).disconnect.saf = s.saf :=
    ((s.takeMsg h pair).disconnect_keep State.saf (fun _ _ _ => rfl) (fun _ _ _ => State.modPort_saf _ _ _) (fun _ _ => rfl)
      fun _ _ => rfl).trans (State.takeMsg_saf s h pair)
  have hdevs : (s.takeMsg h pair).disconnect.devs = s.devs :=
    ((s.takeMsg h pair).disconnect_keep State.devs (fun _ _ _ => rfl) (fun _ _ _ => State.modPort_devs _ _ _) (fun _ _ => rfl)
      fun _ _ => rfl).trans (State.takeMsg_devs s h pair)
  obtain ⟨hstaged, hfrozen, hqueue⟩ := State.disconnect_waits (s := s.takeMsg h pair) h
  obtain ⟨hidle, hseq, hagain⟩ := State.disconnect_ses (s := s.takeMsg h pair)
  rw [hses] at hseq
  rw [State.takeMsg_saf, State.takeMsg_now] at hagain
  have hf : ((s.takeMsg h pair).disconnect.port h).frozen = false := by rw [hfrozen, State.takeMsg_frozen]; exact T.thawed
  obtain ⟨p, hform⟩ := State.respond_form (s.takeMsg h pair).disconnect h pair 0x0205 (field body 0 2) St.ok []
  have hport := State.respond_port (s.takeMsg h pair).disconnect h pair 0x0205 (field body 0 2) St.ok [] hf
  have hact : doSafeSession (request h pair 0x0205 body) (s.takeMsg h pair) = (s.takeMsg h pair).disconnect.modPort h fun _ => p := by
    rw [← hform]
    unfold doSafeSession
    simp only [Req.get, request, hop]
    exact if_pos (by rw [hses]; exact hst)
  rw [hform, State.port_modPort_self] at hport
  refine ⟨_, serve_act (guard := guardSafeSession) (g := ⟨true, some Sem.session, 1⟩) T
    (by simp only [guardSafeSession, Req.get, Req.len, request, hop, hlen, decide_true]) rfl hmay (by
      rw [hact, State.queue_modPort, hqueue h pair (State.lt_of_pick T.turn)]
      exact T.last), ?_⟩
  rw [hact]
  have hid : s.finish ((s.takeMsg h pair).disconnect.modPort h fun _ => p) =
      { (s.takeMsg h pair).disconnect.modPort h (fun _ => p) with
        pending := s.pending, now := max s.now (s.takeMsg h pair).disconnect.now } := by
    cases h <;> exact State.finish_same s T.rest hm hsaf (by simp only [State.dev, State.modPort]; rw [hdevs])
  have hk : kept [.session, .host .A, .host .B, .queues, .turn, .flags] s ((s.takeMsg h pair).disconnect.modPort h fun _ => p) :=
    State.kept_mono (kept_trans (s.kept_takeMsg h pair) (kept_trans (State.kept_disconnect (s := s.takeMsg h pair))
      (kept_modPort_flags _ h _))) (by cases h <;> cases (s.takeMsg _ pair).sfHost <;> simp [hostParts])
  refine ⟨?_, ?_, ?_, ?_, ?_⟩
  · rw [State.finish_ses, State.modPort_ses, hidle]
  · rw [State.finish_ses, State.modPort_ses, hseq]
  · rw [State.finish_ses, State.modPort_ses, hagain]
  · rw [State.finish_staged, State.port_modPort_self, hport, hstaged, State.takeMsg_staged]
    rfl
  · rw [hid]
    exact kept_closed hk _ _

end

/-- Settles O22: a read, a frame that is discarded or taken, and a disconnect. -/
theorem safeSessionActs : Obligations.SafeSessionActs := by
  unfold Obligations.SafeSessionActs
  intro s h pair body T
  have hses := State.takeMsg_ses s h pair
  refine ⟨fun hop hlen => ?_, fun f chk hop hlen hf hchk => ⟨fun hbad hfew hst => ?_, fun hgood htype hbit => ?_⟩,
    fun hop hlen hmay hst => ?_⟩
  · refine serve_reads (guard := guardSafeSession) (act := doSafeSession) (g := ⟨true, none, 0⟩) T ?_ rfl ⟨rfl, Nat.zero_le _⟩ ?_
    · simp only [guardSafeSession, Req.get, Req.len, request, hop, hlen, decide_true]
    · simp only [doSafeSession, Req.get, request, hop, State.takeMsg_sessionResult]
      rfl
  · have hd : ((s.takeMsg h pair).deliverFrame h f).2 = (s.takeMsg h pair).failFrame h chk := by
      unfold State.deliverFrame
      rw [State.takeMsg_checkFrame, ← hchk]
      exact congrArg (cond · _ _) (decide_eq_false hbad)
    have hfail := State.failFrame_counts (s := s.takeMsg h pair) (h := h) (chk := chk)
      (by rw [hses, State.takeMsg_par]; exact hfew) (by rwa [hses])
    rw [hses] at hfail
    have hact := doSafeSession_delivers (s := s.takeMsg h pair) (r := request h pair 0x0205 body) hop hlen
    have hb : (request h pair 0x0205 body).body.drop 4 = f := hf.symm
    rw [hb, State.takeMsg_checkFrame, ← hchk] at hact
    have hpay : deliveredPayload chk f = List.replicate 10 0 := if_pos hbad
    rw [hpay, show (request h pair 0x0205 body).h = h from rfl, hd, hfail] at hact
    exact safeSession_sets (g := ⟨true, none, 0⟩) T (by simp only [guardSafeSession, Req.get, Req.len, request, hop, hlen, decide_true])
      rfl ⟨rfl, Nat.zero_le _⟩ hact
  · exact safeSession_takes T hop hlen hf hchk hgood htype hbit
  · exact safeSession_disconnects T hop hlen hmay hst

end Sys2Proof.Machine
end
